-- ==== Sys2Proof/Word.lean ====
section
/-!
DEFINITION. The word types of the JX8: bytes, 64-bit words of memory and of flits, and 80-bit codewords
(10_memory_system.md R269).
-/
namespace Sys2Proof

/-- One byte of memory or of a packet. -/
abbrev Byte := BitVec 8

/-- One 64-bit word of core SRAM, GDDR6 or a flit. -/
abbrev Word := BitVec 64

/-- One 80-bit Urboval codeword (10_memory_system.md R269). -/
abbrev Code := BitVec 80

end Sys2Proof
end

