-- ==== Sys2Proof/Syntax.lean ====
section
/-!
DEFINITION. The commands of the JX8 block: one constructor of `Instr` for every row of the spec's table of
steps (`spec/opcode_table.json`), in the table's order, with the operands that the row's step is given from
outside.  A docstring names the rule of the spec that the table gives for the row.
-/
namespace Sys2Proof

/-- One Fox packet: the header flit as 07_event_network.md R189 lays it out, and the flits that follow it. -/
structure Packet where
  /-- operation kind, header bits [63:60] (R20) -/
  op : BitVec 4
  /-- destination agent, bits [59:47] -/
  dest : BitVec 13
  /-- source agent, bits [46:34] -/
  src : BitVec 13
  /-- step tag, bits [33:28] -/
  tag : BitVec 6
  /-- axon index, word offset or reason, bits [27:12] -/
  arg : BitVec 16
  /-- graded payload field, bits [11:4] -/
  pay : BitVec 8
  /-- length in following flits, bits [3:0] -/
  len : BitVec 4
  /-- the following flits -/
  data : List Word
  deriving DecidableEq, Repr

/-- The path a Drulum packet took (12_command_interface.md R322, R308, R325). -/
inductive CmdPath where
  | i3cSdr
  | i3cHdr
  | inband
  deriving DecidableEq, Repr

/-- A Drulum command as it stands in its window: the path and the bytes of the whole packet (R325). -/
structure HostCmd where
  path : CmdPath
  bytes : List Byte
  deriving DecidableEq, Repr

/-- What the ECC of a CSI-2 packet header says (11_csi2_ports.md R294). -/
inductive EccResult where
  | good
  | corrected
  | bad
  deriving DecidableEq, Repr

/-- One bad lane word met by a link receiver of the Cordwood plane in a run (08_scheduled_plane.md R237):
the tile whose receiver meets it, its input (1 N, 2 E, 3 S, 4 W), the lane, the slot and the flipped bits. -/
structure LaneFault where
  tile : Nat
  input : Nat
  lane : Nat
  slot : Nat
  mask : BitVec 80
  deriving DecidableEq, Repr

/-- A power domain that wakes on its first access (16_power_clocks_thermal.md R442). -/
inductive Domain where
  | core (n : Nat)
  | engine (e : Nat)
  | group (g : Nat)
  deriving DecidableEq, Repr

/-- How a register write reaches its register: whole 64-bit word, or one 32-bit half (07_event_network.md R193). -/
inductive WriteWidth where
  | whole
  | low
  | high
  deriving DecidableEq, Repr

/-- What the filter of a DIN line sees: the level behind its synchroniser, and the grains for which it has held
(06_encoders_decoders_and_actuation.md R166). -/
structure DinLevel where
  level : Bool
  held : Nat
  deriving DecidableEq, Repr

/-- An ACT line, and the level of PAIR_PERMIT_IN behind its synchroniser in that grain (06_encoders_decoders_and_actuation.md
R179, R180). -/
structure ActLine where
  line : Nat
  permit : Bool
  deriving DecidableEq, Repr

/-- A group whose bank is refreshed, and whether its devices read hot (10_memory_system.md R283). -/
structure RefreshTurn where
  group : Nat
  hot : Bool
  deriving DecidableEq, Repr

/-- What the self-tests, training and measurements of one boot stage find (14_bringup_loading_spares.md R372, R374).
Each stage reads the fields that its row of R372 names. -/
structure StageResult where
  /-- stage 1: root PLL A locks -/
  pllA : Bool
  /-- stage 1: root PLL B locks -/
  pllB : Bool
  /-- stage 2: management cores that fail their test -/
  mgmtBad : Nat
  /-- stage 3: tiles whose SRAM cannot be repaired -/
  defectCores : List Nat
  /-- stage 3: rows and columns repaired -/
  repaired : Nat
  /-- stage 3: Collier SRAM or an agent buffer cannot be repaired -/
  bufferDead : Bool
  /-- stage 4: spare wires in use -/
  spareWires : Nat
  /-- stage 4: columns to retire, as (engine, column of the engine) -/
  columns : List (Nat × Nat)
  /-- stage 4: a link cannot be repaired and no retirement serves it -/
  linkDead : Bool
  /-- stage 6: bit g is 1 when group g trains -/
  g6Trained : BitVec 2
  /-- stage 6: positions that fail training, as (group, position) -/
  positions : List (Nat × Nat)
  /-- stage 6: byte lanes whose DBI pin fails training, as (group, lane) -/
  dbiLanes : List (Nat × Nat)
  /-- stage 7: lanes that calibrate on each RX port, port 0 first -/
  rxLanes : List (BitVec 4)
  /-- stage 7: bit i is 1 when TX port i trains -/
  txTrained : BitVec 4
  /-- stage 8: milliseconds from power-good -/
  millis : Nat
  deriving DecidableEq, Repr

/-- The commands of the block, one constructor per row of the table of steps. -/
inductive Instr where
  /-- STEP_DEADLINE (R58): The grain of a step's nominal end is reached, and the sequencer closes the step cleanly if every done input shows done -/
  | stepDeadline
  /-- ALL_DONE (R58): The closure condition becomes true after the deadline, or in free-run mode, and the sequencer makes a stretched or free-run boundary -/
  | allDone
  /-- STRETCH_BUDGET_EXPIRED (R58): The stretch budget past the deadline runs out, and the sequencer starts waiting only for unfinished updates -/
  | stretchBudgetExpired
  /-- HANG_LIMIT_EXPIRED (R58): HANG_LIMIT grains pass, or every update finishes, after the budget; unfinished cores are masked, kinds 0x10 and 0x21 are reported, and the boundary is forced -/
  | hangLimitExpired
  /-- FREE_LIMIT_EXPIRED (R45): A free-run step stays open for FREE_LIMIT × 1,000 grains and is force-closed -/
  | freeLimitExpired
  /-- SYNC_IN_EDGE (R36): A rising edge on SYNC_IN is stamped and measured, loaded or slewed as SYNC_MODE selects -/
  | syncInEdge (pos : Nat)
  /-- SYNC_EDGE_MISSING (R37): No edge arrives by MAX_ERR grains after the expected position; LOSS is set and the grid of expected edges is kept -/
  | syncEdgeMissing
  /-- INPUT_WINDOW_CLOSE (R47): A step's input window closes, and the encoders that act once per step run -/
  | inputWindowClose
  /-- RUN_EN_WRITE (R336): A write to CHIP_CTRL.RUN_EN starts the configuration check (1) or acts as DISABLE (0) -/
  | runEnWrite (value : Bool)
  /-- CONFIG_CHECK_DONE (R336): The configuration check ends, either raising RUN_EN or recording the first refusal and raising IBI 0xA3 -/
  | configCheckDone
  /-- DIN_DEBOUNCE_EXPIRED (R166): The synchronised DIN level has held for DEBOUNCE grains; the filtered level changes and the edge is stamped -/
  | dinDebounceExpired (din : Nat) (level : DinLevel)
  /-- RX_PACKET_HEADER (R294): An RX port decodes a packet header, corrects or rejects it, stamps it and places the packet in the ingress buffer -/
  | rxPacketHeader (port : Nat) (ecc : EccResult) (vc : Nat) (dt : Nat) (wc : Nat)
  /-- RX_PACKET_END (R294): A long packet has been received whole, and its CRC-16 is checked -/
  | rxPacketEnd (port : Nat) (payload : List Byte) (crcOk : Bool)
  /-- STREAM_LOSS_TIMEOUT (R298): A context accepts no packet for LOSS_FR frames and reports kind 0x41 -/
  | streamLossTimeout (ctx : Nat)
  /-- CSIRX_RETRAIN (R292): A write of RETRAIN recalibrates the lanes of an RX port and sets LANES_ACT -/
  | csirxRetrain (port : Nat) (lanes : BitVec 4)
  /-- TINDER_TAKE_INPUT (R156): Tinder takes the next input in the order of R49 and runs the channel's encoder on it -/
  | tinderTakeInput
  /-- TINDER_INJECT (R156): Tinder injects an event as an RACC once its tag is at most one step ahead and its edge-ring stop accepts it -/
  | tinderInject
  /-- REPLAY_RECORD_READ (R167): A read of a replay record completes, and its entries are handed to the encoders or the region is treated as exhausted -/
  | replayRecordRead
  /-- METER_HANDOFF (R169): Tinder hands the metering records of the ended frame to Ash as records of kind 0x10 -/
  | meterHandoff
  /-- TND_CHAN_B_WRITE (R155): A write to a channel's parameters is applied as a class 2 input to later inputs of its tag -/
  | tndChanBWrite (tag : Nat) (value : BitVec 64)
  /-- PACKET_INJECT (R205): An injecting interface injects a packet, choosing its intermediate router with its LFSR -/
  | packetInject (pkt : Packet)
  /-- PACKET_HOP (R212): A packet wins an output and advances one buffer under the arbitration and entry rules -/
  | packetHop (flight : Nat) (errs : List (BitVec 80))
  /-- LINK_REPLAY (R219): An uncorrectable flit is replayed from the sender's replay buffer -/
  | linkReplay (flight : Nat) (errs : BitVec 80)
  /-- LANDING_TOKEN_ARRIVE (R52): A landing token reaches its source and decrements its in-flight counter -/
  | landingTokenArrive (agent : BitVec 13) (odd : Bool) (count : Nat)
  /-- RACC_ARRIVE (R54): A counted operation reaches its destination router, which lands it, holds it in the Den, carries it or sheds it by its step distance -/
  | raccArrive (core : Nat) (pkt : Packet)
  /-- DEN_RELEASE (R55): The Den releases one operation that has become due into the core's landing port -/
  | denRelease (core : Nat)
  /-- SYN_ACCUMULATE (R111): The synapse engine takes an RACC, Den release or Cordwood word and adds the row's contributions into the banks or Smoulder slots -/
  | synAccumulate (core : Nat)
  /-- RWR_ARRIVE (R191): A target checks and performs a write of words, or holds it -/
  | rwrArrive (agent : BitVec 13) (pkt : Packet)
  /-- RRD_ARRIVE (R191): A target reads the requested words and answers DATA, or NACK -/
  | rrdArrive (agent : BitVec 13) (pkt : Packet)
  /-- RADD_ARRIVE (R192): A target adds an int32 atomically into one half of a word and answers ACK with its token -/
  | raddArrive (agent : BitVec 13) (pkt : Packet)
  /-- HELD_WRITE_APPLY (R97): A write held while an update, pass or apply ran is applied and then acknowledged -/
  | heldWriteApply (core : Nat)
  /-- ASH_READ_SERVE (R174): A core serves a held membrane-readout RRD once the update of its tagged step has finished -/
  | ashReadServe (core : Nat)
  /-- ACK_ARRIVE (R197): An ACK is counted against its TID at the requester -/
  | ackArrive (pkt : Packet)
  /-- DATA_ARRIVE (R197): A DATA response completes an RRD at the requester -/
  | dataArrive (pkt : Packet)
  /-- NACK_ARRIVE (R196): A NACK completes a request as refused, carrying its reason -/
  | nackArrive (pkt : Packet)
  /-- CTL_PING (R195): A PING action is answered with ACK -/
  | ctlPing (pkt : Packet)
  /-- CTL_FENCE (R195): A FENCE action fences a core's compute tile -/
  | ctlFence (pkt : Packet)
  /-- CTL_UNFENCE (R195): An UNFENCE action removes a core's fence -/
  | ctlUnfence (pkt : Packet)
  /-- CTL_MAP_SET (R195): A MAP_SET action writes one entry of the engine's shadow map -/
  | ctlMapSet (pkt : Packet)
  /-- CTL_MAP_FLIP (R195): A MAP_FLIP action arms the shadow map to become active at the next step boundary -/
  | ctlMapFlip (pkt : Packet)
  /-- CTL_SEED (R195): A SEED action loads a core's routing LFSR state -/
  | ctlSeed (pkt : Packet)
  /-- CTL_DRAIN (R195): A DRAIN action waits for the core's in-flight counters and injection staging to empty -/
  | ctlDrain (pkt : Packet)
  /-- CTL_DRAIN_DONE (R195): A drained core answers the outstanding DRAIN with ACK -/
  | ctlDrainDone (core : Nat)
  /-- CTL_RESERVED_ACTION (R194): A CTL with a reserved action or a wrong target kind is answered NACK CTL_REFUSED -/
  | ctlReservedAction (pkt : Packet)
  /-- FANOUT_INJECT (R90): The fan-out unit reads a spike-FIFO entry's fan-out words and injects one RACC per valid entry -/
  | fanoutInject (core : Nat)
  /-- CORE_UPDATE_DONE (R90): A core finishes its update and last injection of the step, and its done signal can rise -/
  | coreUpdateDone (core : Nat) (waitCycles : Nat)
  /-- SRAM_PATROL_READ (R273): The patrol scrubber reads the next SRAM word and writes back a corrected word -/
  | sramPatrolRead (core : Nat)
  /-- SRAM_CORRECTED_WRITEBACK (R273): A corrected word read by a unit is written back in the next free write cycle -/
  | sramCorrectedWriteback (core : Nat)
  /-- LEARN_CTRL_OFF (R147): LEARN_CTRL action OFF schedules a region's state change to OFF -/
  | learnCtrlOff (cmd : HostCmd)
  /-- LEARN_CTRL_RUN (R147): LEARN_CTRL action RUN schedules a region's state change to RUN -/
  | learnCtrlRun (cmd : HostCmd)
  /-- LEARN_CTRL_ACCUM (R147): LEARN_CTRL action ACCUM schedules a region's state change to ACCUM -/
  | learnCtrlAccum (cmd : HostCmd)
  /-- LEARN_CTRL_CLEAR (R147): LEARN_CTRL action CLEAR schedules the zeroing of a region's learning state -/
  | learnCtrlClear (cmd : HostCmd)
  /-- SNAPSHOT (R149): The SNAPSHOT command names a region, ranges and a buffer, and a capture boundary is chosen -/
  | snapshot (cmd : HostCmd)
  /-- SNAPSHOT_COPY_DONE (R149): The snapshot copy completes; the region applies again, and the buffer is emitted when a destination is set -/
  | snapshotCopyDone
  /-- SNAP_HOLD_EXPIRED (R149): SNAP_HOLD reaches zero before the copy completes; the copy stops and is reported incomplete -/
  | snapHoldExpired
  /-- ASH_RACC_ARRIVE (R171): An RACC to Ash adds into its line in its window, or is carried late or shed -/
  | ashRaccArrive (pkt : Packet)
  /-- MEMBRANE_READ_TIMEOUT (R174): A membrane read still outstanding 15 grains after the boundary gives the error value and sets PARTIAL -/
  | membraneReadTimeout
  /-- RESULT_RECORD_EMIT (R176): Ash writes a window's result record to its TX block buffer or Drey queue -/
  | resultRecordEmit (decoder : Nat)
  /-- ACT_ASSERT_GRAIN (R179): At the assert grain an ACT line is driven high or low from the decision, ARM, permissive and role -/
  | actAssertGrain (line : ActLine)
  /-- ACT_PULSE_END (R179): A pulse of WIDTH grains ends and the line goes low -/
  | actPulseEnd (line : Nat)
  /-- ACT_RECHECK (R180): A high ACT line whose ARM bit or permissive fails is driven low at that grain edge -/
  | actRecheck (line : ActLine)
  /-- ACT_ARM_WRITE (R180): A write to ACT_ARM takes effect at the first grain edge after Collier completes it -/
  | actArmWrite (value : BitVec 16)
  /-- CORD_BEGIN (R231): A cord begins, and it either executes a due run or becomes a miss cord by the ready AND -/
  | cordBegin (faults : List LaneFault)
  /-- CORD_LOAD_MASK_WRITE (R241): A broadcast write of a placement-mask word sets ARM in the routers whose bit it holds -/
  | cordLoadMaskWrite (word : Nat) (mask : BitVec 64)
  /-- CORD_TABLE_BC_WRITE (R241): A broadcast table write is taken by armed routers only -/
  | cordTableBcWrite (slot : Nat) (entry : BitVec 64)
  /-- CORD_ARM_CLEAR (R241): A write of 1 to CORD_ARM.ARM clears ARM -/
  | cordArmClear
  /-- QPUSH_APPEND (R258): A packet of an APPEND reaches Drey, which checks and places the record on its first packet and writes its data -/
  | qpushAppend (pkt : Packet)
  /-- MAILBOX_APPEND (R251): A core's mailbox unit places a single-packet record in its mailbox ring -/
  | mailboxAppend (pkt : Packet)
  /-- QPUSH_RELEASE (R260): A RELEASE sets the read count and frees ring space -/
  | qpushRelease (pkt : Packet)
  /-- QPUSH_OPEN (R261): An OPEN raises the reader epoch, opens the queue and discards unread records -/
  | qpushOpen (pkt : Packet)
  /-- QPUSH_CLOSE (R261): A CLOSE closes the queue to further APPENDs -/
  | qpushClose (pkt : Packet)
  /-- QCOMB (R262): A QCOMB adds its elements into the bank of its period and answers ACK with its token -/
  | qcomb (pkt : Packet)
  /-- REASSEMBLY_EXPIRY (R259): A record incomplete for REASM_LIMIT grains is written as a PAD and committed -/
  | reassemblyExpiry (src : BitVec 13)
  /-- EXPIRED_ENTRY_FREE (R259): A further REASM_LIMIT grains after expiry the reassembly entry is freed -/
  | expiredEntryFree (src : BitVec 13)
  /-- DESCRIPTOR_MISS_RESOLVE (R253): A descriptor cache miss resolves and the waiting operation proceeds -/
  | descriptorMissResolve
  /-- DREY_QCMD_READ (R266): Command READ copies a queue's descriptor into DREY_QDESC -/
  | dreyQcmdRead
  /-- DREY_QCMD_BIND (R266): Command BIND writes DREY_QDESC into an unbound queue's descriptor -/
  | dreyQcmdBind
  /-- DREY_QCMD_UNBIND (R266): Command UNBIND unbinds a queue and discards records in reassembly -/
  | dreyQcmdUnbind
  /-- DREY_QCMD_OPEN (R266): Command OPEN opens a queue as an OPEN push does -/
  | dreyQcmdOpen
  /-- DREY_QCMD_CLOSE (R266): Command CLOSE closes a queue as a CLOSE push does -/
  | dreyQcmdClose
  /-- DREY_QCMD_RELEASE (R266): Command RELEASE sets the read count to DREY_QARG -/
  | dreyQcmdRelease
  /-- DREY_QCMD_FLUSH (R266): Command FLUSH writes back the descriptor cache -/
  | dreyQcmdFlush
  /-- G6_OP_ACCEPT (R280): A GDDR6 group agent accepts an operation into its 128-entry queue, or holds its inputs while full -/
  | g6OpAccept (group : Nat) (pkt : Packet)
  /-- G6_OP_COMPLETE (R280): A GDDR6 operation completes, decoding beats and sending its response -/
  | g6OpComplete (group : Nat)
  /-- PIN_WINDOW_END (R284): A window of 65,536 codewords read ends and the per-position counts restart -/
  | pinWindowEnd (group : Nat)
  /-- G6_READ_REISSUE (R282): A read burst with an EDC mismatch is reissued, or passed on after three failures -/
  | g6ReadReissue (group : Nat) (lanes : BitVec 10)
  /-- G6_WRITE_REWRITE (R282): A write with a returned EDC mismatch is rewritten, and kind 0x04 is reported after three failures -/
  | g6WriteRewrite (group : Nat) (lanes : BitVec 10)
  /-- G6_REFRESH (R283): The agent issues the next per-bank refresh at the refresh interval -/
  | g6Refresh (group : RefreshTurn)
  /-- G6_PATROL_SCRUB (R283): The GDDR6 patrol scrubber reads and rewrites one burst every INTERVAL grains -/
  | g6PatrolScrub (group : Nat)
  /-- G6_PLL_LOCK_LOSS (R444): A GDDR6 PLL loses lock and its group's operations stall -/
  | g6PllLockLoss (group : Nat)
  /-- G6_PLL_LOCK_TIMEOUT (R444): A GDDR6 PLL is unlocked for 1 ms; the group sets FAILED and reports kind 0x04 class 4 -/
  | g6PllLockTimeout (group : Nat)
  /-- G6_AUTO_SELF_REFRESH (R442): A GDDR6 group idle for G6_IDLE µs with G6_AUTO set enters self-refresh -/
  | g6AutoSelfRefresh (group : Nat)
  /-- DOMAIN_WAKE (R442): An access to a gated domain starts its wake while the access waits -/
  | domainWake (dom : Domain)
  /-- DOMAIN_WAKE_DONE (R442): A woken domain reports ready, its isolation releases and the waiting access proceeds -/
  | domainWakeDone (dom : Domain)
  /-- CORE_SUBDOMAIN_GATE (R442): An unloaded core with no access for 1 ms has its subdomain gated -/
  | coreSubdomainGate (core : Nat)
  /-- TX_PACKET_START (R309): A TX port takes the next packet by class order once the packet in progress ends -/
  | txPacketStart (port : Nat)
  /-- RELAY_START (R312): A relayed packet starts on its TX port once it is whole or RELAY_THR bytes are buffered -/
  | relayStart (port : Nat)
  /-- TX_PLL_LOCK_LOSS (R444): A TX PLL loses lock and its port holds LP-11 until it relocks -/
  | txPllLockLoss (port : Nat)
  /-- I3C_PRIVATE_WRITE (R322): A private write is stamped at its STOP and enters the command FIFO, or is dropped when full or short -/
  | i3cPrivateWrite (bytes : List Byte) (hdr : Bool) (parityOk : Bool)
  /-- I3C_PRIVATE_READ (R323): A private read returns the oldest reply and removes it when read whole -/
  | i3cPrivateRead (hdr : Bool) (whole : Bool)
  /-- IBI_RAISE (R324): A pending event is raised as an IBI at bus idle, and again when the controller NACKs it -/
  | ibiRaise (acked : Bool)
  /-- ENEC (R319): ENEC enables IBIs -/
  | enec (enint : Bool)
  /-- DISEC (R319): DISEC disables IBIs, leaving events pending -/
  | disec (disint : Bool)
  /-- RSTDAA (R319): RSTDAA clears the dynamic address -/
  | rstdaa
  /-- ENTDAA (R319): ENTDAA takes part in dynamic address assignment with PID, BCR and DCR -/
  | entdaa (addr : BitVec 7) (won : Bool)
  /-- SETMWL (R319): SETMWL sets the maximum write length when in range -/
  | setmwl (len : BitVec 16)
  /-- SETMRL (R319): SETMRL sets the maximum read length when in range -/
  | setmrl (len : BitVec 16) (ibiSize : Byte)
  /-- ENTHDR0 (R319): ENTHDR0 enters HDR-DDR mode -/
  | enthdr0
  /-- RSTACT (R321): RSTACT selects the reset action for the next target reset pattern -/
  | rstact (defining : Byte)
  /-- TARGET_RESET_PATTERN (R321): The target reset pattern performs the selected reset of the I3C target or of the whole device -/
  | targetResetPattern
  /-- SETDASA (R319): SETDASA addressed at 0x4E assigns the dynamic address -/
  | setdasa (addr : BitVec 7)
  /-- GETMWL (R319): GETMWL returns the current write length -/
  | getmwl
  /-- GETMRL (R319): GETMRL returns the current read length and the IBI payload size -/
  | getmrl
  /-- GETPID (R318): GETPID returns the provisional ID -/
  | getpid
  /-- GETBCR (R319): GETBCR returns 0x27 -/
  | getbcr
  /-- GETDCR (R319): GETDCR returns 0x00 -/
  | getdcr
  /-- GETSTATUS (R320): GETSTATUS returns the status word and clears the protocol-error bit -/
  | getstatus
  /-- GETMXDS (R319): GETMXDS returns the two-byte speed limits -/
  | getmxds
  /-- CCC_UNSUPPORTED (R319): Another direct CCC is NACKed and another broadcast CCC is ignored -/
  | cccUnsupported (code : Byte)
  /-- HELLO (R331): HELLO agrees the minor version and feature set -/
  | hello (cmd : HostCmd)
  /-- IDENT (R333): IDENT returns CHIP_ID, versions, role, boot stage and serial number -/
  | ident (cmd : HostCmd)
  /-- ATTEST (R456): ATTEST writes a signed attestation report into a GDDR6 buffer -/
  | attest (cmd : HostCmd)
  /-- REG_READ (R330): REG_READ reads consecutive registers over the CTL VC -/
  | regRead (cmd : HostCmd)
  /-- REG_WRITE (R330): REG_WRITE writes consecutive registers over the CTL VC, holding halves of 64-bit registers -/
  | regWrite (cmd : HostCmd)
  /-- MEM_READ (R330): MEM_READ reads words of core SRAM or GDDR6 -/
  | memRead (cmd : HostCmd)
  /-- MEM_WRITE (R330): MEM_WRITE writes words of core SRAM or GDDR6 -/
  | memWrite (cmd : HostCmd)
  /-- LOAD_OPEN (R390): LOAD_OPEN opens a GDDR6 staging window for a transfer -/
  | loadOpen (cmd : HostCmd)
  /-- LOAD_COMMIT (R391): LOAD_COMMIT checks the staged image and writes it into the cores and agents -/
  | loadCommit (cmd : HostCmd)
  /-- LOAD_ABORT (R392): LOAD_ABORT closes the staging window and discards its count -/
  | loadAbort (cmd : HostCmd)
  /-- ENABLE (R336): ENABLE starts the configuration check and replies when it ends -/
  | enable (cmd : HostCmd)
  /-- DISABLE (R333): DISABLE arranges for RUN_EN to fall at the next step boundary -/
  | disable (cmd : HostCmd)
  /-- QUIESCE (R333): QUIESCE stops encoding after frame f and lowers RUN_EN at the end of frame f + 1 -/
  | quiesce (cmd : HostCmd)
  /-- QUENCH (R344): A QUENCH command fires the Quench tree without waiting for Collier -/
  | quench (cmd : HostCmd)
  /-- QUENCH_N_LOW (R344): QUENCH_N held low for 50 ns fires the Quench tree -/
  | quenchNLow
  /-- STEP (R44): STEP adds COUNT to TIME_STEP_GRANT -/
  | step (cmd : HostCmd)
  /-- FAULT_READ (R415): FAULT_READ returns and marks read the oldest unread log records -/
  | faultRead (cmd : HostCmd)
  /-- FAULT_CLEAR (R418): FAULT_CLEAR invalidates a status entry unless its cause persists -/
  | faultClear (cmd : HostCmd)
  /-- FAULT_FORCE (R416): FAULT_FORCE stages a forced fault message at a source -/
  | faultForce (cmd : HostCmd)
  /-- POWER_STATE_RUN (R438): POWER_STATE 0 returns the device to RUN or clears AUTO_IDLE -/
  | powerStateRun (cmd : HostCmd)
  /-- POWER_STATE_IDLE (R439): POWER_STATE 1 enters IDLE, or sets AUTO_IDLE while running -/
  | powerStateIdle (cmd : HostCmd)
  /-- POWER_STATE_SLEEP (R438): POWER_STATE 2 enters SLEEP -/
  | powerStateSleep (cmd : HostCmd)
  /-- POWER_STATE_DEEP (R438): POWER_STATE 3 enters DEEP -/
  | powerStateDeep (cmd : HostCmd)
  /-- CAP_SET (R431): CAP_SET sets the power cap, at once or from step n + 2 -/
  | capSet (cmd : HostCmd)
  /-- FREQ_MODE (R426): FREQ_MODE selects fixed-frequency or opportunistic mode, at once or from step n + 2 -/
  | freqMode (cmd : HostCmd)
  /-- PAIR_CTRL_ROLE (R350): PAIR_CTRL action 0 sets the role, or starts a planned switchover while running -/
  | pairCtrlRole (cmd : HostCmd)
  /-- PAIR_CTRL_MIRROR (R371): PAIR_CTRL action 1 turns mirroring on or off -/
  | pairCtrlMirror (cmd : HostCmd)
  /-- PAIR_CTRL_RESYNC (R364): PAIR_CTRL action 2 starts a resynchronisation of the standby -/
  | pairCtrlResync (cmd : HostCmd)
  /-- FAILOVER (R368): FAILOVER makes a lost standby take over as primary -/
  | failover (cmd : HostCmd)
  /-- SPARE_SWAP (R395): SPARE_SWAP marks a move of a logical core to a spare tile -/
  | spareSwap (cmd : HostCmd)
  /-- FW_UPDATE_VERIFY (R380): FW_UPDATE action 0 verifies a firmware image, or starts a pushed image at stage 2 -/
  | fwUpdateVerify (cmd : HostCmd)
  /-- FW_UPDATE_WRITE (R380): FW_UPDATE action 1 verifies an image and writes it to the slot not booted -/
  | fwUpdateWrite (cmd : HostCmd)
  /-- FW_WRITE_DONE (R380): The flash write of a verified firmware image completes and the command replies -/
  | fwWriteDone
  /-- DOMAIN_RESET (R333): DOMAIN_RESET resets one core, engine, GDDR6 group or port -/
  | domainReset (cmd : HostCmd)
  /-- TELEMETRY (R335): TELEMETRY returns chip or per-engine power, temperature and counters -/
  | telemetry (cmd : HostCmd)
  /-- DRULUM_RESERVED_OPCODE (R332): A reserved or higher-level opcode is answered ERROR 0x0D02 -/
  | drulumReservedOpcode (cmd : HostCmd)
  /-- DIAGNOSTIC_OPCODE (R332): A vendor diagnostic opcode is answered REFUSED 0x0A10 unless debug scope 2 is open -/
  | diagnosticOpcode (cmd : HostCmd)
  /-- STEP_BLOCK_SEND (R351): Gwynell sends the step block of ALIGN, ANCHOR, EDIT, OVERLOAD and ROLE records after an input window closes -/
  | stepBlockSend
  /-- FRAME_BLOCK_SEND (R351): Gwynell sends the frame block once Ash has emitted or computed the closed window's records -/
  | frameBlockSend
  /-- AGREE_BLOCK_SEND (R351): Gwynell sends an AGREE record every 10 ms while stopped, and at each check start -/
  | agreeBlockSend
  /-- BACKGROUND_BLOCK_SEND (R351): Gwynell sends checkpoint and journal records when no other mirror block waits -/
  | backgroundBlockSend
  /-- MIRROR_BLOCK_RECEIVE (R354): Gwynell checks a received mirror block, counts gaps and processes its records -/
  | mirrorBlockReceive (bytes : List Byte)
  /-- ALIGN_WAIT_EXPIRED (R355): ALIGN_WAIT grains pass without an applicable ALIGN record; the standby keeps its own assignment and reports kind 0x50 -/
  | alignWaitExpired
  /-- EDIT_APPLY (R357): Both members perform a mirrored edit at the first grain of the input window of step n + 2 -/
  | editApply
  /-- HB_IN_CHANGE (R367): A change of PAIR_HB_IN restarts the heartbeat timer -/
  | hbInChange (level : Bool)
  /-- HEARTBEAT_TIMEOUT (R368): The heartbeat timer reaches one frame and the state goes to SUSPECT -/
  | heartbeatTimeout
  /-- PARTNER_LOST_TIMEOUT (R368): The timer reaches two frames, and the member goes to TAKEOVER or LOST -/
  | partnerLostTimeout
  /-- FENCE_IN_RISE (R368): PAIR_FENCE_IN rises on a lost, ready standby -/
  | fenceInRise
  /-- CHECKPOINT_COPY_DONE (R363): The checkpoint copy or restore ends and the standby starts its catch-up replay -/
  | checkpointCopyDone
  /-- REPLAY_REJOIN (R364): The replaying standby rejoins live locked-mode operation and sets ENG_READY -/
  | replayRejoin
  /-- POWER_GOOD (R465): Rails, RESET_N and the reference have held for 2 ms, and boot stage 0 begins -/
  | powerGood (rails : BitVec 7)
  /-- RESET_N_LOW (R466): RESET_N held low for 1 µs resets the device and releases its outputs -/
  | resetNLow
  /-- BOOT_STAGE_END (R373): A boot stage ends, writes BOOT_REPORT and BOOT_LOG, raises IBI 0xA2 and starts the next stage -/
  | bootStageEnd (res : StageResult)
  /-- SPARE_COPY_DONE (R394): The copy of a swapped core completes, the maps are set and flipped, and the window ends -/
  | spareCopyDone
  /-- COLUMN_COPY_DONE (R397): A column retirement's copy completes, bypass is set, the maps flip and the window ends -/
  | columnCopyDone
  /-- FAULT_OFFER (R403): The fault chain offers a staged message to Owl -/
  | faultOffer
  /-- OWL_TAKE_MESSAGE (R407): Owl takes the head message, updates status, logs it and starts its reaction -/
  | owlTakeMessage
  /-- REACTION_COMPLETE (R412): A reaction completes and frees its slot, unmasking any core masked for it -/
  | reactionComplete (slot : Nat)
  /-- WATCHDOG_EXPIRED (R419): A watchdog period passes without a kick, reporting kind 0x61 and then resetting the device -/
  | watchdogExpired
  /-- WATCHDOG_KICK (R419): A write of KICK restarts the watchdog period -/
  | watchdogKick (value : BitVec 32)
  /-- OWL_FORCE_GO (R416): A write of OWL_FORCE with GO = 1 stages a forced message or sets FORCE_REJ -/
  | owlForceGo (value : BitVec 64)
  /-- POWER_WINDOW_END (R428): A 100-grain power window ends and measured and estimated power are formed -/
  | powerWindowEnd (engines : List Nat) (uncore : Nat)
  /-- RECAL_START (R433): A write of KILN_CTRL.RECAL starts a recalibration over 64 windows -/
  | recalStart
  /-- RECAL_DONE (R433): After 64 windows the correction factors are set and DIVERGED clears -/
  | recalDone
  /-- DROOP_DETECT (R434): A VDD_CORE droop halves the engine's core ratio -/
  | droopDetect (engine : Nat)
  /-- DROOP_HOLD_EXPIRED (R434): HOLD_US after recovery the engine's cores resume their ratio -/
  | droopHoldExpired (engine : Nat) (us : Nat)
  /-- AGEING_MEASURE (R424): An ageing measurement lowers a tile's live bin when its margin is negative, reporting kind 0x11 below the floor -/
  | ageingMeasure (tile : Nat) (negative : Bool)
  /-- THERMAL_REPORT (R435): The sensors report and Kiln evaluates the thermal thresholds -/
  | thermalReport (readings : List Int)
  /-- THERMAL_OFF (R437): Within 1 ms of a trip the device drops to OFF -/
  | thermalOff
  /-- WAKE_RISE (R438): A rising edge on WAKE leaves SLEEP or DEEP, or restarts the device from OFF -/
  | wakeRise
  /-- IDLE_ENTRY (R439): Collier stops the core clocks between steps when all engines are done and the tick is far enough away -/
  | idleEntry
  /-- IDLE_EXIT (R439): Collier restarts the core clocks 1 µs before the tick, or on a delivery -/
  | idleExit
  /-- CLOCK_LOSS (R444): The reference or the root PLL lock is lost, and the device is reset -/
  | clockLoss
  /-- REFERENCE_RETURN (R444): The reference has been present for 1 ms and the device leaves clock-loss reset -/
  | referenceReturn
  /-- SEC_PROG_ROLLBACK (R449): Action ROLLBACK blows anti-rollback counter bits up to VALUE -/
  | secProgRollback (value : BitVec 7)
  /-- SEC_PROG_SLOT (R449): Action SLOT blows a key hash into an empty customer slot and then its VALID bit -/
  | secProgSlot (slot : BitVec 2)
  /-- SEC_PROG_REVOKE (R449): Action REVOKE blows REVOKED of a valid slot -/
  | secProgRevoke (slot : BitVec 2)
  /-- SEC_PROG_SLOT_DEBUG (R449): Action SLOT_DEBUG blows DEBUG of a valid, unrevoked slot -/
  | secProgSlotDebug (slot : BitVec 2)
  /-- SEC_PROG_DEBUG_LOCK (R449): Action DEBUG_LOCK blows DEBUG_LOCK -/
  | secProgDebugLock
  /-- SEC_PROG_DONE (R449): A fuse programming action completes with its STATUS and clears BUSY -/
  | secProgDone (readsBack : Bool)
  /-- IDCODE (R458): The JTAG IDCODE instruction reads the device identification code -/
  | idcode
  /-- UNLOCK_CHAL (R459): UNLOCK_CHAL captures a fresh 48-byte challenge -/
  | unlockChal (scope : Byte)
  /-- UNLOCK_RESP (R459): UNLOCK_RESP checks a signed response and opens the requested debug scope or counts a failure -/
  | unlockResp (bytes : List Byte)
  /-- REGISTER_WRITE (R4): A write to a register with no behaviour of its own sets, clears or ignores fields by their access codes -/
  | registerWrite (addr : Nat) (half : WriteWidth) (value : BitVec 64)
  /-- HS_BURST_END (R294): The HS burst ends and an RX port that discarded everything after an uncorrectable header regains its footing for the next burst -/
  | hsBurstEnd (port : Nat) (sotErr : Bool)
  /-- TX_PLL_RELOCK (R444): A TX port's PLL regains lock and the port leaves LP-11 and sends again -/
  | txPllRelock (port : Nat)
  /-- G6_PLL_RELOCK (R444): A GDDR6 group's PLL regains lock within 1 ms and its stalled operations resume -/
  | g6PllRelock (group : Nat)
  /-- RAIL_OUT_OF_RANGE (R466): A supply rail leaves the operating conditions, power-good is lost and every output goes high-impedance -/
  | railOutOfRange (rail : Nat)
  /-- HDR_EXIT (R322): The HDR exit pattern ends HDR-DDR mode, completing and stamping an HDR-DDR command write and returning the target to SDR -/
  | hdrExit
  /-- ATTEST_DONE (R456): The security block finishes signing the attestation report, writes it to the buffer and ATTEST replies -/
  | attestDone
  /-- FW_VERIFY_DONE (R380): Verification of a staged or pushed firmware image completes and FW_UPDATE with action 0 replies, or the ROM starts the pushed image -/
  | fwVerifyDone
  /-- WAKE_TO_RUN (R438): The wake from SLEEP or DEEP completes, the device is in RUN and a waiting POWER_STATE 0 or woken command proceeds -/
  | wakeToRun
  deriving DecidableEq, Repr

end Sys2Proof
end

