-- ==== Sys2Proof/Decode.lean ====
section
/-!
DEFINITION. The commands that table words spell.  `spec/opcode_table.json` gives none of its rows any bits: a command
of this block comes from a pin, a bus or a timer and has no encoding of its own, so no word spells one (log entry 6).
The packets and Drulum commands that rows carry are encoded by Machine/Packets.lean and Machine/Drulum.lean.
-/
namespace Sys2Proof

/-- The command that a word of `nbits` bits spells by the table's bits: none. -/
def decodeTableWord (_nbits _w : Nat) : Option Instr := none

end Sys2Proof
end

