-- ==== Sys2Proof/Machine/Fields.lean ====
section
/-!
DEFINITION. The register map of the JX8 as data: every register of the chapters' address tables with its window,
offset and number of copies, and every field of it with its bits, access code and reset value.
The tables are those of 01_architecture.md R32, 02_time_and_ordering.md R67, 03_neuron_cores.md R98,
04_synapses_and_arithmetic.md R121, 05_on_chip_learning.md R151, 06_encoders_decoders_and_actuation.md R183 and R184,
07_event_network.md R221, 08_scheduled_plane.md R242, 09_queues.md R266, 10_memory_system.md R288,
11_csi2_ports.md R314, 12_command_interface.md R346, 13_redundant_pair.md R370,
14_bringup_loading_spares.md R401, 15_faults.md R420, 16_power_clocks_thermal.md R445, 17_security.md R460
and 18_electrical_and_package.md R464.
-/
namespace Sys2Proof.Machine

/-- The windows that hold registers (01_architecture.md R28, 10_memory_system.md R286).  A `tile` register belongs to a
tile's routers and appears in the window of the logical core that the tile holds (07_event_network.md R221). -/
inductive Scope where
  | chip | core | tile | engine | tinder | ash | drey | group | owl | rx | tx | gwynell | security | ctx | stop
  deriving DecidableEq, Repr

/-- The access codes of 00_scope.md R4; `w1cc` is W1C on a multi-bit counter (R5). -/
inductive Access where
  | rw | ro | wo | w1c | w1cc | w1s
  deriving DecidableEq, Repr

/-- The registers. -/
inductive Reg where
  | CHIP_ID
  | CHIP_CTRL
  | CHIP_CFG_REASON
  | TIME_GRAIN
  | TIME_ORIGIN
  | TIME_STEP
  | TIME_FRAME
  | TIME_SYNC_LOAD
  | TIME_STEP_CFG
  | TIME_CTRL
  | TIME_SYNC_CFG
  | TIME_SYNC_STAT
  | TIME_STEP_GRANT
  | TIME_OVL_STAT
  | TIME_STRETCH_CNT
  | TIME_FORCED_CNT
  | TIME_OVERRUN_CNT
  | TIME_LATE_CNT
  | TIME_SHED_CNT
  | TIME_LATE_IN_CNT
  | TIME_PRE_IN_CNT
  | CORE_INFLIGHT
  | CORE_OVL_CNT
  | TND_INFLIGHT
  | CORE_STAT
  | CORE_UPD_STAT
  | CORE_PART_STATE
  | CORE_PART_LAND
  | CORE_PART_SYN
  | CORE_PART_LRN
  | CORE_PART_SMD
  | CORE_PART_OUT
  | CORE_PART_MBX
  | CORE_PART_SCR
  | CORE_DISC_CNT
  | CORE_SPK_CNT
  | FOX_DEN_STAT
  | CORE_GRP_MODE
  | CORE_GRP_LEVEL
  | CORE_GRP_COEF
  | CORE_GRP_CLAMP
  | CORE_GRP_OUT
  | SYN_AXON_CFG
  | SYN_SCALE_CFG
  | SYN_COL_CFG
  | SYN_CORD_CFG
  | SYN_SAT_CFG
  | SYN_AXON_CNT
  | SYN_SAT_CNT
  | SYN_SAT_THR
  | SYN_SAT_MAX
  | LRN_CFG
  | LRN_PLASTIC
  | LRN_LAYOUT0
  | LRN_LAYOUT1
  | LRN_SEED
  | LRN_STAT
  | LRN_HOLD
  | LRN_CNT
  | LRN_TIME
  | LRN_NORM
  | LRN_REGION
  | LRN_EPOCH
  | LRN_SNAP_STAT
  | TND_CTRL
  | TND_STAT
  | TND_SEED
  | TND_REPLAY_BASE
  | TND_REPLAY_END
  | TND_CNT
  | TND_DIN_CFG
  | TND_CHAN_A
  | TND_CHAN_B
  | TND_CHAN_STATE
  | TND_REFSTORE
  | ASH_CNT
  | ASH_REC_CNT
  | ASH_METER_CFG
  | ASH_DEC_CFG
  | ASH_DEC_PAR
  | ASH_LINE_CNT
  | ASH_LINE_CODE
  | ACT_ARM
  | ACT_STAT
  | ACT_MISS_CNT
  | ACT_CFG
  | FOX_SEED
  | FOX_RT_CFG
  | FOX_RT_STAT
  | FOX_RT_CNT
  | FOX_PV_FLIT_CNT
  | FOX_PV_PKT_CNT
  | FOX_PV_OCC
  | FOX_PV_CSTALL
  | FOX_PV_BSTALL
  | FOX_PV_OSTALL
  | FOX_PV_ERR
  | FOX_PHYS_SEL
  | FOX_ES_PV_FLIT_CNT
  | FOX_ES_PV_PKT_CNT
  | FOX_ES_PV_OCC
  | FOX_ES_PV_CSTALL
  | FOX_ES_PV_BSTALL
  | FOX_ES_PV_OSTALL
  | FOX_ES_PV_ERR
  | FOX_ES_CNT
  | FOX_GW_SEED
  | FOX_GW_CFG
  | CORD_CTRL
  | CORD_STAT
  | CORD_MISS_CNT
  | CORD_LOST_CNT
  | CORD_BYPASS
  | CORD_SEND_CFG
  | CORD_PORT_STAT
  | CORD_CNT
  | CORD_PORT_CNT
  | CORD_ARM
  | CORD_LOAD_MASK
  | CORD_TABLE
  | CORD_TABLE_BC
  | DREY_CTRL
  | DREY_STAT
  | DREY_DESC_BASE
  | DREY_OP_CNT
  | DREY_CACHE_CNT
  | DREY_NACK_CNT0
  | DREY_NACK_CNT1
  | DREY_MISC_CNT
  | DREY_LAST_NACK
  | DREY_QSEL
  | DREY_QCMD
  | DREY_QARG
  | DREY_QDESC
  | DREY_CFG_QID
  | DREY_MBX_CNT
  | MEM_SRAM_SCRUB
  | MEM_SRAM_CNT
  | MEM_CFG
  | MEM_STAT
  | MEM_RETIRE
  | MEM_PIN_CFG
  | MEM_ECC_CNT
  | MEM_EDC_CNT
  | MEM_ERR_LOG
  | MEM_SCRUB_CFG
  | MEM_LANE_MASK
  | CSIRX_CTX_CFG
  | CSIRX_CTX_SEQ
  | CSIRX_CTX_BUF
  | CSIRX_CTX_PARAM
  | CSIRX_CTX_STAT
  | CSIRX_CTX_CNT0
  | CSIRX_CTX_CNT1
  | CSITX_RELAY_CFG
  | CMD_INBAND_CFG
  | CSIRX_POOL_STAT
  | CSIRX_PORT_CFG
  | CSIRX_CTRL
  | CSIRX_STAT
  | CSIRX_CMD_CNT
  | CSIRX_PORT_CNT
  | CSIRX_ERR_CNT
  | CSIRX_BYTE_CNT
  | CSITX_PORT_CFG
  | CSITX_STAT
  | CSITX_PKT_CNT
  | CSITX_DROP_CNT
  | CSITX_BYTE_CNT
  | I3C_STAT
  | I3C_LEN
  | I3C_CNT
  | CMD_CNT
  | CMD_LAST
  | CMD_FEAT
  | PAIR_CFG
  | PAIR_STAT
  | PAIR_CKPT_BASE
  | PAIR_CKPT_CFG
  | PAIR_CKPT_STEP
  | PAIR_CNT0
  | PAIR_CNT1
  | PAIR_DIG_LOCAL
  | PAIR_DIG_PEER
  | BOOT_REPORT
  | BOOT_LOG
  | BOOT_FW_STAT
  | BOOT_LOAD_WIN
  | BOOT_LOAD_CNT
  | BOOT_LOAD_STAT
  | BOOT_IMAGE_MEAS
  | SPARE_CTRL
  | SPARE_STAT
  | SPARE_CNT
  | SPARE_LAST
  | SPARE_DEFECT_CORE
  | SPARE_DEFECT_RTR
  | SPARE_MAP
  | SPARE_SHADOW
  | OWL_CTRL
  | OWL_STAT
  | OWL_CNT
  | OWL_CNT2
  | OWL_FORCE
  | OWL_WDOG
  | OWL_REACT
  | OWL_ST_KEY
  | OWL_ST_ADDR
  | KILN_CTRL
  | KILN_STAT
  | KILN_CAP
  | KILN_UNC_CORR
  | KILN_POWER
  | KILN_UNC_POWER
  | KILN_CNT
  | KILN_THERM_CFG
  | KILN_THERM
  | KILN_AGE_CFG
  | KILN_GATE
  | KILN_OFF_CAUSE
  | KILN_WAKE_CNT
  | KILN_COEF
  | KILN_COEF_UNC
  | CLK_STAT
  | KILN_VID
  | KILN_ENG_POWER
  | KILN_ENG_CORR
  | KILN_DROOP
  | KILN_TEMP
  | KILN_CORE_BIN
  | SEC_STAT
  | SEC_PROG
  | SEC_CNT
  | SEC_PROG_DATA
  | SEC_FW_MEAS
  | SEC_ROOT_HASH
  | SEC_SLOT_HASH
  | SEC_ID_PUB
  deriving DecidableEq, Repr

/-- The number of a register in the list above, its key in the register store. -/
def Reg.num (r : Reg) : Nat := r.ctorIdx

/-- Where a register lies: its window, its offset there, the distance and number of its copies, its width
(64 bits or 32), and whether copy i belongs to engine i (00_scope.md R2). -/
structure RegInfo where
  scope : Scope
  off : Nat
  stride : Nat
  count : Nat
  wide : Bool
  perEngine : Bool
  deriving DecidableEq, Repr

/-- One field of a register. `lock`: the device ignores writes to it while CHIP_CTRL.RUN_EN is 1.
`wraps`: a counter that wraps (00_scope.md R9).  `fused`: its value comes from the fuse set (R6). -/
structure Fld where
  reg : Reg
  hi : Nat
  lo : Nat
  acc : Access
  rst : Nat
  lock : Bool
  wraps : Bool
  fused : Bool
  deriving DecidableEq, Repr

/-- Where each register lies. -/
def Reg.info : Reg → RegInfo
  | .CHIP_ID => ⟨.chip, 0x0, 0x0, 1, true, false⟩
  | .CHIP_CTRL => ⟨.chip, 0x10, 0x0, 1, false, false⟩
  | .CHIP_CFG_REASON => ⟨.chip, 0x14, 0x0, 1, false, false⟩
  | .TIME_GRAIN => ⟨.chip, 0x1000, 0x0, 1, true, false⟩
  | .TIME_ORIGIN => ⟨.chip, 0x1008, 0x0, 1, true, false⟩
  | .TIME_STEP => ⟨.chip, 0x1010, 0x0, 1, true, false⟩
  | .TIME_FRAME => ⟨.chip, 0x1018, 0x0, 1, true, false⟩
  | .TIME_SYNC_LOAD => ⟨.chip, 0x1020, 0x0, 1, true, false⟩
  | .TIME_STEP_CFG => ⟨.chip, 0x1028, 0x0, 1, false, false⟩
  | .TIME_CTRL => ⟨.chip, 0x102C, 0x0, 1, false, false⟩
  | .TIME_SYNC_CFG => ⟨.chip, 0x1030, 0x0, 1, false, false⟩
  | .TIME_SYNC_STAT => ⟨.chip, 0x1034, 0x0, 1, false, false⟩
  | .TIME_STEP_GRANT => ⟨.chip, 0x1038, 0x0, 1, false, false⟩
  | .TIME_OVL_STAT => ⟨.chip, 0x103C, 0x0, 1, false, false⟩
  | .TIME_STRETCH_CNT => ⟨.chip, 0x1040, 0x0, 1, false, false⟩
  | .TIME_FORCED_CNT => ⟨.chip, 0x1044, 0x0, 1, false, false⟩
  | .TIME_OVERRUN_CNT => ⟨.chip, 0x1048, 0x0, 1, false, false⟩
  | .TIME_LATE_CNT => ⟨.chip, 0x104C, 0x0, 1, false, false⟩
  | .TIME_SHED_CNT => ⟨.chip, 0x1050, 0x0, 1, false, false⟩
  | .TIME_LATE_IN_CNT => ⟨.chip, 0x1054, 0x0, 1, false, false⟩
  | .TIME_PRE_IN_CNT => ⟨.chip, 0x1058, 0x0, 1, false, false⟩
  | .CORE_INFLIGHT => ⟨.core, 0x40100, 0x0, 1, true, false⟩
  | .CORE_OVL_CNT => ⟨.core, 0x40108, 0x0, 1, false, false⟩
  | .TND_INFLIGHT => ⟨.tinder, 0x100, 0x0, 1, true, false⟩
  | .CORE_STAT => ⟨.core, 0x40000, 0x0, 1, false, false⟩
  | .CORE_UPD_STAT => ⟨.core, 0x40004, 0x0, 1, false, false⟩
  | .CORE_PART_STATE => ⟨.core, 0x40010, 0x0, 1, false, false⟩
  | .CORE_PART_LAND => ⟨.core, 0x40014, 0x0, 1, false, false⟩
  | .CORE_PART_SYN => ⟨.core, 0x40018, 0x0, 1, false, false⟩
  | .CORE_PART_LRN => ⟨.core, 0x4001C, 0x0, 1, false, false⟩
  | .CORE_PART_SMD => ⟨.core, 0x40020, 0x0, 1, false, false⟩
  | .CORE_PART_OUT => ⟨.core, 0x40024, 0x0, 1, false, false⟩
  | .CORE_PART_MBX => ⟨.core, 0x40028, 0x0, 1, false, false⟩
  | .CORE_PART_SCR => ⟨.core, 0x4002C, 0x0, 1, false, false⟩
  | .CORE_DISC_CNT => ⟨.core, 0x40110, 0x0, 1, true, false⟩
  | .CORE_SPK_CNT => ⟨.core, 0x40118, 0x0, 1, true, false⟩
  | .FOX_DEN_STAT => ⟨.tile, 0x40200, 0x0, 1, false, false⟩
  | .CORE_GRP_MODE => ⟨.core, 0x41000, 0x20, 32, true, false⟩
  | .CORE_GRP_LEVEL => ⟨.core, 0x41008, 0x20, 32, true, false⟩
  | .CORE_GRP_COEF => ⟨.core, 0x41010, 0x20, 32, true, false⟩
  | .CORE_GRP_CLAMP => ⟨.core, 0x41018, 0x20, 32, true, false⟩
  | .CORE_GRP_OUT => ⟨.core, 0x41400, 0x4, 32, false, false⟩
  | .SYN_AXON_CFG => ⟨.core, 0x40300, 0x0, 1, false, false⟩
  | .SYN_SCALE_CFG => ⟨.core, 0x40304, 0x0, 1, false, false⟩
  | .SYN_COL_CFG => ⟨.core, 0x40308, 0x0, 1, true, false⟩
  | .SYN_CORD_CFG => ⟨.core, 0x40310, 0x0, 1, false, false⟩
  | .SYN_SAT_CFG => ⟨.core, 0x40314, 0x0, 1, false, false⟩
  | .SYN_AXON_CNT => ⟨.core, 0x40318, 0x0, 1, true, false⟩
  | .SYN_SAT_CNT => ⟨.core, 0x40320, 0x0, 1, true, false⟩
  | .SYN_SAT_THR => ⟨.core, 0x40328, 0x0, 1, true, false⟩
  | .SYN_SAT_MAX => ⟨.core, 0x40330, 0x0, 1, true, false⟩
  | .LRN_CFG => ⟨.core, 0x40400, 0x0, 1, true, false⟩
  | .LRN_PLASTIC => ⟨.core, 0x40408, 0x0, 1, true, false⟩
  | .LRN_LAYOUT0 => ⟨.core, 0x40410, 0x0, 1, true, false⟩
  | .LRN_LAYOUT1 => ⟨.core, 0x40418, 0x0, 1, true, false⟩
  | .LRN_SEED => ⟨.core, 0x40420, 0x0, 1, true, false⟩
  | .LRN_STAT => ⟨.core, 0x40428, 0x0, 1, false, false⟩
  | .LRN_HOLD => ⟨.core, 0x4042C, 0x0, 1, false, false⟩
  | .LRN_CNT => ⟨.core, 0x40430, 0x0, 1, true, false⟩
  | .LRN_TIME => ⟨.core, 0x40438, 0x0, 1, true, false⟩
  | .LRN_NORM => ⟨.core, 0x40480, 0x4, 32, false, false⟩
  | .LRN_REGION => ⟨.chip, 0x2000, 0x8, 8, true, false⟩
  | .LRN_EPOCH => ⟨.chip, 0x2040, 0x8, 8, true, false⟩
  | .LRN_SNAP_STAT => ⟨.chip, 0x2080, 0x0, 1, false, false⟩
  | .TND_CTRL => ⟨.tinder, 0x0, 0x0, 1, false, false⟩
  | .TND_STAT => ⟨.tinder, 0x4, 0x0, 1, false, false⟩
  | .TND_SEED => ⟨.tinder, 0x8, 0x0, 1, true, false⟩
  | .TND_REPLAY_BASE => ⟨.tinder, 0x10, 0x0, 1, true, false⟩
  | .TND_REPLAY_END => ⟨.tinder, 0x18, 0x0, 1, true, false⟩
  | .TND_CNT => ⟨.tinder, 0x20, 0x0, 1, true, false⟩
  | .TND_DIN_CFG => ⟨.tinder, 0x40, 0x4, 16, false, false⟩
  | .TND_CHAN_A => ⟨.tinder, 0x10000, 0x10, 4096, true, false⟩
  | .TND_CHAN_B => ⟨.tinder, 0x10008, 0x10, 4096, true, false⟩
  | .TND_CHAN_STATE => ⟨.tinder, 0x20000, 0x8, 4096, true, false⟩
  | .TND_REFSTORE => ⟨.tinder, 0x40000, 0x4, 32768, false, false⟩
  | .ASH_CNT => ⟨.ash, 0x0, 0x0, 1, true, false⟩
  | .ASH_REC_CNT => ⟨.ash, 0x8, 0x0, 1, false, false⟩
  | .ASH_METER_CFG => ⟨.ash, 0xC, 0x0, 1, false, false⟩
  | .ASH_DEC_CFG => ⟨.ash, 0x10000, 0x10, 256, true, false⟩
  | .ASH_DEC_PAR => ⟨.ash, 0x10008, 0x10, 256, true, false⟩
  | .ASH_LINE_CNT => ⟨.ash, 0x11000, 0x4, 256, false, false⟩
  | .ASH_LINE_CODE => ⟨.ash, 0x20000, 0x4, 4096, false, false⟩
  | .ACT_ARM => ⟨.ash, 0x30000, 0x0, 1, false, false⟩
  | .ACT_STAT => ⟨.ash, 0x30004, 0x0, 1, false, false⟩
  | .ACT_MISS_CNT => ⟨.ash, 0x30008, 0x0, 1, false, false⟩
  | .ACT_CFG => ⟨.ash, 0x30100, 0x8, 16, true, false⟩
  | .FOX_SEED => ⟨.tile, 0x42000, 0x0, 1, true, false⟩
  | .FOX_RT_CFG => ⟨.tile, 0x42008, 0x0, 1, false, false⟩
  | .FOX_RT_STAT => ⟨.tile, 0x4200C, 0x0, 1, false, false⟩
  | .FOX_RT_CNT => ⟨.tile, 0x42010, 0x0, 1, true, false⟩
  | .FOX_PV_FLIT_CNT => ⟨.tile, 0x42100, 0x20, 30, true, false⟩
  | .FOX_PV_PKT_CNT => ⟨.tile, 0x42108, 0x20, 30, false, false⟩
  | .FOX_PV_OCC => ⟨.tile, 0x4210C, 0x20, 30, false, false⟩
  | .FOX_PV_CSTALL => ⟨.tile, 0x42110, 0x20, 30, false, false⟩
  | .FOX_PV_BSTALL => ⟨.tile, 0x42114, 0x20, 30, false, false⟩
  | .FOX_PV_OSTALL => ⟨.tile, 0x42118, 0x20, 30, false, false⟩
  | .FOX_PV_ERR => ⟨.tile, 0x4211C, 0x20, 30, false, false⟩
  | .FOX_PHYS_SEL => ⟨.engine, 0x7F00, 0x0, 1, false, false⟩
  | .FOX_ES_PV_FLIT_CNT => ⟨.stop, 0x0, 0x20, 10, true, false⟩
  | .FOX_ES_PV_PKT_CNT => ⟨.stop, 0x8, 0x20, 10, false, false⟩
  | .FOX_ES_PV_OCC => ⟨.stop, 0xC, 0x20, 10, false, false⟩
  | .FOX_ES_PV_CSTALL => ⟨.stop, 0x10, 0x20, 10, false, false⟩
  | .FOX_ES_PV_BSTALL => ⟨.stop, 0x14, 0x20, 10, false, false⟩
  | .FOX_ES_PV_OSTALL => ⟨.stop, 0x18, 0x20, 10, false, false⟩
  | .FOX_ES_PV_ERR => ⟨.stop, 0x1C, 0x20, 10, false, false⟩
  | .FOX_ES_CNT => ⟨.stop, 0x300, 0x0, 1, true, false⟩
  | .FOX_GW_SEED => ⟨.stop, 0x308, 0x0, 1, true, false⟩
  | .FOX_GW_CFG => ⟨.stop, 0x310, 0x0, 1, false, false⟩
  | .CORD_CTRL => ⟨.chip, 0x3000, 0x0, 1, false, false⟩
  | .CORD_STAT => ⟨.chip, 0x3004, 0x0, 1, false, false⟩
  | .CORD_MISS_CNT => ⟨.chip, 0x3008, 0x0, 1, false, false⟩
  | .CORD_LOST_CNT => ⟨.chip, 0x300C, 0x0, 1, false, false⟩
  | .CORD_BYPASS => ⟨.engine, 0x7F10, 0x0, 1, false, false⟩
  | .CORD_SEND_CFG => ⟨.tile, 0x43000, 0x0, 1, false, false⟩
  | .CORD_PORT_STAT => ⟨.tile, 0x43004, 0x0, 1, false, false⟩
  | .CORD_CNT => ⟨.tile, 0x43008, 0x0, 1, true, false⟩
  | .CORD_PORT_CNT => ⟨.tile, 0x43010, 0x0, 1, false, false⟩
  | .CORD_ARM => ⟨.tile, 0x43014, 0x0, 1, false, false⟩
  | .CORD_LOAD_MASK => ⟨.tile, 0x43100, 0x8, 16, true, false⟩
  | .CORD_TABLE => ⟨.tile, 0x48000, 0x8, 1024, true, false⟩
  | .CORD_TABLE_BC => ⟨.tile, 0x4A000, 0x8, 1024, true, false⟩
  | .DREY_CTRL => ⟨.drey, 0x0, 0x0, 1, false, false⟩
  | .DREY_STAT => ⟨.drey, 0x4, 0x0, 1, false, false⟩
  | .DREY_DESC_BASE => ⟨.drey, 0x8, 0x0, 1, true, false⟩
  | .DREY_OP_CNT => ⟨.drey, 0x10, 0x0, 1, true, false⟩
  | .DREY_CACHE_CNT => ⟨.drey, 0x18, 0x0, 1, true, false⟩
  | .DREY_NACK_CNT0 => ⟨.drey, 0x20, 0x0, 1, true, false⟩
  | .DREY_NACK_CNT1 => ⟨.drey, 0x28, 0x0, 1, true, false⟩
  | .DREY_MISC_CNT => ⟨.drey, 0x30, 0x0, 1, true, false⟩
  | .DREY_LAST_NACK => ⟨.drey, 0x38, 0x0, 1, true, false⟩
  | .DREY_QSEL => ⟨.drey, 0x40, 0x0, 1, false, false⟩
  | .DREY_QCMD => ⟨.drey, 0x44, 0x0, 1, false, false⟩
  | .DREY_QARG => ⟨.drey, 0x48, 0x0, 1, false, false⟩
  | .DREY_QDESC => ⟨.drey, 0x50, 0x8, 4, true, false⟩
  | .DREY_CFG_QID => ⟨.drey, 0x70, 0x0, 1, false, false⟩
  | .DREY_MBX_CNT => ⟨.core, 0x40500, 0x0, 1, true, false⟩
  | .MEM_SRAM_SCRUB => ⟨.chip, 0x4000, 0x0, 1, false, false⟩
  | .MEM_SRAM_CNT => ⟨.core, 0x40600, 0x0, 1, true, false⟩
  | .MEM_CFG => ⟨.group, 0x0, 0x0, 1, false, false⟩
  | .MEM_STAT => ⟨.group, 0x4, 0x0, 1, false, false⟩
  | .MEM_RETIRE => ⟨.group, 0x8, 0x0, 1, false, false⟩
  | .MEM_PIN_CFG => ⟨.group, 0xC, 0x0, 1, false, false⟩
  | .MEM_ECC_CNT => ⟨.group, 0x10, 0x0, 1, true, false⟩
  | .MEM_EDC_CNT => ⟨.group, 0x18, 0x0, 1, true, false⟩
  | .MEM_ERR_LOG => ⟨.group, 0x20, 0x0, 1, true, false⟩
  | .MEM_SCRUB_CFG => ⟨.group, 0x28, 0x0, 1, false, false⟩
  | .MEM_LANE_MASK => ⟨.group, 0x2C, 0x0, 1, false, false⟩
  | .CSIRX_CTX_CFG => ⟨.ctx, 0x0, 0x0, 1, true, false⟩
  | .CSIRX_CTX_SEQ => ⟨.ctx, 0x8, 0x0, 1, true, false⟩
  | .CSIRX_CTX_BUF => ⟨.ctx, 0x10, 0x0, 1, false, false⟩
  | .CSIRX_CTX_PARAM => ⟨.ctx, 0x14, 0x0, 1, false, false⟩
  | .CSIRX_CTX_STAT => ⟨.ctx, 0x18, 0x0, 1, true, false⟩
  | .CSIRX_CTX_CNT0 => ⟨.ctx, 0x20, 0x0, 1, true, false⟩
  | .CSIRX_CTX_CNT1 => ⟨.ctx, 0x28, 0x0, 1, true, false⟩
  | .CSITX_RELAY_CFG => ⟨.chip, 0x5C00, 0x4, 16, false, false⟩
  | .CMD_INBAND_CFG => ⟨.chip, 0x5C40, 0x0, 1, false, false⟩
  | .CSIRX_POOL_STAT => ⟨.chip, 0x5C44, 0x0, 1, false, false⟩
  | .CSIRX_PORT_CFG => ⟨.rx, 0x0, 0x0, 1, false, false⟩
  | .CSIRX_CTRL => ⟨.rx, 0x4, 0x0, 1, false, false⟩
  | .CSIRX_STAT => ⟨.rx, 0x8, 0x0, 1, false, false⟩
  | .CSIRX_CMD_CNT => ⟨.rx, 0xC, 0x0, 1, false, false⟩
  | .CSIRX_PORT_CNT => ⟨.rx, 0x10, 0x0, 1, true, false⟩
  | .CSIRX_ERR_CNT => ⟨.rx, 0x18, 0x0, 1, true, false⟩
  | .CSIRX_BYTE_CNT => ⟨.rx, 0x20, 0x0, 1, true, false⟩
  | .CSITX_PORT_CFG => ⟨.tx, 0x0, 0x0, 1, false, false⟩
  | .CSITX_STAT => ⟨.tx, 0x4, 0x0, 1, false, false⟩
  | .CSITX_PKT_CNT => ⟨.tx, 0x8, 0x0, 1, true, false⟩
  | .CSITX_DROP_CNT => ⟨.tx, 0x10, 0x0, 1, true, false⟩
  | .CSITX_BYTE_CNT => ⟨.tx, 0x18, 0x0, 1, true, false⟩
  | .I3C_STAT => ⟨.chip, 0x6000, 0x0, 1, false, false⟩
  | .I3C_LEN => ⟨.chip, 0x6004, 0x0, 1, false, false⟩
  | .I3C_CNT => ⟨.chip, 0x6008, 0x0, 1, true, false⟩
  | .CMD_CNT => ⟨.chip, 0x6010, 0x0, 1, true, false⟩
  | .CMD_LAST => ⟨.chip, 0x6018, 0x0, 1, false, false⟩
  | .CMD_FEAT => ⟨.chip, 0x601C, 0x0, 1, false, false⟩
  | .PAIR_CFG => ⟨.gwynell, 0x0, 0x0, 1, false, false⟩
  | .PAIR_STAT => ⟨.gwynell, 0x4, 0x0, 1, false, false⟩
  | .PAIR_CKPT_BASE => ⟨.gwynell, 0x8, 0x0, 1, true, false⟩
  | .PAIR_CKPT_CFG => ⟨.gwynell, 0x10, 0x0, 1, false, false⟩
  | .PAIR_CKPT_STEP => ⟨.gwynell, 0x18, 0x0, 1, true, false⟩
  | .PAIR_CNT0 => ⟨.gwynell, 0x20, 0x0, 1, true, false⟩
  | .PAIR_CNT1 => ⟨.gwynell, 0x28, 0x0, 1, true, false⟩
  | .PAIR_DIG_LOCAL => ⟨.gwynell, 0x100, 0x8, 8, true, true⟩
  | .PAIR_DIG_PEER => ⟨.gwynell, 0x140, 0x8, 8, true, true⟩
  | .BOOT_REPORT => ⟨.chip, 0x7000, 0x0, 1, true, false⟩
  | .BOOT_LOG => ⟨.chip, 0x7008, 0x8, 9, true, false⟩
  | .BOOT_FW_STAT => ⟨.chip, 0x7050, 0x0, 1, false, false⟩
  | .BOOT_LOAD_WIN => ⟨.chip, 0x7058, 0x0, 1, true, false⟩
  | .BOOT_LOAD_CNT => ⟨.chip, 0x7060, 0x0, 1, true, false⟩
  | .BOOT_LOAD_STAT => ⟨.chip, 0x7068, 0x0, 1, false, false⟩
  | .BOOT_IMAGE_MEAS => ⟨.chip, 0x7080, 0x8, 8, true, false⟩
  | .SPARE_CTRL => ⟨.chip, 0x7100, 0x0, 1, false, false⟩
  | .SPARE_STAT => ⟨.chip, 0x7110, 0x4, 8, false, true⟩
  | .SPARE_CNT => ⟨.chip, 0x7140, 0x0, 1, true, false⟩
  | .SPARE_LAST => ⟨.chip, 0x7148, 0x0, 1, true, false⟩
  | .SPARE_DEFECT_CORE => ⟨.engine, 0x7F20, 0x4, 5, false, false⟩
  | .SPARE_DEFECT_RTR => ⟨.engine, 0x7F40, 0x4, 5, false, false⟩
  | .SPARE_MAP => ⟨.engine, 0xC000, 0x4, 1024, false, false⟩
  | .SPARE_SHADOW => ⟨.engine, 0xD000, 0x4, 1024, false, false⟩
  | .OWL_CTRL => ⟨.owl, 0x0, 0x0, 1, false, false⟩
  | .OWL_STAT => ⟨.owl, 0x4, 0x0, 1, false, false⟩
  | .OWL_CNT => ⟨.owl, 0x8, 0x0, 1, true, false⟩
  | .OWL_CNT2 => ⟨.owl, 0x10, 0x0, 1, true, false⟩
  | .OWL_FORCE => ⟨.owl, 0x18, 0x0, 1, true, false⟩
  | .OWL_WDOG => ⟨.owl, 0x20, 0x0, 1, false, false⟩
  | .OWL_REACT => ⟨.owl, 0x1000, 0x4, 256, false, false⟩
  | .OWL_ST_KEY => ⟨.owl, 0x4000, 0x10, 256, true, false⟩
  | .OWL_ST_ADDR => ⟨.owl, 0x4008, 0x10, 256, true, false⟩
  | .KILN_CTRL => ⟨.chip, 0x8000, 0x0, 1, false, false⟩
  | .KILN_STAT => ⟨.chip, 0x8004, 0x0, 1, false, false⟩
  | .KILN_CAP => ⟨.chip, 0x8008, 0x0, 1, false, false⟩
  | .KILN_UNC_CORR => ⟨.chip, 0x800C, 0x0, 1, false, false⟩
  | .KILN_POWER => ⟨.chip, 0x8010, 0x0, 1, true, false⟩
  | .KILN_UNC_POWER => ⟨.chip, 0x8018, 0x0, 1, false, false⟩
  | .KILN_CNT => ⟨.chip, 0x8020, 0x0, 1, true, false⟩
  | .KILN_THERM_CFG => ⟨.chip, 0x8028, 0x0, 1, false, false⟩
  | .KILN_THERM => ⟨.chip, 0x802C, 0x0, 1, false, false⟩
  | .KILN_AGE_CFG => ⟨.chip, 0x8030, 0x0, 1, false, false⟩
  | .KILN_GATE => ⟨.chip, 0x8034, 0x0, 1, false, false⟩
  | .KILN_OFF_CAUSE => ⟨.chip, 0x8038, 0x0, 1, false, false⟩
  | .KILN_WAKE_CNT => ⟨.chip, 0x8040, 0x0, 1, true, false⟩
  | .KILN_COEF => ⟨.chip, 0x8048, 0x0, 1, true, false⟩
  | .KILN_COEF_UNC => ⟨.chip, 0x8050, 0x0, 1, true, false⟩
  | .CLK_STAT => ⟨.chip, 0x8060, 0x0, 1, false, false⟩
  | .KILN_VID => ⟨.chip, 0x8068, 0x0, 1, false, false⟩
  | .KILN_ENG_POWER => ⟨.chip, 0x8100, 0x10, 8, false, true⟩
  | .KILN_ENG_CORR => ⟨.chip, 0x8104, 0x10, 8, false, true⟩
  | .KILN_DROOP => ⟨.chip, 0x8108, 0x10, 8, true, true⟩
  | .KILN_TEMP => ⟨.chip, 0x8200, 0x4, 28, false, false⟩
  | .KILN_CORE_BIN => ⟨.tile, 0x40700, 0x0, 1, false, false⟩
  | .SEC_STAT => ⟨.security, 0x0, 0x0, 1, false, false⟩
  | .SEC_PROG => ⟨.security, 0x4, 0x0, 1, false, false⟩
  | .SEC_CNT => ⟨.security, 0x8, 0x0, 1, false, false⟩
  | .SEC_PROG_DATA => ⟨.security, 0x40, 0x8, 8, true, false⟩
  | .SEC_FW_MEAS => ⟨.security, 0x80, 0x8, 8, true, false⟩
  | .SEC_ROOT_HASH => ⟨.security, 0x100, 0x8, 8, true, false⟩
  | .SEC_SLOT_HASH => ⟨.security, 0x200, 0x8, 32, true, false⟩
  | .SEC_ID_PUB => ⟨.security, 0x300, 0x8, 4, true, false⟩

namespace F

-- CHIP_ID (01_architecture.md R32)
def CHIP_ID_ARCH_LEVEL : Fld := ⟨.CHIP_ID, 47, 40, .ro, 0x1, false, false, false⟩
def CHIP_ID_DIE_REV : Fld := ⟨.CHIP_ID, 39, 32, .ro, 0x0, false, false, true⟩
def CHIP_ID_G6_CAP_LIMIT : Fld := ⟨.CHIP_ID, 29, 28, .ro, 0x0, false, false, true⟩
def CHIP_ID_BOOST_DIS : Fld := ⟨.CHIP_ID, 27, 27, .ro, 0x0, false, false, true⟩
def CHIP_ID_G6_GROUP_EN : Fld := ⟨.CHIP_ID, 25, 24, .ro, 0x0, false, false, true⟩
def CHIP_ID_TX_EN : Fld := ⟨.CHIP_ID, 23, 20, .ro, 0x0, false, false, true⟩
def CHIP_ID_RX_EN : Fld := ⟨.CHIP_ID, 17, 12, .ro, 0x0, false, false, true⟩
def CHIP_ID_ENGINE_EN : Fld := ⟨.CHIP_ID, 11, 4, .ro, 0x0, false, false, true⟩
def CHIP_ID_VARIANT : Fld := ⟨.CHIP_ID, 3, 0, .ro, 0x0, false, false, true⟩
-- CHIP_CTRL (12_command_interface.md R346)
def CHIP_CTRL_QUENCHED : Fld := ⟨.CHIP_CTRL, 2, 2, .w1c, 0x0, false, false, false⟩
def CHIP_CTRL_CHECK_BUSY : Fld := ⟨.CHIP_CTRL, 1, 1, .ro, 0x0, false, false, false⟩
def CHIP_CTRL_RUN_EN : Fld := ⟨.CHIP_CTRL, 0, 0, .rw, 0x0, false, false, false⟩
-- CHIP_CFG_REASON (12_command_interface.md R346)
def CHIP_CFG_REASON_CLASS : Fld := ⟨.CHIP_CFG_REASON, 31, 24, .ro, 0x0, false, false, false⟩
def CHIP_CFG_REASON_DETAIL : Fld := ⟨.CHIP_CFG_REASON, 23, 16, .ro, 0x0, false, false, false⟩
def CHIP_CFG_REASON_INDEX : Fld := ⟨.CHIP_CFG_REASON, 15, 0, .ro, 0x0, false, false, false⟩
-- TIME_GRAIN (02_time_and_ordering.md R67)
def TIME_GRAIN_GRAIN : Fld := ⟨.TIME_GRAIN, 63, 0, .rw, 0x0, true, false, false⟩
-- TIME_ORIGIN (02_time_and_ordering.md R67)
def TIME_ORIGIN_ORIGIN : Fld := ⟨.TIME_ORIGIN, 63, 0, .rw, 0x0, true, false, false⟩
-- TIME_STEP (02_time_and_ordering.md R67)
def TIME_STEP_STEP : Fld := ⟨.TIME_STEP, 63, 0, .ro, 0x0, false, false, false⟩
-- TIME_FRAME (02_time_and_ordering.md R67)
def TIME_FRAME_FRAME : Fld := ⟨.TIME_FRAME, 63, 0, .ro, 0x0, false, false, false⟩
-- TIME_SYNC_LOAD (02_time_and_ordering.md R67)
def TIME_SYNC_LOAD_LOAD : Fld := ⟨.TIME_SYNC_LOAD, 63, 0, .rw, 0x0, false, false, false⟩
-- TIME_STEP_CFG (02_time_and_ordering.md R67)
def TIME_STEP_CFG_IN_GUARD : Fld := ⟨.TIME_STEP_CFG, 31, 28, .rw, 0x2, true, false, false⟩
def TIME_STEP_CFG_STRETCH_PCT : Fld := ⟨.TIME_STEP_CFG, 27, 22, .rw, 0x14, true, false, false⟩
def TIME_STEP_CFG_FRAME_STEPS : Fld := ⟨.TIME_STEP_CFG, 21, 15, .rw, 0x4, true, false, false⟩
def TIME_STEP_CFG_STEP_LEN : Fld := ⟨.TIME_STEP_CFG, 13, 0, .rw, 0xFA, true, false, false⟩
-- TIME_CTRL (02_time_and_ordering.md R67)
def TIME_CTRL_FREE_LIMIT : Fld := ⟨.TIME_CTRL, 31, 16, .rw, 0x64, true, false, false⟩
def TIME_CTRL_HANG_LIMIT : Fld := ⟨.TIME_CTRL, 15, 8, .rw, 0x10, true, false, false⟩
def TIME_CTRL_SYNC_OUT_EN : Fld := ⟨.TIME_CTRL, 6, 6, .rw, 0x0, false, false, false⟩
def TIME_CTRL_SYNC_MODE : Fld := ⟨.TIME_CTRL, 5, 4, .rw, 0x0, false, false, false⟩
def TIME_CTRL_FREE_GATED : Fld := ⟨.TIME_CTRL, 2, 2, .rw, 0x0, false, false, false⟩
def TIME_CTRL_POLICY : Fld := ⟨.TIME_CTRL, 1, 1, .rw, 0x0, true, false, false⟩
def TIME_CTRL_MODE : Fld := ⟨.TIME_CTRL, 0, 0, .rw, 0x0, true, false, false⟩
-- TIME_SYNC_CFG (02_time_and_ordering.md R67)
def TIME_SYNC_CFG_MAX_ERR : Fld := ⟨.TIME_SYNC_CFG, 31, 24, .rw, 0xA, false, false, false⟩
def TIME_SYNC_CFG_SYNC_PERIOD : Fld := ⟨.TIME_SYNC_CFG, 23, 0, .rw, 0xF4240, false, false, false⟩
-- TIME_SYNC_STAT (02_time_and_ordering.md R67)
def TIME_SYNC_STAT_EDGE_CNT : Fld := ⟨.TIME_SYNC_STAT, 31, 24, .ro, 0x0, false, true, false⟩
def TIME_SYNC_STAT_LOSS : Fld := ⟨.TIME_SYNC_STAT, 19, 19, .w1c, 0x0, false, false, false⟩
def TIME_SYNC_STAT_LOCKED : Fld := ⟨.TIME_SYNC_STAT, 18, 18, .ro, 0x0, false, false, false⟩
def TIME_SYNC_STAT_PHASE_ERR : Fld := ⟨.TIME_SYNC_STAT, 15, 0, .ro, 0x0, false, false, false⟩
-- TIME_STEP_GRANT (02_time_and_ordering.md R67)
def TIME_STEP_GRANT_GRANT : Fld := ⟨.TIME_STEP_GRANT, 31, 0, .rw, 0x0, false, false, false⟩
-- TIME_OVL_STAT (02_time_and_ordering.md R67)
def TIME_OVL_STAT_LAST_CLOSE : Fld := ⟨.TIME_OVL_STAT, 31, 30, .ro, 0x0, false, false, false⟩
def TIME_OVL_STAT_OVR_FRAME : Fld := ⟨.TIME_OVL_STAT, 29, 29, .ro, 0x0, false, false, false⟩
def TIME_OVL_STAT_MAX_STRETCH : Fld := ⟨.TIME_OVL_STAT, 25, 13, .w1cc, 0x0, false, false, false⟩
def TIME_OVL_STAT_LAST_STRETCH : Fld := ⟨.TIME_OVL_STAT, 12, 0, .ro, 0x0, false, false, false⟩
-- TIME_STRETCH_CNT (02_time_and_ordering.md R67)
def TIME_STRETCH_CNT_CNT : Fld := ⟨.TIME_STRETCH_CNT, 31, 0, .w1cc, 0x0, false, false, false⟩
-- TIME_FORCED_CNT (02_time_and_ordering.md R67)
def TIME_FORCED_CNT_CNT : Fld := ⟨.TIME_FORCED_CNT, 31, 0, .w1cc, 0x0, false, false, false⟩
-- TIME_OVERRUN_CNT (02_time_and_ordering.md R67)
def TIME_OVERRUN_CNT_CNT : Fld := ⟨.TIME_OVERRUN_CNT, 31, 0, .w1cc, 0x0, false, false, false⟩
-- TIME_LATE_CNT (02_time_and_ordering.md R67)
def TIME_LATE_CNT_CNT : Fld := ⟨.TIME_LATE_CNT, 31, 0, .w1cc, 0x0, false, false, false⟩
-- TIME_SHED_CNT (02_time_and_ordering.md R67)
def TIME_SHED_CNT_CNT : Fld := ⟨.TIME_SHED_CNT, 31, 0, .w1cc, 0x0, false, false, false⟩
-- TIME_LATE_IN_CNT (02_time_and_ordering.md R67)
def TIME_LATE_IN_CNT_CNT : Fld := ⟨.TIME_LATE_IN_CNT, 31, 0, .w1cc, 0x0, false, false, false⟩
-- TIME_PRE_IN_CNT (02_time_and_ordering.md R67)
def TIME_PRE_IN_CNT_CNT : Fld := ⟨.TIME_PRE_IN_CNT, 31, 0, .w1cc, 0x0, false, false, false⟩
-- CORE_INFLIGHT (02_time_and_ordering.md R67)
def CORE_INFLIGHT_IF_ODD : Fld := ⟨.CORE_INFLIGHT, 51, 32, .ro, 0x0, false, false, false⟩
def CORE_INFLIGHT_IF_EVEN : Fld := ⟨.CORE_INFLIGHT, 19, 0, .ro, 0x0, false, false, false⟩
-- CORE_OVL_CNT (02_time_and_ordering.md R67)
def CORE_OVL_CNT_SHED_CNT : Fld := ⟨.CORE_OVL_CNT, 31, 16, .w1cc, 0x0, false, false, false⟩
def CORE_OVL_CNT_LATE_CNT : Fld := ⟨.CORE_OVL_CNT, 15, 0, .w1cc, 0x0, false, false, false⟩
-- TND_INFLIGHT (02_time_and_ordering.md R67)
def TND_INFLIGHT_IF_ODD : Fld := ⟨.TND_INFLIGHT, 51, 32, .ro, 0x0, false, false, false⟩
def TND_INFLIGHT_IF_EVEN : Fld := ⟨.TND_INFLIGHT, 19, 0, .ro, 0x0, false, false, false⟩
-- CORE_STAT (03_neuron_cores.md R98)
def CORE_STAT_LOADED : Fld := ⟨.CORE_STAT, 31, 31, .ro, 0x0, false, false, false⟩
def CORE_STAT_FENCED : Fld := ⟨.CORE_STAT, 30, 30, .ro, 0x0, false, false, false⟩
def CORE_STAT_DONE_MASKED : Fld := ⟨.CORE_STAT, 29, 29, .ro, 0x0, false, false, false⟩
def CORE_STAT_UPD_BUSY : Fld := ⟨.CORE_STAT, 28, 28, .ro, 0x0, false, false, false⟩
-- CORE_UPD_STAT (03_neuron_cores.md R98)
def CORE_UPD_STAT_MAX_UPD : Fld := ⟨.CORE_UPD_STAT, 31, 16, .w1cc, 0x0, false, false, false⟩
def CORE_UPD_STAT_LAST_UPD : Fld := ⟨.CORE_UPD_STAT, 15, 0, .ro, 0x0, false, false, false⟩
-- CORE_PART_STATE (03_neuron_cores.md R98)
def CORE_PART_STATE_SIZE : Fld := ⟨.CORE_PART_STATE, 31, 16, .rw, 0x0, true, false, false⟩
def CORE_PART_STATE_BASE : Fld := ⟨.CORE_PART_STATE, 14, 0, .rw, 0x0, true, false, false⟩
-- CORE_PART_LAND (03_neuron_cores.md R98)
def CORE_PART_LAND_SIZE : Fld := ⟨.CORE_PART_LAND, 31, 16, .rw, 0x0, true, false, false⟩
def CORE_PART_LAND_BASE : Fld := ⟨.CORE_PART_LAND, 14, 0, .rw, 0x0, true, false, false⟩
-- CORE_PART_SYN (03_neuron_cores.md R98)
def CORE_PART_SYN_SIZE : Fld := ⟨.CORE_PART_SYN, 31, 16, .rw, 0x0, true, false, false⟩
def CORE_PART_SYN_BASE : Fld := ⟨.CORE_PART_SYN, 14, 0, .rw, 0x0, true, false, false⟩
-- CORE_PART_LRN (03_neuron_cores.md R98)
def CORE_PART_LRN_SIZE : Fld := ⟨.CORE_PART_LRN, 31, 16, .rw, 0x0, true, false, false⟩
def CORE_PART_LRN_BASE : Fld := ⟨.CORE_PART_LRN, 14, 0, .rw, 0x0, true, false, false⟩
-- CORE_PART_SMD (03_neuron_cores.md R98)
def CORE_PART_SMD_SIZE : Fld := ⟨.CORE_PART_SMD, 31, 16, .rw, 0x0, true, false, false⟩
def CORE_PART_SMD_BASE : Fld := ⟨.CORE_PART_SMD, 14, 0, .rw, 0x0, true, false, false⟩
-- CORE_PART_OUT (03_neuron_cores.md R98)
def CORE_PART_OUT_SIZE : Fld := ⟨.CORE_PART_OUT, 31, 16, .rw, 0x0, true, false, false⟩
def CORE_PART_OUT_BASE : Fld := ⟨.CORE_PART_OUT, 14, 0, .rw, 0x0, true, false, false⟩
-- CORE_PART_MBX (03_neuron_cores.md R98)
def CORE_PART_MBX_SIZE : Fld := ⟨.CORE_PART_MBX, 31, 16, .rw, 0x0, true, false, false⟩
def CORE_PART_MBX_BASE : Fld := ⟨.CORE_PART_MBX, 14, 0, .rw, 0x0, true, false, false⟩
-- CORE_PART_SCR (03_neuron_cores.md R98)
def CORE_PART_SCR_SIZE : Fld := ⟨.CORE_PART_SCR, 31, 16, .rw, 0x0, true, false, false⟩
def CORE_PART_SCR_BASE : Fld := ⟨.CORE_PART_SCR, 14, 0, .rw, 0x0, true, false, false⟩
-- CORE_DISC_CNT (03_neuron_cores.md R98)
def CORE_DISC_CNT_DLY_CLAMP : Fld := ⟨.CORE_DISC_CNT, 47, 32, .w1cc, 0x0, false, false, false⟩
def CORE_DISC_CNT_OOR : Fld := ⟨.CORE_DISC_CNT, 31, 16, .w1cc, 0x0, false, false, false⟩
def CORE_DISC_CNT_DIS : Fld := ⟨.CORE_DISC_CNT, 15, 0, .w1cc, 0x0, false, false, false⟩
-- CORE_SPK_CNT (03_neuron_cores.md R98)
def CORE_SPK_CNT_PKT : Fld := ⟨.CORE_SPK_CNT, 63, 32, .w1cc, 0x0, false, false, false⟩
def CORE_SPK_CNT_SPK : Fld := ⟨.CORE_SPK_CNT, 31, 0, .w1cc, 0x0, false, false, false⟩
-- FOX_DEN_STAT (03_neuron_cores.md R98)
def FOX_DEN_STAT_MAX_OCC : Fld := ⟨.FOX_DEN_STAT, 31, 23, .w1cc, 0x0, false, false, false⟩
def FOX_DEN_STAT_OCC : Fld := ⟨.FOX_DEN_STAT, 22, 14, .ro, 0x0, false, false, false⟩
def FOX_DEN_STAT_OVF_CNT : Fld := ⟨.FOX_DEN_STAT, 13, 0, .w1cc, 0x0, false, false, false⟩
-- CORE_GRP_MODE (03_neuron_cores.md R98)
def CORE_GRP_MODE_BASE : Fld := ⟨.CORE_GRP_MODE, 63, 51, .rw, 0x0, true, false, false⟩
def CORE_GRP_MODE_COUNT : Fld := ⟨.CORE_GRP_MODE, 50, 37, .rw, 0x0, true, false, false⟩
def CORE_GRP_MODE_MODEL : Fld := ⟨.CORE_GRP_MODE, 36, 34, .rw, 0x0, true, false, false⟩
def CORE_GRP_MODE_FORMAT : Fld := ⟨.CORE_GRP_MODE, 33, 32, .rw, 0x0, true, false, false⟩
def CORE_GRP_MODE_SMD_DEPTH : Fld := ⟨.CORE_GRP_MODE, 31, 30, .rw, 0x0, true, false, false⟩
def CORE_GRP_MODE_RESET_MODE : Fld := ⟨.CORE_GRP_MODE, 29, 28, .rw, 0x0, false, false, false⟩
def CORE_GRP_MODE_ACT : Fld := ⟨.CORE_GRP_MODE, 27, 26, .rw, 0x0, false, false, false⟩
def CORE_GRP_MODE_GRADE : Fld := ⟨.CORE_GRP_MODE, 25, 24, .rw, 0x0, false, false, false⟩
def CORE_GRP_MODE_REF_PERIOD : Fld := ⟨.CORE_GRP_MODE, 23, 20, .rw, 0x0, false, false, false⟩
def CORE_GRP_MODE_TAU_V : Fld := ⟨.CORE_GRP_MODE, 19, 16, .rw, 0x0, false, false, false⟩
def CORE_GRP_MODE_TAU_I : Fld := ⟨.CORE_GRP_MODE, 15, 12, .rw, 0x0, false, false, false⟩
def CORE_GRP_MODE_TAU_A : Fld := ⟨.CORE_GRP_MODE, 11, 8, .rw, 0x0, false, false, false⟩
def CORE_GRP_MODE_TAU_D : Fld := ⟨.CORE_GRP_MODE, 7, 4, .rw, 0x0, false, false, false⟩
def CORE_GRP_MODE_GSHIFT : Fld := ⟨.CORE_GRP_MODE, 3, 0, .rw, 0x0, false, false, false⟩
-- CORE_GRP_LEVEL (03_neuron_cores.md R98)
def CORE_GRP_LEVEL_THETA : Fld := ⟨.CORE_GRP_LEVEL, 63, 40, .rw, 0x0, false, false, false⟩
def CORE_GRP_LEVEL_V_RESET : Fld := ⟨.CORE_GRP_LEVEL, 39, 16, .rw, 0x0, false, false, false⟩
def CORE_GRP_LEVEL_BIAS : Fld := ⟨.CORE_GRP_LEVEL, 15, 0, .rw, 0x0, false, false, false⟩
-- CORE_GRP_COEF (03_neuron_cores.md R98)
def CORE_GRP_COEF_RES_C : Fld := ⟨.CORE_GRP_COEF, 63, 48, .rw, 0x0, false, false, false⟩
def CORE_GRP_COEF_RES_S : Fld := ⟨.CORE_GRP_COEF, 47, 32, .rw, 0x0, false, false, false⟩
def CORE_GRP_COEF_ADAPT_INC : Fld := ⟨.CORE_GRP_COEF, 31, 24, .rw, 0x0, false, false, false⟩
def CORE_GRP_COEF_ADAPT_SHL : Fld := ⟨.CORE_GRP_COEF, 23, 20, .rw, 0x0, false, false, false⟩
def CORE_GRP_COEF_COUPLE_SHR : Fld := ⟨.CORE_GRP_COEF, 19, 16, .rw, 0x0, false, false, false⟩
def CORE_GRP_COEF_D_RESET : Fld := ⟨.CORE_GRP_COEF, 15, 15, .rw, 0x0, false, false, false⟩
def CORE_GRP_COEF_SMD_OFS : Fld := ⟨.CORE_GRP_COEF, 14, 0, .rw, 0x0, true, false, false⟩
-- CORE_GRP_CLAMP (03_neuron_cores.md R98)
def CORE_GRP_CLAMP_CLAMP_HI : Fld := ⟨.CORE_GRP_CLAMP, 63, 40, .rw, 0x0, false, false, false⟩
def CORE_GRP_CLAMP_CLAMP_LO : Fld := ⟨.CORE_GRP_CLAMP, 39, 16, .rw, 0x0, false, false, false⟩
def CORE_GRP_CLAMP_STATE_OFS : Fld := ⟨.CORE_GRP_CLAMP, 14, 0, .rw, 0x0, true, false, false⟩
-- CORE_GRP_OUT (03_neuron_cores.md R98)
def CORE_GRP_OUT_FAN_PER : Fld := ⟨.CORE_GRP_OUT, 31, 24, .rw, 0x0, true, false, false⟩
def CORE_GRP_OUT_OUT_OFS : Fld := ⟨.CORE_GRP_OUT, 14, 0, .rw, 0x0, true, false, false⟩
-- SYN_AXON_CFG (04_synapses_and_arithmetic.md R121)
def SYN_AXON_CFG_AXON_COUNT : Fld := ⟨.SYN_AXON_CFG, 31, 15, .rw, 0x0, true, false, false⟩
def SYN_AXON_CFG_AXON_OFS : Fld := ⟨.SYN_AXON_CFG, 14, 0, .rw, 0x0, true, false, false⟩
-- SYN_SCALE_CFG (04_synapses_and_arithmetic.md R121)
def SYN_SCALE_CFG_SCALE_EN : Fld := ⟨.SYN_SCALE_CFG, 31, 31, .rw, 0x0, true, false, false⟩
def SYN_SCALE_CFG_SCALE_OFS : Fld := ⟨.SYN_SCALE_CFG, 14, 0, .rw, 0x0, true, false, false⟩
-- SYN_COL_CFG (04_synapses_and_arithmetic.md R121)
def SYN_COL_CFG_COL_BASE : Fld := ⟨.SYN_COL_CFG, 63, 51, .rw, 0x0, true, false, false⟩
def SYN_COL_CFG_COL_COUNT : Fld := ⟨.SYN_COL_CFG, 50, 37, .rw, 0x0, true, false, false⟩
def SYN_COL_CFG_HDR_OFS : Fld := ⟨.SYN_COL_CFG, 29, 15, .rw, 0x0, true, false, false⟩
def SYN_COL_CFG_ENT_OFS : Fld := ⟨.SYN_COL_CFG, 14, 0, .rw, 0x0, true, false, false⟩
-- SYN_CORD_CFG (04_synapses_and_arithmetic.md R121)
def SYN_CORD_CFG_MODE : Fld := ⟨.SYN_CORD_CFG, 31, 29, .rw, 0x0, true, false, false⟩
def SYN_CORD_CFG_BASE : Fld := ⟨.SYN_CORD_CFG, 15, 0, .rw, 0x0, true, false, false⟩
-- SYN_SAT_CFG (04_synapses_and_arithmetic.md R121)
def SYN_SAT_CFG_EXCEED : Fld := ⟨.SYN_SAT_CFG, 11, 8, .w1c, 0x0, false, false, false⟩
def SYN_SAT_CFG_WIN : Fld := ⟨.SYN_SAT_CFG, 3, 0, .rw, 0x0, false, false, false⟩
-- SYN_AXON_CNT (04_synapses_and_arithmetic.md R121)
def SYN_AXON_CNT_ROWS : Fld := ⟨.SYN_AXON_CNT, 63, 32, .w1cc, 0x0, false, false, false⟩
def SYN_AXON_CNT_NOAXON : Fld := ⟨.SYN_AXON_CNT, 15, 0, .w1cc, 0x0, false, false, false⟩
-- SYN_SAT_CNT (04_synapses_and_arithmetic.md R121)
def SYN_SAT_CNT_GRAD : Fld := ⟨.SYN_SAT_CNT, 63, 48, .ro, 0x0, false, false, false⟩
def SYN_SAT_CNT_OUT : Fld := ⟨.SYN_SAT_CNT, 47, 32, .ro, 0x0, false, false, false⟩
def SYN_SAT_CNT_STATE : Fld := ⟨.SYN_SAT_CNT, 31, 16, .ro, 0x0, false, false, false⟩
def SYN_SAT_CNT_ACC : Fld := ⟨.SYN_SAT_CNT, 15, 0, .ro, 0x0, false, false, false⟩
-- SYN_SAT_THR (04_synapses_and_arithmetic.md R121)
def SYN_SAT_THR_GRAD : Fld := ⟨.SYN_SAT_THR, 63, 48, .rw, 0xFFFF, false, false, false⟩
def SYN_SAT_THR_OUT : Fld := ⟨.SYN_SAT_THR, 47, 32, .rw, 0xFFFF, false, false, false⟩
def SYN_SAT_THR_STATE : Fld := ⟨.SYN_SAT_THR, 31, 16, .rw, 0xFFFF, false, false, false⟩
def SYN_SAT_THR_ACC : Fld := ⟨.SYN_SAT_THR, 15, 0, .rw, 0xFFFF, false, false, false⟩
-- SYN_SAT_MAX (04_synapses_and_arithmetic.md R121)
def SYN_SAT_MAX_GRAD : Fld := ⟨.SYN_SAT_MAX, 63, 48, .w1cc, 0x0, false, false, false⟩
def SYN_SAT_MAX_OUT : Fld := ⟨.SYN_SAT_MAX, 47, 32, .w1cc, 0x0, false, false, false⟩
def SYN_SAT_MAX_STATE : Fld := ⟨.SYN_SAT_MAX, 31, 16, .w1cc, 0x0, false, false, false⟩
def SYN_SAT_MAX_ACC : Fld := ⟨.SYN_SAT_MAX, 15, 0, .w1cc, 0x0, false, false, false⟩
-- LRN_CFG (05_on_chip_learning.md R151)
def LRN_CFG_REGION : Fld := ⟨.LRN_CFG, 63, 61, .rw, 0x0, true, false, false⟩
def LRN_CFG_EN : Fld := ⟨.LRN_CFG, 60, 60, .rw, 0x0, true, false, false⟩
def LRN_CFG_TS_MODE : Fld := ⟨.LRN_CFG, 59, 59, .rw, 0x0, true, false, false⟩
def LRN_CFG_RULE : Fld := ⟨.LRN_CFG, 58, 57, .rw, 0x0, true, false, false⟩
def LRN_CFG_ELIG_SRC : Fld := ⟨.LRN_CFG, 56, 56, .rw, 0x0, true, false, false⟩
def LRN_CFG_PASS_M1 : Fld := ⟨.LRN_CFG, 55, 52, .rw, 0x0, true, false, false⟩
def LRN_CFG_PRE_DECAY : Fld := ⟨.LRN_CFG, 51, 49, .rw, 0x0, true, false, false⟩
def LRN_CFG_POST_DECAY : Fld := ⟨.LRN_CFG, 48, 46, .rw, 0x0, true, false, false⟩
def LRN_CFG_PAY_INC : Fld := ⟨.LRN_CFG, 45, 45, .rw, 0x0, true, false, false⟩
def LRN_CFG_PAY_SHR : Fld := ⟨.LRN_CFG, 44, 41, .rw, 0x0, true, false, false⟩
def LRN_CFG_TR_INC : Fld := ⟨.LRN_CFG, 40, 33, .rw, 0x0, true, false, false⟩
def LRN_CFG_E_DECAY : Fld := ⟨.LRN_CFG, 32, 29, .rw, 0x0, true, false, false⟩
def LRN_CFG_G_SHR : Fld := ⟨.LRN_CFG, 28, 25, .rw, 0x0, true, false, false⟩
def LRN_CFG_MOD_SHR : Fld := ⟨.LRN_CFG, 24, 21, .rw, 0x0, true, false, false⟩
def LRN_CFG_MOM_SHR : Fld := ⟨.LRN_CFG, 20, 17, .rw, 0x0, true, false, false⟩
-- LRN_PLASTIC (05_on_chip_learning.md R151)
def LRN_PLASTIC_PL_AXON_BASE : Fld := ⟨.LRN_PLASTIC, 63, 48, .rw, 0x0, true, false, false⟩
def LRN_PLASTIC_PL_AXON_COUNT : Fld := ⟨.LRN_PLASTIC, 47, 33, .rw, 0x0, true, false, false⟩
def LRN_PLASTIC_PL_SLOT_BASE : Fld := ⟨.LRN_PLASTIC, 31, 19, .rw, 0x0, true, false, false⟩
def LRN_PLASTIC_PL_SLOT_COUNT : Fld := ⟨.LRN_PLASTIC, 18, 5, .rw, 0x0, true, false, false⟩
-- LRN_LAYOUT0 (05_on_chip_learning.md R151)
def LRN_LAYOUT0_PRE_OFS : Fld := ⟨.LRN_LAYOUT0, 63, 49, .rw, 0x0, true, false, false⟩
def LRN_LAYOUT0_POST_OFS : Fld := ⟨.LRN_LAYOUT0, 48, 34, .rw, 0x0, true, false, false⟩
def LRN_LAYOUT0_MOD_OFS : Fld := ⟨.LRN_LAYOUT0, 33, 19, .rw, 0x0, true, false, false⟩
def LRN_LAYOUT0_RATE_OFS : Fld := ⟨.LRN_LAYOUT0, 18, 4, .rw, 0x0, true, false, false⟩
-- LRN_LAYOUT1 (05_on_chip_learning.md R151)
def LRN_LAYOUT1_KERN_OFS : Fld := ⟨.LRN_LAYOUT1, 63, 49, .rw, 0x0, true, false, false⟩
def LRN_LAYOUT1_PLANE_OFS : Fld := ⟨.LRN_LAYOUT1, 48, 34, .rw, 0x0, true, false, false⟩
def LRN_LAYOUT1_ESTRIDE : Fld := ⟨.LRN_LAYOUT1, 33, 23, .rw, 0x0, true, false, false⟩
-- LRN_SEED (05_on_chip_learning.md R151)
def LRN_SEED_STATE : Fld := ⟨.LRN_SEED, 63, 32, .ro, 0x0, false, false, false⟩
def LRN_SEED_SEED : Fld := ⟨.LRN_SEED, 31, 0, .rw, 0x0, true, false, false⟩
-- LRN_STAT (05_on_chip_learning.md R151)
def LRN_STAT_STATE : Fld := ⟨.LRN_STAT, 31, 30, .ro, 0x0, false, false, false⟩
def LRN_STAT_APPLY_BUSY : Fld := ⟨.LRN_STAT, 29, 29, .ro, 0x0, false, false, false⟩
def LRN_STAT_PASS_BUSY : Fld := ⟨.LRN_STAT, 28, 28, .ro, 0x0, false, false, false⟩
def LRN_STAT_SNAP_BUSY : Fld := ⟨.LRN_STAT, 27, 27, .ro, 0x0, false, false, false⟩
-- LRN_HOLD (05_on_chip_learning.md R151)
def LRN_HOLD_CORD_MAX : Fld := ⟨.LRN_HOLD, 31, 24, .w1cc, 0x0, false, false, false⟩
def LRN_HOLD_CORD_DROP : Fld := ⟨.LRN_HOLD, 15, 0, .w1cc, 0x0, false, false, false⟩
-- LRN_CNT (05_on_chip_learning.md R151)
def LRN_CNT_APPLIES : Fld := ⟨.LRN_CNT, 63, 32, .w1cc, 0x0, false, false, false⟩
def LRN_CNT_WITHHELD : Fld := ⟨.LRN_CNT, 31, 16, .w1cc, 0x0, false, false, false⟩
def LRN_CNT_TR_SAT : Fld := ⟨.LRN_CNT, 15, 0, .w1cc, 0x0, false, false, false⟩
-- LRN_TIME (05_on_chip_learning.md R151)
def LRN_TIME_MAX_APPLY : Fld := ⟨.LRN_TIME, 63, 48, .w1cc, 0x0, false, false, false⟩
def LRN_TIME_LAST_APPLY : Fld := ⟨.LRN_TIME, 47, 32, .ro, 0x0, false, false, false⟩
def LRN_TIME_MAX_PASS : Fld := ⟨.LRN_TIME, 31, 16, .w1cc, 0x0, false, false, false⟩
def LRN_TIME_LAST_PASS : Fld := ⟨.LRN_TIME, 15, 0, .ro, 0x0, false, false, false⟩
-- LRN_NORM (05_on_chip_learning.md R151)
def LRN_NORM_NORM_EN : Fld := ⟨.LRN_NORM, 31, 31, .rw, 0x0, true, false, false⟩
def LRN_NORM_NORM_SHL : Fld := ⟨.LRN_NORM, 19, 16, .rw, 0x0, true, false, false⟩
def LRN_NORM_NORM_TARGET : Fld := ⟨.LRN_NORM, 15, 0, .rw, 0x0, true, false, false⟩
-- LRN_REGION (05_on_chip_learning.md R151)
def LRN_REGION_EPOCH_STEPS : Fld := ⟨.LRN_REGION, 63, 48, .rw, 0x1, true, false, false⟩
def LRN_REGION_PHASE : Fld := ⟨.LRN_REGION, 47, 32, .rw, 0x0, true, false, false⟩
def LRN_REGION_STATE : Fld := ⟨.LRN_REGION, 31, 30, .ro, 0x0, false, false, false⟩
def LRN_REGION_INIT_STATE : Fld := ⟨.LRN_REGION, 29, 28, .rw, 0x0, true, false, false⟩
def LRN_REGION_SNAP_HOLD : Fld := ⟨.LRN_REGION, 25, 16, .ro, 0x0, false, false, false⟩
-- LRN_EPOCH (05_on_chip_learning.md R151)
def LRN_EPOCH_EPOCH : Fld := ⟨.LRN_EPOCH, 63, 0, .ro, 0x0, false, false, false⟩
-- LRN_SNAP_STAT (05_on_chip_learning.md R151)
def LRN_SNAP_STAT_BUSY : Fld := ⟨.LRN_SNAP_STAT, 31, 31, .ro, 0x0, false, false, false⟩
def LRN_SNAP_STAT_INCOMPLETE : Fld := ⟨.LRN_SNAP_STAT, 30, 30, .ro, 0x0, false, false, false⟩
def LRN_SNAP_STAT_REGION : Fld := ⟨.LRN_SNAP_STAT, 29, 27, .ro, 0x0, false, false, false⟩
def LRN_SNAP_STAT_WORDS : Fld := ⟨.LRN_SNAP_STAT, 26, 0, .ro, 0x0, false, false, false⟩
-- TND_CTRL (06_encoders_decoders_and_actuation.md R183)
def TND_CTRL_REPLAY_EN : Fld := ⟨.TND_CTRL, 0, 0, .rw, 0x0, true, false, false⟩
-- TND_STAT (06_encoders_decoders_and_actuation.md R183)
def TND_STAT_REPLAY_DONE : Fld := ⟨.TND_STAT, 31, 31, .ro, 0x0, false, false, false⟩
def TND_STAT_HOLD_FULL : Fld := ⟨.TND_STAT, 30, 30, .ro, 0x0, false, false, false⟩
def TND_STAT_HOLD_MAX : Fld := ⟨.TND_STAT, 29, 16, .w1cc, 0x0, false, false, false⟩
-- TND_SEED (06_encoders_decoders_and_actuation.md R183)
def TND_SEED_STATE : Fld := ⟨.TND_SEED, 63, 32, .ro, 0x0, false, false, false⟩
def TND_SEED_SEED : Fld := ⟨.TND_SEED, 31, 0, .rw, 0x0, true, false, false⟩
-- TND_REPLAY_BASE (06_encoders_decoders_and_actuation.md R183)
def TND_REPLAY_BASE_ADDR : Fld := ⟨.TND_REPLAY_BASE, 47, 0, .rw, 0x0, true, false, false⟩
-- TND_REPLAY_END (06_encoders_decoders_and_actuation.md R183)
def TND_REPLAY_END_ADDR : Fld := ⟨.TND_REPLAY_END, 47, 0, .rw, 0x0, true, false, false⟩
-- TND_CNT (06_encoders_decoders_and_actuation.md R183)
def TND_CNT_DISC : Fld := ⟨.TND_CNT, 63, 48, .w1cc, 0x0, false, false, false⟩
def TND_CNT_CLIP : Fld := ⟨.TND_CNT, 47, 32, .w1cc, 0x0, false, false, false⟩
def TND_CNT_EVENTS : Fld := ⟨.TND_CNT, 31, 0, .w1cc, 0x0, false, false, false⟩
-- TND_DIN_CFG (06_encoders_decoders_and_actuation.md R183)
def TND_DIN_CFG_TAG : Fld := ⟨.TND_DIN_CFG, 31, 20, .rw, 0x0, true, false, false⟩
def TND_DIN_CFG_EN : Fld := ⟨.TND_DIN_CFG, 19, 19, .rw, 0x0, true, false, false⟩
def TND_DIN_CFG_DEBOUNCE : Fld := ⟨.TND_DIN_CFG, 15, 8, .rw, 0x0, true, false, false⟩
def TND_DIN_CFG_LEVEL : Fld := ⟨.TND_DIN_CFG, 0, 0, .ro, 0x0, false, false, false⟩
-- TND_CHAN_A (06_encoders_decoders_and_actuation.md R183)
def TND_CHAN_A_WORD : Fld := ⟨.TND_CHAN_A, 63, 0, .rw, 0x0, true, false, false⟩
-- TND_CHAN_B (06_encoders_decoders_and_actuation.md R183)
def TND_CHAN_B_WORD : Fld := ⟨.TND_CHAN_B, 63, 0, .rw, 0x0, false, false, false⟩
-- TND_CHAN_STATE (06_encoders_decoders_and_actuation.md R183)
def TND_CHAN_STATE_PRIMED : Fld := ⟨.TND_CHAN_STATE, 63, 63, .ro, 0x0, false, false, false⟩
def TND_CHAN_STATE_REF : Fld := ⟨.TND_CHAN_STATE, 47, 32, .ro, 0x0, false, false, false⟩
def TND_CHAN_STATE_PER : Fld := ⟨.TND_CHAN_STATE, 31, 16, .ro, 0x0, false, false, false⟩
def TND_CHAN_STATE_ACC : Fld := ⟨.TND_CHAN_STATE, 15, 0, .ro, 0x0, false, false, false⟩
-- TND_REFSTORE (06_encoders_decoders_and_actuation.md R183)
def TND_REFSTORE_HI : Fld := ⟨.TND_REFSTORE, 31, 16, .rw, 0x0, true, false, false⟩
def TND_REFSTORE_LO : Fld := ⟨.TND_REFSTORE, 15, 0, .rw, 0x0, true, false, false⟩
-- ASH_CNT (06_encoders_decoders_and_actuation.md R183)
def ASH_CNT_NOLINE : Fld := ⟨.ASH_CNT, 63, 48, .w1cc, 0x0, false, false, false⟩
def ASH_CNT_LATE : Fld := ⟨.ASH_CNT, 47, 32, .w1cc, 0x0, false, false, false⟩
def ASH_CNT_SHED : Fld := ⟨.ASH_CNT, 31, 16, .w1cc, 0x0, false, false, false⟩
def ASH_CNT_RD_ERR : Fld := ⟨.ASH_CNT, 15, 0, .w1cc, 0x0, false, false, false⟩
-- ASH_REC_CNT (06_encoders_decoders_and_actuation.md R183)
def ASH_REC_CNT_CNT : Fld := ⟨.ASH_REC_CNT, 31, 0, .w1cc, 0x0, false, false, false⟩
-- ASH_METER_CFG (06_encoders_decoders_and_actuation.md R183)
def ASH_METER_CFG_TX_EN : Fld := ⟨.ASH_METER_CFG, 27, 27, .rw, 0x0, true, false, false⟩
def ASH_METER_CFG_TX_PORT : Fld := ⟨.ASH_METER_CFG, 26, 25, .rw, 0x0, true, false, false⟩
def ASH_METER_CFG_TX_VC : Fld := ⟨.ASH_METER_CFG, 24, 21, .rw, 0x0, true, false, false⟩
def ASH_METER_CFG_Q_EN : Fld := ⟨.ASH_METER_CFG, 20, 20, .rw, 0x0, true, false, false⟩
def ASH_METER_CFG_QID : Fld := ⟨.ASH_METER_CFG, 19, 0, .rw, 0x0, true, false, false⟩
-- ASH_DEC_CFG (06_encoders_decoders_and_actuation.md R183)
def ASH_DEC_CFG_KIND : Fld := ⟨.ASH_DEC_CFG, 63, 60, .rw, 0x0, true, false, false⟩
def ASH_DEC_CFG_LINE_BASE : Fld := ⟨.ASH_DEC_CFG, 59, 47, .rw, 0x0, true, false, false⟩
def ASH_DEC_CFG_PAY : Fld := ⟨.ASH_DEC_CFG, 34, 33, .rw, 0x0, true, false, false⟩
def ASH_DEC_CFG_TX_EN : Fld := ⟨.ASH_DEC_CFG, 32, 32, .rw, 0x0, true, false, false⟩
def ASH_DEC_CFG_TX_PORT : Fld := ⟨.ASH_DEC_CFG, 31, 30, .rw, 0x0, true, false, false⟩
def ASH_DEC_CFG_TX_VC : Fld := ⟨.ASH_DEC_CFG, 29, 26, .rw, 0x0, true, false, false⟩
def ASH_DEC_CFG_Q_EN : Fld := ⟨.ASH_DEC_CFG, 25, 25, .rw, 0x0, true, false, false⟩
def ASH_DEC_CFG_QID : Fld := ⟨.ASH_DEC_CFG, 24, 5, .rw, 0x0, true, false, false⟩
-- ASH_DEC_PAR (06_encoders_decoders_and_actuation.md R183)
def ASH_DEC_PAR_THR : Fld := ⟨.ASH_DEC_PAR, 63, 32, .rw, 0x0, false, false, false⟩
def ASH_DEC_PAR_CORE : Fld := ⟨.ASH_DEC_PAR, 31, 22, .rw, 0x0, true, false, false⟩
def ASH_DEC_PAR_WORD : Fld := ⟨.ASH_DEC_PAR, 21, 7, .rw, 0x0, true, false, false⟩
def ASH_DEC_PAR_STRIDE : Fld := ⟨.ASH_DEC_PAR, 6, 5, .rw, 0x0, true, false, false⟩
-- ASH_LINE_CNT (06_encoders_decoders_and_actuation.md R184)
def ASH_LINE_CNT_LINE_COUNT : Fld := ⟨.ASH_LINE_CNT, 13, 0, .rw, 0x0, true, false, false⟩
-- ASH_LINE_CODE (06_encoders_decoders_and_actuation.md R183)
def ASH_LINE_CODE_HI : Fld := ⟨.ASH_LINE_CODE, 31, 16, .rw, 0x0, true, false, false⟩
def ASH_LINE_CODE_LO : Fld := ⟨.ASH_LINE_CODE, 15, 0, .rw, 0x0, true, false, false⟩
-- ACT_ARM (06_encoders_decoders_and_actuation.md R183)
def ACT_ARM_ARM : Fld := ⟨.ACT_ARM, 15, 0, .rw, 0x0, false, false, false⟩
-- ACT_STAT (06_encoders_decoders_and_actuation.md R183)
def ACT_STAT_PERMIT : Fld := ⟨.ACT_STAT, 16, 16, .ro, 0x0, false, false, false⟩
def ACT_STAT_LEVEL : Fld := ⟨.ACT_STAT, 15, 0, .ro, 0x0, false, false, false⟩
-- ACT_MISS_CNT (06_encoders_decoders_and_actuation.md R183)
def ACT_MISS_CNT_CNT : Fld := ⟨.ACT_MISS_CNT, 31, 0, .w1cc, 0x0, false, false, false⟩
-- ACT_CFG (06_encoders_decoders_and_actuation.md R183)
def ACT_CFG_DEC : Fld := ⟨.ACT_CFG, 63, 56, .rw, 0x0, true, false, false⟩
def ACT_CFG_EN : Fld := ⟨.ACT_CFG, 55, 55, .rw, 0x0, true, false, false⟩
def ACT_CFG_PERMIT_EN : Fld := ⟨.ACT_CFG, 54, 54, .rw, 0x0, true, false, false⟩
def ACT_CFG_HOLD : Fld := ⟨.ACT_CFG, 53, 53, .rw, 0x0, true, false, false⟩
def ACT_CFG_OFFSET : Fld := ⟨.ACT_CFG, 52, 39, .rw, 0x0, true, false, false⟩
def ACT_CFG_WIDTH : Fld := ⟨.ACT_CFG, 38, 25, .rw, 0x0, true, false, false⟩
-- FOX_SEED (07_event_network.md R221)
def FOX_SEED_STATE : Fld := ⟨.FOX_SEED, 63, 32, .ro, 0x0, false, false, false⟩
def FOX_SEED_SEED : Fld := ⟨.FOX_SEED, 31, 0, .rw, 0x0, true, false, false⟩
-- FOX_RT_CFG (07_event_network.md R221)
def FOX_RT_CFG_BCAST_MASK : Fld := ⟨.FOX_RT_CFG, 7, 0, .rw, 0xFF, true, false, false⟩
-- FOX_RT_STAT (07_event_network.md R221)
def FOX_RT_STAT_TILE : Fld := ⟨.FOX_RT_STAT, 31, 21, .ro, 0x0, false, false, true⟩
def FOX_RT_STAT_GATEWAY : Fld := ⟨.FOX_RT_STAT, 5, 5, .ro, 0x0, false, false, true⟩
def FOX_RT_STAT_LINK_DOWN : Fld := ⟨.FOX_RT_STAT, 4, 0, .ro, 0x0, false, false, false⟩
-- FOX_RT_CNT (07_event_network.md R221)
def FOX_RT_CNT_CORR : Fld := ⟨.FOX_RT_CNT, 63, 48, .w1cc, 0x0, false, false, false⟩
def FOX_RT_CNT_RETRY : Fld := ⟨.FOX_RT_CNT, 47, 32, .w1cc, 0x0, false, false, false⟩
def FOX_RT_CNT_REDIR : Fld := ⟨.FOX_RT_CNT, 31, 16, .w1cc, 0x0, false, false, false⟩
def FOX_RT_CNT_TOK_MAX : Fld := ⟨.FOX_RT_CNT, 15, 8, .w1cc, 0x0, false, false, false⟩
def FOX_RT_CNT_TOK_OCC : Fld := ⟨.FOX_RT_CNT, 7, 0, .ro, 0x0, false, false, false⟩
-- FOX_PV_FLIT_CNT (07_event_network.md R221)
def FOX_PV_FLIT_CNT_FLITS : Fld := ⟨.FOX_PV_FLIT_CNT, 63, 0, .w1cc, 0x0, false, true, false⟩
-- FOX_PV_PKT_CNT (07_event_network.md R221)
def FOX_PV_PKT_CNT_PKTS : Fld := ⟨.FOX_PV_PKT_CNT, 31, 0, .w1cc, 0x0, false, true, false⟩
-- FOX_PV_OCC (07_event_network.md R221)
def FOX_PV_OCC_MAX_OCC : Fld := ⟨.FOX_PV_OCC, 15, 8, .w1cc, 0x0, false, false, false⟩
def FOX_PV_OCC_OCC : Fld := ⟨.FOX_PV_OCC, 7, 0, .ro, 0x0, false, false, false⟩
-- FOX_PV_CSTALL (07_event_network.md R221)
def FOX_PV_CSTALL_CYC : Fld := ⟨.FOX_PV_CSTALL, 31, 0, .w1cc, 0x0, false, false, false⟩
-- FOX_PV_BSTALL (07_event_network.md R221)
def FOX_PV_BSTALL_CYC : Fld := ⟨.FOX_PV_BSTALL, 31, 0, .w1cc, 0x0, false, false, false⟩
-- FOX_PV_OSTALL (07_event_network.md R221)
def FOX_PV_OSTALL_CYC : Fld := ⟨.FOX_PV_OSTALL, 31, 0, .w1cc, 0x0, false, false, false⟩
-- FOX_PV_ERR (07_event_network.md R221)
def FOX_PV_ERR_NACK_CNT : Fld := ⟨.FOX_PV_ERR, 31, 16, .w1cc, 0x0, false, false, false⟩
def FOX_PV_ERR_DROP_CNT : Fld := ⟨.FOX_PV_ERR, 15, 0, .w1cc, 0x0, false, false, false⟩
-- FOX_PHYS_SEL (07_event_network.md R221)
def FOX_PHYS_SEL_TILE : Fld := ⟨.FOX_PHYS_SEL, 7, 0, .rw, 0x0, false, false, false⟩
-- FOX_ES_PV_FLIT_CNT (07_event_network.md R221)
def FOX_ES_PV_FLIT_CNT_FLITS : Fld := ⟨.FOX_ES_PV_FLIT_CNT, 63, 0, .w1cc, 0x0, false, true, false⟩
-- FOX_ES_PV_PKT_CNT (07_event_network.md R221)
def FOX_ES_PV_PKT_CNT_PKTS : Fld := ⟨.FOX_ES_PV_PKT_CNT, 31, 0, .w1cc, 0x0, false, true, false⟩
-- FOX_ES_PV_OCC (07_event_network.md R221)
def FOX_ES_PV_OCC_MAX_OCC : Fld := ⟨.FOX_ES_PV_OCC, 15, 8, .w1cc, 0x0, false, false, false⟩
def FOX_ES_PV_OCC_OCC : Fld := ⟨.FOX_ES_PV_OCC, 7, 0, .ro, 0x0, false, false, false⟩
-- FOX_ES_PV_CSTALL (07_event_network.md R221)
def FOX_ES_PV_CSTALL_CYC : Fld := ⟨.FOX_ES_PV_CSTALL, 31, 0, .w1cc, 0x0, false, false, false⟩
-- FOX_ES_PV_BSTALL (07_event_network.md R221)
def FOX_ES_PV_BSTALL_CYC : Fld := ⟨.FOX_ES_PV_BSTALL, 31, 0, .w1cc, 0x0, false, false, false⟩
-- FOX_ES_PV_OSTALL (07_event_network.md R221)
def FOX_ES_PV_OSTALL_CYC : Fld := ⟨.FOX_ES_PV_OSTALL, 31, 0, .w1cc, 0x0, false, false, false⟩
-- FOX_ES_PV_ERR (07_event_network.md R221)
def FOX_ES_PV_ERR_NACK_CNT : Fld := ⟨.FOX_ES_PV_ERR, 31, 16, .w1cc, 0x0, false, false, false⟩
def FOX_ES_PV_ERR_DROP_CNT : Fld := ⟨.FOX_ES_PV_ERR, 15, 0, .w1cc, 0x0, false, false, false⟩
-- FOX_ES_CNT (07_event_network.md R221)
def FOX_ES_CNT_CORR : Fld := ⟨.FOX_ES_CNT, 63, 48, .w1cc, 0x0, false, false, false⟩
def FOX_ES_CNT_RETRY : Fld := ⟨.FOX_ES_CNT, 47, 32, .w1cc, 0x0, false, false, false⟩
def FOX_ES_CNT_TOK_MAX : Fld := ⟨.FOX_ES_CNT, 15, 8, .w1cc, 0x0, false, false, false⟩
def FOX_ES_CNT_TOK_OCC : Fld := ⟨.FOX_ES_CNT, 7, 0, .ro, 0x0, false, false, false⟩
-- FOX_GW_SEED (07_event_network.md R221)
def FOX_GW_SEED_STATE : Fld := ⟨.FOX_GW_SEED, 63, 32, .ro, 0x0, false, false, false⟩
def FOX_GW_SEED_SEED : Fld := ⟨.FOX_GW_SEED, 31, 0, .rw, 0x0, true, false, false⟩
-- FOX_GW_CFG (07_event_network.md R221)
def FOX_GW_CFG_BCAST_MASK : Fld := ⟨.FOX_GW_CFG, 7, 0, .rw, 0xFF, true, false, false⟩
-- CORD_CTRL (08_scheduled_plane.md R242)
def CORD_CTRL_MISS_THR : Fld := ⟨.CORD_CTRL, 31, 24, .rw, 0x0, true, false, false⟩
def CORD_CTRL_REGION : Fld := ⟨.CORD_CTRL, 16, 16, .rw, 0x0, true, false, false⟩
def CORD_CTRL_RUNS : Fld := ⟨.CORD_CTRL, 15, 12, .rw, 0x0, true, false, false⟩
def CORD_CTRL_START : Fld := ⟨.CORD_CTRL, 7, 0, .rw, 0x0, true, false, false⟩
-- CORD_STAT (08_scheduled_plane.md R242)
def CORD_STAT_BUSY : Fld := ⟨.CORD_STAT, 31, 31, .ro, 0x0, false, false, false⟩
def CORD_STAT_READY : Fld := ⟨.CORD_STAT, 30, 30, .ro, 0x0, false, false, false⟩
def CORD_STAT_MAX_MISS : Fld := ⟨.CORD_STAT, 15, 8, .w1cc, 0x0, false, false, false⟩
def CORD_STAT_LAST_MISS : Fld := ⟨.CORD_STAT, 7, 0, .ro, 0x0, false, false, false⟩
-- CORD_MISS_CNT (08_scheduled_plane.md R242)
def CORD_MISS_CNT_CNT : Fld := ⟨.CORD_MISS_CNT, 31, 0, .w1cc, 0x0, false, false, false⟩
-- CORD_LOST_CNT (08_scheduled_plane.md R242)
def CORD_LOST_CNT_CNT : Fld := ⟨.CORD_LOST_CNT, 31, 0, .w1cc, 0x0, false, false, false⟩
-- CORD_BYPASS (08_scheduled_plane.md R242)
def CORD_BYPASS_BYPASS : Fld := ⟨.CORD_BYPASS, 16, 0, .ro, 0x10000, false, false, false⟩
-- CORD_SEND_CFG (08_scheduled_plane.md R242)
def CORD_SEND_CFG_MODE : Fld := ⟨.CORD_SEND_CFG, 31, 29, .rw, 0x0, true, false, false⟩
def CORD_SEND_CFG_SIGNED : Fld := ⟨.CORD_SEND_CFG, 28, 28, .rw, 0x0, true, false, false⟩
def CORD_SEND_CFG_SBASE : Fld := ⟨.CORD_SEND_CFG, 26, 14, .rw, 0x0, true, false, false⟩
def CORD_SEND_CFG_SCOUNT : Fld := ⟨.CORD_SEND_CFG, 13, 0, .rw, 0x0, true, false, false⟩
-- CORD_PORT_STAT (08_scheduled_plane.md R242)
def CORD_PORT_STAT_READY : Fld := ⟨.CORD_PORT_STAT, 31, 31, .ro, 0x0, false, false, false⟩
def CORD_PORT_STAT_SEND_WORDS : Fld := ⟨.CORD_PORT_STAT, 24, 16, .ro, 0x0, false, false, false⟩
def CORD_PORT_STAT_RX_MAX : Fld := ⟨.CORD_PORT_STAT, 15, 8, .w1cc, 0x0, false, false, false⟩
def CORD_PORT_STAT_RX_OCC : Fld := ⟨.CORD_PORT_STAT, 5, 0, .ro, 0x0, false, false, false⟩
-- CORD_CNT (08_scheduled_plane.md R242)
def CORD_CNT_SLOT_MISS_CNT : Fld := ⟨.CORD_CNT, 63, 48, .w1cc, 0x0, false, false, false⟩
def CORD_CNT_RX_DROP : Fld := ⟨.CORD_CNT, 47, 32, .w1cc, 0x0, false, false, false⟩
def CORD_CNT_ERR : Fld := ⟨.CORD_CNT, 31, 16, .w1cc, 0x0, false, false, false⟩
def CORD_CNT_CORR : Fld := ⟨.CORD_CNT, 15, 0, .w1cc, 0x0, false, false, false⟩
-- CORD_PORT_CNT (08_scheduled_plane.md R242)
def CORD_PORT_CNT_LOCAL_IN : Fld := ⟨.CORD_PORT_CNT, 28, 16, .ro, 0x0, false, false, false⟩
def CORD_PORT_CNT_LOCAL_OUT : Fld := ⟨.CORD_PORT_CNT, 12, 0, .ro, 0x0, false, false, false⟩
-- CORD_ARM (08_scheduled_plane.md R242)
def CORD_ARM_ARM : Fld := ⟨.CORD_ARM, 0, 0, .w1c, 0x0, false, false, false⟩
-- CORD_LOAD_MASK (08_scheduled_plane.md R242)
def CORD_LOAD_MASK_MASK : Fld := ⟨.CORD_LOAD_MASK, 63, 0, .wo, 0x0, false, false, false⟩
-- CORD_TABLE (08_scheduled_plane.md R242)
def CORD_TABLE_ENTRY : Fld := ⟨.CORD_TABLE, 63, 0, .rw, 0x0, true, false, false⟩
-- CORD_TABLE_BC (08_scheduled_plane.md R242)
def CORD_TABLE_BC_ENTRY : Fld := ⟨.CORD_TABLE_BC, 63, 0, .wo, 0x0, true, false, false⟩
-- DREY_CTRL (09_queues.md R266)
def DREY_CTRL_REASM_LIMIT : Fld := ⟨.DREY_CTRL, 15, 0, .rw, 0x3E8, true, false, false⟩
-- DREY_STAT (09_queues.md R266)
def DREY_STAT_REASM_ACT : Fld := ⟨.DREY_STAT, 31, 21, .ro, 0x0, false, false, false⟩
def DREY_STAT_MISS_OCC : Fld := ⟨.DREY_STAT, 20, 12, .ro, 0x0, false, false, false⟩
-- DREY_DESC_BASE (09_queues.md R266)
def DREY_DESC_BASE_ADDR : Fld := ⟨.DREY_DESC_BASE, 47, 0, .rw, 0x1000000000, true, false, false⟩
-- DREY_OP_CNT (09_queues.md R266)
def DREY_OP_CNT_RECORDS : Fld := ⟨.DREY_OP_CNT, 63, 32, .w1cc, 0x0, false, false, false⟩
def DREY_OP_CNT_OPS : Fld := ⟨.DREY_OP_CNT, 31, 0, .w1cc, 0x0, false, false, false⟩
-- DREY_CACHE_CNT (09_queues.md R266)
def DREY_CACHE_CNT_HITS : Fld := ⟨.DREY_CACHE_CNT, 63, 32, .w1cc, 0x0, false, false, false⟩
def DREY_CACHE_CNT_MISSES : Fld := ⟨.DREY_CACHE_CNT, 31, 0, .w1cc, 0x0, false, false, false⟩
-- DREY_NACK_CNT0 (09_queues.md R266)
def DREY_NACK_CNT0_RING_FULL : Fld := ⟨.DREY_NACK_CNT0, 63, 48, .w1cc, 0x0, false, false, false⟩
def DREY_NACK_CNT0_QUEUE_CLOSED : Fld := ⟨.DREY_NACK_CNT0, 47, 32, .w1cc, 0x0, false, false, false⟩
def DREY_NACK_CNT0_NOT_BOUND : Fld := ⟨.DREY_NACK_CNT0, 31, 16, .w1cc, 0x0, false, false, false⟩
def DREY_NACK_CNT0_TOO_LONG : Fld := ⟨.DREY_NACK_CNT0, 15, 0, .w1cc, 0x0, false, false, false⟩
-- DREY_NACK_CNT1 (09_queues.md R266)
def DREY_NACK_CNT1_NOT_PERMITTED : Fld := ⟨.DREY_NACK_CNT1, 63, 48, .w1cc, 0x0, false, false, false⟩
def DREY_NACK_CNT1_BAD_LENGTH : Fld := ⟨.DREY_NACK_CNT1, 47, 32, .w1cc, 0x0, false, false, false⟩
def DREY_NACK_CNT1_ADDR_ERROR : Fld := ⟨.DREY_NACK_CNT1, 31, 16, .w1cc, 0x0, false, false, false⟩
def DREY_NACK_CNT1_SHED : Fld := ⟨.DREY_NACK_CNT1, 15, 0, .w1cc, 0x0, false, false, false⟩
-- DREY_MISC_CNT (09_queues.md R266)
def DREY_MISC_CNT_REASM_TO : Fld := ⟨.DREY_MISC_CNT, 63, 48, .w1cc, 0x0, false, false, false⟩
def DREY_MISC_CNT_FLUSH_LOST : Fld := ⟨.DREY_MISC_CNT, 47, 32, .w1cc, 0x0, false, false, false⟩
def DREY_MISC_CNT_COMB_LATE : Fld := ⟨.DREY_MISC_CNT, 31, 16, .w1cc, 0x0, false, false, false⟩
def DREY_MISC_CNT_DATA_ERROR : Fld := ⟨.DREY_MISC_CNT, 15, 0, .w1cc, 0x0, false, false, false⟩
-- DREY_LAST_NACK (09_queues.md R266)
def DREY_LAST_NACK_REASON : Fld := ⟨.DREY_LAST_NACK, 63, 48, .ro, 0x0, false, false, false⟩
def DREY_LAST_NACK_SRC : Fld := ⟨.DREY_LAST_NACK, 47, 35, .ro, 0x0, false, false, false⟩
def DREY_LAST_NACK_QID : Fld := ⟨.DREY_LAST_NACK, 19, 0, .ro, 0x0, false, false, false⟩
-- DREY_QSEL (09_queues.md R266)
def DREY_QSEL_QID : Fld := ⟨.DREY_QSEL, 19, 0, .rw, 0x0, false, false, false⟩
-- DREY_QCMD (09_queues.md R266)
def DREY_QCMD_BUSY : Fld := ⟨.DREY_QCMD, 31, 31, .ro, 0x0, false, false, false⟩
def DREY_QCMD_CMD : Fld := ⟨.DREY_QCMD, 19, 16, .rw, 0x0, false, false, false⟩
def DREY_QCMD_REASON : Fld := ⟨.DREY_QCMD, 15, 0, .ro, 0x0, false, false, false⟩
-- DREY_QARG (09_queues.md R266)
def DREY_QARG_RD : Fld := ⟨.DREY_QARG, 31, 0, .rw, 0x0, false, false, false⟩
-- DREY_QDESC (09_queues.md R266)
def DREY_QDESC_WORD : Fld := ⟨.DREY_QDESC, 63, 0, .rw, 0x0, false, false, false⟩
-- DREY_CFG_QID (09_queues.md R266)
def DREY_CFG_QID_QID : Fld := ⟨.DREY_CFG_QID, 19, 0, .ro, 0x0, false, false, false⟩
-- DREY_MBX_CNT (09_queues.md R266)
def DREY_MBX_CNT_RING_FULL : Fld := ⟨.DREY_MBX_CNT, 63, 48, .w1cc, 0x0, false, false, false⟩
def DREY_MBX_CNT_QUEUE_CLOSED : Fld := ⟨.DREY_MBX_CNT, 47, 32, .w1cc, 0x0, false, false, false⟩
def DREY_MBX_CNT_OTHER : Fld := ⟨.DREY_MBX_CNT, 31, 16, .w1cc, 0x0, false, false, false⟩
def DREY_MBX_CNT_TOO_LONG : Fld := ⟨.DREY_MBX_CNT, 15, 0, .w1cc, 0x0, false, false, false⟩
-- MEM_SRAM_SCRUB (10_memory_system.md R288)
def MEM_SRAM_SCRUB_EN : Fld := ⟨.MEM_SRAM_SCRUB, 31, 31, .rw, 0x1, false, false, false⟩
def MEM_SRAM_SCRUB_GAP : Fld := ⟨.MEM_SRAM_SCRUB, 7, 0, .rw, 0x40, false, false, false⟩
-- MEM_SRAM_CNT (10_memory_system.md R288)
def MEM_SRAM_CNT_CORR : Fld := ⟨.MEM_SRAM_CNT, 63, 48, .w1cc, 0x0, false, false, false⟩
def MEM_SRAM_CNT_UNCORR : Fld := ⟨.MEM_SRAM_CNT, 47, 32, .w1cc, 0x0, false, false, false⟩
def MEM_SRAM_CNT_SYNDROME : Fld := ⟨.MEM_SRAM_CNT, 31, 16, .ro, 0x0, false, false, false⟩
def MEM_SRAM_CNT_WORD : Fld := ⟨.MEM_SRAM_CNT, 14, 0, .ro, 0x0, false, false, false⟩
-- MEM_CFG (10_memory_system.md R288)
def MEM_CFG_RATE : Fld := ⟨.MEM_CFG, 3, 2, .ro, 0x0, false, false, false⟩
def MEM_CFG_DENSITY : Fld := ⟨.MEM_CFG, 1, 1, .ro, 0x0, false, false, false⟩
-- MEM_STAT (10_memory_system.md R288)
def MEM_STAT_TRAINED : Fld := ⟨.MEM_STAT, 31, 31, .ro, 0x0, false, false, false⟩
def MEM_STAT_SELF_REF : Fld := ⟨.MEM_STAT, 30, 30, .ro, 0x0, false, false, false⟩
def MEM_STAT_HOT : Fld := ⟨.MEM_STAT, 29, 29, .ro, 0x0, false, false, false⟩
def MEM_STAT_DEGRADED : Fld := ⟨.MEM_STAT, 28, 28, .ro, 0x0, false, false, false⟩
def MEM_STAT_FAILED : Fld := ⟨.MEM_STAT, 27, 27, .ro, 0x0, false, false, false⟩
def MEM_STAT_RETIRED : Fld := ⟨.MEM_STAT, 1, 0, .ro, 0x0, false, false, false⟩
-- MEM_RETIRE (10_memory_system.md R288)
def MEM_RETIRE_V1 : Fld := ⟨.MEM_RETIRE, 31, 31, .ro, 0x0, false, false, false⟩
def MEM_RETIRE_POS1 : Fld := ⟨.MEM_RETIRE, 30, 24, .ro, 0x0, false, false, false⟩
def MEM_RETIRE_V0 : Fld := ⟨.MEM_RETIRE, 23, 23, .ro, 0x0, false, false, false⟩
def MEM_RETIRE_POS0 : Fld := ⟨.MEM_RETIRE, 22, 16, .ro, 0x0, false, false, false⟩
-- MEM_PIN_CFG (10_memory_system.md R288)
def MEM_PIN_CFG_PIN_THR : Fld := ⟨.MEM_PIN_CFG, 15, 0, .rw, 0x40, false, false, false⟩
-- MEM_ECC_CNT (10_memory_system.md R288)
def MEM_ECC_CNT_CORR : Fld := ⟨.MEM_ECC_CNT, 63, 32, .w1cc, 0x0, false, false, false⟩
def MEM_ECC_CNT_UNCORR : Fld := ⟨.MEM_ECC_CNT, 31, 16, .w1cc, 0x0, false, false, false⟩
def MEM_ECC_CNT_RAW_KEEP : Fld := ⟨.MEM_ECC_CNT, 15, 0, .w1cc, 0x0, false, false, false⟩
-- MEM_EDC_CNT (10_memory_system.md R288)
def MEM_EDC_CNT_RD_REPLAY : Fld := ⟨.MEM_EDC_CNT, 63, 32, .w1cc, 0x0, false, false, false⟩
def MEM_EDC_CNT_WR_REPLAY : Fld := ⟨.MEM_EDC_CNT, 31, 16, .w1cc, 0x0, false, false, false⟩
def MEM_EDC_CNT_GIVEUP : Fld := ⟨.MEM_EDC_CNT, 15, 0, .w1cc, 0x0, false, false, false⟩
-- MEM_ERR_LOG (10_memory_system.md R288)
def MEM_ERR_LOG_SYNDROME : Fld := ⟨.MEM_ERR_LOG, 63, 48, .ro, 0x0, false, false, false⟩
def MEM_ERR_LOG_TYPE : Fld := ⟨.MEM_ERR_LOG, 47, 46, .ro, 0x0, false, false, false⟩
def MEM_ERR_LOG_OFFSET : Fld := ⟨.MEM_ERR_LOG, 32, 0, .ro, 0x0, false, false, false⟩
-- MEM_SCRUB_CFG (10_memory_system.md R288)
def MEM_SCRUB_CFG_EN : Fld := ⟨.MEM_SCRUB_CFG, 31, 31, .rw, 0x1, false, false, false⟩
def MEM_SCRUB_CFG_INTERVAL : Fld := ⟨.MEM_SCRUB_CFG, 15, 0, .rw, 0x1, false, false, false⟩
-- MEM_LANE_MASK (10_memory_system.md R288)
def MEM_LANE_MASK_DBI_OFF : Fld := ⟨.MEM_LANE_MASK, 25, 16, .ro, 0x0, false, false, false⟩
def MEM_LANE_MASK_EDC_OFF : Fld := ⟨.MEM_LANE_MASK, 9, 0, .ro, 0x0, false, false, false⟩
-- CSIRX_CTX_CFG (11_csi2_ports.md R314)
def CSIRX_CTX_CFG_EN : Fld := ⟨.CSIRX_CTX_CFG, 63, 63, .rw, 0x0, true, false, false⟩
def CSIRX_CTX_CFG_KIND : Fld := ⟨.CSIRX_CTX_CFG, 62, 60, .rw, 0x0, true, false, false⟩
def CSIRX_CTX_CFG_PORT : Fld := ⟨.CSIRX_CTX_CFG, 59, 57, .rw, 0x0, true, false, false⟩
def CSIRX_CTX_CFG_VC : Fld := ⟨.CSIRX_CTX_CFG, 56, 53, .rw, 0x0, true, false, false⟩
def CSIRX_CTX_CFG_DT : Fld := ⟨.CSIRX_CTX_CFG, 52, 47, .rw, 0x0, true, false, false⟩
def CSIRX_CTX_CFG_TAG_BASE : Fld := ⟨.CSIRX_CTX_CFG, 46, 35, .rw, 0x0, true, false, false⟩
def CSIRX_CTX_CFG_TAG_COUNT : Fld := ⟨.CSIRX_CTX_CFG, 34, 22, .rw, 0x0, true, false, false⟩
def CSIRX_CTX_CFG_LOSS_FR : Fld := ⟨.CSIRX_CTX_CFG, 21, 18, .rw, 0x2, true, false, false⟩
def CSIRX_CTX_CFG_AHEAD : Fld := ⟨.CSIRX_CTX_CFG, 17, 14, .rw, 0x2, true, false, false⟩
def CSIRX_CTX_CFG_PSHIFT : Fld := ⟨.CSIRX_CTX_CFG, 13, 10, .rw, 0x0, true, false, false⟩
def CSIRX_CTX_CFG_LAG : Fld := ⟨.CSIRX_CTX_CFG, 9, 6, .rw, 0x0, true, false, false⟩
-- CSIRX_CTX_SEQ (11_csi2_ports.md R314)
def CSIRX_CTX_SEQ_SEQ_ORIGIN : Fld := ⟨.CSIRX_CTX_SEQ, 63, 32, .rw, 0x0, true, false, false⟩
def CSIRX_CTX_SEQ_ANCHOR : Fld := ⟨.CSIRX_CTX_SEQ, 31, 31, .rw, 0x0, true, false, false⟩
def CSIRX_CTX_SEQ_RATE : Fld := ⟨.CSIRX_CTX_SEQ, 23, 0, .rw, 0x0, true, false, false⟩
-- CSIRX_CTX_BUF (11_csi2_ports.md R314)
def CSIRX_CTX_BUF_SIZE : Fld := ⟨.CSIRX_CTX_BUF, 31, 16, .rw, 0x0, true, false, false⟩
def CSIRX_CTX_BUF_BASE : Fld := ⟨.CSIRX_CTX_BUF, 14, 0, .rw, 0x0, true, false, false⟩
-- CSIRX_CTX_PARAM (11_csi2_ports.md R314)
def CSIRX_CTX_PARAM_WIDTH : Fld := ⟨.CSIRX_CTX_PARAM, 31, 16, .rw, 0x0, true, false, false⟩
def CSIRX_CTX_PARAM_BUDGET : Fld := ⟨.CSIRX_CTX_PARAM, 15, 0, .rw, 0x0, true, false, false⟩
-- CSIRX_CTX_STAT (11_csi2_ports.md R314)
def CSIRX_CTX_STAT_LOSS : Fld := ⟨.CSIRX_CTX_STAT, 63, 63, .w1c, 0x0, false, false, false⟩
def CSIRX_CTX_STAT_ANCHORED : Fld := ⟨.CSIRX_CTX_STAT, 62, 62, .ro, 0x0, false, false, false⟩
def CSIRX_CTX_STAT_BUF_MAX : Fld := ⟨.CSIRX_CTX_STAT, 31, 16, .w1cc, 0x0, false, false, false⟩
def CSIRX_CTX_STAT_BUF_OCC : Fld := ⟨.CSIRX_CTX_STAT, 15, 0, .ro, 0x0, false, false, false⟩
-- CSIRX_CTX_CNT0 (11_csi2_ports.md R314)
def CSIRX_CTX_CNT0_PKTS : Fld := ⟨.CSIRX_CTX_CNT0, 63, 32, .w1cc, 0x0, false, false, false⟩
def CSIRX_CTX_CNT0_OVF : Fld := ⟨.CSIRX_CTX_CNT0, 31, 16, .w1cc, 0x0, false, false, false⟩
def CSIRX_CTX_CNT0_GAP : Fld := ⟨.CSIRX_CTX_CNT0, 15, 0, .w1cc, 0x0, false, false, false⟩
-- CSIRX_CTX_CNT1 (11_csi2_ports.md R314)
def CSIRX_CTX_CNT1_LATE : Fld := ⟨.CSIRX_CTX_CNT1, 63, 48, .w1cc, 0x0, false, false, false⟩
def CSIRX_CTX_CNT1_AHEAD_DROP : Fld := ⟨.CSIRX_CTX_CNT1, 47, 32, .w1cc, 0x0, false, false, false⟩
def CSIRX_CTX_CNT1_FMT_ERR : Fld := ⟨.CSIRX_CTX_CNT1, 31, 16, .w1cc, 0x0, false, false, false⟩
def CSIRX_CTX_CNT1_SAT : Fld := ⟨.CSIRX_CTX_CNT1, 15, 0, .w1cc, 0x0, false, false, false⟩
-- CSITX_RELAY_CFG (11_csi2_ports.md R314)
def CSITX_RELAY_CFG_EN : Fld := ⟨.CSITX_RELAY_CFG, 31, 31, .rw, 0x0, false, false, false⟩
def CSITX_RELAY_CFG_RX_PORT : Fld := ⟨.CSITX_RELAY_CFG, 30, 28, .rw, 0x0, false, false, false⟩
def CSITX_RELAY_CFG_RX_VC : Fld := ⟨.CSITX_RELAY_CFG, 27, 24, .rw, 0x0, false, false, false⟩
def CSITX_RELAY_CFG_TX_PORT : Fld := ⟨.CSITX_RELAY_CFG, 23, 22, .rw, 0x0, false, false, false⟩
def CSITX_RELAY_CFG_TX_VC : Fld := ⟨.CSITX_RELAY_CFG, 21, 18, .rw, 0x0, false, false, false⟩
-- CMD_INBAND_CFG (11_csi2_ports.md R314)
def CMD_INBAND_CFG_EN : Fld := ⟨.CMD_INBAND_CFG, 31, 31, .rw, 0x0, false, false, false⟩
def CMD_INBAND_CFG_RX_PORT : Fld := ⟨.CMD_INBAND_CFG, 30, 28, .rw, 0x0, false, false, false⟩
def CMD_INBAND_CFG_RX_VC : Fld := ⟨.CMD_INBAND_CFG, 27, 24, .rw, 0x0, false, false, false⟩
def CMD_INBAND_CFG_REPLY_EN : Fld := ⟨.CMD_INBAND_CFG, 23, 23, .rw, 0x0, false, false, false⟩
def CMD_INBAND_CFG_TX_PORT : Fld := ⟨.CMD_INBAND_CFG, 22, 21, .rw, 0x0, false, false, false⟩
def CMD_INBAND_CFG_TX_VC : Fld := ⟨.CMD_INBAND_CFG, 20, 17, .rw, 0x0, false, false, false⟩
-- CSIRX_POOL_STAT (11_csi2_ports.md R314)
def CSIRX_POOL_STAT_MAX_OCC : Fld := ⟨.CSIRX_POOL_STAT, 31, 16, .w1cc, 0x0, false, false, false⟩
def CSIRX_POOL_STAT_OCC : Fld := ⟨.CSIRX_POOL_STAT, 15, 0, .ro, 0x0, false, false, false⟩
-- CSIRX_PORT_CFG (11_csi2_ports.md R314)
def CSIRX_PORT_CFG_EN : Fld := ⟨.CSIRX_PORT_CFG, 31, 31, .rw, 0x0, true, false, false⟩
def CSIRX_PORT_CFG_LANES : Fld := ⟨.CSIRX_PORT_CFG, 30, 29, .rw, 0x2, true, false, false⟩
def CSIRX_PORT_CFG_RATE : Fld := ⟨.CSIRX_PORT_CFG, 28, 20, .rw, 0x0, true, false, false⟩
def CSIRX_PORT_CFG_CRC_THR : Fld := ⟨.CSIRX_PORT_CFG, 19, 12, .rw, 0x0, true, false, false⟩
-- CSIRX_CTRL (11_csi2_ports.md R314)
def CSIRX_CTRL_RETRAIN : Fld := ⟨.CSIRX_CTRL, 0, 0, .wo, 0x0, false, false, false⟩
-- CSIRX_STAT (11_csi2_ports.md R314)
def CSIRX_STAT_TRAINED : Fld := ⟨.CSIRX_STAT, 31, 31, .ro, 0x0, false, false, false⟩
def CSIRX_STAT_LANES_ACT : Fld := ⟨.CSIRX_STAT, 30, 28, .ro, 0x0, false, false, false⟩
def CSIRX_STAT_LANE_OK : Fld := ⟨.CSIRX_STAT, 27, 24, .ro, 0x0, false, false, false⟩
-- CSIRX_CMD_CNT (11_csi2_ports.md R314)
def CSIRX_CMD_CNT_CMD : Fld := ⟨.CSIRX_CMD_CNT, 31, 16, .w1cc, 0x0, false, false, false⟩
def CSIRX_CMD_CNT_BUSY : Fld := ⟨.CSIRX_CMD_CNT, 15, 0, .w1cc, 0x0, false, false, false⟩
-- CSIRX_PORT_CNT (11_csi2_ports.md R314)
def CSIRX_PORT_CNT_PKTS : Fld := ⟨.CSIRX_PORT_CNT, 63, 32, .w1cc, 0x0, false, false, false⟩
def CSIRX_PORT_CNT_NOCTX : Fld := ⟨.CSIRX_PORT_CNT, 31, 16, .w1cc, 0x0, false, false, false⟩
def CSIRX_PORT_CNT_ING_DROP : Fld := ⟨.CSIRX_PORT_CNT, 15, 0, .w1cc, 0x0, false, false, false⟩
-- CSIRX_ERR_CNT (11_csi2_ports.md R314)
def CSIRX_ERR_CNT_ECC_CORR : Fld := ⟨.CSIRX_ERR_CNT, 63, 48, .w1cc, 0x0, false, false, false⟩
def CSIRX_ERR_CNT_HDR_ERR : Fld := ⟨.CSIRX_ERR_CNT, 47, 32, .w1cc, 0x0, false, false, false⟩
def CSIRX_ERR_CNT_CRC_ERR : Fld := ⟨.CSIRX_ERR_CNT, 31, 16, .w1cc, 0x0, false, false, false⟩
def CSIRX_ERR_CNT_SOT_ERR : Fld := ⟨.CSIRX_ERR_CNT, 15, 0, .w1cc, 0x0, false, false, false⟩
-- CSIRX_BYTE_CNT (11_csi2_ports.md R314)
def CSIRX_BYTE_CNT_BYTES : Fld := ⟨.CSIRX_BYTE_CNT, 63, 0, .w1cc, 0x0, false, true, false⟩
-- CSITX_PORT_CFG (11_csi2_ports.md R314)
def CSITX_PORT_CFG_EN : Fld := ⟨.CSITX_PORT_CFG, 31, 31, .rw, 0x0, true, false, false⟩
def CSITX_PORT_CFG_LANES : Fld := ⟨.CSITX_PORT_CFG, 30, 29, .rw, 0x2, true, false, false⟩
def CSITX_PORT_CFG_CLK_CONT : Fld := ⟨.CSITX_PORT_CFG, 28, 28, .rw, 0x0, true, false, false⟩
def CSITX_PORT_CFG_RATE : Fld := ⟨.CSITX_PORT_CFG, 27, 19, .rw, 0x0, true, false, false⟩
def CSITX_PORT_CFG_RELAY_THR : Fld := ⟨.CSITX_PORT_CFG, 18, 9, .rw, 0x40, true, false, false⟩
-- CSITX_STAT (11_csi2_ports.md R314)
def CSITX_STAT_BUSY : Fld := ⟨.CSITX_STAT, 31, 31, .ro, 0x0, false, false, false⟩
def CSITX_STAT_RELAY_MAX : Fld := ⟨.CSITX_STAT, 10, 0, .w1cc, 0x0, false, false, false⟩
-- CSITX_PKT_CNT (11_csi2_ports.md R314)
def CSITX_PKT_CNT_PKTS : Fld := ⟨.CSITX_PKT_CNT, 63, 32, .w1cc, 0x0, false, true, false⟩
def CSITX_PKT_CNT_RELAY_PKTS : Fld := ⟨.CSITX_PKT_CNT, 31, 0, .w1cc, 0x0, false, true, false⟩
-- CSITX_DROP_CNT (11_csi2_ports.md R314)
def CSITX_DROP_CNT_RELAY_DROP : Fld := ⟨.CSITX_DROP_CNT, 63, 48, .w1cc, 0x0, false, false, false⟩
def CSITX_DROP_CNT_BLK_DROP : Fld := ⟨.CSITX_DROP_CNT, 47, 32, .w1cc, 0x0, false, false, false⟩
-- CSITX_BYTE_CNT (11_csi2_ports.md R314)
def CSITX_BYTE_CNT_BYTES : Fld := ⟨.CSITX_BYTE_CNT, 63, 0, .w1cc, 0x0, false, true, false⟩
-- I3C_STAT (12_command_interface.md R346)
def I3C_STAT_DA_VALID : Fld := ⟨.I3C_STAT, 31, 31, .ro, 0x0, false, false, false⟩
def I3C_STAT_DYN_ADDR : Fld := ⟨.I3C_STAT, 30, 24, .ro, 0x0, false, false, false⟩
def I3C_STAT_IBI_EN : Fld := ⟨.I3C_STAT, 23, 23, .ro, 0x0, false, false, false⟩
def I3C_STAT_CMD_FREE : Fld := ⟨.I3C_STAT, 22, 20, .ro, 0x4, false, false, false⟩
def I3C_STAT_RPL_USED : Fld := ⟨.I3C_STAT, 19, 17, .ro, 0x0, false, false, false⟩
-- I3C_LEN (12_command_interface.md R346)
def I3C_LEN_MRL : Fld := ⟨.I3C_LEN, 31, 16, .ro, 0x100, false, false, false⟩
def I3C_LEN_MWL : Fld := ⟨.I3C_LEN, 15, 0, .ro, 0x100, false, false, false⟩
-- I3C_CNT (12_command_interface.md R346)
def I3C_CNT_FULL_DROP : Fld := ⟨.I3C_CNT, 63, 48, .w1cc, 0x0, false, false, false⟩
def I3C_CNT_RUNT : Fld := ⟨.I3C_CNT, 47, 32, .w1cc, 0x0, false, false, false⟩
def I3C_CNT_PAR_ERR : Fld := ⟨.I3C_CNT, 31, 16, .w1cc, 0x0, false, false, false⟩
def I3C_CNT_IBI_NACK : Fld := ⟨.I3C_CNT, 15, 0, .w1cc, 0x0, false, false, false⟩
-- CMD_CNT (12_command_interface.md R346)
def CMD_CNT_CMDS : Fld := ⟨.CMD_CNT, 63, 32, .w1cc, 0x0, false, false, false⟩
def CMD_CNT_CRC_ERR : Fld := ⟨.CMD_CNT, 31, 16, .w1cc, 0x0, false, false, false⟩
def CMD_CNT_NOT_OK : Fld := ⟨.CMD_CNT, 15, 0, .w1cc, 0x0, false, false, false⟩
-- CMD_LAST (12_command_interface.md R346)
def CMD_LAST_REASON : Fld := ⟨.CMD_LAST, 31, 16, .ro, 0x0, false, false, false⟩
def CMD_LAST_OPCODE : Fld := ⟨.CMD_LAST, 15, 8, .ro, 0x0, false, false, false⟩
def CMD_LAST_STATUS : Fld := ⟨.CMD_LAST, 1, 0, .ro, 0x0, false, false, false⟩
-- CMD_FEAT (12_command_interface.md R346)
def CMD_FEAT_FEATURES : Fld := ⟨.CMD_FEAT, 5, 0, .ro, 0x3F, false, false, false⟩
-- PAIR_CFG (13_redundant_pair.md R370)
def PAIR_CFG_MIRROR_EN : Fld := ⟨.PAIR_CFG, 31, 31, .rw, 0x0, true, false, false⟩
def PAIR_CFG_MIR_VC : Fld := ⟨.PAIR_CFG, 29, 26, .rw, 0xF, true, false, false⟩
def PAIR_CFG_ALIGN_WAIT : Fld := ⟨.PAIR_CFG, 25, 18, .rw, 0x8, true, false, false⟩
def PAIR_CFG_CKPT_PERIOD : Fld := ⟨.PAIR_CFG, 15, 0, .rw, 0xEA60, true, false, false⟩
-- PAIR_STAT (13_redundant_pair.md R370)
def PAIR_STAT_ROLE : Fld := ⟨.PAIR_STAT, 31, 31, .ro, 0x0, false, false, false⟩
def PAIR_STAT_FENCE_IN : Fld := ⟨.PAIR_STAT, 30, 30, .ro, 0x0, false, false, false⟩
def PAIR_STAT_FENCED : Fld := ⟨.PAIR_STAT, 29, 29, .ro, 0x0, false, false, false⟩
def PAIR_STAT_SB_STATE : Fld := ⟨.PAIR_STAT, 28, 26, .ro, 0x0, false, false, false⟩
def PAIR_STAT_CKPT_VALID : Fld := ⟨.PAIR_STAT, 25, 25, .ro, 0x0, false, false, false⟩
def PAIR_STAT_JOURNAL_FULL : Fld := ⟨.PAIR_STAT, 24, 24, .ro, 0x0, false, false, false⟩
def PAIR_STAT_ENG_READY : Fld := ⟨.PAIR_STAT, 23, 16, .ro, 0x0, false, false, false⟩
def PAIR_STAT_PHASE : Fld := ⟨.PAIR_STAT, 15, 14, .ro, 0x0, false, false, false⟩
-- PAIR_CKPT_BASE (13_redundant_pair.md R370)
def PAIR_CKPT_BASE_ADDR : Fld := ⟨.PAIR_CKPT_BASE, 47, 0, .rw, 0x0, true, false, false⟩
-- PAIR_CKPT_CFG (13_redundant_pair.md R370)
def PAIR_CKPT_CFG_SIZE : Fld := ⟨.PAIR_CKPT_CFG, 31, 16, .rw, 0x0, true, false, false⟩
def PAIR_CKPT_CFG_STREAM_MBPS : Fld := ⟨.PAIR_CKPT_CFG, 15, 0, .rw, 0x0, true, false, false⟩
-- PAIR_CKPT_STEP (13_redundant_pair.md R370)
def PAIR_CKPT_STEP_STEP : Fld := ⟨.PAIR_CKPT_STEP, 63, 0, .ro, 0x0, false, false, false⟩
-- PAIR_CNT0 (13_redundant_pair.md R370)
def PAIR_CNT0_DIG_MISS : Fld := ⟨.PAIR_CNT0, 63, 48, .w1cc, 0x0, false, false, false⟩
def PAIR_CNT0_RESYNCS : Fld := ⟨.PAIR_CNT0, 47, 32, .w1cc, 0x0, false, false, false⟩
def PAIR_CNT0_ALIGN_MISS : Fld := ⟨.PAIR_CNT0, 31, 16, .w1cc, 0x0, false, false, false⟩
def PAIR_CNT0_HB_GAP : Fld := ⟨.PAIR_CNT0, 15, 0, .w1cc, 0x0, false, false, false⟩
-- PAIR_CNT1 (13_redundant_pair.md R370)
def PAIR_CNT1_BLK_ERR : Fld := ⟨.PAIR_CNT1, 63, 48, .w1cc, 0x0, false, false, false⟩
def PAIR_CNT1_OVL_OVF : Fld := ⟨.PAIR_CNT1, 47, 32, .w1cc, 0x0, false, false, false⟩
def PAIR_CNT1_TAKEOVERS : Fld := ⟨.PAIR_CNT1, 31, 16, .w1cc, 0x0, false, false, false⟩
def PAIR_CNT1_EDITS : Fld := ⟨.PAIR_CNT1, 15, 0, .w1cc, 0x0, false, false, false⟩
-- PAIR_DIG_LOCAL (13_redundant_pair.md R370)
def PAIR_DIG_LOCAL_DIGEST : Fld := ⟨.PAIR_DIG_LOCAL, 63, 0, .ro, 0x0, false, false, false⟩
-- PAIR_DIG_PEER (13_redundant_pair.md R370)
def PAIR_DIG_PEER_DIGEST : Fld := ⟨.PAIR_DIG_PEER, 63, 0, .ro, 0x0, false, false, false⟩
-- BOOT_REPORT (14_bringup_loading_spares.md R401)
def BOOT_REPORT_STAGE : Fld := ⟨.BOOT_REPORT, 63, 60, .ro, 0x0, false, false, false⟩
def BOOT_REPORT_RESULT : Fld := ⟨.BOOT_REPORT, 59, 58, .ro, 0x0, false, false, false⟩
def BOOT_REPORT_DETAIL : Fld := ⟨.BOOT_REPORT, 47, 32, .ro, 0x0, false, false, false⟩
def BOOT_REPORT_DATA : Fld := ⟨.BOOT_REPORT, 31, 0, .ro, 0x0, false, false, false⟩
-- BOOT_LOG (14_bringup_loading_spares.md R401)
def BOOT_LOG_STAGE : Fld := ⟨.BOOT_LOG, 63, 60, .ro, 0x0, false, false, false⟩
def BOOT_LOG_RESULT : Fld := ⟨.BOOT_LOG, 59, 58, .ro, 0x0, false, false, false⟩
def BOOT_LOG_DETAIL : Fld := ⟨.BOOT_LOG, 47, 32, .ro, 0x0, false, false, false⟩
def BOOT_LOG_DATA : Fld := ⟨.BOOT_LOG, 31, 0, .ro, 0x0, false, false, false⟩
-- BOOT_FW_STAT (14_bringup_loading_spares.md R401)
def BOOT_FW_STAT_SLOT : Fld := ⟨.BOOT_FW_STAT, 31, 31, .ro, 0x0, false, false, false⟩
def BOOT_FW_STAT_PUSHED : Fld := ⟨.BOOT_FW_STAT, 30, 30, .ro, 0x0, false, false, false⟩
def BOOT_FW_STAT_SPARE_MGMT : Fld := ⟨.BOOT_FW_STAT, 29, 29, .ro, 0x0, false, false, false⟩
def BOOT_FW_STAT_PLL_B : Fld := ⟨.BOOT_FW_STAT, 28, 28, .ro, 0x0, false, false, false⟩
-- BOOT_LOAD_WIN (14_bringup_loading_spares.md R401)
def BOOT_LOAD_WIN_XFER : Fld := ⟨.BOOT_LOAD_WIN, 63, 48, .ro, 0x0, false, false, false⟩
def BOOT_LOAD_WIN_BASE : Fld := ⟨.BOOT_LOAD_WIN, 47, 0, .ro, 0x0, false, false, false⟩
-- BOOT_LOAD_CNT (14_bringup_loading_spares.md R401)
def BOOT_LOAD_CNT_CNT : Fld := ⟨.BOOT_LOAD_CNT, 63, 32, .ro, 0x0, false, false, false⟩
def BOOT_LOAD_CNT_COUNTED : Fld := ⟨.BOOT_LOAD_CNT, 31, 0, .ro, 0x0, false, false, false⟩
-- BOOT_LOAD_STAT (14_bringup_loading_spares.md R401)
def BOOT_LOAD_STAT_OPEN : Fld := ⟨.BOOT_LOAD_STAT, 31, 31, .ro, 0x0, false, false, false⟩
def BOOT_LOAD_STAT_COMMITTED : Fld := ⟨.BOOT_LOAD_STAT, 30, 30, .ro, 0x0, false, false, false⟩
def BOOT_LOAD_STAT_CORES : Fld := ⟨.BOOT_LOAD_STAT, 10, 0, .ro, 0x0, false, false, false⟩
-- BOOT_IMAGE_MEAS (14_bringup_loading_spares.md R401)
def BOOT_IMAGE_MEAS_WORD : Fld := ⟨.BOOT_IMAGE_MEAS, 63, 0, .ro, 0x0, false, false, false⟩
-- SPARE_CTRL (14_bringup_loading_spares.md R401)
def SPARE_CTRL_AGE_EN : Fld := ⟨.SPARE_CTRL, 0, 0, .rw, 0x1, false, false, false⟩
-- SPARE_STAT (14_bringup_loading_spares.md R401)
def SPARE_STAT_COL_RETIRED : Fld := ⟨.SPARE_STAT, 31, 31, .ro, 0x0, false, false, false⟩
def SPARE_STAT_COLUMN : Fld := ⟨.SPARE_STAT, 28, 24, .ro, 0x0, false, false, false⟩
def SPARE_STAT_SPARE_USED : Fld := ⟨.SPARE_STAT, 23, 16, .ro, 0x0, false, false, false⟩
def SPARE_STAT_SPARES_FREE : Fld := ⟨.SPARE_STAT, 3, 0, .ro, 0x8, false, false, false⟩
-- SPARE_CNT (14_bringup_loading_spares.md R401)
def SPARE_CNT_SWAPS : Fld := ⟨.SPARE_CNT, 63, 48, .w1cc, 0x0, false, false, false⟩
def SPARE_CNT_RETIRES : Fld := ⟨.SPARE_CNT, 47, 32, .w1cc, 0x0, false, false, false⟩
def SPARE_CNT_AGE_SWAPS : Fld := ⟨.SPARE_CNT, 31, 16, .w1cc, 0x0, false, false, false⟩
def SPARE_CNT_FAILED : Fld := ⟨.SPARE_CNT, 15, 0, .w1cc, 0x0, false, false, false⟩
-- SPARE_LAST (14_bringup_loading_spares.md R401)
def SPARE_LAST_LOGICAL : Fld := ⟨.SPARE_LAST, 63, 54, .ro, 0x0, false, false, false⟩
def SPARE_LAST_OLD_TILE : Fld := ⟨.SPARE_LAST, 53, 43, .ro, 0x0, false, false, false⟩
def SPARE_LAST_NEW_TILE : Fld := ⟨.SPARE_LAST, 42, 32, .ro, 0x0, false, false, false⟩
def SPARE_LAST_WINDOW : Fld := ⟨.SPARE_LAST, 15, 0, .ro, 0x0, false, false, false⟩
-- SPARE_DEFECT_CORE (14_bringup_loading_spares.md R401)
def SPARE_DEFECT_CORE_DEFECT : Fld := ⟨.SPARE_DEFECT_CORE, 31, 0, .ro, 0x0, false, false, false⟩
-- SPARE_DEFECT_RTR (14_bringup_loading_spares.md R401)
def SPARE_DEFECT_RTR_DEFECT : Fld := ⟨.SPARE_DEFECT_RTR, 31, 0, .ro, 0x0, false, false, false⟩
-- SPARE_MAP (14_bringup_loading_spares.md R401)
def SPARE_MAP_VALID : Fld := ⟨.SPARE_MAP, 31, 31, .ro, 0x0, false, false, false⟩
def SPARE_MAP_TILE : Fld := ⟨.SPARE_MAP, 10, 0, .ro, 0x0, false, false, false⟩
-- SPARE_SHADOW (14_bringup_loading_spares.md R401)
def SPARE_SHADOW_VALID : Fld := ⟨.SPARE_SHADOW, 31, 31, .ro, 0x0, false, false, false⟩
def SPARE_SHADOW_TILE : Fld := ⟨.SPARE_SHADOW, 10, 0, .ro, 0x0, false, false, false⟩
-- OWL_CTRL (15_faults.md R420)
def OWL_CTRL_FAULTN_CLASS : Fld := ⟨.OWL_CTRL, 2, 0, .rw, 0x3, false, false, false⟩
-- OWL_STAT (15_faults.md R420)
def OWL_STAT_LOST : Fld := ⟨.OWL_STAT, 31, 31, .w1c, 0x0, false, false, false⟩
def OWL_STAT_HALTED : Fld := ⟨.OWL_STAT, 30, 30, .w1c, 0x0, false, false, false⟩
def OWL_STAT_DEV_FENCED : Fld := ⟨.OWL_STAT, 29, 29, .ro, 0x0, false, false, false⟩
def OWL_STAT_FORCE_REJ : Fld := ⟨.OWL_STAT, 28, 28, .w1c, 0x0, false, false, false⟩
def OWL_STAT_FIFO_OCC : Fld := ⟨.OWL_STAT, 22, 16, .ro, 0x0, false, false, false⟩
def OWL_STAT_FIFO_MAX : Fld := ⟨.OWL_STAT, 14, 8, .w1cc, 0x0, false, false, false⟩
def OWL_STAT_ACTIVE : Fld := ⟨.OWL_STAT, 4, 0, .ro, 0x0, false, false, false⟩
-- OWL_CNT (15_faults.md R420)
def OWL_CNT_ACCEPTED : Fld := ⟨.OWL_CNT, 63, 32, .w1cc, 0x0, false, false, false⟩
def OWL_CNT_LOST_FULL : Fld := ⟨.OWL_CNT, 31, 16, .w1cc, 0x0, false, false, false⟩
def OWL_CNT_LOST_BUSY : Fld := ⟨.OWL_CNT, 15, 0, .w1cc, 0x0, false, false, false⟩
-- OWL_CNT2 (15_faults.md R420)
def OWL_CNT2_FORCED : Fld := ⟨.OWL_CNT2, 63, 48, .w1cc, 0x0, false, false, false⟩
def OWL_CNT2_ST_FULL : Fld := ⟨.OWL_CNT2, 47, 32, .w1cc, 0x0, false, false, false⟩
def OWL_CNT2_LOG_OVW : Fld := ⟨.OWL_CNT2, 31, 16, .w1cc, 0x0, false, false, false⟩
def OWL_CNT2_REACT_FAIL : Fld := ⟨.OWL_CNT2, 15, 0, .w1cc, 0x0, false, false, false⟩
-- OWL_FORCE (15_faults.md R420)
def OWL_FORCE_SOURCE : Fld := ⟨.OWL_FORCE, 63, 52, .rw, 0x0, false, false, false⟩
def OWL_FORCE_KIND : Fld := ⟨.OWL_FORCE, 51, 44, .rw, 0x0, false, false, false⟩
def OWL_FORCE_CLASS : Fld := ⟨.OWL_FORCE, 43, 41, .rw, 0x0, false, false, false⟩
def OWL_FORCE_GO : Fld := ⟨.OWL_FORCE, 40, 40, .wo, 0x0, false, false, false⟩
def OWL_FORCE_ADDRESS : Fld := ⟨.OWL_FORCE, 31, 0, .rw, 0x0, false, false, false⟩
-- OWL_WDOG (15_faults.md R420)
def OWL_WDOG_EN : Fld := ⟨.OWL_WDOG, 31, 31, .rw, 0x1, false, false, false⟩
def OWL_WDOG_KICK : Fld := ⟨.OWL_WDOG, 30, 30, .wo, 0x0, false, false, false⟩
def OWL_WDOG_TIMEOUT : Fld := ⟨.OWL_WDOG, 15, 0, .rw, 0x64, false, false, false⟩
-- OWL_REACT (15_faults.md R420)
def OWL_REACT_FATAL : Fld := ⟨.OWL_REACT, 26, 24, .rw, 0x4, false, false, false⟩
def OWL_REACT_REACT : Fld := ⟨.OWL_REACT, 18, 16, .rw, 0x0, false, false, false⟩
def OWL_REACT_MIN_CLASS : Fld := ⟨.OWL_REACT, 10, 8, .rw, 0x0, false, false, false⟩
def OWL_REACT_MASK_FAULTN : Fld := ⟨.OWL_REACT, 0, 0, .rw, 0x0, false, false, false⟩
-- OWL_ST_KEY (15_faults.md R420)
def OWL_ST_KEY_VALID : Fld := ⟨.OWL_ST_KEY, 63, 63, .ro, 0x0, false, false, false⟩
def OWL_ST_KEY_CAUSE : Fld := ⟨.OWL_ST_KEY, 62, 62, .ro, 0x0, false, false, false⟩
def OWL_ST_KEY_FORCED : Fld := ⟨.OWL_ST_KEY, 61, 61, .ro, 0x0, false, false, false⟩
def OWL_ST_KEY_CLASS : Fld := ⟨.OWL_ST_KEY, 60, 58, .ro, 0x0, false, false, false⟩
def OWL_ST_KEY_KIND : Fld := ⟨.OWL_ST_KEY, 57, 50, .ro, 0x0, false, false, false⟩
def OWL_ST_KEY_SOURCE : Fld := ⟨.OWL_ST_KEY, 49, 38, .ro, 0x0, false, false, false⟩
def OWL_ST_KEY_COUNT : Fld := ⟨.OWL_ST_KEY, 31, 0, .ro, 0x0, false, false, false⟩
-- OWL_ST_ADDR (15_faults.md R420)
def OWL_ST_ADDR_LAST_ADDR : Fld := ⟨.OWL_ST_ADDR, 63, 32, .ro, 0x0, false, false, false⟩
def OWL_ST_ADDR_FIRST_ADDR : Fld := ⟨.OWL_ST_ADDR, 31, 0, .ro, 0x0, false, false, false⟩
-- KILN_CTRL (16_power_clocks_thermal.md R445)
def KILN_CTRL_T_MIN : Fld := ⟨.KILN_CTRL, 23, 20, .rw, 0x5, true, false, false⟩
def KILN_CTRL_FLOOR_OVR : Fld := ⟨.KILN_CTRL, 19, 16, .rw, 0x0, true, false, false⟩
def KILN_CTRL_RECAL : Fld := ⟨.KILN_CTRL, 3, 3, .wo, 0x0, false, false, false⟩
def KILN_CTRL_G6_AUTO : Fld := ⟨.KILN_CTRL, 2, 2, .rw, 0x0, false, false, false⟩
def KILN_CTRL_AUTO_IDLE : Fld := ⟨.KILN_CTRL, 1, 1, .rw, 0x0, false, false, false⟩
def KILN_CTRL_MODE : Fld := ⟨.KILN_CTRL, 0, 0, .rw, 0x0, true, false, false⟩
-- KILN_STAT (16_power_clocks_thermal.md R445)
def KILN_STAT_STATE : Fld := ⟨.KILN_STAT, 31, 29, .ro, 0x0, false, false, false⟩
def KILN_STAT_DIVERGED : Fld := ⟨.KILN_STAT, 28, 28, .ro, 0x0, false, false, false⟩
def KILN_STAT_RECAL_BUSY : Fld := ⟨.KILN_STAT, 27, 27, .ro, 0x0, false, false, false⟩
def KILN_STAT_OVER_LIMIT : Fld := ⟨.KILN_STAT, 26, 26, .ro, 0x0, false, false, false⟩
def KILN_STAT_HOT : Fld := ⟨.KILN_STAT, 25, 25, .ro, 0x0, false, false, false⟩
def KILN_STAT_T : Fld := ⟨.KILN_STAT, 23, 20, .ro, 0x8, false, false, false⟩
def KILN_STAT_FLOOR : Fld := ⟨.KILN_STAT, 19, 16, .ro, 0x0, false, false, false⟩
def KILN_STAT_BOOST : Fld := ⟨.KILN_STAT, 15, 8, .ro, 0x0, false, false, false⟩
-- KILN_CAP (16_power_clocks_thermal.md R445)
def KILN_CAP_APPLIED : Fld := ⟨.KILN_CAP, 31, 16, .ro, 0x0, false, false, false⟩
def KILN_CAP_CAP : Fld := ⟨.KILN_CAP, 15, 0, .rw, 0x0, true, false, false⟩
-- KILN_UNC_CORR (16_power_clocks_thermal.md R445)
def KILN_UNC_CORR_CORR : Fld := ⟨.KILN_UNC_CORR, 15, 0, .ro, 0x1000, false, false, false⟩
-- KILN_POWER (16_power_clocks_thermal.md R445)
def KILN_POWER_MEAS : Fld := ⟨.KILN_POWER, 63, 48, .ro, 0x0, false, false, false⟩
def KILN_POWER_EST : Fld := ⟨.KILN_POWER, 47, 32, .ro, 0x0, false, false, false⟩
def KILN_POWER_MAX_MEAS : Fld := ⟨.KILN_POWER, 31, 16, .w1cc, 0x0, false, false, false⟩
def KILN_POWER_MAX_EST : Fld := ⟨.KILN_POWER, 15, 0, .w1cc, 0x0, false, false, false⟩
-- KILN_UNC_POWER (16_power_clocks_thermal.md R445)
def KILN_UNC_POWER_MEAS : Fld := ⟨.KILN_UNC_POWER, 31, 16, .ro, 0x0, false, false, false⟩
def KILN_UNC_POWER_EST : Fld := ⟨.KILN_UNC_POWER, 15, 0, .ro, 0x0, false, false, false⟩
-- KILN_CNT (16_power_clocks_thermal.md R445)
def KILN_CNT_THR_STEPS : Fld := ⟨.KILN_CNT, 63, 48, .w1cc, 0x0, false, false, false⟩
def KILN_CNT_DIV_WIN : Fld := ⟨.KILN_CNT, 47, 32, .w1cc, 0x0, false, false, false⟩
def KILN_CNT_OVER_WIN : Fld := ⟨.KILN_CNT, 31, 16, .w1cc, 0x0, false, false, false⟩
def KILN_CNT_HOT_STEPS : Fld := ⟨.KILN_CNT, 15, 0, .w1cc, 0x0, false, false, false⟩
-- KILN_THERM_CFG (16_power_clocks_thermal.md R445)
def KILN_THERM_CFG_TRIP : Fld := ⟨.KILN_THERM_CFG, 31, 24, .ro, 0x73, false, false, false⟩
def KILN_THERM_CFG_THROT : Fld := ⟨.KILN_THERM_CFG, 23, 16, .rw, 0x69, false, false, false⟩
def KILN_THERM_CFG_WARN : Fld := ⟨.KILN_THERM_CFG, 15, 8, .rw, 0x64, false, false, false⟩
-- KILN_THERM (16_power_clocks_thermal.md R445)
def KILN_THERM_HOT_IDX : Fld := ⟨.KILN_THERM, 31, 27, .ro, 0x0, false, false, false⟩
def KILN_THERM_HOT_TEMP : Fld := ⟨.KILN_THERM, 15, 0, .ro, 0x0, false, false, false⟩
-- KILN_AGE_CFG (16_power_clocks_thermal.md R445)
def KILN_AGE_CFG_PERIOD : Fld := ⟨.KILN_AGE_CFG, 15, 0, .rw, 0x3E8, true, false, false⟩
-- KILN_GATE (16_power_clocks_thermal.md R445)
def KILN_GATE_G6_IDLE : Fld := ⟨.KILN_GATE, 31, 16, .rw, 0x3E8, false, false, false⟩
def KILN_GATE_ENG : Fld := ⟨.KILN_GATE, 15, 8, .rw, 0x0, true, false, false⟩
def KILN_GATE_G6_SR : Fld := ⟨.KILN_GATE, 1, 0, .ro, 0x0, false, false, false⟩
-- KILN_OFF_CAUSE (16_power_clocks_thermal.md R445)
def KILN_OFF_CAUSE_TRIP : Fld := ⟨.KILN_OFF_CAUSE, 31, 31, .w1c, 0x0, false, false, false⟩
def KILN_OFF_CAUSE_SENSOR : Fld := ⟨.KILN_OFF_CAUSE, 4, 0, .ro, 0x0, false, false, false⟩
-- KILN_WAKE_CNT (16_power_clocks_thermal.md R445)
def KILN_WAKE_CNT_CORE_WAKES : Fld := ⟨.KILN_WAKE_CNT, 63, 32, .w1cc, 0x0, false, false, false⟩
def KILN_WAKE_CNT_ENG_WAKES : Fld := ⟨.KILN_WAKE_CNT, 31, 16, .w1cc, 0x0, false, false, false⟩
def KILN_WAKE_CNT_G6_WAKES : Fld := ⟨.KILN_WAKE_CNT, 15, 0, .w1cc, 0x0, false, false, false⟩
-- KILN_COEF (16_power_clocks_thermal.md R445)
def KILN_COEF_SYN : Fld := ⟨.KILN_COEF, 63, 56, .ro, 0x0, false, false, true⟩
def KILN_COEF_UPD : Fld := ⟨.KILN_COEF, 55, 48, .ro, 0x0, false, false, true⟩
def KILN_COEF_LRN : Fld := ⟨.KILN_COEF, 47, 40, .ro, 0x0, false, false, true⟩
def KILN_COEF_SRAM : Fld := ⟨.KILN_COEF, 39, 32, .ro, 0x0, false, false, true⟩
def KILN_COEF_FLIT : Fld := ⟨.KILN_COEF, 31, 24, .ro, 0x0, false, false, true⟩
def KILN_COEF_CORD : Fld := ⟨.KILN_COEF, 23, 16, .ro, 0x0, false, false, true⟩
def KILN_COEF_LEAK : Fld := ⟨.KILN_COEF, 15, 0, .ro, 0x0, false, false, true⟩
-- KILN_COEF_UNC (16_power_clocks_thermal.md R445)
def KILN_COEF_UNC_BASE : Fld := ⟨.KILN_COEF_UNC, 63, 48, .ro, 0x0, false, false, true⟩
def KILN_COEF_UNC_G6 : Fld := ⟨.KILN_COEF_UNC, 47, 36, .ro, 0x0, false, false, true⟩
def KILN_COEF_UNC_CSI : Fld := ⟨.KILN_COEF_UNC, 35, 28, .ro, 0x0, false, false, true⟩
-- CLK_STAT (16_power_clocks_thermal.md R445)
def CLK_STAT_REF_OK : Fld := ⟨.CLK_STAT, 31, 31, .ro, 0x0, false, false, false⟩
def CLK_STAT_PLL_A_LOCK : Fld := ⟨.CLK_STAT, 30, 30, .ro, 0x0, false, false, false⟩
def CLK_STAT_PLL_B_LOCK : Fld := ⟨.CLK_STAT, 29, 29, .ro, 0x0, false, false, false⟩
def CLK_STAT_PLL_B_USED : Fld := ⟨.CLK_STAT, 28, 28, .ro, 0x0, false, false, false⟩
def CLK_STAT_CLK_RESET : Fld := ⟨.CLK_STAT, 27, 27, .w1c, 0x0, false, false, false⟩
def CLK_STAT_G6_LOCK : Fld := ⟨.CLK_STAT, 26, 25, .ro, 0x0, false, false, false⟩
def CLK_STAT_TX_LOCK : Fld := ⟨.CLK_STAT, 24, 21, .ro, 0x0, false, false, false⟩
-- KILN_VID (18_electrical_and_package.md R464)
def KILN_VID_VID : Fld := ⟨.KILN_VID, 9, 0, .ro, 0x0, false, false, true⟩
-- KILN_ENG_POWER (16_power_clocks_thermal.md R445)
def KILN_ENG_POWER_MEAS : Fld := ⟨.KILN_ENG_POWER, 31, 16, .ro, 0x0, false, false, false⟩
def KILN_ENG_POWER_EST : Fld := ⟨.KILN_ENG_POWER, 15, 0, .ro, 0x0, false, false, false⟩
-- KILN_ENG_CORR (16_power_clocks_thermal.md R445)
def KILN_ENG_CORR_CORR : Fld := ⟨.KILN_ENG_CORR, 15, 0, .ro, 0x1000, false, false, false⟩
-- KILN_DROOP (16_power_clocks_thermal.md R445)
def KILN_DROOP_CNT : Fld := ⟨.KILN_DROOP, 63, 48, .w1cc, 0x0, false, false, false⟩
def KILN_DROOP_MAX_US : Fld := ⟨.KILN_DROOP, 47, 32, .w1cc, 0x0, false, false, false⟩
def KILN_DROOP_HOLD_US : Fld := ⟨.KILN_DROOP, 15, 8, .rw, 0x2, false, false, false⟩
def KILN_DROOP_THR_MV : Fld := ⟨.KILN_DROOP, 7, 0, .rw, 0x28, false, false, false⟩
-- KILN_TEMP (16_power_clocks_thermal.md R445)
def KILN_TEMP_MAX : Fld := ⟨.KILN_TEMP, 31, 16, .w1cc, 0x8000, false, false, false⟩
def KILN_TEMP_TEMP : Fld := ⟨.KILN_TEMP, 15, 0, .ro, 0x0, false, false, false⟩
-- KILN_CORE_BIN (16_power_clocks_thermal.md R445)
def KILN_CORE_BIN_RATIO : Fld := ⟨.KILN_CORE_BIN, 15, 12, .ro, 0x8, false, false, false⟩
def KILN_CORE_BIN_LIVE : Fld := ⟨.KILN_CORE_BIN, 11, 8, .ro, 0x0, false, false, false⟩
def KILN_CORE_BIN_FUSED : Fld := ⟨.KILN_CORE_BIN, 7, 4, .ro, 0x0, false, false, true⟩
-- SEC_STAT (17_security.md R460)
def SEC_STAT_DBG_UNLOCKED : Fld := ⟨.SEC_STAT, 31, 31, .ro, 0x0, false, false, false⟩
def SEC_STAT_DBG_SCOPE : Fld := ⟨.SEC_STAT, 30, 29, .ro, 0x0, false, false, false⟩
def SEC_STAT_DBG_LOCK : Fld := ⟨.SEC_STAT, 28, 28, .ro, 0x0, false, false, true⟩
def SEC_STAT_ROLLBACK : Fld := ⟨.SEC_STAT, 26, 20, .ro, 0x0, false, false, true⟩
def SEC_STAT_SVN : Fld := ⟨.SEC_STAT, 19, 12, .ro, 0x0, false, false, false⟩
def SEC_STAT_SLOT_VALID : Fld := ⟨.SEC_STAT, 11, 8, .ro, 0x0, false, false, true⟩
def SEC_STAT_SLOT_REVOKED : Fld := ⟨.SEC_STAT, 7, 4, .ro, 0x0, false, false, true⟩
def SEC_STAT_SLOT_DEBUG : Fld := ⟨.SEC_STAT, 3, 0, .ro, 0x0, false, false, true⟩
-- SEC_PROG (17_security.md R460)
def SEC_PROG_BUSY : Fld := ⟨.SEC_PROG, 31, 31, .ro, 0x0, false, false, false⟩
def SEC_PROG_ACTION : Fld := ⟨.SEC_PROG, 30, 28, .rw, 0x0, false, false, false⟩
def SEC_PROG_SLOT : Fld := ⟨.SEC_PROG, 27, 26, .rw, 0x0, false, false, false⟩
def SEC_PROG_VALUE : Fld := ⟨.SEC_PROG, 25, 19, .rw, 0x0, false, false, false⟩
def SEC_PROG_STATUS : Fld := ⟨.SEC_PROG, 18, 16, .ro, 0x0, false, false, false⟩
def SEC_PROG_ARM : Fld := ⟨.SEC_PROG, 15, 0, .wo, 0x0, false, false, false⟩
-- SEC_CNT (17_security.md R460)
def SEC_CNT_UNLOCK_FAIL : Fld := ⟨.SEC_CNT, 31, 16, .w1cc, 0x0, false, false, false⟩
def SEC_CNT_ATTESTS : Fld := ⟨.SEC_CNT, 15, 0, .w1cc, 0x0, false, false, false⟩
-- SEC_PROG_DATA (17_security.md R460)
def SEC_PROG_DATA_DATA : Fld := ⟨.SEC_PROG_DATA, 63, 0, .rw, 0x0, false, false, false⟩
-- SEC_FW_MEAS (17_security.md R460)
def SEC_FW_MEAS_MEAS : Fld := ⟨.SEC_FW_MEAS, 63, 0, .ro, 0x0, false, false, false⟩
-- SEC_ROOT_HASH (17_security.md R460)
def SEC_ROOT_HASH_HASH : Fld := ⟨.SEC_ROOT_HASH, 63, 0, .ro, 0x0, false, false, true⟩
-- SEC_SLOT_HASH (17_security.md R460)
def SEC_SLOT_HASH_HASH : Fld := ⟨.SEC_SLOT_HASH, 63, 0, .ro, 0x0, false, false, true⟩
-- SEC_ID_PUB (17_security.md R460)
def SEC_ID_PUB_KEY : Fld := ⟨.SEC_ID_PUB, 63, 0, .ro, 0x0, false, false, false⟩

end F

/-- The fields of each register, most significant first; bits in no field are RSV and read as zero. -/
def Reg.fields : Reg → List Fld
  | .CHIP_ID => [F.CHIP_ID_ARCH_LEVEL, F.CHIP_ID_DIE_REV, F.CHIP_ID_G6_CAP_LIMIT, F.CHIP_ID_BOOST_DIS, F.CHIP_ID_G6_GROUP_EN, F.CHIP_ID_TX_EN, F.CHIP_ID_RX_EN, F.CHIP_ID_ENGINE_EN, F.CHIP_ID_VARIANT]
  | .CHIP_CTRL => [F.CHIP_CTRL_QUENCHED, F.CHIP_CTRL_CHECK_BUSY, F.CHIP_CTRL_RUN_EN]
  | .CHIP_CFG_REASON => [F.CHIP_CFG_REASON_CLASS, F.CHIP_CFG_REASON_DETAIL, F.CHIP_CFG_REASON_INDEX]
  | .TIME_GRAIN => [F.TIME_GRAIN_GRAIN]
  | .TIME_ORIGIN => [F.TIME_ORIGIN_ORIGIN]
  | .TIME_STEP => [F.TIME_STEP_STEP]
  | .TIME_FRAME => [F.TIME_FRAME_FRAME]
  | .TIME_SYNC_LOAD => [F.TIME_SYNC_LOAD_LOAD]
  | .TIME_STEP_CFG => [F.TIME_STEP_CFG_IN_GUARD, F.TIME_STEP_CFG_STRETCH_PCT, F.TIME_STEP_CFG_FRAME_STEPS, F.TIME_STEP_CFG_STEP_LEN]
  | .TIME_CTRL => [F.TIME_CTRL_FREE_LIMIT, F.TIME_CTRL_HANG_LIMIT, F.TIME_CTRL_SYNC_OUT_EN, F.TIME_CTRL_SYNC_MODE, F.TIME_CTRL_FREE_GATED, F.TIME_CTRL_POLICY, F.TIME_CTRL_MODE]
  | .TIME_SYNC_CFG => [F.TIME_SYNC_CFG_MAX_ERR, F.TIME_SYNC_CFG_SYNC_PERIOD]
  | .TIME_SYNC_STAT => [F.TIME_SYNC_STAT_EDGE_CNT, F.TIME_SYNC_STAT_LOSS, F.TIME_SYNC_STAT_LOCKED, F.TIME_SYNC_STAT_PHASE_ERR]
  | .TIME_STEP_GRANT => [F.TIME_STEP_GRANT_GRANT]
  | .TIME_OVL_STAT => [F.TIME_OVL_STAT_LAST_CLOSE, F.TIME_OVL_STAT_OVR_FRAME, F.TIME_OVL_STAT_MAX_STRETCH, F.TIME_OVL_STAT_LAST_STRETCH]
  | .TIME_STRETCH_CNT => [F.TIME_STRETCH_CNT_CNT]
  | .TIME_FORCED_CNT => [F.TIME_FORCED_CNT_CNT]
  | .TIME_OVERRUN_CNT => [F.TIME_OVERRUN_CNT_CNT]
  | .TIME_LATE_CNT => [F.TIME_LATE_CNT_CNT]
  | .TIME_SHED_CNT => [F.TIME_SHED_CNT_CNT]
  | .TIME_LATE_IN_CNT => [F.TIME_LATE_IN_CNT_CNT]
  | .TIME_PRE_IN_CNT => [F.TIME_PRE_IN_CNT_CNT]
  | .CORE_INFLIGHT => [F.CORE_INFLIGHT_IF_ODD, F.CORE_INFLIGHT_IF_EVEN]
  | .CORE_OVL_CNT => [F.CORE_OVL_CNT_SHED_CNT, F.CORE_OVL_CNT_LATE_CNT]
  | .TND_INFLIGHT => [F.TND_INFLIGHT_IF_ODD, F.TND_INFLIGHT_IF_EVEN]
  | .CORE_STAT => [F.CORE_STAT_LOADED, F.CORE_STAT_FENCED, F.CORE_STAT_DONE_MASKED, F.CORE_STAT_UPD_BUSY]
  | .CORE_UPD_STAT => [F.CORE_UPD_STAT_MAX_UPD, F.CORE_UPD_STAT_LAST_UPD]
  | .CORE_PART_STATE => [F.CORE_PART_STATE_SIZE, F.CORE_PART_STATE_BASE]
  | .CORE_PART_LAND => [F.CORE_PART_LAND_SIZE, F.CORE_PART_LAND_BASE]
  | .CORE_PART_SYN => [F.CORE_PART_SYN_SIZE, F.CORE_PART_SYN_BASE]
  | .CORE_PART_LRN => [F.CORE_PART_LRN_SIZE, F.CORE_PART_LRN_BASE]
  | .CORE_PART_SMD => [F.CORE_PART_SMD_SIZE, F.CORE_PART_SMD_BASE]
  | .CORE_PART_OUT => [F.CORE_PART_OUT_SIZE, F.CORE_PART_OUT_BASE]
  | .CORE_PART_MBX => [F.CORE_PART_MBX_SIZE, F.CORE_PART_MBX_BASE]
  | .CORE_PART_SCR => [F.CORE_PART_SCR_SIZE, F.CORE_PART_SCR_BASE]
  | .CORE_DISC_CNT => [F.CORE_DISC_CNT_DLY_CLAMP, F.CORE_DISC_CNT_OOR, F.CORE_DISC_CNT_DIS]
  | .CORE_SPK_CNT => [F.CORE_SPK_CNT_PKT, F.CORE_SPK_CNT_SPK]
  | .FOX_DEN_STAT => [F.FOX_DEN_STAT_MAX_OCC, F.FOX_DEN_STAT_OCC, F.FOX_DEN_STAT_OVF_CNT]
  | .CORE_GRP_MODE => [F.CORE_GRP_MODE_BASE, F.CORE_GRP_MODE_COUNT, F.CORE_GRP_MODE_MODEL, F.CORE_GRP_MODE_FORMAT, F.CORE_GRP_MODE_SMD_DEPTH, F.CORE_GRP_MODE_RESET_MODE, F.CORE_GRP_MODE_ACT, F.CORE_GRP_MODE_GRADE, F.CORE_GRP_MODE_REF_PERIOD, F.CORE_GRP_MODE_TAU_V, F.CORE_GRP_MODE_TAU_I, F.CORE_GRP_MODE_TAU_A, F.CORE_GRP_MODE_TAU_D, F.CORE_GRP_MODE_GSHIFT]
  | .CORE_GRP_LEVEL => [F.CORE_GRP_LEVEL_THETA, F.CORE_GRP_LEVEL_V_RESET, F.CORE_GRP_LEVEL_BIAS]
  | .CORE_GRP_COEF => [F.CORE_GRP_COEF_RES_C, F.CORE_GRP_COEF_RES_S, F.CORE_GRP_COEF_ADAPT_INC, F.CORE_GRP_COEF_ADAPT_SHL, F.CORE_GRP_COEF_COUPLE_SHR, F.CORE_GRP_COEF_D_RESET, F.CORE_GRP_COEF_SMD_OFS]
  | .CORE_GRP_CLAMP => [F.CORE_GRP_CLAMP_CLAMP_HI, F.CORE_GRP_CLAMP_CLAMP_LO, F.CORE_GRP_CLAMP_STATE_OFS]
  | .CORE_GRP_OUT => [F.CORE_GRP_OUT_FAN_PER, F.CORE_GRP_OUT_OUT_OFS]
  | .SYN_AXON_CFG => [F.SYN_AXON_CFG_AXON_COUNT, F.SYN_AXON_CFG_AXON_OFS]
  | .SYN_SCALE_CFG => [F.SYN_SCALE_CFG_SCALE_EN, F.SYN_SCALE_CFG_SCALE_OFS]
  | .SYN_COL_CFG => [F.SYN_COL_CFG_COL_BASE, F.SYN_COL_CFG_COL_COUNT, F.SYN_COL_CFG_HDR_OFS, F.SYN_COL_CFG_ENT_OFS]
  | .SYN_CORD_CFG => [F.SYN_CORD_CFG_MODE, F.SYN_CORD_CFG_BASE]
  | .SYN_SAT_CFG => [F.SYN_SAT_CFG_EXCEED, F.SYN_SAT_CFG_WIN]
  | .SYN_AXON_CNT => [F.SYN_AXON_CNT_ROWS, F.SYN_AXON_CNT_NOAXON]
  | .SYN_SAT_CNT => [F.SYN_SAT_CNT_GRAD, F.SYN_SAT_CNT_OUT, F.SYN_SAT_CNT_STATE, F.SYN_SAT_CNT_ACC]
  | .SYN_SAT_THR => [F.SYN_SAT_THR_GRAD, F.SYN_SAT_THR_OUT, F.SYN_SAT_THR_STATE, F.SYN_SAT_THR_ACC]
  | .SYN_SAT_MAX => [F.SYN_SAT_MAX_GRAD, F.SYN_SAT_MAX_OUT, F.SYN_SAT_MAX_STATE, F.SYN_SAT_MAX_ACC]
  | .LRN_CFG => [F.LRN_CFG_REGION, F.LRN_CFG_EN, F.LRN_CFG_TS_MODE, F.LRN_CFG_RULE, F.LRN_CFG_ELIG_SRC, F.LRN_CFG_PASS_M1, F.LRN_CFG_PRE_DECAY, F.LRN_CFG_POST_DECAY, F.LRN_CFG_PAY_INC, F.LRN_CFG_PAY_SHR, F.LRN_CFG_TR_INC, F.LRN_CFG_E_DECAY, F.LRN_CFG_G_SHR, F.LRN_CFG_MOD_SHR, F.LRN_CFG_MOM_SHR]
  | .LRN_PLASTIC => [F.LRN_PLASTIC_PL_AXON_BASE, F.LRN_PLASTIC_PL_AXON_COUNT, F.LRN_PLASTIC_PL_SLOT_BASE, F.LRN_PLASTIC_PL_SLOT_COUNT]
  | .LRN_LAYOUT0 => [F.LRN_LAYOUT0_PRE_OFS, F.LRN_LAYOUT0_POST_OFS, F.LRN_LAYOUT0_MOD_OFS, F.LRN_LAYOUT0_RATE_OFS]
  | .LRN_LAYOUT1 => [F.LRN_LAYOUT1_KERN_OFS, F.LRN_LAYOUT1_PLANE_OFS, F.LRN_LAYOUT1_ESTRIDE]
  | .LRN_SEED => [F.LRN_SEED_STATE, F.LRN_SEED_SEED]
  | .LRN_STAT => [F.LRN_STAT_STATE, F.LRN_STAT_APPLY_BUSY, F.LRN_STAT_PASS_BUSY, F.LRN_STAT_SNAP_BUSY]
  | .LRN_HOLD => [F.LRN_HOLD_CORD_MAX, F.LRN_HOLD_CORD_DROP]
  | .LRN_CNT => [F.LRN_CNT_APPLIES, F.LRN_CNT_WITHHELD, F.LRN_CNT_TR_SAT]
  | .LRN_TIME => [F.LRN_TIME_MAX_APPLY, F.LRN_TIME_LAST_APPLY, F.LRN_TIME_MAX_PASS, F.LRN_TIME_LAST_PASS]
  | .LRN_NORM => [F.LRN_NORM_NORM_EN, F.LRN_NORM_NORM_SHL, F.LRN_NORM_NORM_TARGET]
  | .LRN_REGION => [F.LRN_REGION_EPOCH_STEPS, F.LRN_REGION_PHASE, F.LRN_REGION_STATE, F.LRN_REGION_INIT_STATE, F.LRN_REGION_SNAP_HOLD]
  | .LRN_EPOCH => [F.LRN_EPOCH_EPOCH]
  | .LRN_SNAP_STAT => [F.LRN_SNAP_STAT_BUSY, F.LRN_SNAP_STAT_INCOMPLETE, F.LRN_SNAP_STAT_REGION, F.LRN_SNAP_STAT_WORDS]
  | .TND_CTRL => [F.TND_CTRL_REPLAY_EN]
  | .TND_STAT => [F.TND_STAT_REPLAY_DONE, F.TND_STAT_HOLD_FULL, F.TND_STAT_HOLD_MAX]
  | .TND_SEED => [F.TND_SEED_STATE, F.TND_SEED_SEED]
  | .TND_REPLAY_BASE => [F.TND_REPLAY_BASE_ADDR]
  | .TND_REPLAY_END => [F.TND_REPLAY_END_ADDR]
  | .TND_CNT => [F.TND_CNT_DISC, F.TND_CNT_CLIP, F.TND_CNT_EVENTS]
  | .TND_DIN_CFG => [F.TND_DIN_CFG_TAG, F.TND_DIN_CFG_EN, F.TND_DIN_CFG_DEBOUNCE, F.TND_DIN_CFG_LEVEL]
  | .TND_CHAN_A => [F.TND_CHAN_A_WORD]
  | .TND_CHAN_B => [F.TND_CHAN_B_WORD]
  | .TND_CHAN_STATE => [F.TND_CHAN_STATE_PRIMED, F.TND_CHAN_STATE_REF, F.TND_CHAN_STATE_PER, F.TND_CHAN_STATE_ACC]
  | .TND_REFSTORE => [F.TND_REFSTORE_HI, F.TND_REFSTORE_LO]
  | .ASH_CNT => [F.ASH_CNT_NOLINE, F.ASH_CNT_LATE, F.ASH_CNT_SHED, F.ASH_CNT_RD_ERR]
  | .ASH_REC_CNT => [F.ASH_REC_CNT_CNT]
  | .ASH_METER_CFG => [F.ASH_METER_CFG_TX_EN, F.ASH_METER_CFG_TX_PORT, F.ASH_METER_CFG_TX_VC, F.ASH_METER_CFG_Q_EN, F.ASH_METER_CFG_QID]
  | .ASH_DEC_CFG => [F.ASH_DEC_CFG_KIND, F.ASH_DEC_CFG_LINE_BASE, F.ASH_DEC_CFG_PAY, F.ASH_DEC_CFG_TX_EN, F.ASH_DEC_CFG_TX_PORT, F.ASH_DEC_CFG_TX_VC, F.ASH_DEC_CFG_Q_EN, F.ASH_DEC_CFG_QID]
  | .ASH_DEC_PAR => [F.ASH_DEC_PAR_THR, F.ASH_DEC_PAR_CORE, F.ASH_DEC_PAR_WORD, F.ASH_DEC_PAR_STRIDE]
  | .ASH_LINE_CNT => [F.ASH_LINE_CNT_LINE_COUNT]
  | .ASH_LINE_CODE => [F.ASH_LINE_CODE_HI, F.ASH_LINE_CODE_LO]
  | .ACT_ARM => [F.ACT_ARM_ARM]
  | .ACT_STAT => [F.ACT_STAT_PERMIT, F.ACT_STAT_LEVEL]
  | .ACT_MISS_CNT => [F.ACT_MISS_CNT_CNT]
  | .ACT_CFG => [F.ACT_CFG_DEC, F.ACT_CFG_EN, F.ACT_CFG_PERMIT_EN, F.ACT_CFG_HOLD, F.ACT_CFG_OFFSET, F.ACT_CFG_WIDTH]
  | .FOX_SEED => [F.FOX_SEED_STATE, F.FOX_SEED_SEED]
  | .FOX_RT_CFG => [F.FOX_RT_CFG_BCAST_MASK]
  | .FOX_RT_STAT => [F.FOX_RT_STAT_TILE, F.FOX_RT_STAT_GATEWAY, F.FOX_RT_STAT_LINK_DOWN]
  | .FOX_RT_CNT => [F.FOX_RT_CNT_CORR, F.FOX_RT_CNT_RETRY, F.FOX_RT_CNT_REDIR, F.FOX_RT_CNT_TOK_MAX, F.FOX_RT_CNT_TOK_OCC]
  | .FOX_PV_FLIT_CNT => [F.FOX_PV_FLIT_CNT_FLITS]
  | .FOX_PV_PKT_CNT => [F.FOX_PV_PKT_CNT_PKTS]
  | .FOX_PV_OCC => [F.FOX_PV_OCC_MAX_OCC, F.FOX_PV_OCC_OCC]
  | .FOX_PV_CSTALL => [F.FOX_PV_CSTALL_CYC]
  | .FOX_PV_BSTALL => [F.FOX_PV_BSTALL_CYC]
  | .FOX_PV_OSTALL => [F.FOX_PV_OSTALL_CYC]
  | .FOX_PV_ERR => [F.FOX_PV_ERR_NACK_CNT, F.FOX_PV_ERR_DROP_CNT]
  | .FOX_PHYS_SEL => [F.FOX_PHYS_SEL_TILE]
  | .FOX_ES_PV_FLIT_CNT => [F.FOX_ES_PV_FLIT_CNT_FLITS]
  | .FOX_ES_PV_PKT_CNT => [F.FOX_ES_PV_PKT_CNT_PKTS]
  | .FOX_ES_PV_OCC => [F.FOX_ES_PV_OCC_MAX_OCC, F.FOX_ES_PV_OCC_OCC]
  | .FOX_ES_PV_CSTALL => [F.FOX_ES_PV_CSTALL_CYC]
  | .FOX_ES_PV_BSTALL => [F.FOX_ES_PV_BSTALL_CYC]
  | .FOX_ES_PV_OSTALL => [F.FOX_ES_PV_OSTALL_CYC]
  | .FOX_ES_PV_ERR => [F.FOX_ES_PV_ERR_NACK_CNT, F.FOX_ES_PV_ERR_DROP_CNT]
  | .FOX_ES_CNT => [F.FOX_ES_CNT_CORR, F.FOX_ES_CNT_RETRY, F.FOX_ES_CNT_TOK_MAX, F.FOX_ES_CNT_TOK_OCC]
  | .FOX_GW_SEED => [F.FOX_GW_SEED_STATE, F.FOX_GW_SEED_SEED]
  | .FOX_GW_CFG => [F.FOX_GW_CFG_BCAST_MASK]
  | .CORD_CTRL => [F.CORD_CTRL_MISS_THR, F.CORD_CTRL_REGION, F.CORD_CTRL_RUNS, F.CORD_CTRL_START]
  | .CORD_STAT => [F.CORD_STAT_BUSY, F.CORD_STAT_READY, F.CORD_STAT_MAX_MISS, F.CORD_STAT_LAST_MISS]
  | .CORD_MISS_CNT => [F.CORD_MISS_CNT_CNT]
  | .CORD_LOST_CNT => [F.CORD_LOST_CNT_CNT]
  | .CORD_BYPASS => [F.CORD_BYPASS_BYPASS]
  | .CORD_SEND_CFG => [F.CORD_SEND_CFG_MODE, F.CORD_SEND_CFG_SIGNED, F.CORD_SEND_CFG_SBASE, F.CORD_SEND_CFG_SCOUNT]
  | .CORD_PORT_STAT => [F.CORD_PORT_STAT_READY, F.CORD_PORT_STAT_SEND_WORDS, F.CORD_PORT_STAT_RX_MAX, F.CORD_PORT_STAT_RX_OCC]
  | .CORD_CNT => [F.CORD_CNT_SLOT_MISS_CNT, F.CORD_CNT_RX_DROP, F.CORD_CNT_ERR, F.CORD_CNT_CORR]
  | .CORD_PORT_CNT => [F.CORD_PORT_CNT_LOCAL_IN, F.CORD_PORT_CNT_LOCAL_OUT]
  | .CORD_ARM => [F.CORD_ARM_ARM]
  | .CORD_LOAD_MASK => [F.CORD_LOAD_MASK_MASK]
  | .CORD_TABLE => [F.CORD_TABLE_ENTRY]
  | .CORD_TABLE_BC => [F.CORD_TABLE_BC_ENTRY]
  | .DREY_CTRL => [F.DREY_CTRL_REASM_LIMIT]
  | .DREY_STAT => [F.DREY_STAT_REASM_ACT, F.DREY_STAT_MISS_OCC]
  | .DREY_DESC_BASE => [F.DREY_DESC_BASE_ADDR]
  | .DREY_OP_CNT => [F.DREY_OP_CNT_RECORDS, F.DREY_OP_CNT_OPS]
  | .DREY_CACHE_CNT => [F.DREY_CACHE_CNT_HITS, F.DREY_CACHE_CNT_MISSES]
  | .DREY_NACK_CNT0 => [F.DREY_NACK_CNT0_RING_FULL, F.DREY_NACK_CNT0_QUEUE_CLOSED, F.DREY_NACK_CNT0_NOT_BOUND, F.DREY_NACK_CNT0_TOO_LONG]
  | .DREY_NACK_CNT1 => [F.DREY_NACK_CNT1_NOT_PERMITTED, F.DREY_NACK_CNT1_BAD_LENGTH, F.DREY_NACK_CNT1_ADDR_ERROR, F.DREY_NACK_CNT1_SHED]
  | .DREY_MISC_CNT => [F.DREY_MISC_CNT_REASM_TO, F.DREY_MISC_CNT_FLUSH_LOST, F.DREY_MISC_CNT_COMB_LATE, F.DREY_MISC_CNT_DATA_ERROR]
  | .DREY_LAST_NACK => [F.DREY_LAST_NACK_REASON, F.DREY_LAST_NACK_SRC, F.DREY_LAST_NACK_QID]
  | .DREY_QSEL => [F.DREY_QSEL_QID]
  | .DREY_QCMD => [F.DREY_QCMD_BUSY, F.DREY_QCMD_CMD, F.DREY_QCMD_REASON]
  | .DREY_QARG => [F.DREY_QARG_RD]
  | .DREY_QDESC => [F.DREY_QDESC_WORD]
  | .DREY_CFG_QID => [F.DREY_CFG_QID_QID]
  | .DREY_MBX_CNT => [F.DREY_MBX_CNT_RING_FULL, F.DREY_MBX_CNT_QUEUE_CLOSED, F.DREY_MBX_CNT_OTHER, F.DREY_MBX_CNT_TOO_LONG]
  | .MEM_SRAM_SCRUB => [F.MEM_SRAM_SCRUB_EN, F.MEM_SRAM_SCRUB_GAP]
  | .MEM_SRAM_CNT => [F.MEM_SRAM_CNT_CORR, F.MEM_SRAM_CNT_UNCORR, F.MEM_SRAM_CNT_SYNDROME, F.MEM_SRAM_CNT_WORD]
  | .MEM_CFG => [F.MEM_CFG_RATE, F.MEM_CFG_DENSITY]
  | .MEM_STAT => [F.MEM_STAT_TRAINED, F.MEM_STAT_SELF_REF, F.MEM_STAT_HOT, F.MEM_STAT_DEGRADED, F.MEM_STAT_FAILED, F.MEM_STAT_RETIRED]
  | .MEM_RETIRE => [F.MEM_RETIRE_V1, F.MEM_RETIRE_POS1, F.MEM_RETIRE_V0, F.MEM_RETIRE_POS0]
  | .MEM_PIN_CFG => [F.MEM_PIN_CFG_PIN_THR]
  | .MEM_ECC_CNT => [F.MEM_ECC_CNT_CORR, F.MEM_ECC_CNT_UNCORR, F.MEM_ECC_CNT_RAW_KEEP]
  | .MEM_EDC_CNT => [F.MEM_EDC_CNT_RD_REPLAY, F.MEM_EDC_CNT_WR_REPLAY, F.MEM_EDC_CNT_GIVEUP]
  | .MEM_ERR_LOG => [F.MEM_ERR_LOG_SYNDROME, F.MEM_ERR_LOG_TYPE, F.MEM_ERR_LOG_OFFSET]
  | .MEM_SCRUB_CFG => [F.MEM_SCRUB_CFG_EN, F.MEM_SCRUB_CFG_INTERVAL]
  | .MEM_LANE_MASK => [F.MEM_LANE_MASK_DBI_OFF, F.MEM_LANE_MASK_EDC_OFF]
  | .CSIRX_CTX_CFG => [F.CSIRX_CTX_CFG_EN, F.CSIRX_CTX_CFG_KIND, F.CSIRX_CTX_CFG_PORT, F.CSIRX_CTX_CFG_VC, F.CSIRX_CTX_CFG_DT, F.CSIRX_CTX_CFG_TAG_BASE, F.CSIRX_CTX_CFG_TAG_COUNT, F.CSIRX_CTX_CFG_LOSS_FR, F.CSIRX_CTX_CFG_AHEAD, F.CSIRX_CTX_CFG_PSHIFT, F.CSIRX_CTX_CFG_LAG]
  | .CSIRX_CTX_SEQ => [F.CSIRX_CTX_SEQ_SEQ_ORIGIN, F.CSIRX_CTX_SEQ_ANCHOR, F.CSIRX_CTX_SEQ_RATE]
  | .CSIRX_CTX_BUF => [F.CSIRX_CTX_BUF_SIZE, F.CSIRX_CTX_BUF_BASE]
  | .CSIRX_CTX_PARAM => [F.CSIRX_CTX_PARAM_WIDTH, F.CSIRX_CTX_PARAM_BUDGET]
  | .CSIRX_CTX_STAT => [F.CSIRX_CTX_STAT_LOSS, F.CSIRX_CTX_STAT_ANCHORED, F.CSIRX_CTX_STAT_BUF_MAX, F.CSIRX_CTX_STAT_BUF_OCC]
  | .CSIRX_CTX_CNT0 => [F.CSIRX_CTX_CNT0_PKTS, F.CSIRX_CTX_CNT0_OVF, F.CSIRX_CTX_CNT0_GAP]
  | .CSIRX_CTX_CNT1 => [F.CSIRX_CTX_CNT1_LATE, F.CSIRX_CTX_CNT1_AHEAD_DROP, F.CSIRX_CTX_CNT1_FMT_ERR, F.CSIRX_CTX_CNT1_SAT]
  | .CSITX_RELAY_CFG => [F.CSITX_RELAY_CFG_EN, F.CSITX_RELAY_CFG_RX_PORT, F.CSITX_RELAY_CFG_RX_VC, F.CSITX_RELAY_CFG_TX_PORT, F.CSITX_RELAY_CFG_TX_VC]
  | .CMD_INBAND_CFG => [F.CMD_INBAND_CFG_EN, F.CMD_INBAND_CFG_RX_PORT, F.CMD_INBAND_CFG_RX_VC, F.CMD_INBAND_CFG_REPLY_EN, F.CMD_INBAND_CFG_TX_PORT, F.CMD_INBAND_CFG_TX_VC]
  | .CSIRX_POOL_STAT => [F.CSIRX_POOL_STAT_MAX_OCC, F.CSIRX_POOL_STAT_OCC]
  | .CSIRX_PORT_CFG => [F.CSIRX_PORT_CFG_EN, F.CSIRX_PORT_CFG_LANES, F.CSIRX_PORT_CFG_RATE, F.CSIRX_PORT_CFG_CRC_THR]
  | .CSIRX_CTRL => [F.CSIRX_CTRL_RETRAIN]
  | .CSIRX_STAT => [F.CSIRX_STAT_TRAINED, F.CSIRX_STAT_LANES_ACT, F.CSIRX_STAT_LANE_OK]
  | .CSIRX_CMD_CNT => [F.CSIRX_CMD_CNT_CMD, F.CSIRX_CMD_CNT_BUSY]
  | .CSIRX_PORT_CNT => [F.CSIRX_PORT_CNT_PKTS, F.CSIRX_PORT_CNT_NOCTX, F.CSIRX_PORT_CNT_ING_DROP]
  | .CSIRX_ERR_CNT => [F.CSIRX_ERR_CNT_ECC_CORR, F.CSIRX_ERR_CNT_HDR_ERR, F.CSIRX_ERR_CNT_CRC_ERR, F.CSIRX_ERR_CNT_SOT_ERR]
  | .CSIRX_BYTE_CNT => [F.CSIRX_BYTE_CNT_BYTES]
  | .CSITX_PORT_CFG => [F.CSITX_PORT_CFG_EN, F.CSITX_PORT_CFG_LANES, F.CSITX_PORT_CFG_CLK_CONT, F.CSITX_PORT_CFG_RATE, F.CSITX_PORT_CFG_RELAY_THR]
  | .CSITX_STAT => [F.CSITX_STAT_BUSY, F.CSITX_STAT_RELAY_MAX]
  | .CSITX_PKT_CNT => [F.CSITX_PKT_CNT_PKTS, F.CSITX_PKT_CNT_RELAY_PKTS]
  | .CSITX_DROP_CNT => [F.CSITX_DROP_CNT_RELAY_DROP, F.CSITX_DROP_CNT_BLK_DROP]
  | .CSITX_BYTE_CNT => [F.CSITX_BYTE_CNT_BYTES]
  | .I3C_STAT => [F.I3C_STAT_DA_VALID, F.I3C_STAT_DYN_ADDR, F.I3C_STAT_IBI_EN, F.I3C_STAT_CMD_FREE, F.I3C_STAT_RPL_USED]
  | .I3C_LEN => [F.I3C_LEN_MRL, F.I3C_LEN_MWL]
  | .I3C_CNT => [F.I3C_CNT_FULL_DROP, F.I3C_CNT_RUNT, F.I3C_CNT_PAR_ERR, F.I3C_CNT_IBI_NACK]
  | .CMD_CNT => [F.CMD_CNT_CMDS, F.CMD_CNT_CRC_ERR, F.CMD_CNT_NOT_OK]
  | .CMD_LAST => [F.CMD_LAST_REASON, F.CMD_LAST_OPCODE, F.CMD_LAST_STATUS]
  | .CMD_FEAT => [F.CMD_FEAT_FEATURES]
  | .PAIR_CFG => [F.PAIR_CFG_MIRROR_EN, F.PAIR_CFG_MIR_VC, F.PAIR_CFG_ALIGN_WAIT, F.PAIR_CFG_CKPT_PERIOD]
  | .PAIR_STAT => [F.PAIR_STAT_ROLE, F.PAIR_STAT_FENCE_IN, F.PAIR_STAT_FENCED, F.PAIR_STAT_SB_STATE, F.PAIR_STAT_CKPT_VALID, F.PAIR_STAT_JOURNAL_FULL, F.PAIR_STAT_ENG_READY, F.PAIR_STAT_PHASE]
  | .PAIR_CKPT_BASE => [F.PAIR_CKPT_BASE_ADDR]
  | .PAIR_CKPT_CFG => [F.PAIR_CKPT_CFG_SIZE, F.PAIR_CKPT_CFG_STREAM_MBPS]
  | .PAIR_CKPT_STEP => [F.PAIR_CKPT_STEP_STEP]
  | .PAIR_CNT0 => [F.PAIR_CNT0_DIG_MISS, F.PAIR_CNT0_RESYNCS, F.PAIR_CNT0_ALIGN_MISS, F.PAIR_CNT0_HB_GAP]
  | .PAIR_CNT1 => [F.PAIR_CNT1_BLK_ERR, F.PAIR_CNT1_OVL_OVF, F.PAIR_CNT1_TAKEOVERS, F.PAIR_CNT1_EDITS]
  | .PAIR_DIG_LOCAL => [F.PAIR_DIG_LOCAL_DIGEST]
  | .PAIR_DIG_PEER => [F.PAIR_DIG_PEER_DIGEST]
  | .BOOT_REPORT => [F.BOOT_REPORT_STAGE, F.BOOT_REPORT_RESULT, F.BOOT_REPORT_DETAIL, F.BOOT_REPORT_DATA]
  | .BOOT_LOG => [F.BOOT_LOG_STAGE, F.BOOT_LOG_RESULT, F.BOOT_LOG_DETAIL, F.BOOT_LOG_DATA]
  | .BOOT_FW_STAT => [F.BOOT_FW_STAT_SLOT, F.BOOT_FW_STAT_PUSHED, F.BOOT_FW_STAT_SPARE_MGMT, F.BOOT_FW_STAT_PLL_B]
  | .BOOT_LOAD_WIN => [F.BOOT_LOAD_WIN_XFER, F.BOOT_LOAD_WIN_BASE]
  | .BOOT_LOAD_CNT => [F.BOOT_LOAD_CNT_CNT, F.BOOT_LOAD_CNT_COUNTED]
  | .BOOT_LOAD_STAT => [F.BOOT_LOAD_STAT_OPEN, F.BOOT_LOAD_STAT_COMMITTED, F.BOOT_LOAD_STAT_CORES]
  | .BOOT_IMAGE_MEAS => [F.BOOT_IMAGE_MEAS_WORD]
  | .SPARE_CTRL => [F.SPARE_CTRL_AGE_EN]
  | .SPARE_STAT => [F.SPARE_STAT_COL_RETIRED, F.SPARE_STAT_COLUMN, F.SPARE_STAT_SPARE_USED, F.SPARE_STAT_SPARES_FREE]
  | .SPARE_CNT => [F.SPARE_CNT_SWAPS, F.SPARE_CNT_RETIRES, F.SPARE_CNT_AGE_SWAPS, F.SPARE_CNT_FAILED]
  | .SPARE_LAST => [F.SPARE_LAST_LOGICAL, F.SPARE_LAST_OLD_TILE, F.SPARE_LAST_NEW_TILE, F.SPARE_LAST_WINDOW]
  | .SPARE_DEFECT_CORE => [F.SPARE_DEFECT_CORE_DEFECT]
  | .SPARE_DEFECT_RTR => [F.SPARE_DEFECT_RTR_DEFECT]
  | .SPARE_MAP => [F.SPARE_MAP_VALID, F.SPARE_MAP_TILE]
  | .SPARE_SHADOW => [F.SPARE_SHADOW_VALID, F.SPARE_SHADOW_TILE]
  | .OWL_CTRL => [F.OWL_CTRL_FAULTN_CLASS]
  | .OWL_STAT => [F.OWL_STAT_LOST, F.OWL_STAT_HALTED, F.OWL_STAT_DEV_FENCED, F.OWL_STAT_FORCE_REJ, F.OWL_STAT_FIFO_OCC, F.OWL_STAT_FIFO_MAX, F.OWL_STAT_ACTIVE]
  | .OWL_CNT => [F.OWL_CNT_ACCEPTED, F.OWL_CNT_LOST_FULL, F.OWL_CNT_LOST_BUSY]
  | .OWL_CNT2 => [F.OWL_CNT2_FORCED, F.OWL_CNT2_ST_FULL, F.OWL_CNT2_LOG_OVW, F.OWL_CNT2_REACT_FAIL]
  | .OWL_FORCE => [F.OWL_FORCE_SOURCE, F.OWL_FORCE_KIND, F.OWL_FORCE_CLASS, F.OWL_FORCE_GO, F.OWL_FORCE_ADDRESS]
  | .OWL_WDOG => [F.OWL_WDOG_EN, F.OWL_WDOG_KICK, F.OWL_WDOG_TIMEOUT]
  | .OWL_REACT => [F.OWL_REACT_FATAL, F.OWL_REACT_REACT, F.OWL_REACT_MIN_CLASS, F.OWL_REACT_MASK_FAULTN]
  | .OWL_ST_KEY => [F.OWL_ST_KEY_VALID, F.OWL_ST_KEY_CAUSE, F.OWL_ST_KEY_FORCED, F.OWL_ST_KEY_CLASS, F.OWL_ST_KEY_KIND, F.OWL_ST_KEY_SOURCE, F.OWL_ST_KEY_COUNT]
  | .OWL_ST_ADDR => [F.OWL_ST_ADDR_LAST_ADDR, F.OWL_ST_ADDR_FIRST_ADDR]
  | .KILN_CTRL => [F.KILN_CTRL_T_MIN, F.KILN_CTRL_FLOOR_OVR, F.KILN_CTRL_RECAL, F.KILN_CTRL_G6_AUTO, F.KILN_CTRL_AUTO_IDLE, F.KILN_CTRL_MODE]
  | .KILN_STAT => [F.KILN_STAT_STATE, F.KILN_STAT_DIVERGED, F.KILN_STAT_RECAL_BUSY, F.KILN_STAT_OVER_LIMIT, F.KILN_STAT_HOT, F.KILN_STAT_T, F.KILN_STAT_FLOOR, F.KILN_STAT_BOOST]
  | .KILN_CAP => [F.KILN_CAP_APPLIED, F.KILN_CAP_CAP]
  | .KILN_UNC_CORR => [F.KILN_UNC_CORR_CORR]
  | .KILN_POWER => [F.KILN_POWER_MEAS, F.KILN_POWER_EST, F.KILN_POWER_MAX_MEAS, F.KILN_POWER_MAX_EST]
  | .KILN_UNC_POWER => [F.KILN_UNC_POWER_MEAS, F.KILN_UNC_POWER_EST]
  | .KILN_CNT => [F.KILN_CNT_THR_STEPS, F.KILN_CNT_DIV_WIN, F.KILN_CNT_OVER_WIN, F.KILN_CNT_HOT_STEPS]
  | .KILN_THERM_CFG => [F.KILN_THERM_CFG_TRIP, F.KILN_THERM_CFG_THROT, F.KILN_THERM_CFG_WARN]
  | .KILN_THERM => [F.KILN_THERM_HOT_IDX, F.KILN_THERM_HOT_TEMP]
  | .KILN_AGE_CFG => [F.KILN_AGE_CFG_PERIOD]
  | .KILN_GATE => [F.KILN_GATE_G6_IDLE, F.KILN_GATE_ENG, F.KILN_GATE_G6_SR]
  | .KILN_OFF_CAUSE => [F.KILN_OFF_CAUSE_TRIP, F.KILN_OFF_CAUSE_SENSOR]
  | .KILN_WAKE_CNT => [F.KILN_WAKE_CNT_CORE_WAKES, F.KILN_WAKE_CNT_ENG_WAKES, F.KILN_WAKE_CNT_G6_WAKES]
  | .KILN_COEF => [F.KILN_COEF_SYN, F.KILN_COEF_UPD, F.KILN_COEF_LRN, F.KILN_COEF_SRAM, F.KILN_COEF_FLIT, F.KILN_COEF_CORD, F.KILN_COEF_LEAK]
  | .KILN_COEF_UNC => [F.KILN_COEF_UNC_BASE, F.KILN_COEF_UNC_G6, F.KILN_COEF_UNC_CSI]
  | .CLK_STAT => [F.CLK_STAT_REF_OK, F.CLK_STAT_PLL_A_LOCK, F.CLK_STAT_PLL_B_LOCK, F.CLK_STAT_PLL_B_USED, F.CLK_STAT_CLK_RESET, F.CLK_STAT_G6_LOCK, F.CLK_STAT_TX_LOCK]
  | .KILN_VID => [F.KILN_VID_VID]
  | .KILN_ENG_POWER => [F.KILN_ENG_POWER_MEAS, F.KILN_ENG_POWER_EST]
  | .KILN_ENG_CORR => [F.KILN_ENG_CORR_CORR]
  | .KILN_DROOP => [F.KILN_DROOP_CNT, F.KILN_DROOP_MAX_US, F.KILN_DROOP_HOLD_US, F.KILN_DROOP_THR_MV]
  | .KILN_TEMP => [F.KILN_TEMP_MAX, F.KILN_TEMP_TEMP]
  | .KILN_CORE_BIN => [F.KILN_CORE_BIN_RATIO, F.KILN_CORE_BIN_LIVE, F.KILN_CORE_BIN_FUSED]
  | .SEC_STAT => [F.SEC_STAT_DBG_UNLOCKED, F.SEC_STAT_DBG_SCOPE, F.SEC_STAT_DBG_LOCK, F.SEC_STAT_ROLLBACK, F.SEC_STAT_SVN, F.SEC_STAT_SLOT_VALID, F.SEC_STAT_SLOT_REVOKED, F.SEC_STAT_SLOT_DEBUG]
  | .SEC_PROG => [F.SEC_PROG_BUSY, F.SEC_PROG_ACTION, F.SEC_PROG_SLOT, F.SEC_PROG_VALUE, F.SEC_PROG_STATUS, F.SEC_PROG_ARM]
  | .SEC_CNT => [F.SEC_CNT_UNLOCK_FAIL, F.SEC_CNT_ATTESTS]
  | .SEC_PROG_DATA => [F.SEC_PROG_DATA_DATA]
  | .SEC_FW_MEAS => [F.SEC_FW_MEAS_MEAS]
  | .SEC_ROOT_HASH => [F.SEC_ROOT_HASH_HASH]
  | .SEC_SLOT_HASH => [F.SEC_SLOT_HASH_HASH]
  | .SEC_ID_PUB => [F.SEC_ID_PUB_KEY]

/-- Part 0 of the list of all registers. -/
def Reg.all0 : List Reg :=
  [.CHIP_ID, .CHIP_CTRL, .CHIP_CFG_REASON, .TIME_GRAIN, .TIME_ORIGIN,
   .TIME_STEP, .TIME_FRAME, .TIME_SYNC_LOAD, .TIME_STEP_CFG, .TIME_CTRL,
   .TIME_SYNC_CFG, .TIME_SYNC_STAT, .TIME_STEP_GRANT, .TIME_OVL_STAT, .TIME_STRETCH_CNT,
   .TIME_FORCED_CNT, .TIME_OVERRUN_CNT, .TIME_LATE_CNT, .TIME_SHED_CNT, .TIME_LATE_IN_CNT,
   .TIME_PRE_IN_CNT, .CORE_INFLIGHT, .CORE_OVL_CNT, .TND_INFLIGHT, .CORE_STAT,
   .CORE_UPD_STAT, .CORE_PART_STATE, .CORE_PART_LAND, .CORE_PART_SYN, .CORE_PART_LRN,
   .CORE_PART_SMD, .CORE_PART_OUT, .CORE_PART_MBX, .CORE_PART_SCR, .CORE_DISC_CNT,
   .CORE_SPK_CNT, .FOX_DEN_STAT, .CORE_GRP_MODE, .CORE_GRP_LEVEL, .CORE_GRP_COEF,
   .CORE_GRP_CLAMP, .CORE_GRP_OUT, .SYN_AXON_CFG, .SYN_SCALE_CFG, .SYN_COL_CFG,
   .SYN_CORD_CFG, .SYN_SAT_CFG, .SYN_AXON_CNT, .SYN_SAT_CNT, .SYN_SAT_THR,
   .SYN_SAT_MAX, .LRN_CFG, .LRN_PLASTIC, .LRN_LAYOUT0, .LRN_LAYOUT1,
   .LRN_SEED, .LRN_STAT, .LRN_HOLD, .LRN_CNT, .LRN_TIME]

/-- Part 1 of the list of all registers. -/
def Reg.all1 : List Reg :=
  [.LRN_NORM, .LRN_REGION, .LRN_EPOCH, .LRN_SNAP_STAT, .TND_CTRL,
   .TND_STAT, .TND_SEED, .TND_REPLAY_BASE, .TND_REPLAY_END, .TND_CNT,
   .TND_DIN_CFG, .TND_CHAN_A, .TND_CHAN_B, .TND_CHAN_STATE, .TND_REFSTORE,
   .ASH_CNT, .ASH_REC_CNT, .ASH_METER_CFG, .ASH_DEC_CFG, .ASH_DEC_PAR,
   .ASH_LINE_CNT, .ASH_LINE_CODE, .ACT_ARM, .ACT_STAT, .ACT_MISS_CNT,
   .ACT_CFG, .FOX_SEED, .FOX_RT_CFG, .FOX_RT_STAT, .FOX_RT_CNT,
   .FOX_PV_FLIT_CNT, .FOX_PV_PKT_CNT, .FOX_PV_OCC, .FOX_PV_CSTALL, .FOX_PV_BSTALL,
   .FOX_PV_OSTALL, .FOX_PV_ERR, .FOX_PHYS_SEL, .FOX_ES_PV_FLIT_CNT, .FOX_ES_PV_PKT_CNT,
   .FOX_ES_PV_OCC, .FOX_ES_PV_CSTALL, .FOX_ES_PV_BSTALL, .FOX_ES_PV_OSTALL, .FOX_ES_PV_ERR,
   .FOX_ES_CNT, .FOX_GW_SEED, .FOX_GW_CFG, .CORD_CTRL, .CORD_STAT,
   .CORD_MISS_CNT, .CORD_LOST_CNT, .CORD_BYPASS, .CORD_SEND_CFG, .CORD_PORT_STAT,
   .CORD_CNT, .CORD_PORT_CNT, .CORD_ARM, .CORD_LOAD_MASK, .CORD_TABLE]

/-- Part 2 of the list of all registers. -/
def Reg.all2 : List Reg :=
  [.CORD_TABLE_BC, .DREY_CTRL, .DREY_STAT, .DREY_DESC_BASE, .DREY_OP_CNT,
   .DREY_CACHE_CNT, .DREY_NACK_CNT0, .DREY_NACK_CNT1, .DREY_MISC_CNT, .DREY_LAST_NACK,
   .DREY_QSEL, .DREY_QCMD, .DREY_QARG, .DREY_QDESC, .DREY_CFG_QID,
   .DREY_MBX_CNT, .MEM_SRAM_SCRUB, .MEM_SRAM_CNT, .MEM_CFG, .MEM_STAT,
   .MEM_RETIRE, .MEM_PIN_CFG, .MEM_ECC_CNT, .MEM_EDC_CNT, .MEM_ERR_LOG,
   .MEM_SCRUB_CFG, .MEM_LANE_MASK, .CSIRX_CTX_CFG, .CSIRX_CTX_SEQ, .CSIRX_CTX_BUF,
   .CSIRX_CTX_PARAM, .CSIRX_CTX_STAT, .CSIRX_CTX_CNT0, .CSIRX_CTX_CNT1, .CSITX_RELAY_CFG,
   .CMD_INBAND_CFG, .CSIRX_POOL_STAT, .CSIRX_PORT_CFG, .CSIRX_CTRL, .CSIRX_STAT,
   .CSIRX_CMD_CNT, .CSIRX_PORT_CNT, .CSIRX_ERR_CNT, .CSIRX_BYTE_CNT, .CSITX_PORT_CFG,
   .CSITX_STAT, .CSITX_PKT_CNT, .CSITX_DROP_CNT, .CSITX_BYTE_CNT, .I3C_STAT,
   .I3C_LEN, .I3C_CNT, .CMD_CNT, .CMD_LAST, .CMD_FEAT,
   .PAIR_CFG, .PAIR_STAT, .PAIR_CKPT_BASE, .PAIR_CKPT_CFG, .PAIR_CKPT_STEP]

/-- Part 3 of the list of all registers. -/
def Reg.all3 : List Reg :=
  [.PAIR_CNT0, .PAIR_CNT1, .PAIR_DIG_LOCAL, .PAIR_DIG_PEER, .BOOT_REPORT,
   .BOOT_LOG, .BOOT_FW_STAT, .BOOT_LOAD_WIN, .BOOT_LOAD_CNT, .BOOT_LOAD_STAT,
   .BOOT_IMAGE_MEAS, .SPARE_CTRL, .SPARE_STAT, .SPARE_CNT, .SPARE_LAST,
   .SPARE_DEFECT_CORE, .SPARE_DEFECT_RTR, .SPARE_MAP, .SPARE_SHADOW, .OWL_CTRL,
   .OWL_STAT, .OWL_CNT, .OWL_CNT2, .OWL_FORCE, .OWL_WDOG,
   .OWL_REACT, .OWL_ST_KEY, .OWL_ST_ADDR, .KILN_CTRL, .KILN_STAT,
   .KILN_CAP, .KILN_UNC_CORR, .KILN_POWER, .KILN_UNC_POWER, .KILN_CNT,
   .KILN_THERM_CFG, .KILN_THERM, .KILN_AGE_CFG, .KILN_GATE, .KILN_OFF_CAUSE,
   .KILN_WAKE_CNT, .KILN_COEF, .KILN_COEF_UNC, .CLK_STAT, .KILN_VID,
   .KILN_ENG_POWER, .KILN_ENG_CORR, .KILN_DROOP, .KILN_TEMP, .KILN_CORE_BIN,
   .SEC_STAT, .SEC_PROG, .SEC_CNT, .SEC_PROG_DATA, .SEC_FW_MEAS,
   .SEC_ROOT_HASH, .SEC_SLOT_HASH, .SEC_ID_PUB]

/-- Every register. -/
def Reg.all : List Reg := Reg.all0 ++ Reg.all1 ++ Reg.all2 ++ Reg.all3

end Sys2Proof.Machine
end

