-- ==== Sys2Proof/Machine/Sparse.lean ====
section
/-!
DEFINITION. Sparse tables as plain data: a list of key and value pairs whose keys rise strictly, in which no entry
holds the value that an unlisted key reads as.  Register fields, memory bytes, upset masks and per-core state are
held so, and equal tables are equal lists.
-/
namespace Sys2Proof.Machine

namespace Sparse

/-- The value at key `k`; `d` where the table lists none. -/
def get {K V : Type} [DecidableEq K] (m : List (K × V)) (k : K) (d : V) : V :=
  match m with
  | [] => d
  | e :: t => if e.1 = k then e.2 else get t k d

/-- The table without key `k`. -/
def drop {K V : Type} [DecidableEq K] (m : List (K × V)) (k : K) : List (K × V) :=
  m.filter (fun e => decide (e.1 ≠ k))

/-- The table with one more entry, put before the first key above it. -/
def put {K V : Type} (lt : K → K → Bool) (m : List (K × V)) (k : K) (v : V) : List (K × V) :=
  match m with
  | [] => [(k, v)]
  | e :: t => if lt k e.1 then (k, v) :: e :: t else e :: put lt t k v

/-- The table with `v` at key `k`, where an unlisted `k` reads as `d`. -/
def set {K V : Type} [DecidableEq K] [DecidableEq V] (lt : K → K → Bool) (m : List (K × V)) (k : K) (d v : V) :
    List (K × V) :=
  if v = d then drop m k else put lt (drop m k) k v

/-- The canonical form: keys rise strictly and no entry holds its default. -/
def wf {K V : Type} [DecidableEq V] (lt : K → K → Bool) (d : V) : List (K × V) → Bool
  | [] => true
  | e :: t => decide (e.2 ≠ d) && t.all (fun x => lt e.1 x.1) && wf lt d t

end Sparse

/-- The order of plain numbers as keys. -/
def natLt (a b : Nat) : Bool := decide (a < b)

/-- The key of one register field: the register's number, the field's low bit, the unit that holds the register (core,
tile, engine, port, group, context or stop) and the copy. -/
structure Key where
  r : Nat
  lo : Nat
  u : Nat
  i : Nat
  deriving DecidableEq, Repr

/-- Register, then field, then unit, then copy. -/
def Key.lt (a b : Key) : Bool :=
  if a.r ≠ b.r then decide (a.r < b.r)
  else if a.lo ≠ b.lo then decide (a.lo < b.lo)
  else if a.u ≠ b.u then decide (a.u < b.u)
  else decide (a.i < b.i)

end Sys2Proof.Machine
end

