-- ==== Sys2Proof/Machine/State.lean ====
section
/-!
DEFINITION. The state of the block as plain data: the fuse set, the pins, every register field, memory with its upset
masks, and the queues, buffers and engines of every chapter, together with the queue of waiting commands.
A register's field is held once, in `State.regs`, under its reset default; every other record holds what a chapter
gives the device beside its registers.  `State.reset` is the device after a cold reset, before power-good.
-/
namespace Sys2Proof.Machine

/-- The fuse set, each bit as its two cells read (14_bringup_loading_spares.md R382, R383, 17_security.md R447,
16_power_clocks_thermal.md R428). -/
structure FuseSt where
  variant : Nat
  engineEn : Nat
  rxEn : Nat
  txEn : Nat
  g6En : Nat
  capLimit : Nat
  boostDis : Bool
  dieRev : Nat
  serial : BitVec 64
  /-- Speed bin per physical core; a tile not listed has bin 8. -/
  bins : List (Nat × Nat)
  coreDefects : List Nat
  routerDefects : List Nat
  /-- KILN_COEF and KILN_COEF_UNC as 64-bit words (16 R429). -/
  coef : BitVec 64
  coefUnc : BitVec 64
  vid : Nat
  /-- FUSE_CRC (R382). -/
  crc : BitVec 32
  rootHash : List Byte
  /-- The identity key's seed, in the security block's own bank (R447). -/
  idSeed : List Byte
  slotHash : List (List Byte)
  slotValid : BitVec 4
  slotRevoked : BitVec 4
  slotDebug : BitVec 4
  rollback : Nat
  debugLock : Bool
  deriving DecidableEq, Repr

/-- The pins and dedicated wires that the chapters name. -/
structure PinSt where
  /-- DIN0 to DIN15 as the synchronisers see them (06 R166). -/
  din : BitVec 16
  /-- PAIR_PERMIT_IN (06 R179). -/
  permit : Bool
  /-- QUENCH_N (12 R344). -/
  quenchN : Bool
  /-- RESET_N (18 R466). -/
  resetN : Bool
  /-- PAIR_FENCE_IN and PAIR_HB_IN (13 R347). -/
  fenceIn : Bool
  hbIn : Bool
  /-- PAIR_ROLE strap: true = standby (13 R347). -/
  roleStrap : Bool
  wake : Bool
  /-- Supply rails in range, in the order of 18 R465. -/
  rails : BitVec 7
  /-- SYNC_OUT (02 R38). -/
  syncOut : Bool
  /-- PAIR_HB_OUT and PAIR_FENCE_OUT (true = released, the device is fenced or unpowered). -/
  hbOut : Bool
  fenceOut : Bool
  /-- FAULT_N, true = high (15 R417). -/
  faultN : Bool
  deriving DecidableEq, Repr

/-- How a boundary fell (02_time_and_ordering.md R60). -/
inductive Close where
  | clean | stretched | forced
  deriving DecidableEq, Repr

/-- Where the Collier step sequencer stands (02 R42, R44, R58). -/
inductive SeqPhase where
  /-- RUN_EN = 0. -/
  | off
  /-- Step 0 is scheduled and has not begun. -/
  | armed
  /-- A step is open; its deadline has not been examined, or the device is in free-run mode. -/
  | opened
  /-- The deadline has passed and the stretch budget runs. -/
  | stretch
  /-- The budget is spent; HANG_LIMIT runs for unfinished updates. -/
  | hang
  /-- Free-run with FREE_GATED: the step has closed and no grant is left (R44). -/
  | between
  /-- A swap window withholds the step tick (14 R393). -/
  | swap
  /-- A standby copies or restores a checkpoint and begins no step (13 R363, R364, R366). -/
  | away
  deriving DecidableEq, Repr

/-- The overload flags of the steps of one frame (02 R64). -/
structure CloseFlags where
  stretched : Bool
  forced : Bool
  overrun : Bool
  deriving DecidableEq, Repr

/-- A stop of the sequencer that takes effect at a later boundary (12 R333 DISABLE and QUIESCE). -/
inductive StopReq where
  | none
  /-- DISABLE: at the next step boundary. -/
  | disable
  /-- QUIESCE: at the next frame boundary. -/
  | quiesce
  deriving DecidableEq, Repr

/-- The sequencer and the grain counter's side state (chapter 2). -/
structure TimeSt where
  phase : SeqPhase
  /-- GRAIN at which step 0 begins (R42). -/
  startAt : Nat
  /-- GRAIN at the rise of RUN_EN. -/
  rise : Nat
  /-- GRAIN at which the current step began. -/
  begun : Nat
  /-- GRAIN at which the sequencer began to wait for unfinished updates (R45, R58). -/
  hangFrom : Nat
  /-- Input windows closed so far: window n is closed when n is below this number (R47, R481). -/
  winClosed : Nat
  /-- The first expected edge is known (R36). -/
  syncKnown : Bool
  /-- Expected position of the next SYNC_IN edge, in root cycles of the grain scale (R36). -/
  syncExpect : Nat
  /-- Mode 2 waits for its load edge. -/
  syncArmed : Bool
  /-- Root cycles of the measured error that slewing still has to consume (R36). -/
  slew : Int
  /-- Flags of the current frame and of the one before it (R64). -/
  frameFlags : CloseFlags
  prevFlags : CloseFlags
  stop : StopReq
  /-- GRAIN at the start of the last configuration check (12 R336, R340). -/
  checkAt : Nat
  deriving DecidableEq, Repr

/-- The sequencer as after reset (no run and no check). -/
def TimeSt.fresh : TimeSt where
  phase := .off
  startAt := 0
  rise := 0
  begun := 0
  hangFrom := 0
  winClosed := 0
  syncKnown := false
  syncExpect := 0
  syncArmed := false
  slew := 0
  frameFlags := ⟨false, false, false⟩
  prevFlags := ⟨false, false, false⟩
  stop := .none
  checkAt := 0

/-- One entry of the spike FIFO: the slot, its group, the step of the update and the payload that it formed
(03_neuron_cores.md R87, R90). -/
structure Spike where
  slot : Nat
  group : Nat
  step : Nat
  pay : BitVec 8
  deriving DecidableEq, Repr

/-- A counted operation in the Den, or one that waits for the synapse engine (03 R93, 04 R112), with the port and VC on
which it came (07 R220). -/
structure Waiting where
  pkt : Packet
  /-- The operation is carried: its lateness has been judged and counted (02 R54, R61). -/
  carried : Bool
  port : Nat
  vc : Nat
  deriving DecidableEq, Repr

/-- A Cordwood word delivered to a core, with its number m in the step (04 R114). -/
structure CordWord where
  m : Nat
  word : Word
  deriving DecidableEq, Repr

/-- A 64-bit write of a group descriptor word and the step from whose update on it acts (03 R75). -/
structure GroupEdit where
  reg : Reg
  copy : Nat
  value : Nat
  step : Nat
  deriving DecidableEq, Repr

/-- A logical core's own buffers and counters (chapters 3 to 5); its SRAM is in `State.mem`, its registers in
`State.regs`. -/
structure CoreSt where
  /-- Spikes of the running update not yet fanned out (R90). -/
  spikes : List Spike
  /-- The step whose update is running or was last run, and its cycles so far (R85). -/
  updStep : Nat
  updCycles : Nat
  /-- RWRs held until the update or the pass and apply end (R97, 05 R143). -/
  held : List Packet
  /-- Ash's membrane reads waiting for the update of their step (06 R174). -/
  heldReads : List Packet
  /-- Counted operations at the landing port, Den releases ahead of arrivals (R93). -/
  landing : List Waiting
  denOut : List Waiting
  /-- The Den of the tile that holds this core, oldest first (R93). -/
  den : List Waiting
  /-- Cordwood send buffer and the next word to send (08 R234, R235). -/
  sendBuf : List Word
  sendNext : Nat
  /-- Cordwood receive buffer, which is the hold buffer of 05 R142 too, words delivered in this step, and fabric cycles from
  the step tick after which the synapse engine is free of those it has taken. -/
  recv : List CordWord
  recvNum : Nat
  synFree : Nat
  /-- Core cycles from the tick after which the apply of this step has ended; 0 when none runs (05 R139, R142). -/
  applyEnd : Nat
  /-- Thresholds and window kinds in force (04 R119). -/
  satThr : List Nat
  satWin : Nat
  /-- Increments of LATE_CNT and SHED_CNT in this frame (02 R62). -/
  lateFrame : Nat
  shedFrame : Nat
  /-- Number and first step of the current pass window (05 R127). -/
  passWin : Nat
  passStart : Nat
  /-- Next word of the pre and post tables to age (05 R135). -/
  stampPos : Nat
  /-- Next word of the patrol scrubber; corrected words waiting for their write-back (10 R273). -/
  patrol : Nat
  writeback : List Nat
  /-- Corrections counted toward the next report of kind 0x01 (10 R274). -/
  corrRun : Nat
  /-- CTL DRAINs that wait for this core to come to rest, one of each originator (07 R195, R197). -/
  drain : List Packet
  /-- The frame CRC so far (13 R359), and the CRC of the last apply (13 R360). -/
  frameCrc : BitVec 64
  applyCrc : BitVec 64
  /-- Writes of group descriptors that take effect with a later update (R75). -/
  edits : List GroupEdit
  deriving DecidableEq, Repr

/-- A core with nothing in it, as after reset. -/
def CoreSt.fresh : CoreSt where
  spikes := []
  updStep := 0
  updCycles := 0
  held := []
  heldReads := []
  landing := []
  denOut := []
  den := []
  sendBuf := []
  sendNext := 0
  recv := []
  recvNum := 0
  synFree := 0
  applyEnd := 0
  satThr := [0xFFFF, 0xFFFF, 0xFFFF, 0xFFFF]
  satWin := 0
  lateFrame := 0
  shedFrame := 0
  passWin := 0
  passStart := 0
  stampPos := 0
  patrol := 0
  writeback := []
  corrRun := 0
  drain := []
  frameCrc := 0
  applyCrc := 0
  edits := []

/-- A learning action that waits for its region's boundary: it takes effect at the first one that begins step `from`
or later (05_on_chip_learning.md R147). -/
structure LearnAct where
  region : Nat
  action : Nat
  since : Nat
  deriving DecidableEq, Repr

/-- A snapshot: its parameters (12_command_interface.md R334), the step whose boundary captures it, and its copy
(05 R149). -/
structure Snap where
  region : Nat
  hold : Nat
  rate : Nat
  dest : Nat
  buf : Nat
  /-- Logical core, first word, number of words. -/
  ranges : List (Nat × Nat × Nat)
  /-- The step whose boundary is the capture; none while no boundary of the region can be named. -/
  capture : Nat
  /-- LRN_EPOCH after the capture boundary (05 R150). -/
  epoch : Nat
  copying : Bool
  /-- Words of each range that a copy had reached when SNAP_HOLD stopped it. -/
  got : Option (List Nat)
  deriving DecidableEq, Repr

/-- Collier's share of learning. -/
structure LearnSt where
  acts : List LearnAct
  snap : Option Snap
  deriving DecidableEq, Repr

/-- Nothing pending. -/
def LearnSt.fresh : LearnSt := ⟨[], none⟩

/-- An input that waits for Tinder, with the place that 02 R49 gives it. -/
structure Input where
  /-- The stamp by which it is ordered (02 R46, R49). -/
  stamp : Nat
  /-- Class of R49: 2 a write of TND_CHAN_B, 3 a contact edge, 4 a stream context. -/
  cls : Nat
  /-- DIN index or context number; from 48 on, the place of a replay entry (06 R167). -/
  ord : Nat
  tag : Nat
  /-- 0 sample, 1 contact edge, 2 sensor event, 3 pixel, 4 write of TND_CHAN_B (06 R167's codes, and the write). -/
  kind : Nat
  v : Int
  x : Nat
  y : Nat
  step : Nat
  /-- A sample of a set assigned by sequence (11 R302). -/
  set : Bool
  /-- The first sample of its set, or the first entry of a stamped input, by which they are counted. -/
  first : Bool
  /-- The value of a write of TND_CHAN_B. -/
  param : BitVec 64
  deriving DecidableEq, Repr

/-- What a channel's encoder keeps (06 R157 to R163). -/
structure ChanSt where
  primed : Bool
  ref : Int
  acc : Nat
  per : Nat
  cnt : Option Nat
  /-- Polarity: true = positive. -/
  pol : Option Bool
  held : Int
  sum : Int
  n : Nat
  /-- Sign of the last metered sample (R168): true = v ≥ 0. -/
  sign : Option Bool
  deriving DecidableEq, Repr

/-- A channel as RUN_EN's rise leaves it. -/
def ChanSt.fresh : ChanSt := ⟨false, 0, 0, 0, none, none, 0, 0, 0, none⟩

/-- A metering record in the making (06 R168). -/
structure Meter where
  tag : Nat
  frame : Nat
  zc : Nat
  count : Nat
  sum : Int
  sumsq : Nat
  lo : Int
  hi : Int
  deriving DecidableEq, Repr

/-- An event of Tinder that has not been injected, with its step tag before the reduction modulo 64 (06 R156). -/
structure TinEvent where
  tag : Nat
  pkt : Packet
  deriving DecidableEq, Repr

/-- A frame whose metering records wait for their hand-off (06 R169). -/
structure MeterDue where
  frame : Nat
  grain : Nat
  flags : CloseFlags
  deriving DecidableEq, Repr

/-- Tinder beside its registers. -/
structure TinderSt where
  inputs : List Input
  chans : List (Nat × ChanSt)
  /-- Windows that have closed and whose per-step encoders have not run (R157). -/
  closes : List Nat
  /-- Of the first of these windows, the channels whose encoders a full hold buffer keeps waiting (02 R56). -/
  closing : Option (List Nat)
  /-- Events that may be injected, and the hold buffer of 02 R56, oldest first. -/
  ready : List TinEvent
  hold : List TinEvent
  meters : List Meter
  meterDue : List MeterDue
  /-- Address of the next replay record (R167). -/
  replayAt : Nat
  /-- In free-run mode: the window of the current step is open (02 R481). -/
  winOpen : Bool
  /-- In free-run mode, the steps' windows that stamps of waiting commands may name: step, and the grains in which they opened
  and closed (02 R481). -/
  wins : List (Nat × Nat × Option Nat)
  /-- QUIESCE: inputs of this step and later are discarded (12 R333). -/
  stopStep : Option Nat
  deriving DecidableEq, Repr

/-- One line of one bank of Ash (06 R170). -/
structure AshLine where
  cnt : Nat
  sum : BitVec 32
  first : Option Nat
  deriving DecidableEq, Repr

/-- A line without a spike. -/
def AshLine.fresh : AshLine := ⟨0, 0, none⟩

/-- A window's record of one decoder, from the window's close (or the issue of its membrane reads) to its emission
(06 R173 to R176). -/
structure AshRec where
  dec : Nat
  frame : Nat
  /-- GRAIN at the boundary that closed the window; meaningful once `closed`. -/
  grain : Nat
  closed : Bool
  thr : Int
  /-- Values as int32 numbers modulo 2^32; none while a membrane read is outstanding. -/
  vals : List (Option Nat)
  decision : Bool
  late : Bool
  part : Bool
  flags : CloseFlags
  deriving DecidableEq, Repr

/-- The latest decision of a decoder (06 R179, R181). -/
structure Decision where
  dec : Nat
  frame : Nat
  ready : Bool
  value : Bool
  deriving DecidableEq, Repr

/-- An assert grain to come (06 R179). -/
structure ActDue where
  line : Nat
  grain : Nat
  frame : Nat
  deriving DecidableEq, Repr

/-- Ash beside its registers. -/
structure AshSt where
  /-- Lines of even and odd windows. -/
  bank0 : List (Nat × AshLine)
  bank1 : List (Nat × AshLine)
  late0 : Bool
  late1 : Bool
  recs : List AshRec
  decisions : List Decision
  /-- SEQ of the next record (R176). -/
  seq : Nat
  actDue : List ActDue
  /-- Lines whose pulse ends, with the grain. -/
  pulseEnd : List (Nat × Nat)
  /-- A write of ACT_ARM that waits for the next grain edge (R180). -/
  armNext : Option Nat
  deriving DecidableEq, Repr

/-- Tinder as after reset. -/
def TinderSt.fresh : TinderSt := ⟨[], [], [], none, [], [], [], [], 0, false, [], none⟩

/-- Ash as after reset. -/
def AshSt.fresh : AshSt := ⟨[], [], false, false, [], [], 0, [], [], none⟩

/-- For what a requester sent a request: what its responses do (07 R197). -/
inductive Why where
  | plain
  /-- An RRD of Ash for neurons `base` to `base + count - 1` of decoder `dec`'s readout (06 R174). -/
  | ashRead (dec frame base count stride : Nat)
  /-- A request of Collier's that completes reaction `slot` of Owl (15 R410). -/
  | reaction (slot : Nat)
  deriving DecidableEq, Repr

/-- A packet that an agent hands to its injecting interface (07_event_network.md R204, R205). -/
structure Staged where
  agent : Nat
  pkt : Packet
  why : Why
  /-- A response to a request that travelled on CTL, which travels there too (R199). -/
  ctl : Bool
  /-- A NACK FENCED, which the router of a fenced core sends and the fence does not hold (R218). -/
  router : Bool
  deriving DecidableEq, Repr

/-- One packet buffer: a ring (0 row, 1 column, 2 edge) with its index and direction (0 east, south or clockwise), the
virtual channel of R199 and the position on the ring (R201, R216); or, as ring 3, the staging of gateway port `idx`, from
the edge ring into the array (direction 0) or out of it (direction 1). -/
structure Buf where
  ring : Nat
  idx : Nat
  dir : Nat
  vc : Nat
  pos : Nat
  deriving DecidableEq, Repr

/-- The tiles that the route sideband of a packet names (R188): where its path in the array ends, its intermediate router,
and EXIT. -/
structure Side where
  dest : Nat
  mid : Nat
  exit : Nat
  deriving DecidableEq, Repr

/-- A packet in the network, from its injecting interface on. -/
structure Flight where
  id : Nat
  pkt : Packet
  agent : Nat
  /-- It travels on CTL (R199). -/
  ctl : Bool
  /-- The buffers that its head has yet to take. -/
  path : List Buf
  /-- Buffers that its flits hold, head first, and buffers reserved for it (R202); none while the injecting interface or a
  replication buffer stages it. -/
  occ : List Buf
  res : List Buf
  /-- Where its path ends: a tile's physical number, 10,000 plus an edge-ring stop, or 20,000 plus a gateway, whose router
  computes the rest (R19). -/
  target : Nat
  side : Side
  /-- A broadcast copy: the engines it is for. -/
  bcast : Option Nat
  /-- A column copy in the replication buffer of a tile, with the number of the packet copied there (R214). -/
  repl : Option (Nat × Nat)
  /-- The flits that wait for a replay, each with its failed replays (R219). -/
  replay : List (Nat × Nat)
  /-- Consecutive arbitration rounds that it has lost (R210). -/
  lost : Nat
  deriving DecidableEq, Repr

/-- Landing tokens under way (R198): for one agent and parity, 1 to 63 of them, in the merge buffer of one output of a
router (a tile's number) or of an edge-ring stop (2,000 plus its number). -/
structure Token where
  place : Nat
  out : Nat
  agent : Nat
  odd : Bool
  count : Nat
  deriving DecidableEq, Repr

/-- An outstanding request (R197): how many responses it still expects. -/
structure Tid where
  agent : Nat
  tid : Nat
  op : Nat
  /-- Destination agent, and the queue of a push (09 R249). -/
  dest : Nat
  qid : Nat
  /-- A broadcast's request (R197). -/
  bcast : Bool
  /-- It travels on CTL (R197). -/
  ctl : Bool
  /-- The header word of an APPEND (09 R247, R249). -/
  push : Word
  left : Nat
  why : Why
  /-- The chip address that the request names (15 R413). -/
  addr : Nat
  deriving DecidableEq, Repr

/-- A packet that has reached its agent and waits to be taken by it, with the tile, port and VC on which it came (07
R220); tile 1088 stands for an edge-ring stop. -/
structure Delivered where
  agent : Nat
  pkt : Packet
  tile : Nat
  port : Nat
  vc : Nat
  deriving DecidableEq, Repr

/-- The Fox network (chapter 7). -/
structure NetSt where
  staging : List Staged
  flights : List Flight
  delivered : List Delivered
  tokens : List Token
  tids : List Tid
  /-- The critical buffer of each ring and VC, where it is not the one at position 0 (R202). -/
  critical : List Buf
  nextId : Nat
  /-- The input that each link's arbiter served last, by link (R210). -/
  turns : List (Nat × Nat)
  /-- Injection on the REQ and RSP channels is stopped since a quench (12 R344, R345). -/
  stopped : Bool
  /-- Failed edge-ring hops, by stop and direction (14 R399). -/
  down : List (Nat × Nat)
  /-- A MAP_FLIP to be answered after the flip, by engine (R195, 14 R384). -/
  flips : List (Nat × Packet)
  /-- Corrections counted toward the next report of kind 0x05, by link (R219). -/
  corrRun : List (Nat × Nat)
  deriving DecidableEq, Repr

/-- The network as after reset. -/
def NetSt.fresh : NetSt := ⟨[], [], [], [], [], [], 0, [], false, [], [], []⟩

/-- The Cordwood plane beside its registers (chapter 8). -/
structure CordSt where
  /-- Cords begun in the current step: the number of the next one, counted from the step's first cord (R229). -/
  cord : Nat
  /-- Runs of the current step that have executed, and its miss cords (R231). -/
  runs : Nat
  misses : Nat
  /-- Kind 0x12 has been reported in this step. -/
  reported : Bool
  /-- Tiles whose receive buffer held words at the last sample of the ready signals (R230). -/
  full : List Nat
  /-- Corrections counted toward the next report of kind 0x05, by tile (R237). -/
  corrRun : List (Nat × Nat)
  deriving DecidableEq, Repr

/-- The plane at the start of a step. -/
def CordSt.fresh : CordSt := ⟨0, 0, 0, false, [], []⟩

/-- What becomes of the packets of a record in reassembly (09_queues.md R258, R259, R261). -/
inductive ReasmState where
  | filling
  /-- An OPEN or UNBIND has discarded the record's space. -/
  | dropped
  /-- The first packet was refused with this reason; later ones are refused alike. -/
  | refused (reason : Nat)
  | expired
  deriving DecidableEq, Repr

/-- A reassembly entry of the central engine (R258). -/
structure Reasm where
  src : Nat
  qid : Nat
  epoch : Nat
  chk : Bool
  len : Nat
  pcnt : Nat
  got : Nat
  /-- Count at which the record's space begins, its chip address, and its sequence number. -/
  pos : Nat
  place : Nat
  seq : Nat
  /-- Grain of the first packet, or of the expiry. -/
  since : Nat
  st : ReasmState
  deriving DecidableEq, Repr

/-- A reserved record of a ring over which COMMIT has not passed (R259). -/
structure Resv where
  qid : Nat
  pos : Nat
  n : Nat
  done : Bool
  deriving DecidableEq, Repr

/-- A cached descriptor (R250, R252). -/
structure Desc where
  qid : Nat
  w0 : Word
  w1 : Word
  w2 : Word
  w3 : Word
  deriving DecidableEq, Repr

/-- An operation that waits for its descriptor (R253): a packet, or a command of DREY_QCMD on a queue. -/
inductive MissOp where
  | pkt (p : Packet)
  | cmd (c q : Nat)
  deriving DecidableEq, Repr

/-- The central engine beside its registers. -/
structure DreySt where
  reasm : List Reasm
  resv : List Resv
  /-- Most recently used first. -/
  cache : List Desc
  miss : List MissOp
  /-- A command of DREY_QCMD that waits because the miss queue is full (R253), and its queue. -/
  cmdWait : Option (Nat × Nat)
  /-- The two banks of the combining store (R262). -/
  comb0 : List (Nat × BitVec 32)
  comb1 : List (Nat × BitVec 32)
  deriving DecidableEq, Repr

/-- The central engine as after reset. -/
def DreySt.fresh : DreySt := ⟨[], [], [], [], none, [], []⟩

/-- An operation that a group agent has accepted (10_memory_system.md R280). -/
structure G6Op where
  pkt : Packet
  /-- Reissues of its burst's read, and rewrites of its burst, so far (R282). -/
  reads : Nat
  writes : Nat
  /-- The operation's data is to be taken from its last read although EDC failed (R282). -/
  gaveUp : Bool
  deriving DecidableEq, Repr

/-- A GDDR6 group beside its registers. -/
structure G6St where
  queue : List G6Op
  /-- Corrections per codeword position in the current window, and codewords read in it (R284). -/
  pins : List (Nat × Nat)
  window : Nat
  corrRun : Nat
  /-- Bank that the last refresh went to, and the next burst of the patrol scrubber (R283). -/
  bank : Nat
  scrub : Nat
  /-- GRAIN of the last patrol burst (R283). -/
  scrubAt : Nat
  /-- GRAIN of the last access (16 R442). -/
  lastUse : Nat
  deriving DecidableEq, Repr

/-- A group as after reset. -/
def G6St.fresh : G6St := ⟨[], [], 0, 0, 0, 0, 0, 0⟩

/-- A long packet that an RX port is receiving (11_csi2_ports.md R294, R295). -/
structure IngPkt where
  vc : Nat
  dt : Nat
  wc : Nat
  stamp : Nat
  /-- It has entered the ingress buffer for a context or the in-band path. -/
  kept : Bool
  /-- Its VC was the in-band command VC when its header was decoded (R308). -/
  inband : Bool
  deriving DecidableEq, Repr

/-- An RX port beside its registers. -/
structure RxSt where
  cur : Option IngPkt
  /-- After an uncorrectable header, everything up to the end of the burst is discarded (R294). -/
  discarding : Bool
  /-- CRC errors in this frame, and whether they have been reported (R294). -/
  crcFrame : Nat
  crcReported : Bool
  deriving DecidableEq, Repr

/-- A port as after reset. -/
def RxSt.fresh : RxSt := ⟨none, false, 0, false⟩

/-- A stream context beside its registers (R298, R302, R304, R305). -/
structure CtxSt where
  /-- Extended sequence and sequence number of the last set. -/
  eLast : Option (Int × Nat)
  /-- Sequence number of the last event block. -/
  evLast : Option Nat
  lines : Nat
  lossStanding : Bool
  /-- Stamp of the last accepted packet, or the rise of RUN_EN. -/
  lastAccept : Nat
  /-- Blocks that wait for the primary's anchor (13 R356): stamp and payload. -/
  waiting : List (Nat × List Byte)
  deriving DecidableEq, Repr

/-- A context as after reset. -/
def CtxSt.fresh : CtxSt := ⟨none, none, 0, false, 0, []⟩

/-- The classes of a TX port's queue, in the order of R309. -/
inductive TxClass where
  | mirror | reply | result | load
  deriving DecidableEq, Repr

/-- A block in a TX port's block buffer. -/
structure TxBlk where
  cls : TxClass
  vc : Nat
  dt : Nat
  payload : List Byte
  deriving DecidableEq, Repr

/-- A packet that a TX port sends: a frame start or end with its number, or a long packet. -/
inductive TxOut where
  | frameStart (vc num : Nat)
  | frameEnd (vc num : Nat)
  | long (vc dt : Nat) (payload : List Byte) (cls : TxClass)
  /-- A relayed packet; `whole` once its payload is known. -/
  | relayed (rxPort vc dt wc : Nat) (payload : List Byte) (whole crcOk : Bool)
  deriving DecidableEq, Repr

/-- A relayed packet in a TX port's relay buffer (R312). -/
structure RelayPkt where
  rxPort : Nat
  vc : Nat
  dt : Nat
  wc : Nat
  payload : List Byte
  /-- Received whole, and with a good CRC. -/
  whole : Bool
  crcOk : Bool
  deriving DecidableEq, Repr

/-- A TX port beside its registers. -/
structure TxSt where
  /-- The packet on the lanes, and packets committed to follow it. -/
  cur : Option TxOut
  next : List TxOut
  blocks : List TxBlk
  /-- Blocks of Gwynell and Collier that wait for space. -/
  wait : List TxBlk
  relay : List RelayPkt
  /-- VCs that carry blocks in this run, with the number of their open frame (R310). -/
  frames : List (Nat × Nat)
  deriving DecidableEq, Repr

/-- A port as after reset. -/
def TxSt.fresh : TxSt := ⟨none, [], [], [], [], []⟩

/-- A command that waits for Collier: its stamp and the packet (12_command_interface.md R322, R329); one that came in DEEP
is stamped when it is taken (16_power_clocks_thermal.md R440). -/
structure QCmd where
  stamp : Nat
  cmd : HostCmd
  fresh : Bool
  deriving DecidableEq, Repr

/-- A deferred command whose reply is outstanding (R329): opcode, word 0 and ACK_REQ of the packet, its path, and a
number that its completion needs. -/
structure Deferred where
  op : Nat
  word0 : Nat
  ack : Bool
  path : CmdPath
  arg : Nat
  deriving DecidableEq, Repr

/-- The I3C target and Collier's command window beside their registers. -/
structure CmdSt where
  /-- The command FIFO and the in-band command buffer, oldest first (R322, 11 R308). -/
  fifo : List QCmd
  inband : List QCmd
  /-- The reply FIFO (R323). -/
  replies : List (List Byte)
  /-- Replies of deferred commands that wait for an entry of the full reply FIFO. -/
  replyWait : List (List Byte)
  /-- Events that wait for an IBI: fault, configuration refusal, boot report, and replies (R324); the first three are bits 9,
  11 and 10 of GETSTATUS. -/
  ibiFault : Bool
  ibiCfg : Bool
  ibiBoot : Bool
  ibiReply : Nat
  /-- Bit 5 of GETSTATUS (R320). -/
  protoErr : Bool
  /-- Defining byte of the last RSTACT (R321). -/
  rstact : Nat
  /-- HDR-DDR mode, and the HDR-DDR writes that wait for the exit pattern (R322). -/
  hdr : Bool
  hdrWrites : List (List Byte)
  /-- What the last private read or CCC returned on the bus, and what a JTAG data register holds. -/
  busOut : List Byte
  jtagOut : List Byte
  deferred : List Deferred
  /-- R8: the latched high half of a 64-bit register read, and halves of 64-bit registers held by Collier. -/
  readLatch : Option (Nat × Nat)
  halves : List (Nat × Bool × Nat)
  /-- Words of a MEM_WRITE that a core holds: core, word and value (R329, 03_neuron_cores.md R97). -/
  memHeld : List (Nat × Nat × Word)
  /-- The minor version agreed by HELLO (R331). -/
  minor : Nat
  deriving DecidableEq, Repr

/-- The window as after reset. -/
def CmdSt.fresh : CmdSt where
  fifo := []
  inband := []
  replies := []
  replyWait := []
  ibiFault := false
  ibiCfg := false
  ibiBoot := false
  ibiReply := 0
  protoErr := false
  rstact := 0
  hdr := false
  hdrWrites := []
  busOut := []
  jtagOut := []
  deferred := []
  readLatch := none
  halves := []
  memHeld := []
  minor := 0

/-- An OVERLOAD entry (13_redundant_pair.md R362). -/
structure Overload where
  kind : Nat
  discarded : Bool
  target : Nat
  source : Nat
  axon : Nat
  tag : Nat
  pay : Nat
  /-- Low 32 bits of the step it landed for, or E for kind 7. -/
  step : Nat
  deriving DecidableEq, Repr

/-- A mirrored edit: the step of its stamp, the packet, and whether this member owes the reply (R357, R358). -/
structure Edit where
  step : Nat
  bytes : List Byte
  path : CmdPath
  mine : Bool
  deriving DecidableEq, Repr

/-- An apply digest (R360): the step begun by the boundary, the region and the digest. -/
structure ApplyDig where
  step : Nat
  region : Nat
  dig : BitVec 64
  deriving DecidableEq, Repr

/-- An entry of the journal (R362). -/
inductive JEntry where
  | taken (e : Input)
  | edit (e : Edit)
  | digest (frame : Nat) (d : List (BitVec 64))
  | apply (a : ApplyDig)
  | overload (step : Nat) (e : Overload)
  deriving DecidableEq, Repr

/-- A checkpoint: what R363 lists, held as the model's own parts. -/
structure Ckpt where
  step : Nat
  frame : Nat
  regs : List (Key × Nat)
  mem : List Host.Cell
  flips : List (Nat × Code)
  cores : List (Nat × CoreSt)
  tinder : TinderSt
  ash : AshSt
  drey : DreySt
  deriving DecidableEq, Repr

/-- The result records of a closed window that a standby keeps (R349). -/
structure Kept where
  frame : Nat
  decoders : List AshRec
  deriving DecidableEq, Repr

/-- Gwynell beside its registers (chapter 13). -/
structure PairSt where
  /-- BSEQ of the next block sent, and of the next one expected; none before the first received. -/
  bseqTx : Nat
  bseqRx : Option Nat
  /-- Grain from which the heartbeat timer counts, and frames of it already counted (R367). -/
  timer : Nat
  gaps : Nat
  /-- LAST_WIN of the partner, none before its first frame block of the run, and of this member (R353, R369). -/
  lastWinPeer : Option Nat
  lastWin : Nat
  kept : List Kept
  /-- Stamped inputs of each step by source, and the step whose step block is the next to go (R351, R355). -/
  windows : List (Nat × List (Nat × Nat))
  blockNext : Nat
  /-- Bit 1 of FLAGS in the partner's last block: it runs (R352). -/
  peerRun : Bool
  /-- ANCHOR records to send, and anchors received for contexts (R356). -/
  anchors : List (Nat × Nat)
  edits : List Edit
  /-- Edits, overload entries and the role record that go with the next step block. -/
  editsOut : List Edit
  overload : List Overload
  overloadLost : Bool
  roleOut : Option Nat
  /-- The boundary that exchanges the roles (R350). -/
  roleAt : Option Nat
  /-- Frames whose frame block is due, and whether Ash's records of each have gone. -/
  frames : List (Nat × List (BitVec 64))
  applies : List ApplyDig
  /-- The partner's AGREE body, and the grain at which it came (R340). -/
  agree : Option (List Byte × Nat)
  /-- ALIGN records received, and steps whose record has been applied (R355). -/
  align : List (Nat × List (Nat × Nat))
  aligned : List Nat
  /-- Own engine digests by frame, and the partner's that wait for a comparison (R361). -/
  digs : List (Nat × List (BitVec 64))
  peerDigs : List (Nat × List (BitVec 64))
  ownApplies : List ApplyDig
  peerApplies : List ApplyDig
  /-- Every frame since the last checkpoint is verified; no step since is unreplayable (R363). -/
  verified : Bool
  unreplayable : Bool
  ckptFrame : Nat
  journal : List JEntry
  /-- Inputs that the checkpoint being copied makes superfluous (R363). -/
  journalOld : List JEntry
  /-- Entries that a replay has still to reproduce, and late spikes that wait for their landing step (R364). -/
  replay : List JEntry
  lateSpikes : List (Nat × Packet)
  ckpt : Option Ckpt
  /-- The step and the bytes of the latest valid checkpoint (R363). -/
  ckptRaw : Option (Nat × List Byte)
  /-- The checkpoint that the copy in progress will complete. -/
  copying : Option Ckpt
  /-- Bytes received of a checkpoint and of the partner's journal (R353, R366). -/
  ckptIn : List Byte
  journalIn : List Byte
  /-- Checkpoint and journal bytes that the background stream has still to send. -/
  streamOut : List (Nat × List Byte)
  /-- A resynchronisation has been asked for; one is under way; it is that of a joining standby (R364, R366). -/
  resync : Bool
  restoring : Bool
  joining : Bool
  deriving DecidableEq, Repr

/-- Gwynell as after reset. -/
def PairSt.fresh : PairSt where
  bseqTx := 0
  bseqRx := none
  timer := 0
  gaps := 0
  lastWinPeer := none
  lastWin := 0
  kept := []
  windows := []
  blockNext := 0
  peerRun := false
  anchors := []
  edits := []
  editsOut := []
  overload := []
  overloadLost := false
  roleOut := none
  roleAt := none
  frames := []
  applies := []
  agree := none
  align := []
  aligned := []
  digs := []
  peerDigs := []
  ownApplies := []
  peerApplies := []
  verified := true
  unreplayable := false
  ckptFrame := 0
  journal := []
  journalOld := []
  replay := []
  lateSpikes := []
  ckpt := none
  ckptRaw := none
  copying := none
  ckptIn := []
  journalIn := []
  streamOut := []
  resync := false
  restoring := false
  joining := false

/-- The firmware that runs, from its header (17_security.md R450). -/
structure Firmware where
  major : Nat
  minor : Nat
  build : Nat
  svn : Nat
  board : List Byte
  meas : List Byte
  deriving DecidableEq, Repr

/-- The committed Emzen image (14_bringup_loading_spares.md R387, R391): where it was staged, and what the configuration
check reads of it. -/
structure Image where
  base : Nat
  len : Nat
  digest : List Byte
  format : Nat
  minArch : Nat
  maxArch : Nat
  reqFw : Nat
  buildId : Nat
  sigOfs : Nat
  sigCount : Nat
  /-- Logical cores that it names, and chip addresses of its KIND 0x04 and 0x05 sections (R343). -/
  cores : List Nat
  targets : List (Nat × Nat)
  /-- The timing schedule's section, if it has one. -/
  schedule : Option (List Byte)
  deriving DecidableEq, Repr

/-- The boot flash (R377): the 16 bytes at address 0, and the images at the offsets where they begin. -/
structure Flash where
  desc : List Byte
  images : List (Nat × List Byte)
  deriving DecidableEq, Repr

/-- Boot, flash and loading beside their registers (chapter 14). -/
structure BootSt where
  /-- Power-good has come and no reset holds the device. -/
  up : Bool
  /-- The stage that runs or, once 9, READY; and whether a RESULT 2 stopped it or stage 2 waits for a push. -/
  stage : Nat
  stopped : Bool
  waiting : Bool
  cause : Nat
  /-- The boot flash, if one answers. -/
  flash : Option Flash
  /-- The verified firmware, from stage 2 on. -/
  fw : Option Firmware
  /-- Stage 2's source: 0 slot A, 1 slot B, 2 push. -/
  source : Nat
  spareMgmt : Bool
  /-- Core defects of stage 3 and columns that stage 4 retired. -/
  defects : List Nat
  columns : List (Nat × Nat)
  /-- An FW_UPDATE under way: address, size and action (R380). -/
  update : Option (Nat × Nat × Nat)
  updateImage : List Byte
  /-- IDX values counted for the open window (R390), and its size. -/
  seen : List Nat
  windowLen : Nat
  image : Option Image
  deriving DecidableEq, Repr

/-- Boot as after a cold reset; no flash answers (DESIGN CHOICE, log entry 1). -/
def BootSt.fresh : BootSt where
  up := false
  stage := 0
  stopped := false
  waiting := false
  cause := 0
  flash := none
  fw := none
  source := 0
  spareMgmt := false
  defects := []
  columns := []
  update := none
  updateImage := []
  seen := []
  windowLen := 0
  image := none

/-- A swap or column retirement that Collier has marked (14 R393 to R397). -/
structure Swap where
  /-- The logical core to move; or, for a retirement, the columns as (engine, column). -/
  core : Nat
  columns : List (Nat × Nat)
  /-- SOURCE of SPARE_SWAP: 0 copy, 1 own checkpoint, 2 the partner's. -/
  source : Nat
  ageing : Bool
  /-- Owl's reaction slot, and whether SPARE_SWAP waits for the reply. -/
  slot : Option Nat
  reply : Bool
  deriving DecidableEq, Repr

/-- Swaps pending and the open window (R393). -/
structure SpareSt where
  queue : List Swap
  /-- The swap whose window is open, the grain at which it opened, and how the boundary will count. -/
  window : Option (Swap × Nat)
  forced : Bool
  deriving DecidableEq, Repr

/-- No swap pending. -/
def SpareSt.fresh : SpareSt := ⟨[], none, false⟩

/-- A fault message (15_faults.md R402). -/
structure Msg where
  src : Nat
  kind : Nat
  cls : Nat
  addr : Nat
  forced : Bool
  rep : Nat
  deriving DecidableEq, Repr

/-- A log record (R415). -/
structure LogRec where
  msg : Msg
  code : Nat
  fail : Bool
  grain : Nat
  unread : Bool
  slot : Option Nat
  deriving DecidableEq, Repr

/-- A reaction in a reaction slot (R412). -/
structure Reaction where
  slot : Nat
  msg : Msg
  code : Nat
  deriving DecidableEq, Repr

/-- Owl's queues beside its registers (chapter 15). -/
structure OwlSt where
  /-- Messages staged at their sources (R403). -/
  staged : List Msg
  fifo : List Msg
  log : List LogRec
  active : List Reaction
  /-- A watchdog period has passed without a kick (R419). -/
  barked : Bool
  deriving DecidableEq, Repr

/-- Owl as after reset. -/
def OwlSt.fresh : OwlSt := ⟨[], [], [], [], false⟩

/-- A recalibration under way: windows left, and the sums of measured power in mW and of raw estimates in the units of
`State.engineRaw`, engines first and the uncore last (16_power_clocks_thermal.md R433). -/
structure Recal where
  left : Nat
  pm : List Nat
  pe : List Nat
  deriving DecidableEq, Repr

/-- Kiln beside its registers (chapter 16). -/
structure KilnSt where
  /-- Activity of the power window, by engine and class as 8·e + class; 64 GDDR6 bursts, 65 CSI-2 payload bytes (R429). -/
  acts : List (Nat × Nat)
  /-- GRAIN at which the last power window ended. -/
  windowAt : Nat
  /-- Chip measured and estimated power of the last window in mW, and each engine's estimated dynamic power in the units of
  `State.engineRaw`. -/
  pm : Nat
  pe : Nat
  dyn : List Nat
  /-- The computed chip floor bin, 0 until boot stage 5 (R425). -/
  floor : Nat
  /-- Engines that lose their boost at the next step tick (R422, R427). -/
  unboost : List Nat
  divRun : Nat
  lastDiv : Bool
  recal : Option Recal
  corrNext : Option (List Nat)
  /-- A cap and a mode that apply from a step on (R426, R431). -/
  capNext : List (Nat × Nat)
  modeNext : List (Nat × Nat)
  /-- Sensors at or above TRIP in the last report (R436). -/
  tripSeen : List Nat
  /-- Engines whose droop response is active (R434). -/
  droop : List Nat
  /-- Live bins that have dropped below the fused bin, by tile (R424). -/
  live : List (Nat × Nat)
  /-- Gated core subdomains; domains that are waking (R442). -/
  gated : List Nat
  waking : List Domain
  /-- A thermal trip will drop the device to OFF; the device is in OFF (R437). -/
  tripped : Bool
  offState : Bool
  /-- The reference or the root lock is lost and the device is held in reset (R444). -/
  clockLost : Bool
  /-- A wake from SLEEP or DEEP is under way (R438). -/
  waking2Run : Bool
  deriving DecidableEq, Repr

/-- Kiln as after reset. -/
def KilnSt.fresh : KilnSt where
  acts := []
  windowAt := 0
  pm := 0
  pe := 0
  dyn := []
  floor := 0
  unboost := []
  divRun := 0
  lastDiv := false
  recal := none
  corrNext := none
  capNext := []
  modeNext := []
  tripSeen := []
  droop := []
  live := []
  gated := []
  waking := []
  tripped := false
  offState := false
  clockLost := false
  waking2Run := false

/-- An ATTEST that the security block is signing: the nonce and the buffer (17_security.md R456). -/
structure AttestJob where
  nonce : List Byte
  buf : Nat
  deriving DecidableEq, Repr

/-- The security block beside its registers (chapter 17). -/
structure SecSt where
  /-- Action, slot and value of the fuse programming under way (R449). -/
  prog : Option (Nat × Nat × Nat)
  /-- The challenge most recently captured and not used (R459). -/
  chal : Option (List Byte)
  /-- Failed responses since the last reset. -/
  fails : Nat
  attest : Option AttestJob
  /-- Reports signed since cold boot. -/
  seq : Nat
  /-- The registers of the configuration digest as the last check that passed left them; none since a LOAD_COMMIT (R457). -/
  cfgRegs : Option (List (Key × Nat))
  deriving DecidableEq, Repr

/-- The security block as after reset. -/
def SecSt.fresh : SecSt := ⟨none, none, 0, none, 0, none⟩

/-- A fault of the model: a stop for which the spec gives the device no behaviour to go on with. -/
inductive Fault where
  /-- Raised by DIAGNOSTIC_OPCODE while debug scope 2 is open: the vendor's diagnostic opcodes have no published effect
  (12_command_interface.md R332, 17_security.md R459).  Safe: the device may do anything there, and the model stops. -/
  | vendorDiagnostic
  deriving DecidableEq, Repr

/-- A refusal of the model. -/
inductive Refusal where
  /-- Raised by an arm of `exec` for a command that has no meaning yet.  Safe: the model stops. -/
  | notModelled (mnemonic : String)
  deriving DecidableEq, Repr

/-- The state of the block. -/
structure State where
  fuse : FuseSt
  pins : PinSt
  /-- Every register field that does not stand at its reset default, under the key of the field. -/
  regs : List (Key × Nat)
  /-- Core SRAM, GDDR6 and the boot buffer, by chip address; an unlisted byte reads as zero. -/
  mem : List Host.Cell
  /-- Upset bits of stored codewords, by the address of the word; an unlisted word has none. -/
  flips : List (Nat × Code)
  time : TimeSt
  /-- Logical cores that are not as after reset. -/
  cores : List (Nat × CoreSt)
  net : NetSt
  tinder : TinderSt
  ash : AshSt
  drey : DreySt
  /-- GDDR6 groups, RX ports, contexts and TX ports that are not as after reset, by number. -/
  g6 : List (Nat × G6St)
  rx : List (Nat × RxSt)
  ctx : List (Nat × CtxSt)
  tx : List (Nat × TxSt)
  owl : OwlSt
  cord : CordSt
  learn : LearnSt
  cmd : CmdSt
  pair : PairSt
  boot : BootSt
  spare : SpareSt
  kiln : KilnSt
  sec : SecSt
  /-- The model's own counter of free values. -/
  free : Nat
  /-- The commands that wait, first in first out. -/
  pending : List Instr
  deriving DecidableEq, Repr

/-- ROOT_HASH of the device that `State.reset` describes: the SHA-512 of the first public key of RFC 8032's test vectors
(DESIGN CHOICE, log entry 1). -/
def FuseSt.root : List Byte := [
  0x0E, 0x02, 0xA5, 0x02, 0x25, 0xB4, 0xBA, 0xAA, 0x18, 0xA0, 0x47, 0x0E, 0xD9, 0xBF, 0xC7, 0xDC,
  0x03, 0x2F, 0x17, 0x24, 0xE8, 0x19, 0xE4, 0x7A, 0x23, 0xC4, 0xF2, 0xC3, 0x2F, 0x75, 0x06, 0x09,
  0x47, 0x09, 0x68, 0x82, 0x93, 0xC4, 0x79, 0xC0, 0x53, 0x4D, 0xEF, 0xD3, 0xA9, 0x8B, 0x43, 0x02,
  0x18, 0x78, 0x06, 0x51, 0x1B, 0x83, 0xF1, 0x2A, 0xB5, 0x75, 0xD4, 0x14, 0x47, 0x70, 0xA9, 0xC3]

/-- The fuse set of the device that `State.reset` describes (DESIGN CHOICE, log entry 1): a JX8-A with every unit
enabled, no defect, no BOOST_DIS, bin 8 everywhere, no customer key and no coefficient. -/
def FuseSt.plain : FuseSt where
  variant := 1
  engineEn := 0xFF
  rxEn := 0x3F
  txEn := 0xF
  g6En := 3
  capLimit := 0
  boostDis := false
  dieRev := 1
  serial := 0
  bins := []
  coreDefects := []
  routerDefects := []
  coef := 0
  coefUnc := 0
  vid := 0
  crc := 0x2C07E16F
  rootHash := FuseSt.root
  idSeed := List.replicate 32 0
  slotHash := List.replicate 4 (List.replicate 64 0)
  slotValid := 0
  slotRevoked := 0
  slotDebug := 0
  rollback := 0
  debugLock := false

/-- The pins while the device is held in reset: inputs at rest, outputs released (18_electrical_and_package.md R466). -/
def PinSt.rest : PinSt where
  din := 0
  permit := false
  quenchN := true
  resetN := true
  fenceIn := false
  hbIn := false
  roleStrap := false
  wake := false
  rails := 0
  syncOut := false
  hbOut := false
  fenceOut := true
  faultN := true

/-- The reaction and MIN_CLASS that R406 of 15_faults.md gives each kind at reset, where they are not both zero. -/
def owlReset : List (Nat × Nat × Nat) := [(0x02, 2, 3), (0x04, 2, 3), (0x06, 3, 3), (0x07, 1, 1), (0x10, 2, 3),
  (0x11, 1, 2), (0x12, 1, 2), (0x20, 1, 2), (0x22, 1, 2), (0x30, 1, 0), (0x31, 1, 2), (0x32, 1, 2), (0x40, 1, 2),
  (0x41, 1, 2), (0x50, 1, 1), (0x51, 1, 2)]

/-- The power cap that a variant resets to, in mW, which is also its maximum power (16 R445, 00_scope.md R1). -/
def FuseSt.maxPower (f : FuseSt) : Nat :=
  match f.variant with | 1 => 0x61A8 | 2 => 0x3A98 | _ => 0x2328

/-- Tile 17·row + column of an engine as a physical core number (07 R221, 01 R12). -/
def engineTile (e k : Nat) : Nat := 34 * (8 * (e / 2) + k / 17) + 17 * (e % 2) + k % 17

/-- A defect word of an engine from a list of physical tiles (14 R401). -/
def defectWord (ps : List Nat) (e k : Nat) : Nat :=
  ((List.range 32).map (fun b => if 32 * k + b < 136 ∧ engineTile e (32 * k + b) ∈ ps then 2 ^ b else 0)).sum

/-- The register fields that reset leaves at a value other than the one of the field's row: the defect words and the
cap from the fuse set, and the reactions of R406. -/
def resetRegs (f : FuseSt) : List (Key × Nat) :=
  let words : Reg → List Nat → List (Key × Nat) := fun r ps => (List.range 8).flatMap (fun e => (List.range 5).filterMap (fun k =>
    if defectWord ps e k = 0 then none else some (Key.mk r.num 0 e k, defectWord ps e k)))
  (if f.coreDefects = [] then [] else words .SPARE_DEFECT_CORE f.coreDefects) ++
  (if f.routerDefects = [] then [] else words .SPARE_DEFECT_RTR f.routerDefects) ++
  (owlReset.filter (fun x => x.2.2 != 0)).map (fun x => (Key.mk (Reg.num .OWL_REACT) 8 0 x.1, x.2.2)) ++
  owlReset.map (fun x => (Key.mk (Reg.num .OWL_REACT) 16 0 x.1, x.2.1)) ++
  [(Key.mk (Reg.num .KILN_CAP) 0 0 0, f.maxPower), (Key.mk (Reg.num .KILN_CAP) 16 0 0, f.maxPower)]

/-- The device after a cold reset, before power-good. -/
def State.reset : State where
  fuse := FuseSt.plain
  pins := PinSt.rest
  regs := resetRegs FuseSt.plain
  mem := []
  flips := []
  time := TimeSt.fresh
  cores := []
  net := NetSt.fresh
  tinder := TinderSt.fresh
  ash := AshSt.fresh
  drey := DreySt.fresh
  g6 := []
  rx := []
  ctx := []
  tx := []
  owl := OwlSt.fresh
  cord := CordSt.fresh
  learn := LearnSt.fresh
  cmd := CmdSt.fresh
  pair := PairSt.fresh
  boot := BootSt.fresh
  spare := SpareSt.fresh
  kiln := KilnSt.fresh
  sec := SecSt.fresh
  free := 0
  pending := []

end Sys2Proof.Machine
end

