-- ==== Sys2Proof/Config.lean ====
section
/-!
DEFINITION. What the spec leaves open: free values without a body, so that no proof can see one.  A free value is drawn
with `State.draw`, whose counter gives each draw a number of its own (log entry 7).
-/
namespace Sys2Proof.Machine

/-- A number that the spec does not state, for the draw of that number; its user cuts it to the width. -/
opaque Config.freeNat : Nat → Nat

/-- A byte that the spec does not state. -/
opaque Config.freeByte : Nat → Byte

/-- Whether a journal of that many entries has reached the end of an area of that many MiB: the spec gives neither the
slots' share of the area nor the size of every journal record (13_redundant_pair.md R362 to R365, log entry 15). -/
opaque Config.journalFull : Nat → Nat → Bool

/-- Whether a power figure that is no whole number of mW, given in the units of 16_power_clocks_thermal.md R429's sum, is
shown as the next higher number: the spec does not state how Kiln rounds (log entry 20). -/
opaque Config.powerUp : Nat → Bool

/-- The version of the boot ROM that IDENT shows, which the spec does not state (12_command_interface.md R333). -/
opaque Config.romVersion : Nat

/-- The bytes of a checkpoint, and the checkpoint that such bytes spell: 13_redundant_pair.md R353 and R363 give its
contents and its transport, but no layout (log entry 24). -/
opaque Config.ckptBytes : Ckpt → List Byte
opaque Config.ckptOf : List Byte → Option Ckpt

/-- The bytes of a journal in JOURNAL records, and the journal that such bytes spell (13_redundant_pair.md R362, R366, log
entry 24). -/
opaque Config.journalBytes : List JEntry → List Byte
opaque Config.journalOf : List Byte → List JEntry

/-- What a timing schedule says of the Cordwood plane: START, RUNS and REGION, and the slot-table entries that are not idle
as logical core, slot and entry (08_scheduled_plane.md R244). -/
structure CordPlan where
  start : Nat
  runs : Nat
  region : Bool
  tables : List (Nat × Nat × Nat)
  deriving DecidableEq, Repr, Inhabited

/-- What a timing schedule declares (01_architecture.md R34, 02_time_and_ordering.md R68, 08_scheduled_plane.md R244,
11_csi2_ports.md R293, 14_bringup_loading_spares.md R388, R389, 16_power_clocks_thermal.md R341). -/
structure Schedule where
  /-- Identity of the build (R388). -/
  buildId : Nat
  /-- Speed bin assumed for each logical core, and whether boost is assumed. -/
  bin : List (Nat × Nat)
  boost : Bool
  /-- Step and frame length in grains, where they are declared. -/
  stepLen : Option Nat
  frameLen : Option Nat
  /-- Worst-case work and delivery per step of each logical core, in grains, where they are declared. -/
  work : List (Nat × Nat)
  /-- Declared load of each TX port and budget of each relay, in Mbps. -/
  txLoad : List (Nat × Nat)
  relay : List (Nat × Nat)
  /-- The estimate at the floor bin in fixed-frequency mode, in mW. -/
  power : Nat
  cord : Option CordPlan
  /-- Queues that the image configures for pushing agents: agent and QID (09_queues.md R268). -/
  pushes : List (Nat × Nat)
  deriving DecidableEq, Repr, Inhabited

/-- A schedule that declares nothing. -/
def Schedule.silent : Schedule where
  buildId := 0
  bin := []
  boost := false
  stepLen := none
  frameLen := none
  work := []
  txLoad := []
  relay := []
  power := 0
  cord := none
  pushes := []

/-- What the bytes of a timing schedule after its BUILD_ID declare: the spec names the items and gives no layout
(log entry 32). -/
opaque Config.schedule : List Byte → Schedule

end Sys2Proof.Machine
end

