-- ==== Sys2Proof/Machine/Bits.lean ====
section
/-!
DEFINITION. Bit fields, two's complement, bytes in little-endian order (00_scope.md R3), and the rounding and
saturation of 03_neuron_cores.md R81.
-/
namespace Sys2Proof.Machine

/-- Bits [hi:lo] of a number. -/
def bits (v hi lo : Nat) : Nat := (v / 2 ^ lo) % 2 ^ (hi + 1 - lo)

/-- Bit `k` of a number. -/
def bit (v k : Nat) : Bool := (v / 2 ^ k) % 2 == 1

/-- `v` with bits [hi:lo] replaced by the low bits of `x`. -/
def putBits (v hi lo x : Nat) : Nat :=
  v % 2 ^ lo + (x % 2 ^ (hi + 1 - lo)) * 2 ^ lo + (v / 2 ^ (hi + 1)) * 2 ^ (hi + 1)

/-- The low `n` bits of a number as a two's complement integer. -/
def sgn (n v : Nat) : Int :=
  let m := v % 2 ^ n
  if m < 2 ^ (n - 1) then (m : Int) else (m : Int) - (2 ^ n : Nat)

/-- An integer as `n` bits of two's complement. -/
def uns (n : Nat) (x : Int) : Nat := (x % (2 ^ n : Nat)).toNat

/-- rsh of R81: a right shift that rounds halves toward plus infinity. -/
def rsh (x : Int) (k : Nat) : Int :=
  if k = 0 then x else (x + (2 ^ (k - 1) : Nat)) / (2 ^ k : Nat)

/-- satN of R81. -/
def satS (n : Nat) (x : Int) : Int := max (-(2 ^ (n - 1) : Nat)) (min ((2 ^ (n - 1) : Nat) - 1) x)

/-- satuN of R81. -/
def satU (n : Nat) (x : Int) : Int := max 0 (min ((2 ^ n : Nat) - 1) x)

/-- The ceiling of a quotient. -/
def ceilDiv (a b : Nat) : Nat := (a + b - 1) / b

/-- Whether bit `k` is set, as a number. -/
def b2n (b : Bool) : Nat := if b then 1 else 0

/-- `n` bytes of a number, least significant first (R3). -/
def toBytes (n v : Nat) : List Byte := (List.range n).map (fun k => BitVec.ofNat 8 (v / 2 ^ (8 * k)))

/-- The number that bytes spell, least significant first (R3). -/
def ofBytes (bs : List Byte) : Nat := bs.foldr (fun b v => b.toNat + 256 * v) 0

/-- Bytes `at` to `at + n - 1` of a list as a number. -/
def byteField (bs : List Byte) (pos n : Nat) : Nat := ofBytes ((bs.drop pos).take n)

/-- A list of `n` bytes: the first ones of `bs`, then zeros. -/
def padTo (n : Nat) (bs : List Byte) : List Byte := bs.take n ++ List.replicate (n - bs.length) 0

/-- The 64-bit words that bytes spell, the last one filled with zeros. -/
def wordsOf (bs : List Byte) : List Word :=
  (List.range (ceilDiv bs.length 8)).map (fun k => BitVec.ofNat 64 (byteField bs (8 * k) 8))

/-- The bytes of 64-bit words. -/
def bytesOf (ws : List Word) : List Byte := ws.flatMap (fun w => toBytes 8 w.toNat)

/-- Replace element `k` of a list; a list too short is left as it is. -/
def listSet {α : Type} (l : List α) (k : Nat) (v : α) : List α := l.set k v

/-- Whether moment `g` of a 64-bit counter that wraps has reached moment `t` (02 R35). -/
def reached (g t : Nat) : Bool := decide ((g + 2 ^ 64 - t % 2 ^ 64) % 2 ^ 64 < 2 ^ 63)

/-- The distance from moment `t` to moment `g` of a 64-bit counter that wraps, as a signed number. -/
def span (g t : Nat) : Int := sgn 64 ((g + 2 ^ 64 - t % 2 ^ 64) % 2 ^ 64)

end Sys2Proof.Machine
end

