-- ==== Sys2Proof/Machine/Hash.lean ====
section
/-!
DEFINITION. The checksums, hashes and signatures that the chapters name: CRC-32C (12_command_interface.md R326), CRC-64
(13_redundant_pair.md R359), SHA-512 and Ed25519 (17_security.md R447).  SHA-512 and Ed25519 are standards that the
spec names and does not restate: FIPS 180-4 and RFC 8032 (PRESUMED, log entry 9).
-/
namespace Sys2Proof.Machine

/-- One bit of the reflected CRC-32C register. -/
def crc32cBit (c : BitVec 32) : BitVec 32 := if c.getLsbD 0 then (c >>> 1) ^^^ 0x82F63B78#32 else c >>> 1

/-- One byte of CRC-32C: the reflected form of polynomial 0x1EDC_6F41 (R326). -/
def crc32cByte (c : BitVec 32) (b : Byte) : BitVec 32 :=
  (List.range 8).foldl (fun c _ => crc32cBit c) (c ^^^ b.setWidth 32)

/-- CRC-32C (R326). -/
def crc32c (bs : List Byte) : BitVec 32 := (bs.foldl crc32cByte 0xFFFFFFFF#32) ^^^ 0xFFFFFFFF#32

/-- One bit of the CRC-64 register. -/
def crc64Bit (c : BitVec 64) : BitVec 64 :=
  if c.getLsbD 63 then (c <<< 1) ^^^ 0x42F0E1EBA9EA3693#64 else c <<< 1

/-- One byte of the CRC-64 of 13 R359: no reflection. -/
def crc64Byte (c : BitVec 64) (b : Byte) : BitVec 64 :=
  (List.range 8).foldl (fun c _ => crc64Bit c) (c ^^^ (b.setWidth 64 <<< 56))

/-- The CRC-64 of 13 R359: initial value zero, no final XOR. -/
def crc64 (bs : List Byte) : BitVec 64 := bs.foldl crc64Byte 0

/-- `n` bytes of a number, most significant first. -/
def beBytes (n v : Nat) : List Byte := (toBytes n v).reverse

/-- Round constants 0 to 19 of SHA-512. -/
def Sha.k0 : List (BitVec 64) := [
  0x428A2F98D728AE22, 0x7137449123EF65CD, 0xB5C0FBCFEC4D3B2F, 0xE9B5DBA58189DBBC,
  0x3956C25BF348B538, 0x59F111F1B605D019, 0x923F82A4AF194F9B, 0xAB1C5ED5DA6D8118,
  0xD807AA98A3030242, 0x12835B0145706FBE, 0x243185BE4EE4B28C, 0x550C7DC3D5FFB4E2,
  0x72BE5D74F27B896F, 0x80DEB1FE3B1696B1, 0x9BDC06A725C71235, 0xC19BF174CF692694,
  0xE49B69C19EF14AD2, 0xEFBE4786384F25E3, 0x0FC19DC68B8CD5B5, 0x240CA1CC77AC9C65]

/-- Round constants 20 to 39 of SHA-512. -/
def Sha.k1 : List (BitVec 64) := [
  0x2DE92C6F592B0275, 0x4A7484AA6EA6E483, 0x5CB0A9DCBD41FBD4, 0x76F988DA831153B5,
  0x983E5152EE66DFAB, 0xA831C66D2DB43210, 0xB00327C898FB213F, 0xBF597FC7BEEF0EE4,
  0xC6E00BF33DA88FC2, 0xD5A79147930AA725, 0x06CA6351E003826F, 0x142929670A0E6E70,
  0x27B70A8546D22FFC, 0x2E1B21385C26C926, 0x4D2C6DFC5AC42AED, 0x53380D139D95B3DF,
  0x650A73548BAF63DE, 0x766A0ABB3C77B2A8, 0x81C2C92E47EDAEE6, 0x92722C851482353B]

/-- Round constants 40 to 59 of SHA-512. -/
def Sha.k2 : List (BitVec 64) := [
  0xA2BFE8A14CF10364, 0xA81A664BBC423001, 0xC24B8B70D0F89791, 0xC76C51A30654BE30,
  0xD192E819D6EF5218, 0xD69906245565A910, 0xF40E35855771202A, 0x106AA07032BBD1B8,
  0x19A4C116B8D2D0C8, 0x1E376C085141AB53, 0x2748774CDF8EEB99, 0x34B0BCB5E19B48A8,
  0x391C0CB3C5C95A63, 0x4ED8AA4AE3418ACB, 0x5B9CCA4F7763E373, 0x682E6FF3D6B2B8A3,
  0x748F82EE5DEFB2FC, 0x78A5636F43172F60, 0x84C87814A1F0AB72, 0x8CC702081A6439EC]

/-- Round constants 60 to 79 of SHA-512. -/
def Sha.k3 : List (BitVec 64) := [
  0x90BEFFFA23631E28, 0xA4506CEBDE82BDE9, 0xBEF9A3F7B2C67915, 0xC67178F2E372532B,
  0xCA273ECEEA26619C, 0xD186B8C721C0C207, 0xEADA7DD6CDE0EB1E, 0xF57D4F7FEE6ED178,
  0x06F067AA72176FBA, 0x0A637DC5A2C898A6, 0x113F9804BEF90DAE, 0x1B710B35131C471B,
  0x28DB77F523047D84, 0x32CAAB7B40C72493, 0x3C9EBE0A15C9BEBC, 0x431D67C49C100D4C,
  0x4CC5D4BECB3E42B6, 0x597F299CFC657E2A, 0x5FCB6FAB3AD6FAEC, 0x6C44198C4A475817]

/-- The initial hash value of SHA-512. -/
def Sha.h0 : List (BitVec 64) := [
  0x6A09E667F3BCC908, 0xBB67AE8584CAA73B, 0x3C6EF372FE94F82B, 0xA54FF53A5F1D36F1,
  0x510E527FADE682D1, 0x9B05688C2B3E6C1F, 0x1F83D9ABFB41BD6B, 0x5BE0CD19137E2179]

/-- The round constants. -/
def Sha.k : List (BitVec 64) := Sha.k0 ++ Sha.k1 ++ Sha.k2 ++ Sha.k3

/-- The message schedule, newest word first. -/
def Sha.extend (w : List (BitVec 64)) : Nat → List (BitVec 64)
  | 0 => w
  | n + 1 =>
    let p := Sha.extend w n
    let a := p.getD 14 0
    let b := p.getD 1 0
    ((b.rotateRight 19 ^^^ b.rotateRight 61 ^^^ (b >>> 6)) + p.getD 6 0 +
      (a.rotateRight 1 ^^^ a.rotateRight 8 ^^^ (a >>> 7)) + p.getD 15 0) :: p

/-- One round on the eight working variables. -/
def Sha.round (v : List (BitVec 64)) (kw : BitVec 64) : List (BitVec 64) :=
  let a := v.getD 0 0
  let b := v.getD 1 0
  let c := v.getD 2 0
  let e := v.getD 4 0
  let t1 := v.getD 7 0 + (e.rotateRight 14 ^^^ e.rotateRight 18 ^^^ e.rotateRight 41) +
    ((e &&& v.getD 5 0) ^^^ (~~~e &&& v.getD 6 0)) + kw
  let t2 := (a.rotateRight 28 ^^^ a.rotateRight 34 ^^^ a.rotateRight 39) + ((a &&& b) ^^^ (a &&& c) ^^^ (b &&& c))
  [t1 + t2, a, b, c, v.getD 3 0 + t1, e, v.getD 5 0, v.getD 6 0]

/-- One block of 128 bytes. -/
def Sha.block (h : List (BitVec 64)) (blk : List Byte) : List (BitVec 64) :=
  let w0 := (List.range 16).map (fun k => BitVec.ofNat 64 (ofBytes ((blk.drop (8 * k)).take 8).reverse))
  let w := (Sha.extend w0.reverse 64).reverse
  let v := (List.zipWith (· + ·) Sha.k w).foldl Sha.round h
  List.zipWith (· + ·) h v

/-- The padded message: a 1 bit, zeros, and the length in bits as 16 bytes. -/
def Sha.pad (m : List Byte) : List Byte :=
  m ++ [0x80#8] ++ List.replicate ((240 - (m.length + 1) % 128) % 128) 0 ++ beBytes 16 (8 * m.length)

/-- SHA-512 of a byte string, 64 bytes. -/
def sha512 (m : List Byte) : List Byte :=
  let p := Sha.pad m
  ((List.range (p.length / 128)).foldl (fun h k => Sha.block h ((p.drop (128 * k)).take 128)) Sha.h0).flatMap
    (fun w => beBytes 8 w.toNat)

/-- The field prime of Ed25519, its group order and its curve constant. -/
def Ed.p : Nat := 2 ^ 255 - 19
def Ed.l : Nat := 2 ^ 252 + 27742317777372353535851937790883648493
def Ed.d : Nat := 37095705934669439343138083508754565189542113879843219016388785533085940283555

/-- `b ^ e mod p` by squaring; `n` bounds the bits of `e`. -/
def Ed.pow : Nat → Nat → Nat → Nat
  | 0, _, _ => 1
  | n + 1, b, e =>
    let r := Ed.pow n (b * b % Ed.p) (e / 2)
    if e % 2 = 1 then b * r % Ed.p else r

/-- The inverse in the field. -/
def Ed.inv (x : Nat) : Nat := Ed.pow 255 x (Ed.p - 2)

/-- A point in extended coordinates. -/
structure Ed.Pt where
  x : Nat
  y : Nat
  z : Nat
  t : Nat
  deriving DecidableEq, Repr

/-- Addition of points; it also doubles. -/
def Ed.add (a b : Ed.Pt) : Ed.Pt :=
  let sub := fun (x y : Nat) => (x + Ed.p - y) % Ed.p
  let aa := sub a.y a.x * sub b.y b.x % Ed.p
  let bb := (a.y + a.x) * (b.y + b.x) % Ed.p
  let cc := 2 * a.t % Ed.p * Ed.d % Ed.p * b.t % Ed.p
  let dd := 2 * a.z * b.z % Ed.p
  let e := sub bb aa
  let f := sub dd cc
  let g := (dd + cc) % Ed.p
  let h := (bb + aa) % Ed.p
  ⟨e * f % Ed.p, g * h % Ed.p, f * g % Ed.p, e * h % Ed.p⟩

/-- The multiple `k` of a point; `n` bounds the bits of `k`. -/
def Ed.mul : Nat → Nat → Ed.Pt → Ed.Pt
  | 0, _, _ => ⟨0, 1, 1, 0⟩
  | n + 1, k, q =>
    let r := Ed.mul n (k / 2) (Ed.add q q)
    if k % 2 = 1 then Ed.add q r else r

/-- Whether two points are the same. -/
def Ed.same (a b : Ed.Pt) : Bool :=
  decide (a.x * b.z % Ed.p = b.x * a.z % Ed.p) && decide (a.y * b.z % Ed.p = b.y * a.z % Ed.p)

/-- The x coordinate that belongs to y and a sign bit, if any. -/
def Ed.recover (y sign : Nat) : Option Nat :=
  if y ≥ Ed.p then none
  else
    let x2 := (y * y + Ed.p - 1) % Ed.p * Ed.inv ((Ed.d * y % Ed.p * y + 1) % Ed.p) % Ed.p
    if x2 = 0 then (if sign = 1 then none else some 0)
    else
      let x := Ed.pow 255 x2 ((Ed.p + 3) / 8)
      let x' := if x * x % Ed.p = x2 then x else x * Ed.pow 255 2 ((Ed.p - 1) / 4) % Ed.p
      if x' * x' % Ed.p ≠ x2 then none
      else some (if x' % 2 = sign then x' else Ed.p - x')

/-- The base point. -/
def Ed.base : Ed.Pt :=
  let y := 4 * Ed.inv 5 % Ed.p
  let x := (Ed.recover y 0).getD 0
  ⟨x, y, 1, x * y % Ed.p⟩

/-- A point from its 32 bytes. -/
def Ed.decode (bs : List Byte) : Option Ed.Pt :=
  let v := ofBytes (bs.take 32)
  let y := v % 2 ^ 255
  (Ed.recover y (v / 2 ^ 255 % 2)).map (fun x => ⟨x, y, 1, x * y % Ed.p⟩)

/-- The 32 bytes of a point. -/
def Ed.encode (q : Ed.Pt) : List Byte :=
  let zi := Ed.inv q.z
  toBytes 32 (q.y * zi % Ed.p + (q.x * zi % Ed.p) % 2 * 2 ^ 255)

/-- Verification of an Ed25519 signature. -/
def Ed.verify (key msg sig : List Byte) : Bool :=
  let r := sig.take 32
  let k := ofBytes (sig.drop 32)
  match Ed.decode key, Ed.decode r with
  | some a, some rp =>
    let h := ofBytes (sha512 (r ++ key ++ msg)) % Ed.l
    decide (sig.length = 64) && decide (k < Ed.l) &&
      Ed.same (Ed.mul 256 k Ed.base) (Ed.add rp (Ed.mul 256 h a))
  | _, _ => false

/-- The secret scalar of a seed. -/
def Ed.scalar (seed : List Byte) : Nat :=
  let h := ofBytes ((sha512 seed).take 32)
  h % 2 ^ 254 / 8 * 8 + 2 ^ 254

/-- The public key of a seed. -/
def Ed.pub (seed : List Byte) : List Byte := Ed.encode (Ed.mul 256 (Ed.scalar seed) Ed.base)

/-- The signature of a message under a seed. -/
def Ed.sign (seed msg : List Byte) : List Byte :=
  let a := Ed.scalar seed
  let pk := Ed.pub seed
  let r := ofBytes (sha512 ((sha512 seed).drop 32 ++ msg)) % Ed.l
  let rb := Ed.encode (Ed.mul 256 r Ed.base)
  let k := ofBytes (sha512 (rb ++ pk ++ msg)) % Ed.l
  rb ++ toBytes 32 ((r + k * a) % Ed.l)

end Sys2Proof.Machine
end

