-- ==== Sys2Proof/Machine/Ecc.lean ====
section
/-!
DEFINITION. The Urboval codeword: encoder, syndrome, decoder and erasure decoder
(10_memory_system.md R269, R270, R271 and R284).
-/
namespace Sys2Proof.Machine

namespace Ecc

/-- Multiplication by α in GF(2^7), with m1(x) = x^7 + x^3 + 1 (R269). -/
def mulA (a : BitVec 7) : BitVec 7 := if a.getLsbD 6 then (a <<< 1) ^^^ 0x09#7 else a <<< 1

/-- α^k (R269). -/
def pow : Nat → BitVec 7
  | 0 => 1#7
  | k + 1 => mulA (pow k)

/-- The product of two field elements, by shift and add over the bits of the first from bit 6 down. -/
def mul (a b : BitVec 7) : BitVec 7 :=
  [6, 5, 4, 3, 2, 1, 0].foldl (fun acc k => if a.getLsbD k then mulA acc ^^^ b else mulA acc) 0#7

/-- The cube of a field element. -/
def cube (a : BitVec 7) : BitVec 7 := mul a (mul a a)

/-- g(x) = (x + 1)^2 · m1(x) · m3(x) without its leading term, bit b the coefficient of x^b; m3(x) = x^7 + x^3 + x^2 +
x + 1 is the minimal polynomial of α^3 (R269). -/
def gen : BitVec 16 := 0x4EAB#16

/-- One step of the division by g(x): the next data bit enters at the top. -/
def divStep (r : BitVec 16) (b : Bool) : BitVec 16 :=
  if r.getLsbD 15 != b then (r <<< 1) ^^^ gen else r <<< 1

/-- The remainder of x^16 · d(x) divided by g(x) (R269). -/
def check (d : Word) : BitVec 16 :=
  (List.range 64).foldl (fun r k => divStep r (d.getLsbD (63 - k))) 0#16

/-- The codeword of a data word: check bits at positions 0 to 15, data bit j at position 16 + j (R269). -/
def encode (d : Word) : Code := d ++ check d

/-- The data bits of a codeword. -/
def data (c : Code) : Word := c.extractLsb' 16 64

/-- XOR of the bits at the listed positions. -/
def parityOf (c : Code) (ks : List Nat) : Bool := ks.foldl (fun p k => p != c.getLsbD k) false

/-- Sum of f(i) over the positions i whose bit is set, from position `i` on, walking the field element along. -/
def sumFrom (c : Code) (step : BitVec 7 → BitVec 7) : Nat → Nat → BitVec 7 → BitVec 7 → BitVec 7
  | 0, _, _, acc => acc
  | n + 1, i, e, acc => sumFrom c step n (i + 1) (step e) (if c.getLsbD i then acc ^^^ e else acc)

/-- S1 = Σ r_i · α^i (R270). -/
def s1 (c : Code) : BitVec 7 := sumFrom c mulA 80 0 1#7 0#7

/-- S3 = Σ r_i · α^(3i) (R270). -/
def s3 (c : Code) : BitVec 7 := sumFrom c (fun e => mulA (mulA (mulA e))) 80 0 1#7 0#7

/-- P: XOR of all received bits (R270). -/
def parP (c : Code) : Bool := parityOf c (List.range 80)

/-- Q: XOR of the received bits at odd positions (R270). -/
def parQ (c : Code) : Bool := parityOf c ((List.range 40).map (fun k => 2 * k + 1))

/-- The 16-bit syndrome (R270). -/
def syndrome (c : Code) : BitVec 16 :=
  BitVec.ofBool (parP c) ++ BitVec.ofBool (parQ c) ++ s3 c ++ s1 c

/-- log_α of a field element among positions 0 to 79; none when its logarithm is 80 or more or it is zero. -/
def logPos (a : BitVec 7) : Option Nat := (List.range 80).find? (fun i => pow i == a)

/-- The error pattern with one bit. -/
def bitAt (i : Nat) : Code := 1#80 <<< i

/-- The two positions i < j with S1 = α^i + α^j and S3 = α^(3i) + α^(3j), that is with α^(−i) and α^(−j) the roots of
σ(x) (R271). -/
def pairPos (a b : BitVec 7) : Option (Nat × Nat) :=
  (List.range 80).findSome? (fun i =>
    match logPos (a ^^^ pow i) with
    | some j => if i < j ∧ cube (pow i) ^^^ cube (pow j) = b then some (i, j) else none
    | none => none)

/-- What the decoder does with a received codeword (R271). -/
inductive Outcome where
  | clean (d : Word)
  | corrected (d : Word) (mask : Code)
  | bad
  deriving DecidableEq, Repr

/-- The decoder (R271). -/
def decode (c : Code) : Outcome :=
  let P := parP c
  let Q := parQ c
  let a := s1 c
  let b := s3 c
  if !P && !Q && a == 0#7 && b == 0#7 then .clean (data c)
  else if P then
    if a == 0#7 then .bad
    else match logPos a with
      | some i => if b == cube a && Q == (i % 2 == 1) then .corrected (data (c ^^^ bitAt i)) (bitAt i) else .bad
      | none => .bad
  else if a == 0#7 then .bad
  else match pairPos a b with
    | some (i, j) =>
      if Q == ((i + j) % 2 == 1) then .corrected (data (c ^^^ bitAt i ^^^ bitAt j)) (bitAt i ^^^ bitAt j) else .bad
    | none => .bad

/-- The number of corrected bits in a mask. -/
def weight (m : Code) : Nat := (List.range 80).countP (fun i => m.getLsbD i)

/-- The trials of the retired positions: every value of those bits (R284). -/
def trials (c : Code) : List Nat → List Code
  | [] => [c]
  | p :: ps => (trials c ps).flatMap (fun x => [x &&& ~~~(bitAt p), x ||| bitAt p])

/-- A trial that decodes with at most one corrected bit, with that count (R284). -/
def kept (c : Code) : Option (Nat × Word × Code) :=
  match decode c with
  | .clean d => some (0, d, 0#80)
  | .corrected d m => if weight m ≤ 1 then some (1, d, m) else none
  | .bad => none

/-- The decoder with retired positions (R284): with none it is `decode`. -/
def decodeErased (retired : List Nat) (c : Code) : Outcome :=
  match retired with
  | [] => decode c
  | _ =>
    let ks := (trials c retired).filterMap kept
    let best := ks.filter (fun k => decide (k.1 = (ks.map (·.1)).foldl min 2))
    match best with
    | [] => .bad
    | k :: _ =>
      if best.all (fun x => x.2.1 == k.2.1) then (if k.1 = 0 then .clean k.2.1 else .corrected k.2.1 k.2.2)
      else .bad

end Ecc

end Sys2Proof.Machine
end

