-- ==== Sys2Proof/Machine/Ops.lean ====
section
/-!
DEFINITION. Reading and writing register fields, the memory bytes and words, the per-core records, and the variant's
fused resources.  Every other file reaches registers and memory through these.
-/
namespace Sys2Proof.Machine

/-- The key of copy `i` of a field in unit `u`. -/
def Fld.key (f : Fld) (u i : Nat) : Key := ⟨f.reg.num, f.lo, u, i⟩

/-- The number of bits of a field. -/
def Fld.width (f : Fld) : Nat := f.hi + 1 - f.lo

/-- The value of a field (00_scope.md R6: its reset entry until something writes it). -/
def State.rd (s : State) (f : Fld) (u : Nat := 0) (i : Nat := 0) : Nat :=
  Sparse.get s.regs (f.key u i) f.rst

/-- Whether a field is not zero. -/
def State.on (s : State) (f : Fld) (u : Nat := 0) (i : Nat := 0) : Bool := s.rd f u i != 0

/-- The state with a field at a value, cut to the field's width. -/
def State.wr (s : State) (f : Fld) (v : Nat) (u : Nat := 0) (i : Nat := 0) : State :=
  { s with regs := Sparse.set Key.lt s.regs (f.key u i) f.rst (v % 2 ^ f.width) }

/-- The state with a one-bit field set or cleared. -/
def State.wrB (s : State) (f : Fld) (b : Bool) (u : Nat := 0) (i : Nat := 0) : State := s.wr f (b2n b) u i

/-- A counter after `n` more: it saturates at all ones, or wraps where its description says so (00_scope.md R9). -/
def Fld.plus (f : Fld) (v n : Nat) : Nat :=
  if f.wraps then (v + n) % 2 ^ f.width else min (v + n) (2 ^ f.width - 1)

/-- The state with a counter `n` higher (R9). -/
def State.inc (s : State) (f : Fld) (n : Nat := 1) (u : Nat := 0) (i : Nat := 0) : State :=
  s.wr f (f.plus (s.rd f u i) n) u i

/-- The state with a highest-value field raised to `v`, saturating. -/
def State.top (s : State) (f : Fld) (v : Nat) (u : Nat := 0) (i : Nat := 0) : State :=
  s.wr f (max (s.rd f u i) (min v (2 ^ f.width - 1))) u i

/-- A two's complement field. -/
def State.rdS (s : State) (f : Fld) (u : Nat := 0) (i : Nat := 0) : Int := sgn f.width (s.rd f u i)

/-- CHIP_CTRL.RUN_EN. -/
def State.running (s : State) : Bool := s.on F.CHIP_CTRL_RUN_EN

/-- TIME_GRAIN. -/
def State.grain (s : State) : Nat := s.rd F.TIME_GRAIN_GRAIN

/-- TIME_STEP. -/
def State.step (s : State) : Nat := s.rd F.TIME_STEP_STEP

/-- TIME_FRAME. -/
def State.frame (s : State) : Nat := s.rd F.TIME_FRAME_FRAME

/-- Whether an engine, RX port, TX port or GDDR6 group is enabled by fuse (01 R14, R15). -/
def State.engineOn (s : State) (e : Nat) : Bool := bit s.fuse.engineEn e
def State.rxOn (s : State) (p : Nat) : Bool := bit s.fuse.rxEn p
def State.txOn (s : State) (p : Nat) : Bool := bit s.fuse.txEn p
def State.groupOn (s : State) (g : Nat) : Bool := bit s.fuse.g6En g

/-- Whether the variant has logical core `n`. -/
def State.coreOn (s : State) (n : Nat) : Bool := decide (n < 1024) && s.engineOn (n / 128)

/-- The enabled engines, ascending. -/
def State.engines (s : State) : List Nat := (List.range 8).filter s.engineOn

/-- The enabled GDDR6 groups, ascending. -/
def State.groups (s : State) : List Nat := (List.range 2).filter s.groupOn

/-- The last enabled row of the array plus one (01 R14). -/
def State.rows (s : State) : Nat := 8 * ((s.engines.length + 1) / 2)

/-- The tile, by physical core number, that engine `e`'s active map gives logical core `n` (14 R384). -/
def State.mapOf (s : State) (e n : Nat) : Nat := s.rd F.SPARE_MAP_TILE e n

/-- The tile that holds logical core `n`: its own engine's active map entry. -/
def State.tileOf (s : State) (n : Nat) : Nat := s.mapOf (n / 128) n

/-- The engine in which tile `p` lies (01 R12). -/
def tileEngine (p : Nat) : Nat := 2 * (p / 34 / 8) + (p % 34) / 17

/-- The logical core that tile `p` holds by its own engine's active map. -/
def State.coreAt (s : State) (p : Nat) : Option Nat :=
  let e := tileEngine p
  ((List.range 128).map (fun j => 128 * e + j)).find?
    (fun n => s.on F.SPARE_MAP_VALID e n && s.mapOf e n == p)

/-- A logical core's own record. -/
def State.core (s : State) (n : Nat) : CoreSt := Sparse.get s.cores n CoreSt.fresh

/-- The state with a logical core's record replaced. -/
def State.setCore (s : State) (n : Nat) (c : CoreSt) : State :=
  { s with cores := Sparse.set natLt s.cores n CoreSt.fresh c }

/-- The state with a logical core's record changed. -/
def State.onCore (s : State) (n : Nat) (f : CoreSt → CoreSt) : State := s.setCore n (f (s.core n))

/-- One byte of memory, by chip address. -/
def State.byte (s : State) (a : Nat) : Byte := Sparse.get s.mem a 0

/-- Memory is in canonical form: addresses rise strictly and no listed byte is zero. -/
def State.memWf (s : State) : Bool := Sparse.wf natLt 0 s.mem

/-- The state with one byte of memory at a value. -/
def State.setByte (s : State) (a : Nat) (v : Byte) : State :=
  { s with mem := Sparse.set natLt s.mem a 0 v }

/-- `n` bytes of memory from address `a` on. -/
def State.bytes (s : State) (a n : Nat) : List Byte := (List.range n).map (fun k => s.byte (a + k))

/-- The state with bytes stored from address `a` on. -/
def State.setBytes (s : State) (a : Nat) : List Byte → State
  | [] => s
  | b :: bs => (s.setByte a b).setBytes (a + 1) bs

/-- The data of the 64-bit word at address `a`, as last written. -/
def State.word (s : State) (a : Nat) : Word := BitVec.ofNat 64 (ofBytes (s.bytes a 8))

/-- The upset bits of the stored codeword of the word at `a`. -/
def State.flip (s : State) (a : Nat) : Code := Sparse.get s.flips a 0

/-- The state with the upset bits of one stored codeword set. -/
def State.setFlip (s : State) (a : Nat) (m : Code) : State :=
  { s with flips := Sparse.set natLt s.flips a 0 m }

/-- The state with a word stored as a fresh codeword (10_memory_system.md R274). -/
def State.setWord (s : State) (a : Nat) (w : Word) : State := (s.setBytes a (toBytes 8 w.toNat)).setFlip a 0

/-- The state with words stored from address `a` on. -/
def State.setWords (s : State) (a : Nat) (ws : List Word) : State :=
  ws.zipIdx.foldl (fun t p => t.setWord (a + 8 * p.2) p.1) s

/-- `n` more events of an activity class of engine `e` in this power window (16 R429): 0 SYN, 1 UPD, 2 LRN, 3 SRAM,
4 FLIT, 5 CORD; engine 8 has classes 0 for GDDR6 bursts and 1 for CSI-2 payload bytes. -/
def State.act (s : State) (e cls n : Nat) : State :=
  { s with kiln := { s.kiln with
      acts := Sparse.set natLt s.kiln.acts (8 * e + cls) 0 (Sparse.get s.kiln.acts (8 * e + cls) 0 + n) } }

/-- A fresh free value's number, and the state with the counter advanced. -/
def State.draw (s : State) : Nat × State := (s.free, { s with free := s.free + 1 })

/-- A message joined to the staged ones: an occurrence of a kind that its source has staged merges into that message
(15_faults.md R403). -/
def mergeMsg (m : Msg) : List Msg → List Msg
  | [] => [m]
  | e :: t =>
    if e.src = m.src ∧ e.kind = m.kind then
      { e with rep := min 255 (e.rep + 1), cls := max e.cls m.cls, forced := e.forced && m.forced } :: t
    else e :: mergeMsg m t

/-- The state with a message staged for the fault chain (15_faults.md R402, R403); a source that the variant fuses off
never comes to report. -/
def State.report (s : State) (src kind cls addr : Nat) : State :=
  { s with owl := { s.owl with staged := mergeMsg ⟨src, kind, cls, addr % 2 ^ 32, false, 0⟩ s.owl.staged } }

/-- The state with a packet staged at the injecting interface of agent `a` (07_event_network.md R204). -/
def State.stage (s : State) (a : Nat) (p : Packet) (why : Why := .plain) (ctl : Bool := false) (router : Bool := false) :
    State :=
  { s with net := { s.net with staging := s.net.staging ++ [⟨a, p, why, ctl, router⟩] } }

end Sys2Proof.Machine
end

