-- ==== Sys2Proof/Machine/Sram.lean ====
section
/-!
DEFINITION. Core SRAM: decoded reads, whole-word writes, and the reports of corrected and uncorrectable words
(03_neuron_cores.md R69, R480, 10_memory_system.md R273, R274).
-/
namespace Sys2Proof.Machine

/-- The chip address of word `w` of logical core `n`'s SRAM (01 R29, 03 R69). -/
def sramAddr (n w : Nat) : Nat := n * 0x100000 + 8 * w

/-- The stored codeword of the word at an address, upsets included. -/
def State.codeAt (s : State) (a : Nat) : Code := Ecc.encode (s.word a) ^^^ s.flip a

/-- What the decoder makes of the stored word at an address. -/
def State.decodeAt (s : State) (a : Nat) : Ecc.Outcome :=
  if s.flip a = 0 then .clean (s.word a) else Ecc.decode (s.codeAt a)

/-- The last syndrome and word of MEM_SRAM_CNT (10 R274). -/
def State.sramLog (s : State) (n w : Nat) : State :=
  (s.wr F.MEM_SRAM_CNT_SYNDROME (Ecc.syndrome (s.codeAt (sramAddr n w))).toNat n).wr F.MEM_SRAM_CNT_WORD w n

/-- A corrected SRAM word: counted, every 256th reported, and queued for its write-back (10 R273, R274). -/
def State.sramCorrected (s : State) (n w : Nat) : State :=
  let k := (s.core n).corrRun + 1
  let s1 := ((s.sramLog n w).inc F.MEM_SRAM_CNT_CORR 1 n).onCore n
    (fun c => { c with corrRun := k % 256, writeback := c.writeback.filter (· != w) ++ [w] })
  if k % 256 = 0 then s1.report (s.tileOf n) 0x01 1 (8 * w) else s1

/-- An uncorrectable SRAM word: counted and reported on every occurrence (10 R274). -/
def State.sramBad (s : State) (n w : Nat) : State :=
  ((s.sramLog n w).inc F.MEM_SRAM_CNT_UNCORR 1 n).report (s.tileOf n) 0x02 3 (8 * w)

/-- A unit's read of SRAM word `w`: the corrected data, or none for an uncorrectable word and for a word number that
reaches no word, which is counted in place of a report (03 R480). -/
def State.sramRead (s : State) (n w : Nat) : Option Word × State :=
  if w ≥ 32768 then (none, s.inc F.CORE_DISC_CNT_OOR 1 n)
  else match s.decodeAt (sramAddr n w) with
    | .clean d => (some d, s)
    | .corrected d _ => (some d, s.sramCorrected n w)
    | .bad => (none, s.sramBad n w)

/-- A unit's read without counting or reporting, for a check (12 R336) and for looking twice at one read. -/
def State.sramPeek (s : State) (n w : Nat) : Option Word :=
  if w ≥ 32768 then none
  else match s.decodeAt (sramAddr n w) with
    | .clean d => some d
    | .corrected d _ => some d
    | .bad => none

/-- A whole-word write: a fresh codeword, which cancels a pending write-back of that word (10 R273, R274); a word
number that reaches no word is counted (03 R480). -/
def State.sramWrite (s : State) (n w : Nat) (v : Word) : State :=
  if w ≥ 32768 then s.inc F.CORE_DISC_CNT_OOR 1 n
  else (s.setWord (sramAddr n w) v).onCore n (fun c => { c with writeback := c.writeback.filter (· != w) })

/-- A change of part of a word by a unit: the word is read and written in one port operation; an uncorrectable word
stays unchanged (10 R274). -/
def State.sramModify (s : State) (n w : Nat) (f : Word → Word) : State :=
  match s.sramRead n w with
  | (some v, s1) => s1.sramWrite n w (f v)
  | (none, s1) => s1

/-- The next pending write-back of a core: a fresh codeword of the corrected data (10 R273). -/
def State.writeBack (s : State) (n : Nat) : State :=
  match (s.core n).writeback with
  | [] => s
  | w :: ws =>
    let s1 := s.onCore n (fun c => { c with writeback := ws })
    match s.decodeAt (sramAddr n w) with
    | .corrected d _ => s1.setWord (sramAddr n w) d
    | _ => s1

/-- The patrol scrubber's read of the next word, with its write-back in the same operation (10 R273). -/
def State.patrolRead (s : State) (n : Nat) : State :=
  let w := (s.core n).patrol
  let s1 := (s.sramRead n w).2
  let s2 := s1.onCore n (fun c => { c with patrol := (w + 1) % 32768, writeback := c.writeback.filter (· != w) })
  match s.decodeAt (sramAddr n w) with
  | .corrected d _ => s2.setWord (sramAddr n w) d
  | _ => s2

/-- The 32-bit half of a word: half 0 in bits [31:0]. -/
def half (w : Word) (h : Nat) : Nat := bits w.toNat (32 * h + 31) (32 * h)

/-- A word with one 32-bit half replaced. -/
def setHalf (w : Word) (h : Nat) (v : Nat) : Word := BitVec.ofNat 64 (putBits w.toNat (32 * h + 31) (32 * h) v)

/-- A 16-bit quarter of a word, and its replacement. -/
def quarter (w : Word) (k : Nat) : Nat := bits w.toNat (16 * k + 15) (16 * k)
def setQuarter (w : Word) (k v : Nat) : Word := BitVec.ofNat 64 (putBits w.toNat (16 * k + 15) (16 * k) v)

/-- A byte of a word, and its replacement. -/
def octet (w : Word) (k : Nat) : Nat := bits w.toNat (8 * k + 7) (8 * k)
def setOctet (w : Word) (k v : Nat) : Word := BitVec.ofNat 64 (putBits w.toNat (8 * k + 7) (8 * k) v)

/-- A field of a word. -/
def wbits (w : Word) (hi lo : Nat) : Nat := bits w.toNat hi lo

end Sys2Proof.Machine
end

