-- ==== Sys2Proof/Machine/Neuron.lean ====
section
/-!
DEFINITION. The neuron update of a core (03_neuron_cores.md R73 to R87), the conversion of landing totals
(04_synapses_and_arithmetic.md R115 to R117) and the saturation counters (R118 to R120).
-/
namespace Sys2Proof.Machine

/-- The SRAM port of one core during one operation: each word is decoded once, and later reads of it within the
operation see what the first read gave or what has been written since. -/
structure Port where
  s : State
  n : Nat
  seen : List (Nat × Option Word)

/-- A port on core `n`. -/
def Port.start (s : State) (n : Nat) : Port := ⟨s, n, []⟩

/-- Read a word through the port. -/
def Port.read (p : Port) (w : Nat) : Option Word × Port :=
  match p.seen.lookup w with
  | some v => (v, p)
  | none =>
    let r := p.s.sramRead p.n w
    (r.1, { p with s := r.2, seen := (w, r.1) :: p.seen })

/-- Write a whole word through the port. -/
def Port.write (p : Port) (w : Nat) (v : Word) : Port :=
  { p with s := p.s.sramWrite p.n w v, seen := (w, some v) :: p.seen.filter (fun e => e.1 != w) }

/-- Change part of a word through the port; an uncorrectable word stays (10 R274). -/
def Port.modify (p : Port) (w : Nat) (f : Word → Word) : Port :=
  match p.read w with
  | (some v, q) => q.write w (f v)
  | (none, q) => q

/-- Change the state behind the port, its memory aside. -/
def Port.onS (p : Port) (f : State → State) : Port := { p with s := f p.s }

/-- The settings of a neuron group (03 R76). -/
structure Group where
  g : Nat
  base : Nat
  count : Nat
  model : Nat
  format : Nat
  /-- Smoulder depth in slots: 0, 4, 8 or 16. -/
  depth : Nat
  resetMode : Nat
  act : Nat
  grade : Nat
  refPeriod : Nat
  tauV : Nat
  tauI : Nat
  tauA : Nat
  tauD : Nat
  gshift : Nat
  theta : Int
  vReset : Int
  bias : Int
  resC : Int
  resS : Int
  adaptInc : Int
  adaptShl : Nat
  coupleShr : Nat
  dReset : Bool
  smdOfs : Nat
  clampHi : Int
  clampLo : Int
  stateOfs : Nat
  fanPer : Nat
  outOfs : Nat
  deriving DecidableEq, Repr

/-- Group `g` of core `n` as its registers give it. -/
def State.group (s : State) (n g : Nat) : Group where
  g := g
  base := s.rd F.CORE_GRP_MODE_BASE n g
  count := s.rd F.CORE_GRP_MODE_COUNT n g
  model := s.rd F.CORE_GRP_MODE_MODEL n g
  format := s.rd F.CORE_GRP_MODE_FORMAT n g
  depth := match s.rd F.CORE_GRP_MODE_SMD_DEPTH n g with | 0 => 0 | 1 => 4 | 2 => 8 | _ => 16
  resetMode := s.rd F.CORE_GRP_MODE_RESET_MODE n g
  act := s.rd F.CORE_GRP_MODE_ACT n g
  grade := s.rd F.CORE_GRP_MODE_GRADE n g
  refPeriod := s.rd F.CORE_GRP_MODE_REF_PERIOD n g
  tauV := s.rd F.CORE_GRP_MODE_TAU_V n g
  tauI := s.rd F.CORE_GRP_MODE_TAU_I n g
  tauA := s.rd F.CORE_GRP_MODE_TAU_A n g
  tauD := s.rd F.CORE_GRP_MODE_TAU_D n g
  gshift := s.rd F.CORE_GRP_MODE_GSHIFT n g
  theta := s.rdS F.CORE_GRP_LEVEL_THETA n g
  vReset := s.rdS F.CORE_GRP_LEVEL_V_RESET n g
  bias := s.rdS F.CORE_GRP_LEVEL_BIAS n g
  resC := s.rdS F.CORE_GRP_COEF_RES_C n g
  resS := s.rdS F.CORE_GRP_COEF_RES_S n g
  adaptInc := s.rdS F.CORE_GRP_COEF_ADAPT_INC n g
  adaptShl := s.rd F.CORE_GRP_COEF_ADAPT_SHL n g
  coupleShr := s.rd F.CORE_GRP_COEF_COUPLE_SHR n g
  dReset := s.on F.CORE_GRP_COEF_D_RESET n g
  smdOfs := s.rd F.CORE_GRP_COEF_SMD_OFS n g
  clampHi := s.rdS F.CORE_GRP_CLAMP_CLAMP_HI n g
  clampLo := s.rdS F.CORE_GRP_CLAMP_CLAMP_LO n g
  stateOfs := s.rd F.CORE_GRP_CLAMP_STATE_OFS n g
  fanPer := s.rd F.CORE_GRP_OUT_FAN_PER n g
  outOfs := s.rd F.CORE_GRP_OUT_OUT_OFS n g

/-- The groups of core `n` in use, by ascending number (R73). -/
def State.groupsOf (s : State) (n : Nat) : List Group :=
  ((List.range 32).filter (fun g => s.on F.CORE_GRP_MODE_COUNT n g)).map (fun g => s.group n g)

/-- Whether a group covers a slot (R73). -/
def Group.covers (g : Group) (i : Nat) : Bool := decide (g.base ≤ i) && decide (i < g.base + g.count)

/-- The group of slot `i`, if any. -/
def groupIn (gs : List Group) (i : Nat) : Option Group := gs.find? (fun g => g.covers i)

/-- Words of a state record (R74): slotted format 2 takes 4, wide 2, compact 1. -/
def Group.recWords (g : Group) : Nat := match g.format with | 0 => 1 | 1 => 2 | _ => 4

/-- First word of the state record of slot `i` (R74). -/
def State.recWord (s : State) (n : Nat) (g : Group) (i : Nat) : Nat :=
  s.rd F.CORE_PART_STATE_BASE n + g.stateOfs + (i - g.base) * g.recWords

/-- The word that holds Smoulder slot `k` of neuron slot `i` (R74, R80). -/
def State.smdWord (s : State) (n : Nat) (g : Group) (i k : Nat) : Nat :=
  if k < 8 then s.recWord n g i + 2 + k / 4
  else s.rd F.CORE_PART_SMD_BASE n + g.smdOfs + 2 * (i - g.base) + (k - 8) / 4

/-- The landing word of slot `i` in bank `b` (R70). -/
def State.landWord (s : State) (n b i : Nat) : Nat :=
  s.rd F.CORE_PART_LAND_BASE n + b * s.rd F.CORE_PART_LAND_SIZE n + i / 2

/-- The number of slots that the landing banks cover (R70). -/
def State.slots (s : State) (n : Nat) : Nat := 2 * s.rd F.CORE_PART_LAND_SIZE n

/-- The fields of a neuron's record that the update reads and writes (R77, R79). -/
structure Neuron where
  v : Int
  i : Int
  a : Int
  ref : Nat
  tr : Nat
  en : Bool
  spk : Bool
  clp : Bool
  lrn : Bool
  q : Int
  p : Int
  v2 : Int
  deriving DecidableEq, Repr

/-- A neuron from the compact word and the wide word of its record; a compact record has no P, Q and V2. -/
def Neuron.ofWords (w0 w1 : Word) : Neuron where
  v := sgn 24 (wbits w0 63 40)
  i := sgn 16 (wbits w0 39 24)
  a := sgn 8 (wbits w0 23 16)
  ref := wbits w0 15 12
  tr := wbits w0 11 4
  en := bit w0.toNat 0
  spk := bit w0.toNat 1
  clp := bit w0.toNat 2
  lrn := bit w0.toNat 3
  q := sgn 16 (wbits w1 63 48)
  p := sgn 16 (wbits w1 47 32)
  v2 := sgn 24 (wbits w1 31 8)

/-- The compact word (R77). -/
def Neuron.word0 (x : Neuron) : Word :=
  BitVec.ofNat 64 (uns 24 x.v * 2 ^ 40 + uns 16 x.i * 2 ^ 24 + uns 8 x.a * 2 ^ 16 + x.ref * 2 ^ 12 + x.tr * 2 ^ 4 +
    b2n x.lrn * 8 + b2n x.clp * 4 + b2n x.spk * 2 + b2n x.en)

/-- The wide word; its reserved bits are written as zero (R79). -/
def Neuron.word1 (x : Neuron) : Word :=
  BitVec.ofNat 64 (uns 16 x.q * 2 ^ 48 + uns 16 x.p * 2 ^ 32 + uns 24 x.v2 * 2 ^ 8)

/-- A saturation that says whether it changed its operand. -/
def clip (n : Nat) (x : Int) : Int × Nat := (satS n x, if satS n x = x then 0 else 1)

/-- convert of R117: the scale word's mantissa and exponent, the landing total, and whether sat24 clipped. -/
def convert (m : Nat) (e : Int) (t : Int) : Int × Nat :=
  let p := t * m
  clip 24 (if e ≥ 0 then p * (2 ^ e.toNat : Nat) else rsh p (-e).toNat)

/-- What one update of one neuron gives: the new fields, the state clips and output clips that it counted, and the
payload it emits, if any. -/
structure Updated where
  x : Neuron
  clips : Nat
  outClips : Nat
  pay : Option (BitVec 8)
  deriving DecidableEq, Repr

/-- The payload of a spiking neuron with e = V − theta, and whether it clipped (R87); GRADE 2 sends nothing (R75). -/
def spikePay (g : Group) (e : Int) : Option (BitVec 8) × Nat :=
  match g.grade with
  | 0 => (some 1, 0)
  | 1 =>
    let y := 1 + e / (2 ^ g.gshift : Nat)
    (some (BitVec.ofInt 8 (min 255 y)), if y > 255 then 1 else 0)
  | _ => (none, 0)

/-- The payload of a dense neuron with output y, and whether it clipped (R87); GRADE 0 sends nothing (R75). -/
def densePay (g : Group) (y : Int) : Option (BitVec 8) × Nat :=
  let r := rsh y g.gshift
  match g.grade with
  | 1 => let c := satU 8 r
         (if c = 0 then none else some (BitVec.ofInt 8 c), if c = r then 0 else 1)
  | 2 => let c := satS 8 r
         (if c = 0 then none else some (BitVec.ofInt 8 c), if c = r then 0 else 1)
  | _ => (none, 0)

/-- The output y of a dense neuron from its V (R82). -/
def denseOut (g : Group) (v : Int) : Int :=
  match g.act with
  | 0 => max v 0
  | 1 => min (max v g.clampLo) g.clampHi
  | _ => v

/-- dense_update of R82. -/
def denseUpdate (g : Group) (x : Neuron) (inp : Int) : Updated :=
  let v := clip 24 (inp + g.bias)
  let y := denseOut g v.1
  let p := densePay g y
  { x := { x with v := v.1, spk := p.1.isSome, lrn := x.lrn || p.1.isSome }
    clips := v.2, outClips := p.2, pay := p.1 }

/-- The membrane drive of a spiking neuron, with the new I, P, Q and V2 and the clips they took (R82, R83).  As R82's lines stand,
the drive of two compartments is taken from the V2 just assigned, and spk from the new V, though R83 says that every right-hand
side uses the values read at the start (DEDUCED, log entry 59). -/
def driveOf (g : Group) (x : Neuron) (inp : Int) : Int × Neuron × Nat :=
  let i := clip 16 (x.i - rsh x.i g.tauI + inp)
  match g.model with
  | 2 =>
    let v2 := clip 24 (x.v2 - rsh x.v2 g.tauD + i.1)
    (rsh v2.1 g.coupleShr, { x with i := i.1, v2 := v2.1 }, i.2 + v2.2)
  | 3 =>
    let p := clip 16 (rsh (g.resC * x.p - g.resS * x.q) 14 + i.1)
    let q := clip 16 (rsh (g.resS * x.p + g.resC * x.q) 14)
    (q.1, { x with i := i.1, p := p.1, q := q.1 }, i.2 + p.2 + q.2)
  | _ => (i.1, { x with i := i.1 }, i.2)

/-- The update of a spiking neuron (R82). -/
def spikingUpdate (g : Group) (x : Neuron) (inp : Int) : Updated :=
  let d := driveOf g x inp
  let y := d.2.1
  let th := if g.model = 1 then clip 24 (g.theta + x.a * (2 ^ g.adaptShl : Nat)) else (g.theta, 0)
  let v := if x.ref > 0 then (x.v, 0) else clip 24 (x.v - rsh x.v g.tauV + d.1 + g.bias)
  let spk := decide (x.ref = 0) && decide (v.1 ≥ th.1)
  let pay := if spk then spikePay g (v.1 - th.1) else (none, 0)
  let rs := if spk && g.resetMode == 0 then (g.vReset, 0)
    else if spk && g.resetMode == 1 then clip 24 (v.1 - th.1)
    else (v.1, 0)
  let a := if g.model = 1 then clip 8 (x.a - rsh x.a g.tauA + (if spk then g.adaptInc else 0)) else (x.a, 0)
  { x := { y with
      v := rs.1
      ref := if x.ref > 0 then x.ref - 1 else if spk then g.refPeriod else x.ref
      v2 := if spk && g.model == 2 && g.dReset then g.vReset else y.v2
      a := a.1
      spk := spk
      lrn := x.lrn || spk }
    clips := d.2.2 + th.2 + v.2 + rs.2 + a.2
    outClips := pay.2
    pay := pay.1 }

/-- The update of one enabled neuron with converted input `inp` whose conversion clipped `c` times (R78, R82). -/
def neuronUpdate (g : Group) (x : Neuron) (inp : Int) (c : Nat) : Updated :=
  let u := if g.model = 4 then denseUpdate g x inp else spikingUpdate g x inp
  { u with x := { u.x with clp := decide (c + u.clips + u.outClips > 0) } }

/-- The field of SYN_SAT_CNT of a point (04 R118). -/
def satCntFld : Nat → Fld
  | 0 => F.SYN_SAT_CNT_ACC
  | 1 => F.SYN_SAT_CNT_STATE
  | 2 => F.SYN_SAT_CNT_OUT
  | _ => F.SYN_SAT_CNT_GRAD

/-- The fields of SYN_SAT_MAX and SYN_SAT_THR of a point. -/
def satMaxFld : Nat → Fld
  | 0 => F.SYN_SAT_MAX_ACC
  | 1 => F.SYN_SAT_MAX_STATE
  | 2 => F.SYN_SAT_MAX_OUT
  | _ => F.SYN_SAT_MAX_GRAD
def satThrFld : Nat → Fld
  | 0 => F.SYN_SAT_THR_ACC
  | 1 => F.SYN_SAT_THR_STATE
  | 2 => F.SYN_SAT_THR_OUT
  | _ => F.SYN_SAT_THR_GRAD

/-- One clipped value at a point of core `n`: the count, and at threshold plus one EXCEED and kind 0x30 (04 R118,
R120). -/
def State.satHit (s : State) (n point group slot : Nat) : State :=
  let f := satCntFld point
  let before := s.rd f n
  let s1 := s.inc f 1 n
  if before ≠ s1.rd f n ∧ s1.rd f n = (s.core n).satThr.getD point 0xFFFF + 1 then
    (s1.wr F.SYN_SAT_CFG_EXCEED (s1.rd F.SYN_SAT_CFG_EXCEED n ||| 2 ^ point) n).report (s.tileOf n) 0x30 0
      (point * 2 ^ 28 + group * 2 ^ 13 + slot)
  else s1

/-- `k` clipped values at one point. -/
def State.satHits (s : State) (n point group slot : Nat) : Nat → State
  | 0 => s
  | k + 1 => (s.satHit n point group slot).satHits n point group slot k

/-- The end of a window of the points in `mask`: SYN_SAT_MAX is raised, the count zeroed, and the written threshold
and window kind come into force (04 R119). -/
def State.satWindow (s : State) (n mask : Nat) : State :=
  (List.range 4).foldl (fun s p =>
    if bit mask p then
      let s1 := (s.top (satMaxFld p) (s.rd (satCntFld p) n) n).wr (satCntFld p) 0 n
      s1.onCore n (fun c => { c with
        satThr := c.satThr.set p (s1.rd (satThrFld p) n)
        satWin := putBits c.satWin p p (b2n (bit (s1.rd F.SYN_SAT_CFG_WIN n) p)) })
    else s) s

/-- Whether slot `j` of core `n` is a plastic slot (05 R126). -/
def State.plasticSlot (s : State) (n j : Nat) : Bool :=
  s.on F.LRN_CFG_EN n && decide (s.rd F.LRN_PLASTIC_PL_SLOT_BASE n ≤ j) &&
    decide (j < s.rd F.LRN_PLASTIC_PL_SLOT_BASE n + s.rd F.LRN_PLASTIC_PL_SLOT_COUNT n)

/-- The state of the learning region of core `n`: 0 OFF, 1 RUN, 2 ACCUM (05 R125). -/
def State.regionState (s : State) (n : Nat) : Nat := s.rd F.LRN_REGION_STATE 0 (s.rd F.LRN_CFG_REGION n)

/-- Whether core `n` records activity: it learns, and its region is not OFF (05 R125, R126). -/
def State.learns (s : State) (n : Nat) : Bool := s.on F.LRN_CFG_EN n && s.regionState n != 0

/-- The stamp of step `t` (05 R130). -/
def stampOf (t : Nat) : Nat := 0x8000 + t % 32768

/-- The word of the Learning partition at table offset `ofs` and index `k` (05 R128). -/
def State.lrnWord (s : State) (n : Nat) (ofs : Fld) (k : Nat) : Nat :=
  s.rd F.CORE_PART_LRN_BASE n + s.rd ofs n + k

/-- The post stamp that an update with SPK writes in timestamp mode (05 R133). -/
def Port.postStamp (p : Port) (st i : Nat) : Port :=
  if p.s.learns p.n && p.s.on F.LRN_CFG_TS_MODE p.n && p.s.plasticSlot p.n i then
    let c := i - p.s.rd F.LRN_PLASTIC_PL_SLOT_BASE p.n
    p.modify (p.s.lrnWord p.n F.LRN_LAYOUT0_POST_OFS (c / 4)) (fun w => setQuarter w (c % 4) (stampOf st))
  else p

/-- The scale word of slot `i`: mantissa and exponent; factor 1 without a table, none when uncorrectable (04 R115,
R116). -/
def Port.scale (p : Port) (i : Nat) : Option (Nat × Int) × Port :=
  if p.s.on F.SYN_SCALE_CFG_SCALE_EN p.n then
    match p.read (p.s.rd F.CORE_PART_SYN_BASE p.n + p.s.rd F.SYN_SCALE_CFG_SCALE_OFS p.n + i / 4) with
    | (some w, q) => let h := quarter w (i % 4); (some (bits h 15 8, sgn 6 (bits h 7 2)), q)
    | (none, q) => (none, q)
  else (some (128, -7), p)

/-- A discarded non-zero landing total (R84). -/
def Port.discarded (p : Port) (t : Nat) : Port :=
  if t = 0 then p else p.onS (fun s => s.inc F.CORE_DISC_CNT_DIS 1 p.n)

/-- A word that the update writes is fed to the frame CRC, least significant byte first (13 R359). -/
def Port.feed (p : Port) (w : Word) : Port :=
  p.onS (fun s => s.onCore p.n (fun c => { c with frameCrc := (toBytes 8 w.toNat).foldl crc64Byte c.frameCrc }))

/-- Elements of a Cordwood send word in a mode of CORD_SEND_CFG (08 R234). -/
def sendPer (mode : Nat) : Nat := match mode with | 1 => 8 | 2 => 16 | 3 => 2 | _ => 4

/-- The index of slot `i` in core `n`'s send range, if it lies there (08 R234). -/
def State.sendIndex (s : State) (n i : Nat) : Option Nat :=
  let t := s.tileOf n
  if s.on F.CORD_SEND_CFG_MODE t && decide (s.rd F.CORD_SEND_CFG_SBASE t ≤ i) &&
      decide (i < s.rd F.CORD_SEND_CFG_SBASE t + s.rd F.CORD_SEND_CFG_SCOUNT t) then
    some (i - s.rd F.CORD_SEND_CFG_SBASE t)
  else none

/-- The element of an updated neuron, and whether forming it clipped (08 R234). -/
def sendElement (mode : Nat) (signed : Bool) (g : Group) (x : Neuron) : Nat × Bool :=
  if g.model = 4 then
    let y := denseOut g x.v
    let r := rsh y g.gshift
    match mode with
    | 1 => let c := if signed then satS 8 r else satU 8 r; (uns 8 c, c != r)
    | 2 => let c := if signed then satS 4 r else satU 4 r; (uns 4 c, c != r)
    | 3 => (uns 32 y, false)
    | _ => let c := satS 16 y; (uns 16 c, c != y)
  else if mode ≤ 2 then (b2n x.spk, false) else (0, false)

/-- Element `k` of a core's send buffer set to a value. -/
def State.setSend (s : State) (n mode k v : Nat) : State :=
  let e := sendPer mode
  let b := 64 / e
  let f := fun (w : Word) => BitVec.ofNat 64 (putBits w.toNat (b * (k % e) + b - 1) (b * (k % e)) v)
  s.onCore n (fun c => { c with sendBuf := c.sendBuf.modify (k / e) f })

/-- The send-buffer element of an updated neuron in slot `i` (08 R234). -/
def Port.send (p : Port) (g : Group) (i : Nat) (x : Neuron) : Port :=
  match p.s.sendIndex p.n i with
  | none => p
  | some k =>
    let t := p.s.tileOf p.n
    let mode := p.s.rd F.CORD_SEND_CFG_MODE t
    let e := sendElement mode (p.s.on F.CORD_SEND_CFG_SIGNED t) g x
    p.onS (fun s => (if e.2 then s.satHit p.n 2 g.g i else s).setSend p.n mode k e.1)

/-- The send-buffer element of a slot whose words are uncorrectable: the spec states none, a free value (log entry 14). -/
def Port.sendFree (p : Port) (i : Nat) : Port :=
  match p.s.sendIndex p.n i with
  | none => p
  | some k =>
    p.onS (fun s =>
      let d := s.draw
      d.2.setSend p.n (s.rd F.CORD_SEND_CFG_MODE (s.tileOf p.n)) k (Config.freeNat d.1))

/-- The send buffer at the start of an update: the words of the step, all zero (08 R234). -/
def State.clearSend (s : State) (n : Nat) : State :=
  let t := s.tileOf n
  let words := if s.on F.CORD_SEND_CFG_MODE t then
      min 256 (ceilDiv (s.rd F.CORD_SEND_CFG_SCOUNT t) (sendPer (s.rd F.CORD_SEND_CFG_MODE t)))
    else 0
  s.onCore n (fun c => { c with sendBuf := List.replicate words 0, sendNext := 0 })

/-- The Smoulder drain of slot `i` in step `st`: the due slot moves into the next bank and is zeroed (R82, R94). -/
def Port.drain (p : Port) (g : Group) (st i lw sw : Nat) (land smd : Word) : Port :=
  let k := (st + 1) % g.depth
  let v := sgn 16 (quarter smd (k % 4))
  let t := BitVec.ofInt 32 ((half land (i % 2) : Int) + v)
  let w := setQuarter smd (k % 4) 0
  ((p.write lw (setHalf land (i % 2) t.toNat)).write sw w).feed w

/-- The words that hold what the drain of slot `i` needs: the next bank's landing word and the due Smoulder word; none
when one is uncorrectable. -/
def Port.drainWords (p : Port) (g : Group) (st i : Nat) : Option (Nat × Nat × Word × Word) × Port :=
  let lw := p.s.landWord p.n ((st + 1) % 2) i
  let sw := p.s.smdWord p.n g i ((st + 1) % g.depth)
  match p.read lw with
  | (none, q) => (none, (q.read sw).2)
  | (some a, q) => match q.read sw with
    | (none, r) => (none, r)
    | (some b, r) => (some (lw, sw, a, b), r)

/-- The write-back of an updated neuron: its record, the clip counts, the post stamp and its spike (R78, R82, R90).  A clip in
forming a Cordwood send-buffer element counts among the output clips and leaves CLP as it was (DESIGN CHOICE, log entry 60). -/
def Port.retire (p : Port) (g : Group) (st i rw acc : Nat) (u : Updated) : Port :=
  let p1 := (p.write rw u.x.word0).feed u.x.word0
  let p2 := if g.format = 0 then p1 else (p1.write (rw + 1) u.x.word1).feed u.x.word1
  let p3 := p2.onS (fun s => ((s.satHits p.n 0 g.g i acc).satHits p.n 1 g.g i u.clips).satHits p.n 2 g.g i u.outClips)
  let p4 := (if u.x.spk then (p3.onS (fun s => s.inc F.CORE_SPK_CNT_SPK 1 p.n)).postStamp st i else p3).send g i u.x
  match u.pay with
  | some y => p4.onS (fun s => s.onCore p.n (fun c => { c with spikes := c.spikes ++ [⟨i, g.g, st, y⟩] }))
  | none => p4

/-- Clear slot `i`'s half of its landing word. -/
def Port.clearLand (p : Port) (lw i : Nat) : Port := p.modify lw (fun w => setHalf w (i % 2) 0)

/-- update(i, s) of R82 for a slot of a group, with the landing total `t` of landing word `lw`; an uncorrectable word
leaves the slot's words unchanged and emits nothing (R86). -/
def Port.updateMember (p : Port) (g : Group) (st i lw t : Nat) : Port :=
  let rw := p.s.recWord p.n g i
  match p.read rw with
  | (none, q) => q.sendFree i
  | (some w0, q) =>
    let en := bit w0.toNat 0
    let w1 := if en && g.format != 0 then q.read (rw + 1) else (some 0, q)
    let sc := if en then w1.2.scale i else (some (0, 0), w1.2)
    let dr := if g.depth = 0 then (some (0, 0, 0, 0), sc.2) else sc.2.drainWords g st i
    match w1.1, sc.1, dr.1 with
    | some x1, some (m, e), some (nl, sw, a, b) =>
      let p1 := dr.2.clearLand lw i
      let p2 := if g.depth = 0 then p1 else p1.drain g st i nl sw a b
      if en then
        let x := convert m e (sgn 32 t)
        p2.retire g st i rw x.2 (neuronUpdate g (Neuron.ofWords w0 x1) x.1 x.2)
      else p2.discarded t
    | _, _, _ => if en then dr.2.sendFree i else dr.2

/-- update(i, s) of R82, through a port; of a disabled slot the send-buffer element stays zero, whatever its landing word
(08 R234). -/
def Port.updateSlot (gs : List Group) (st : Nat) (p : Port) (i : Nat) : Port :=
  let lw := p.s.landWord p.n (st % 2) i
  match p.read lw with
  | (none, q) => match groupIn gs i with
    | some g => match q.read (q.s.recWord q.n g i) with
      | (some v, r) => if bit v.toNat 0 then r.sendFree i else r
      | (none, r) => r.sendFree i
    | none => q
  | (some w, q) =>
    let t := half w (i % 2)
    match groupIn gs i with
    | none => (q.clearLand lw i).discarded t
    | some g => q.updateMember g st i lw t

/-- Descriptor writes whose step has come (R75). -/
def State.takeEdits (s : State) (n st : Nat) : State :=
  let due := (s.core n).edits.filter (fun e => decide (e.step ≤ st))
  let s1 := s.onCore n (fun c => { c with edits := c.edits.filter (fun e => decide (st < e.step)) })
  due.foldl (fun s e => (Reg.fields e.reg).foldl (fun s f =>
    if f.lock then s else s.wr f (bits e.value f.hi f.lo) n e.copy) s) s1

/-- The update of step `st` on core `n`: every slot of the landing banks in ascending order, four to a port operation
(R82, R84, R85). -/
def State.updateCore (s : State) (n st : Nat) : State :=
  let s0 := (s.takeEdits n st).clearSend n
  let gs := s0.groupsOf n
  let s1 := (List.range (ceilDiv (s0.slots n) 4)).foldl (fun s q =>
    (((List.range 4).map (fun k => 4 * q + k)).filter (fun i => decide (i < s0.slots n))).foldl
      (fun p i => p.updateSlot gs st i) (Port.start s n) |>.s) s0
  s1.onCore n (fun c => { c with updStep := st, updCycles := ceilDiv (s0.slots n) 4 + 24 })

end Sys2Proof.Machine
end

