-- ==== Sys2Proof/Machine/Synapse.lean ====
section
/-!
DEFINITION. Synapse rows and their accumulation into landing banks and Smoulder slots
(04_synapses_and_arithmetic.md R100 to R114, 03_neuron_cores.md R91 to R95), and the record of pre-synaptic events and
modulators (05_on_chip_learning.md R131, R132).
-/
namespace Sys2Proof.Machine

/-- A row descriptor (04 R104). -/
structure RowDesc where
  valid : Bool
  fmt : Nat
  wfmt : Nat
  dly : Nat
  plastic : Bool
  pay : Nat
  rsv : Nat
  len : Nat
  tbase : Nat
  rowOfs : Nat
  deriving DecidableEq, Repr

/-- The fields of a descriptor word (R104). -/
def RowDesc.ofWord (w : Word) : RowDesc where
  valid := bit w.toNat 63
  fmt := wbits w 62 60
  wfmt := wbits w 59 57
  dly := wbits w 56 53
  plastic := bit w.toNat 52
  pay := wbits w 51 50
  rsv := wbits w 49 42
  len := wbits w 41 28
  tbase := wbits w 27 15
  rowOfs := wbits w 14 0

/-- Whether a descriptor gives its axon a row: R105's conditions do not hold. -/
def RowDesc.usable (d : RowDesc) : Bool :=
  d.valid && decide (d.fmt ≤ 2) && decide (d.wfmt ≤ 4) && decide (d.pay ≤ 2) && !(d.fmt == 1 && d.wfmt != 0)

/-- Bits per weight (R100). -/
def weightBits (wfmt : Nat) : Nat := match wfmt with | 0 => 8 | 1 => 4 | 4 => 1 | _ => 2

/-- The weight that `b` stored bits mean (R100). -/
def weightOf (wfmt v : Nat) : Int :=
  match wfmt with
  | 0 => sgn 8 v
  | 1 => sgn 4 v
  | 2 => sgn 2 v
  | 3 => if v = 1 then 1 else if v = 3 then -1 else 0
  | _ => if v = 1 then 1 else -1

/-- The bits that store a weight (R100). -/
def weightCode (wfmt : Nat) (w : Int) : Nat :=
  match wfmt with
  | 4 => if w ≥ 0 then 1 else 0
  | f => uns (weightBits f) w

/-- Words of a row (R106, R107). -/
def RowDesc.words (d : RowDesc) : Nat :=
  if d.fmt = 1 then ceilDiv (24 * d.len) 64 else ceilDiv (d.len * weightBits d.wfmt) 64

/-- The activation that an 8-bit payload gives (R102). -/
def activation (pay : Nat) (x : Nat) : Int :=
  match pay with
  | 0 => (x % 256 : Nat)
  | 1 => sgn 8 x
  | _ => 1

/-- The activation that a 4-bit element gives (R102). -/
def activation4 (pay : Nat) (x : Nat) : Int :=
  match pay with
  | 0 => (x % 16 : Nat)
  | 1 => sgn 4 x
  | _ => if x % 16 = 0 then 0 else 1

/-- The SRAM word of the descriptor of axon `x` (R103). -/
def State.axonWord (s : State) (n x : Nat) : Nat :=
  s.rd F.CORE_PART_SYN_BASE n + s.rd F.SYN_AXON_CFG_AXON_OFS n + x

/-- The SRAM word `k` of a row. -/
def State.rowWord (s : State) (n : Nat) (d : RowDesc) (k : Nat) : Nat :=
  s.rd F.CORE_PART_SYN_BASE n + d.rowOfs + k

/-- The weight of entry `k` of a dense-block or column-indexed row (R101, R106); none when its word is
uncorrectable. -/
def Port.denseWeight (p : Port) (d : RowDesc) (k : Nat) : Option Int × Port :=
  let b := weightBits d.wfmt
  let r := p.read (p.s.rowWord p.n d (k / (64 / b)))
  (r.1.map (fun w => weightOf d.wfmt (wbits w (b * (k % (64 / b)) + b - 1) (b * (k % (64 / b))))), r.2)

/-- The 24 bits of entry `k` of a sparse row; an entry can straddle two words (R107). -/
def Port.sparseEntry (p : Port) (d : RowDesc) (k : Nat) : Option Nat × Port :=
  let lo := 24 * k
  let r1 := p.read (p.s.rowWord p.n d (lo / 64))
  if lo % 64 ≤ 40 then (r1.1.map (fun w => wbits w (lo % 64 + 23) (lo % 64)), r1.2)
  else
    let r2 := r1.2.read (p.s.rowWord p.n d (lo / 64 + 1))
    match r1.1, r2.1 with
    | some a, some b => (some ((a.toNat / 2 ^ (lo % 64) + b.toNat * 2 ^ (64 - lo % 64)) % 2 ^ 24), r2.2)
    | _, _ => (none, r2.2)

/-- One synapse of a row: target slot, weight and delay code. -/
structure Synapse where
  slot : Nat
  w : Int
  c : Nat
  deriving DecidableEq, Repr

/-- Synapse `k` of a row (R106, R107); none when bits of it lie in an uncorrectable word (R113). -/
def Port.synapse (p : Port) (d : RowDesc) (k : Nat) : Option Synapse × Port :=
  if d.fmt = 1 then
    let r := p.sparseEntry d k
    (r.1.map (fun e => ⟨d.tbase + bits e 11 0, sgn 8 (bits e 19 12), bits e 23 20⟩), r.2)
  else
    let r := p.denseWeight d k
    (r.1.map (fun w => ⟨d.tbase + k, w, d.dly⟩), r.2)

/-- Add into the landing accumulator of slot `j` in bank `b`, modulo 2^32 (03 R91). -/
def Port.addLand (p : Port) (b j : Nat) (v : Int) : Port :=
  p.modify (p.s.landWord p.n b j) (fun w =>
    setHalf w (j % 2) (BitVec.ofInt 32 ((half w (j % 2) : Int) + v)).toNat)

/-- Add into Smoulder slot `k` of neuron slot `j`, modulo 2^16 (03 R91). -/
def Port.addSmd (p : Port) (g : Group) (j k : Nat) (v : Int) : Port :=
  p.modify (p.s.smdWord p.n g j k) (fun w =>
    setQuarter w (k % 4) (BitVec.ofInt 16 ((quarter w (k % 4) : Int) + v)).toNat)

/-- One synapse contribution `w · a` landing while the core is in step `st` (03 R92, R94, R95). -/
def Port.contribute (gs : List Group) (st : Nat) (a : Int) (p : Port) (y : Synapse) : Port :=
  if y.slot ≥ p.s.slots p.n then p.onS (fun s => s.inc F.CORE_DISC_CNT_OOR 1 p.n)
  else
    let g := groupIn gs y.slot
    let depth := (g.map (·.depth)).getD 0
    let tooLong := decide (y.c > 0) && decide (y.c + 1 > depth)
    let c := if tooLong then depth - 1 else y.c
    let p1 := if tooLong then p.onS (fun s => s.inc F.CORE_DISC_CNT_DLY_CLAMP 1 p.n) else p
    match c, g with
    | c' + 1, some g => p1.addSmd g y.slot ((st + 1 + (c' + 1)) % depth) (y.w * a)
    | _, _ => p1.addLand ((st + 1) % 2) y.slot (y.w * a)

/-- Every synapse of a row, by ascending entry (R111). -/
def Port.row (p : Port) (gs : List Group) (st : Nat) (d : RowDesc) (a : Int) : Port :=
  (List.range d.len).foldl (fun p k =>
    match p.synapse d k with
    | (some y, q) => q.contribute gs st a y
    | (none, q) => q) p

/-- Whether axon `x` of core `n` is a plastic axon (05 R126). -/
def State.plasticAxon (s : State) (n x : Nat) : Bool :=
  s.on F.LRN_CFG_EN n && decide (s.rd F.LRN_PLASTIC_PL_AXON_BASE n ≤ x) &&
    decide (x < s.rd F.LRN_PLASTIC_PL_AXON_BASE n + s.rd F.LRN_PLASTIC_PL_AXON_COUNT n)

/-- The later of a pending stamp and the stamp of step `t` (05 R131). -/
def laterStamp (pend t : Nat) : Nat :=
  if pend < 0x8000 then stampOf t
  else if (t + 32768 - pend % 32768) % 32768 < 16384 then stampOf t else pend

/-- The bank of the pass window in which step (current step + 1) lies (05 R127, R131): the pass of a window's last step
moves the window on before any landing of that step. -/
def State.passBank (s : State) (n : Nat) : Nat := (s.core n).passWin % 2

/-- The pre-synaptic event of a landing on axon `x` with activation `a ≠ 0` (05 R131); reserved bits are written as zero
(05 R130). -/
def Port.preEvent (p : Port) (x st : Nat) (a : Int) : Port :=
  if p.s.learns p.n && p.s.plasticAxon p.n x then
    let k := x - p.s.rd F.LRN_PLASTIC_PL_AXON_BASE p.n
    let b := p.s.passBank p.n
    if p.s.on F.LRN_CFG_TS_MODE p.n then
      p.modify (p.s.lrnWord p.n F.LRN_LAYOUT0_PRE_OFS k) (fun w =>
        setQuarter (setQuarter w (1 + b) (laterStamp (quarter w (1 + b)) (st + 1))) 3 0)
    else
      let inc : Nat := if p.s.on F.LRN_CFG_PAY_INC p.n then a.natAbs / 2 ^ p.s.rd F.LRN_CFG_PAY_SHR p.n
        else p.s.rd F.LRN_CFG_TR_INC p.n
      let wa := p.s.lrnWord p.n F.LRN_LAYOUT0_PRE_OFS (k / 2)
      let o := 4 * (k % 2) + 1 + b
      match p.read wa with
      | (some w, q) =>
        let sum := octet w o + inc
        let q1 := if sum > 255 then q.onS (fun s => s.inc F.LRN_CNT_TR_SAT 1 p.n) else q
        q1.write wa (setOctet (setOctet w o (min 255 sum)) (4 * (k % 2) + 3) 0)
      | (none, q) => q
  else p

/-- The operation has no row: one more NOAXON (R105). -/
def Port.noAxon (p : Port) : Port := p.onS (fun s => s.inc F.SYN_AXON_CNT_NOAXON 1 p.n)

/-- accumulate(packet, s) of R111 on axon `x`, the activation formed from the row's PAY field by `act`. -/
def Port.operate (p : Port) (x st : Nat) (act : Nat → Int) : Port :=
  let p0 := p.onS (fun s => s.inc F.SYN_AXON_CNT_ROWS 1 p.n)
  if x ≥ p.s.rd F.SYN_AXON_CFG_AXON_COUNT p.n then p0.noAxon
  else match p0.read (p.s.axonWord p.n x) with
    | (none, q) => q
    | (some w, q) =>
      let d := RowDesc.ofWord w
      if !d.usable then q.noAxon
      else
        let a := act d.pay
        if a = 0 then q else (q.preEvent x st a).row (p.s.groupsOf p.n) st d a

/-- An RACC landing on core `n` in its step `st`: axon and 8-bit payload (R111). -/
def State.accumulate (s : State) (n st x pay : Nat) : State :=
  ((Port.start s n).operate x st (fun f => activation f pay)).s

/-- A partial sum of a Cordwood word (R114 modes 3 and 4). -/
def Port.partialSum (p : Port) (st j : Nat) (v : Int) : Port :=
  if j ≥ p.s.slots p.n then p.onS (fun s => s.inc F.CORE_DISC_CNT_OOR 1 p.n)
  else p.addLand ((st + 1) % 2) j v

/-- Cordwood word `m` of step `st`, read as SYN_CORD_CFG.MODE says (R114); a reserved mode is refused by the check
(R123) and cannot run. -/
def State.cordWord (s : State) (n st : Nat) (c : CordWord) : State :=
  let base := s.rd F.SYN_CORD_CFG_BASE n
  match s.rd F.SYN_CORD_CFG_MODE n with
  | 1 => (List.range 8).foldl (fun s k =>
      ((Port.start s n).operate (base + 8 * c.m + k) st (fun f => activation f (octet c.word k))).s) s
  | 2 => (List.range 16).foldl (fun s k =>
      ((Port.start s n).operate (base + 16 * c.m + k) st
        (fun f => activation4 f (wbits c.word (4 * k + 3) (4 * k)))).s) s
  | 3 => ((List.range 2).foldl (fun p k => p.partialSum st (base + 2 * c.m + k) (sgn 32 (half c.word k)))
      ((Port.start s n).onS (fun s => s.inc F.SYN_AXON_CNT_ROWS 1 n))).s
  | 4 => ((List.range 4).foldl (fun p k => p.partialSum st (base + 4 * c.m + k) (sgn 16 (quarter c.word k)))
      ((Port.start s n).onS (fun s => s.inc F.SYN_AXON_CNT_ROWS 1 n))).s
  | _ => s.inc F.SYN_AXON_CNT_NOAXON 1 n

/-- Whether SRAM word `w` of core `n` lies in its modulator table (05 R128, R132). -/
def State.modulatorWord (s : State) (n w : Nat) : Bool :=
  let lo := s.lrnWord n F.LRN_LAYOUT0_MOD_OFS 0
  s.on F.LRN_CFG_EN n && s.rd F.LRN_CFG_RULE n == 1 && decide (lo ≤ w) &&
    decide (w < lo + s.rd F.LRN_PLASTIC_PL_SLOT_COUNT n)

end Sys2Proof.Machine
end

