-- ==== Sys2Proof/Machine/Learn.lean ====
section
/-!
DEFINITION. On-chip learning (05_on_chip_learning.md): epochs, pass windows, the learning pass, the apply phase, the
zeroing of CLEAR, and the times that LRN_TIME records.
-/
namespace Sys2Proof.Machine

/-- Whether region `r` has an epoch boundary before step `n` (R124). -/
def State.epochBoundary (s : State) (r n : Nat) : Bool :=
  let e := s.rd F.LRN_REGION_EPOCH_STEPS 0 r
  decide (n ≥ 1) && decide (e > 0) && decide (((n : Int) - s.rd F.LRN_REGION_PHASE 0 r) % e = 0)

/-- The region of core `n`. -/
def State.regionOf (s : State) (n : Nat) : Nat := s.rd F.LRN_CFG_REGION n

/-- Whether step `st` is the last step of core `n`'s current pass window (R127). -/
def State.windowEnds (s : State) (n st : Nat) : Bool :=
  decide (st + 1 ≥ (s.core n).passStart + s.rd F.LRN_CFG_PASS_M1 n + 1) ||
    s.epochBoundary (s.regionOf n) (st + 1)

/-- dec(t, k) of R134, applied `m` times. -/
def decay (k : Nat) : Nat → Nat → Nat
  | 0, t => t
  | m + 1, t => decay k m (t - (t + 2 ^ k - 1) / 2 ^ k)

/-- Groups of 8 words that `len` words from word `w` on touch (R146). -/
def touched (w len : Nat) : Nat := if len = 0 then 0 else (w + len - 1) / 8 - w / 8 + 1

/-- A plastic row of a core: its axon and descriptor. -/
structure PlasticRow where
  x : Nat
  d : RowDesc
  deriving DecidableEq, Repr

/-- The plastic rows of core `n` by ascending axon, read through the port (R126); a row that R105 voids is not
plastic, and a sparse row is none (04 R110). -/
def Port.plasticRows (p : Port) : List PlasticRow × Port :=
  let base := p.s.rd F.LRN_PLASTIC_PL_AXON_BASE p.n
  (List.range (p.s.rd F.LRN_PLASTIC_PL_AXON_COUNT p.n)).foldl (fun (acc : List PlasticRow × Port) a =>
    if base + a ≥ acc.2.s.rd F.SYN_AXON_CFG_AXON_COUNT acc.2.n then acc
    else
      let r := acc.2.read (acc.2.s.axonWord acc.2.n (base + a))
      match r.1 with
      | some w =>
        let d := RowDesc.ofWord w
        if d.usable && d.plastic && d.fmt != 1 then (acc.1 ++ [⟨base + a, d⟩], r.2) else (acc.1, r.2)
      | none => (acc.1, r.2)) ([], p)

/-- The plane word and byte of entry `k` of axon `x` in plane `pl` (R129). -/
def State.planeAt (s : State) (n pl x k : Nat) : Nat × Nat :=
  let a := x - s.rd F.LRN_PLASTIC_PL_AXON_BASE n
  (s.lrnWord n F.LRN_LAYOUT1_PLANE_OFS
    ((pl * s.rd F.LRN_PLASTIC_PL_AXON_COUNT n + a) * s.rd F.LRN_LAYOUT1_ESTRIDE n + k / 8), k % 8)

/-- A plane entry as int8; none when its word is uncorrectable. -/
def Port.plane (p : Port) (pl x k : Nat) : Option Int × Port :=
  let wk := p.s.planeAt p.n pl x k
  let r := p.read wk.1
  (r.1.map (fun w => sgn 8 (octet w wk.2)), r.2)

/-- Store a plane entry. -/
def Port.setPlane (p : Port) (pl x k : Nat) (v : Int) : Port :=
  let wk := p.s.planeAt p.n pl x k
  p.modify wk.1 (fun w => setOctet w wk.2 (uns 8 v))

/-- The group number of slot `j`, for the location of a clip (04 R120, 05 R144). -/
def groupNo (gs : List Group) (j : Nat) : Nat := ((groupIn gs j).map (·.g)).getD 0

/-- A clip of the learning path on slot `j` (R144). -/
def Port.gradHit (p : Port) (gs : List Group) (j : Nat) (changed : Bool) : Port :=
  if changed then p.onS (fun s => s.satHit p.n 3 (groupNo gs j) j) else p

/-- What a pass needs of an axon: its decayed pre-synaptic trace, increment, LAST and PEND, and whether it is
pre-active; none when the record's word is uncorrectable (R130, R137, R145). -/
structure PreRec where
  trp : Nat
  add : Nat
  last : Nat
  pend : Nat
  active : Bool
  deriving DecidableEq, Repr

/-- What a pass needs of a plastic slot: the decayed trace and LRN of its neuron's record, its post stamp and its
modulator; each none when its word is uncorrectable (R137, R145). -/
structure PostRec where
  slot : Nat
  trace : Option Nat
  lrn : Option Bool
  stamp : Option Nat
  mf : Option Int
  deriving DecidableEq, Repr

/-- The pre record of plastic axon index `a` in bank `b`, its trace decayed over `steps` steps. -/
def Port.preRec (p : Port) (a b steps : Nat) : Option PreRec × Port :=
  if p.s.on F.LRN_CFG_TS_MODE p.n then
    let r := p.read (p.s.lrnWord p.n F.LRN_LAYOUT0_PRE_OFS a)
    (r.1.map (fun w => ⟨0, 0, quarter w 0, quarter w (1 + b), bit (quarter w (1 + b)) 15⟩), r.2)
  else
    let r := p.read (p.s.lrnWord p.n F.LRN_LAYOUT0_PRE_OFS (a / 2))
    let o := 4 * (a % 2)
    (r.1.map (fun w => ⟨decay (p.s.rd F.LRN_CFG_PRE_DECAY p.n) steps (octet w o), octet w (o + 1 + b), 0, 0,
      octet w (o + 1 + b) != 0⟩), r.2)

/-- The post record of plastic slot index `c` in bank `b`; the modulator bank is zeroed as it is taken (R137). -/
def Port.postRec (p : Port) (gs : List Group) (c b steps : Nat) : PostRec × Port :=
  let j := p.s.rd F.LRN_PLASTIC_PL_SLOT_BASE p.n + c
  let rec' := match groupIn gs j with
    | some g => let r := p.read (p.s.recWord p.n g j); (some r.1, r.2)
    | none => (none, p)
  let tr := match rec'.1 with
    | some (some w) => some (decay (p.s.rd F.LRN_CFG_POST_DECAY p.n) steps (wbits w 11 4))
    | some none => none
    | none => some 0
  let lrn := match rec'.1 with
    | some (some w) => some (bit w.toNat 3)
    | some none => none
    | none => some false
  let st := if p.s.on F.LRN_CFG_TS_MODE p.n then
      let r := rec'.2.read (p.s.lrnWord p.n F.LRN_LAYOUT0_POST_OFS (c / 4))
      (r.1.map (fun w => quarter w (c % 4)), r.2)
    else (some 0, rec'.2)
  if p.s.rd F.LRN_CFG_RULE p.n = 1 then
    let wa := p.s.lrnWord p.n F.LRN_LAYOUT0_MOD_OFS c
    match st.2.read wa with
    | (some w, q) =>
      let y := rsh (sgn 32 (half w b)) (p.s.rd F.LRN_CFG_MOD_SHR p.n)
      (⟨j, tr, lrn, st.1, some (satS 16 y)⟩, (q.write wa (setHalf w b 0)).gradHit gs j (satS 16 y != y))
    | (none, q) => (⟨j, tr, lrn, st.1, none⟩, q)
  else (⟨j, tr, lrn, st.1, some 0⟩, st.2)

/-- The kernel entry K[i] (R128); none when its word is uncorrectable. -/
def Port.kernel (p : Port) (i : Nat) : Option Int × Port :=
  let r := p.read (p.s.lrnWord p.n F.LRN_LAYOUT1_KERN_OFS (i / 8))
  (r.1.map (fun w => sgn 8 (octet w (i % 8))), r.2)

/-- The kernel entry that pairs stamps `tp` and `tq`, if both are valid and their difference is in range (R136). -/
def pairIndex (tp tq : Nat) : Option Nat :=
  let raw := (tq % 32768 + 32768 - tp % 32768) % 32768
  let dt : Int := if raw ≥ 16384 then (raw : Int) - 32768 else raw
  if bit tp 15 && bit tq 15 && decide (-31 ≤ dt) && decide (dt ≤ 32) then some (dt + 31).toNat else none

/-- The weighted kernel terms of counter mode: `k · t` rounded by 8, or `k` alone for K[31] (R137). -/
def Port.counterTerms (p : Port) (pre : Option Nat) (post : Option Nat) : Option Int × Port :=
  let t1 := match post with
    | some trp => let r := p.kernel 32; (r.1.map (fun k => rsh (k * trp) 8), r.2)
    | none => (some 0, p)
  let t2 := match pre with
    | some trj => let r := t1.2.kernel 30; (r.1.map (fun k => rsh (k * trj) 8), r.2)
    | none => (some 0, t1.2)
  let t3 := if pre.isSome && post.isSome then t2.2.kernel 31 else (some 0, t2.2)
  ((t1.1.bind (fun a => t2.1.bind (fun b => t3.1.map (fun c => a + b + c)))), t3.2)

/-- kx of R137 for one candidate; none when a word it needs is uncorrectable (R145). -/
def Port.pairing (p : Port) (pre : PreRec) (post : PostRec) : Option Int × Port :=
  if p.s.on F.LRN_CFG_ELIG_SRC p.n then (some ((min 255 (pre.trp + pre.add) / 2 : Nat) : Int), p)
  else if p.s.on F.LRN_CFG_TS_MODE p.n then
    match post.stamp with
    | none => (none, p)
    | some tq => match pairIndex (if pre.active then pre.pend else pre.last) tq with
      | some i => p.kernel i
      | none => (some 0, p)
  else
    match post.lrn, post.trace with
    | some l, some t => p.counterTerms (if pre.active then some t else none) (if l then some pre.trp else none)
    | _, _ => (none, p)

/-- One candidate synapse of a pass: entry `k` of axon `x` on the slot of `post` (R137). -/
def Port.passSynapse (p : Port) (gs : List Group) (x k : Nat) (pre : PreRec) (post : PostRec) : Port :=
  match p.pairing pre post with
  | (none, q) => q
  | (some kx, q) =>
    match post.mf with
    | none => q
    | some mf =>
      match q.plane 0 x k with
      | (none, r) => r
      | (some e, r) =>
        let dk := p.s.rd F.LRN_CFG_E_DECAY p.n
        let y := e - (if dk > 0 then rsh e dk else 0) + kx
        let e1 := satS 8 y
        let r1 := (r.setPlane 0 x k e1).gradHit gs post.slot (e1 != y)
        if p.s.rd F.LRN_CFG_RULE p.n = 1 && mf != 0 then
          match r1.plane 1 x k with
          | (none, t) => t
          | (some g, t) =>
            let z := g + rsh (e1 * mf) (p.s.rd F.LRN_CFG_G_SHR p.n)
            (t.setPlane 1 x k (satS 8 z)).gradHit gs post.slot (satS 8 z != z)
        else r1

/-- The axons that the column index lists for slot `j` (04 R109), each none where its word is uncorrectable; nothing is listed
where the header's word is (R145). -/
def Port.columnOf (p : Port) (j : Nat) : List (Option Nat) × Port :=
  let base := p.s.rd F.SYN_COL_CFG_COL_BASE p.n
  if j < base || decide (base + p.s.rd F.SYN_COL_CFG_COL_COUNT p.n ≤ j) then ([], p)
  else
    let i := j - base
    let syn := p.s.rd F.CORE_PART_SYN_BASE p.n
    match p.read (syn + p.s.rd F.SYN_COL_CFG_HDR_OFS p.n + i / 2) with
    | (none, q) => ([], q)
    | (some w, q) =>
      let h := half w (i % 2)
      (List.range (bits h 31 19)).foldl (fun (acc : List (Option Nat) × Port) k =>
        let e := bits h 18 0 + k
        let r := acc.2.read (syn + p.s.rd F.SYN_COL_CFG_ENT_OFS p.n + e / 4)
        (acc.1 ++ [r.1.map (fun w => quarter w (e % 4))], r.2)) ([], q)

/-- The lists of the post-active slots. -/
abbrev Columns := List (Nat × List (Option Nat))

/-- Whether synapse (x, j) of a row is post-active and reached through the column index (R138). -/
def reachedBy (cols : Columns) (d : RowDesc) (x j : Nat) : Bool :=
  d.fmt == 2 && cols.any (fun c => c.1 == j && c.2.contains (some x))

/-- One plastic row of a pass (R137, R138). -/
def Port.passRow (p : Port) (gs : List Group) (posts : List PostRec) (cols : Columns) (row : PlasticRow)
    (pre : Option PreRec) : Port :=
  match pre with
  | none => p
  | some pr =>
    (List.range row.d.len).foldl (fun p k =>
      match posts.find? (fun q => q.slot == row.d.tbase + k) with
      | none => p
      | some po =>
        if p.s.rd F.LRN_CFG_RULE p.n = 1 || pr.active || reachedBy cols row.d row.x po.slot then
          p.passSynapse gs row.x k pr po
        else p) p

/-- The end of a pass for one axon: LAST takes PEND, or the trace takes its increment (R134, R137); reserved bits are written
as zero (R130). -/
def Port.closePre (p : Port) (a b : Nat) (pre : Option PreRec) : Port :=
  match pre with
  | none => p
  | some r =>
    if p.s.on F.LRN_CFG_TS_MODE p.n then
      if r.active then p.modify (p.s.lrnWord p.n F.LRN_LAYOUT0_PRE_OFS a)
        (fun w => setQuarter (setQuarter (setQuarter w 0 r.pend) (1 + b) 0) 3 0) else p
    else
      let sum := r.trp + r.add
      let p1 := if sum > 255 then p.onS (fun s => s.inc F.LRN_CNT_TR_SAT 1 p.n) else p
      p1.modify (p.s.lrnWord p.n F.LRN_LAYOUT0_PRE_OFS (a / 2))
        (fun w => setOctet (setOctet (setOctet w (4 * (a % 2)) (min 255 sum)) (4 * (a % 2) + 1 + b) 0) (4 * (a % 2) + 3) 0)

/-- The end of a pass for one slot: the decayed trace with its increment, and LRN cleared (R134, R137). -/
def Port.closePost (p : Port) (gs : List Group) (r : PostRec) : Port :=
  match groupIn gs r.slot, r.trace, r.lrn with
  | some g, some t, some l =>
    if p.s.on F.LRN_CFG_TS_MODE p.n then
      p.modify (p.s.recWord p.n g r.slot) (fun w => BitVec.ofNat 64 (putBits w.toNat 3 3 0))
    else
      let sum := if l then t + p.s.rd F.LRN_CFG_TR_INC p.n else t
      let p1 := if sum > 255 then p.onS (fun s => s.inc F.LRN_CNT_TR_SAT 1 p.n) else p
      p1.modify (p.s.recWord p.n g r.slot)
        (fun w => BitVec.ofNat 64 (putBits (putBits w.toNat 11 4 (min 255 sum)) 3 3 0))
  | _, _, _ => p

/-- An old stamp is invalidated (R135). -/
def agedStamp (st v : Nat) : Nat :=
  if bit v 15 && decide ((st + 32768 - v % 32768) % 32768 ≥ 64) then v % 32768 else v

/-- Stamp aging: the next 64 words of the pre and post tables, round-robin across both (R135). -/
def Port.ageStamps (p : Port) (st : Nat) : Port :=
  let na := p.s.rd F.LRN_PLASTIC_PL_AXON_COUNT p.n
  let ns := p.s.rd F.LRN_PLASTIC_PL_SLOT_COUNT p.n
  let total := na + ceilDiv ns 4
  if total = 0 then p
  else
    let pos := (p.s.core p.n).stampPos
    let p1 := (List.range (min 64 total)).foldl (fun p k =>
      let w := (pos + k) % total
      if w < na then
        p.modify (p.s.lrnWord p.n F.LRN_LAYOUT0_PRE_OFS w) (fun v => setQuarter (setQuarter v 0 (agedStamp st (quarter v 0))) 3 0)
      else
        p.modify (p.s.lrnWord p.n F.LRN_LAYOUT0_POST_OFS (w - na)) (fun v =>
          ((List.range 4).filter (fun q => decide (4 * (w - na) + q < ns))).foldl
            (fun v q => setQuarter v q (agedStamp st (quarter v q))) v)) p
    p1.onS (fun s => s.onCore p.n (fun c => { c with stampPos := (pos + 64) % total }))

/-- Groups of 8 words that a row's block of ESTRIDE words in plane `pl` touches (R129, R146). -/
def State.planeGroups (s : State) (n pl : Nat) (row : PlasticRow) : Nat :=
  touched (s.planeAt n pl row.x 0).1 (s.rd F.LRN_LAYOUT1_ESTRIDE n)

/-- The cycles of a pass (R146). -/
def State.passCycles (s : State) (n : Nat) (rows : List (PlasticRow × Option PreRec)) (posts : List PostRec)
    (cols : Columns) : Nat :=
  let na := s.rd F.LRN_PLASTIC_PL_AXON_COUNT n
  let ns := s.rd F.LRN_PLASTIC_PL_SLOT_COUNT n
  let base := 16 + (if s.on F.LRN_CFG_TS_MODE n then 64 else 2 * ceilDiv na 16 + ceilDiv ns 4)
  if s.rd F.LRN_CFG_RULE n = 1 then
    base + ceilDiv ns 8 + (rows.map (fun r => 1 + s.planeGroups n 0 r.1 + s.planeGroups n 1 r.1)).sum
  else
    base + ((rows.filter (fun r => (r.2.map (·.active)).getD false)).map (fun r => 1 + s.planeGroups n 0 r.1)).sum +
      ((posts.filter (fun q => q.lrn == some true)).map
        (fun q => 1 + 2 * ((cols.find? (fun c => c.1 == q.slot)).map (fun c => c.2.length)).getD 0)).sum

/-- The learning pass of core `n` in the last step `st` of its window (R137). The step's update ends with the pass, and
its recorded cycles include it (R127). -/
def State.pass (s : State) (n st : Nat) : State :=
  let gs := s.groupsOf n
  let b := s.passBank n
  let steps := st + 1 - (s.core n).passStart
  let na := s.rd F.LRN_PLASTIC_PL_AXON_COUNT n
  let base := s.rd F.LRN_PLASTIC_PL_AXON_BASE n
  let posts := (List.range (s.rd F.LRN_PLASTIC_PL_SLOT_COUNT n)).foldl (fun (acc : List PostRec × Port) c =>
    let r := acc.2.postRec gs c b steps
    (acc.1 ++ [r.1], r.2)) ([], Port.start s n)
  let pres := (List.range na).foldl (fun (acc : List (Option PreRec) × Port) a =>
    let r := acc.2.preRec a b steps
    (acc.1 ++ [r.1], r.2)) ([], posts.2)
  let cols := if s.rd F.LRN_CFG_RULE n = 0 then
      (posts.1.filter (fun q => q.lrn == some true)).foldl (fun (acc : Columns × Port) q =>
        let r := acc.2.columnOf q.slot
        (acc.1 ++ [(q.slot, r.1)], r.2)) ([], pres.2)
    else ([], pres.2)
  let rows := cols.2.plasticRows
  let tagged := rows.1.map (fun r => (r, (pres.1.getD (r.x - base) none)))
  let p1 := tagged.foldl (fun p r => p.passRow gs posts.1 cols.1 r.1 r.2) rows.2
  let p2 := (List.range na).foldl (fun p a => p.closePre a b (pres.1.getD a none)) p1
  let p3 := posts.1.foldl (fun p q => p.closePost gs q) p2
  let p4 := if s.on F.LRN_CFG_TS_MODE n then p3.ageStamps st else p3
  let cyc := s.passCycles n tagged posts.1 cols.1
  ((((p4.s.wr F.LRN_TIME_LAST_PASS (min cyc 0xFFFF) n).top F.LRN_TIME_MAX_PASS cyc n).wrB
    F.LRN_STAT_PASS_BUSY true n).act (n / 128) 2 cyc).onCore n (fun c => { c with updCycles := c.updCycles + cyc })

/-- The end of core `n`'s step `st` for its pass window: the pass where the window ends and the region is not OFF, and
the next window's number (R127). -/
def State.passIfDue (s : State) (n st : Nat) : State :=
  if s.on F.LRN_CFG_EN n && s.windowEnds n st then
    (if s.regionState n != 0 then s.pass n st else s).onCore n
      (fun c => { c with passWin := c.passWin + 1, passStart := st + 1 })
  else s

/-- One step of the learning unit's LFSR (R140). -/
def lfsrStep (v : BitVec 32) : BitVec 32 := if v.getLsbD 0 then (v >>> 1) ^^^ 0x80200003#32 else v >>> 1

/-- u(syn) of R141 and whether its sat8 clipped; none when a plane word is uncorrectable. -/
def Port.updateTerm (p : Port) (x k : Nat) : Option (Int × Bool) × Port :=
  if p.s.rd F.LRN_CFG_RULE p.n = 0 then
    let r := p.plane 0 x k
    (r.1.map (fun e => (e, false)), r.2)
  else
    let g := p.plane 1 x k
    let m := g.2.plane 2 x k
    (g.1.bind (fun gv => m.1.map (fun mv =>
      let y := mv - rsh mv (p.s.rd F.LRN_CFG_MOM_SHR p.n) + gv
      (satS 8 y, satS 8 y != y))), m.2)

/-- The rate word of slot `j` (R128): mantissa and exponent. -/
def Port.rate (p : Port) (j : Nat) : Option (Nat × Int) × Port :=
  let c := j - p.s.rd F.LRN_PLASTIC_PL_SLOT_BASE p.n
  let r := p.read (p.s.lrnWord p.n F.LRN_LAYOUT0_RATE_OFS (c / 4))
  (r.1.map (fun w => (bits (quarter w (c % 4)) 15 8, sgn 6 (bits (quarter w (c % 4)) 7 2))), r.2)

/-- What step1 of R141 gives for one synapse: u, the new weight w1 before normalisation, and the clips on the way. -/
structure Stepped where
  u : Int
  w1 : Int
  clips : Nat
  deriving DecidableEq, Repr

/-- step1(syn) of R141 from u, the rate word and the old weight, with the LFSR after it. -/
def step1 (u : Int) (rm : Nat) (re : Int) (w : Int) (l : BitVec 32) : Int × Nat × BitVec 32 :=
  let pr := u * rm
  let d := if re ≥ 0 then clip 16 (pr * (2 ^ re.toNat : Nat)) else
    let r := (lfsrStep l).toNat % 2 ^ (-re).toNat
    ((pr + r) / (2 ^ (-re).toNat : Nat), 0)
  let w1 := clip 16 (w + d.1)
  (w1.1, d.2 + w1.2, if re ≥ 0 then l else lfsrStep l)

/-- step1 of entry `k` of a row, through the port; none when a word it needs is uncorrectable (R145). -/
def Port.stepped (p : Port) (row : PlasticRow) (k : Nat) (l : BitVec 32) : Option Stepped × Port × BitVec 32 :=
  let w := p.denseWeight row.d k
  let r := w.2.rate (row.d.tbase + k)
  let u := r.2.updateTerm row.x k
  match w.1, r.1, u.1 with
  | some wv, some (rm, re), some (uv, c) =>
    let y := step1 uv rm re wv l
    (some ⟨uv, y.1, y.2.1 + b2n c⟩, u.2, y.2.2)
  | _, _, _ => (none, u.2, l)

/-- The first sweep of R141: the sums of |w1| by slot. -/
def Port.normSums (p : Port) (rows : List PlasticRow) (l : BitVec 32) (init : List (Nat × Nat)) :
    List (Nat × Nat) × Port :=
  let r := rows.foldl (fun (acc : List (Nat × Nat) × Port × BitVec 32) row =>
    (List.range row.d.len).foldl (fun (acc : List (Nat × Nat) × Port × BitVec 32) k =>
      match acc.2.1.stepped row k acc.2.2 with
      | (some y, q, l1) =>
        (acc.1.map (fun e => if e.1 = row.d.tbase + k then (e.1, (e.2 + y.w1.natAbs) % 2 ^ 32) else e), q, l1)
      | (none, q, l1) => (acc.1, q, l1)) acc) (init, p, l)
  (r.1, r.2.1)

/-- Whether slot `j`'s group normalises, with its target T (R141). -/
def State.normOf (s : State) (n : Nat) (gs : List Group) (j : Nat) : Option Nat :=
  match groupIn gs j with
  | some g => if s.on F.LRN_NORM_NORM_EN n g.g then
      some (s.rd F.LRN_NORM_NORM_TARGET n g.g * 2 ^ s.rd F.LRN_NORM_NORM_SHL n g.g) else none
  | none => none

/-- f[j] of R141. -/
def normFactor (t sum : Nat) : Nat := if sum = 0 then 4096 else min 65535 ((t * 4096 + sum / 2) / sum)

/-- quantise of R141, and whether it counts as a clip (R144). -/
def quantise (wfmt : Nat) (w : Int) : Int × Bool :=
  match wfmt with
  | 0 => (satS 8 w, satS 8 w != w)
  | 1 => (satS 4 w, satS 4 w != w)
  | 2 => (satS 2 w, satS 2 w != w)
  | 3 => (max (-1) (min 1 w), false)
  | _ => (if w ≥ 0 then 1 else -1, false)

/-- Store the weight of entry `k` of a row. -/
def Port.setWeight (p : Port) (d : RowDesc) (k : Nat) (w : Int) : Port :=
  let b := weightBits d.wfmt
  let lo := b * (k % (64 / b))
  p.modify (p.s.rowWord p.n d (k / (64 / b))) (fun v =>
    BitVec.ofNat 64 (putBits v.toNat (lo + b - 1) lo (weightCode d.wfmt w)))

/-- The second sweep of R141 for one synapse. -/
def Port.applyOne (gs : List Group) (fs : List (Nat × Nat)) (acc : Port × BitVec 32) (row : PlasticRow) (k : Nat) :
    Port × BitVec 32 :=
  let j := row.d.tbase + k
  match acc.1.stepped row k acc.2 with
  | (none, q, l1) => (q, l1)
  | (some y, q, l1) =>
    let w2 := match fs.lookup j with
      | some f => rsh (y.w1 * f) 12
      | none => y.w1
    let w := quantise row.d.wfmt w2
    let q1 := q.setWeight row.d k w.1
    let q2 := if q.s.rd F.LRN_CFG_RULE q.n = 0 then q1.setPlane 0 row.x k 0
      else (q1.setPlane 2 row.x k y.u).setPlane 1 row.x k 0
    (q2.onS (fun s => s.satHits q.n 3 (groupNo gs j) j (y.clips + b2n w.2)), l1)

/-- The cycles of an apply (R146). -/
def State.applyCycles (s : State) (n : Nat) (rows : List PlasticRow) (norm : Bool) : Nat :=
  let ns := s.rd F.LRN_PLASTIC_PL_SLOT_COUNT n
  let per := (rows.map (fun r => 1 + touched (s.rowWord n r.d 0) r.d.words +
    (if s.rd F.LRN_CFG_RULE n = 0 then s.planeGroups n 0 r else s.planeGroups n 1 r + s.planeGroups n 2 r))).sum
  16 + ceilDiv ns 16 + per + (if norm then ns + per else 0)

/-- The CRC of an apply over the weight words of each plastic row, once the row is done (13 R360). -/
def State.applyCrc (s : State) (n : Nat) (rows : List PlasticRow) : BitVec 64 :=
  (rows.flatMap (fun r => (List.range r.d.words).map (s.rowWord n r.d))).foldl (fun c w =>
    match s.sramPeek n w with
    | some v => (toBytes 8 v.toNat).foldl crc64Byte c
    | none => c) 0

/-- The apply of core `n` at the boundary that begins step `st` (R139, R141, R144). -/
def State.applyLearning (s : State) (n st : Nat) : State :=
  let gs := s.groupsOf n
  let slots := (List.range (s.rd F.LRN_PLASTIC_PL_SLOT_COUNT n)).map (s.rd F.LRN_PLASTIC_PL_SLOT_BASE n + ·)
  let normed := slots.filterMap (fun j => (s.normOf n gs j).map (fun t => (j, t)))
  let l0 := BitVec.ofNat 32 (s.rd F.LRN_SEED_STATE n)
  let rows := (Port.start s n).plasticRows
  let bank := (st + 1) % 2
  let init := slots.foldl (fun (acc : List (Nat × Nat) × Port) j =>
    let r := acc.2.read (s.landWord n bank j)
    (acc.1 ++ [(j, match r.1 with | some w => half w (j % 2) | none => 0)], r.2)) ([], rows.2)
  let sums := if normed = [] then ([], rows.2) else init.2.normSums rows.1 l0 init.1
  let fs := normed.map (fun e => (e.1, normFactor e.2 ((sums.1.lookup e.1).getD 0)))
  let done := rows.1.foldl (fun acc row =>
    (List.range row.d.len).foldl (fun acc k => Port.applyOne gs fs acc row k) acc) (sums.2, l0)
  let cleared := slots.foldl (fun (p : Port) j => p.clearLand (s.landWord n bank j) j) done.1
  let cyc := s.applyCycles n rows.1 (normed != [])
  ((((cleared.s.wr F.LRN_SEED_STATE done.2.toNat n).inc F.LRN_CNT_APPLIES 1 n).wr F.LRN_TIME_LAST_APPLY
    (min cyc 0xFFFF) n).top F.LRN_TIME_MAX_APPLY cyc n).onCore n
    (fun c => { c with applyEnd := cyc, applyCrc := cleared.s.applyCrc n rows.1 })

/-- The zeroing of CLEAR on core `n`; the planes stay when learning resumes (R147, R148), and so does TR in timestamp mode
(R130). -/
def State.clearLearning (s : State) (n : Nat) (planes : Bool) : State :=
  let gs := s.groupsOf n
  let na := s.rd F.LRN_PLASTIC_PL_AXON_COUNT n
  let ns := s.rd F.LRN_PLASTIC_PL_SLOT_COUNT n
  let ts := s.on F.LRN_CFG_TS_MODE n
  let rule := s.rd F.LRN_CFG_RULE n
  let p0 := Port.start s n
  let p1 := if planes then
      (List.range ((if rule = 0 then 1 else 3) * na * s.rd F.LRN_LAYOUT1_ESTRIDE n)).foldl
        (fun p k => p.write (p.s.lrnWord n F.LRN_LAYOUT1_PLANE_OFS k) 0) p0
    else p0
  let p2 := (List.range na).foldl (fun p a =>
    if ts then p.write (p.s.lrnWord n F.LRN_LAYOUT0_PRE_OFS a) 0
    else p.modify (p.s.lrnWord n F.LRN_LAYOUT0_PRE_OFS (a / 2)) (fun w => setHalf w (a % 2) 0)) p1
  let p3 := (List.range ns).foldl (fun p c =>
    let q1 := if ts then p.modify (p.s.lrnWord n F.LRN_LAYOUT0_POST_OFS (c / 4)) (fun w => setQuarter w (c % 4) 0) else p
    let q2 := if rule = 1 then q1.write (p.s.lrnWord n F.LRN_LAYOUT0_MOD_OFS c) 0 else q1
    let j := s.rd F.LRN_PLASTIC_PL_SLOT_BASE n + c
    match groupIn gs j with
    | some g => q2.modify (s.recWord n g j) (fun w =>
        BitVec.ofNat 64 (putBits (if ts then w.toNat else putBits w.toNat 11 4 0) 3 3 0))
    | none => q2) p2
  p3.s

/-- The cores of region `r` that learn and that the variant has (R126). -/
def State.regionCores (s : State) (r : Nat) : List Nat :=
  (List.range 1024).filter (fun n => s.coreOn n && s.on F.LRN_CFG_EN n && s.regionOf n == r)

/-- A learning action on region `r`: 0 OFF, 1 RUN, 2 ACCUM, 3 CLEAR (R147, R148). -/
def State.learnAction (s : State) (r action : Nat) : State :=
  if action = 3 then (s.regionCores r).foldl (fun s n => s.clearLearning n true) s
  else
    let s1 := if s.rd F.LRN_REGION_STATE 0 r = 0 ∧ action ≠ 0 then
        (s.regionCores r).foldl (fun s n => s.clearLearning n false) s
      else s
    s1.wr F.LRN_REGION_STATE action 0 r

/-- The apply work of core `n` at the tick that begins step `st`: at an epoch boundary in RUN it applies, in ACCUM or
under a snapshot's hold the apply is withheld (R125, R139, R149). -/
def State.coreEpoch (s : State) (n st : Nat) : State :=
  let r := s.regionOf n
  if s.on F.LRN_CFG_EN n && s.epochBoundary r st then
    if s.rd F.LRN_REGION_STATE 0 r = 1 && s.rd F.LRN_REGION_SNAP_HOLD 0 r = 0 then s.applyLearning n st
    else if s.rd F.LRN_REGION_STATE 0 r = 0 then s
    else s.inc F.LRN_CNT_WITHHELD 1 n
  else s

/-- The saturation windows of core `n` that end at the tick that begins step `st` (04 R119): the one that begins step 0 begins
the first window of every point, epoch windows included (DEDUCED, log entry 51). -/
def State.satEnded (s : State) (n st : Nat) (frame : Bool) : Nat :=
  let ep := decide (st = 0) || (if s.on F.LRN_CFG_EN n then s.epochBoundary (s.regionOf n) st else frame)
  (if frame then 15 - (s.core n).satWin % 16 else 0) + (if ep then (s.core n).satWin % 16 else 0)

/-- What the step tick that begins step `st` does first in core `n`: the apply (R139). -/
def State.coreApply (s : State) (n st : Nat) : State :=
  (s.onCore n (fun c => { c with applyEnd := 0, recvNum := 0, synFree := 0 })).coreEpoch n st

/-- What the step tick that begins step `st` does then in core `n`, in order: the ends of saturation windows, the update
and the pass (R127, R139, 03 R82, 04 R119); the cycles count as activity (16 R429). -/
def State.coreTick (s : State) (n st : Nat) (frame : Bool) : State :=
  let s2 := s.satWindow n (s.satEnded n st frame)
  let s3 := s2.updateCore n st
  let c := s3.core n
  (((s3.act (n / 128) 1 c.updCycles).act (n / 128) 2 c.applyEnd).wr F.CORE_STAT_UPD_BUSY 1 n).passIfDue n st

end Sys2Proof.Machine
end

