-- ==== Sys2Proof/Machine/Packets.lean ====
section
/-!
DEFINITION. Fox packets: the header flit (07_event_network.md R189, R190), the operation kinds (01_architecture.md R20),
agent numbers (R28), reason codes (07 R196), and the responses that a target stages.
-/
namespace Sys2Proof.Machine

/-- Agent numbers of 01 R28. -/
def agEngine (e : Nat) : Nat := 0x1F00 + e
def agDrey : Nat := 0x1F10
def agGroup (g : Nat) : Nat := 0x1F11 + g
def agCollier : Nat := 0x1F20
def agOwl : Nat := 0x1F21
def agTinder : Nat := 0x1F22
def agAsh : Nat := 0x1F23
def agRx (p : Nat) : Nat := 0x1F30 + p
def agTx (p : Nat) : Nat := 0x1F38 + p
def agGwynell : Nat := 0x1F40
def agSecurity : Nat := 0x1F41
def agBroadcast : Nat := 0x1FFF

/-- Reason codes of 07 R196. -/
def rsnNotPermitted : Nat := 1
def rsnNoAgent : Nat := 2
def rsnFenced : Nat := 3
def rsnBadLength : Nat := 4
def rsnDataError : Nat := 5
def rsnAddrError : Nat := 6
def rsnShed : Nat := 7
def rsnCtlRefused : Nat := 8
def rsnRingFull : Nat := 0x10
def rsnQueueClosed : Nat := 0x11
def rsnNotBound : Nat := 0x12
def rsnTooLong : Nat := 0x13

/-- Whether the variant has an agent (01 R27, R28). -/
def State.agentOn (s : State) (a : Nat) : Bool :=
  s.coreOn a || (decide (0x1F00 ≤ a) && decide (a < 0x1F08) && s.engineOn (a - 0x1F00)) || a == agDrey ||
  (decide (0x1F11 ≤ a) && decide (a < 0x1F13) && s.groupOn (a - 0x1F11)) ||
  (decide (0x1F20 ≤ a) && decide (a < 0x1F24)) ||
  (decide (0x1F30 ≤ a) && decide (a < 0x1F36) && s.rxOn (a - 0x1F30)) ||
  (decide (0x1F38 ≤ a) && decide (a < 0x1F3C) && s.txOn (a - 0x1F38)) || a == agGwynell || a == agSecurity

/-- Whether an agent is an engine agent, or Collier: the originators of CTL (R25). -/
def isEngineAgent (a : Nat) : Bool := decide (0x1F00 ≤ a) && decide (a < 0x1F08)
def originatesCtl (a : Nat) : Bool := isEngineAgent a || a == agCollier

/-- Whether an agent is a GDDR6 group agent. -/
def isGroupAgent (a : Nat) : Bool := decide (0x1F11 ≤ a) && decide (a < 0x1F13)

/-- Whether an agent is a logical core. -/
def isCoreAgent (a : Nat) : Bool := decide (a < 1024)

end Sys2Proof.Machine

namespace Sys2Proof
open Machine

/-- The header flit (R189). -/
def Packet.header (p : Packet) : Word :=
  p.op ++ p.dest ++ p.src ++ p.tag ++ p.arg ++ p.pay ++ p.len

/-- The packet that a header flit and following flits spell. -/
def Packet.ofHeader (w : Word) (data : List Word) : Packet where
  op := w.extractLsb' 60 4
  dest := w.extractLsb' 47 13
  src := w.extractLsb' 34 13
  tag := w.extractLsb' 28 6
  arg := w.extractLsb' 12 16
  pay := w.extractLsb' 4 8
  len := w.extractLsb' 0 4
  data := data

/-- The flits of a packet, header first. -/
def Packet.words (p : Packet) : List Word := p.header :: p.data

/-- The number of flits of a packet. -/
def Packet.flits (p : Packet) : Nat := 1 + p.data.length

/-- TID, or the low half of the payload field (R190). -/
def Packet.tid (p : Packet) : Nat := p.pay.toNat % 16

/-- Bits [11:8] of the header: word count, HALF_SEL, CTL action or TOK. -/
def Packet.hi (p : Packet) : Nat := p.pay.toNat / 16

/-- TOK of an ACK or NACK (R190). -/
def Packet.tok (p : Packet) : Bool := bit p.hi 0

/-- The counted operations (02 R52). -/
def Packet.counted (p : Packet) : Bool := p.op == 1 || p.op == 4 || p.op == 6

/-- Requests that expect a response (01 R21). -/
def Packet.nonPosted (p : Packet) : Bool :=
  p.op == 2 || p.op == 3 || p.op == 4 || p.op == 5 || p.op == 6 || p.op == 15

/-- Responses. -/
def Packet.response (p : Packet) : Bool := p.op == 8 || p.op == 9 || p.op == 10

/-- Reserved operation codes (R20). -/
def Packet.reservedOp (p : Packet) : Bool := p.op == 0 || p.op == 7 || (decide (11 ≤ p.op.toNat) && p.op != 15)

/-- Whether a request travels on the CTL channel: a CTL packet, or one that Collier or an engine agent sends as privileged,
of at most two flits, for at most one word, and not to a group (R199, R203).  A longer one takes the request channels. -/
def Packet.onCtl (p : Packet) : Bool :=
  !p.response && decide (p.flits ≤ 2) && p.dest.toNat != agBroadcast &&
    (p.op == 15 || (originatesCtl p.src.toNat && !isGroupAgent p.dest.toNat && (p.op != 3 || decide (p.hi ≤ 1))))

/-- The VCs of a packet's first and second phase, on CTL or not (07 R199). -/
def Packet.vc1 (p : Packet) (ctl : Bool) : Nat := if ctl then 4 else if p.response then 2 else 0
def Packet.vc2 (p : Packet) (ctl : Bool) : Nat := if ctl then 4 else if p.response then 3 else 1

/-- The queue that a QPUSH or QCOMB names: bits [27:12] and [11:8] hold the 20-bit queue ID (09 R246). -/
def Packet.qid (k : Packet) : Nat := k.arg.toNat + 65536 * k.hi

/-- Whether a packet is one of Collier's GDDR6 accesses for a host command, or a group's response (12 R344). -/
def Packet.hostGddr (p : Packet) : Bool :=
  (p.src.toNat == agCollier && isGroupAgent p.dest.toNat) ||
  (p.dest.toNat == agCollier && isGroupAgent p.src.toNat)

/-- A response to a request: source and destination exchanged, tag and TID echoed (R190). -/
def Packet.reply (p : Packet) (op arg hi : Nat) (data : List Word) : Packet where
  op := BitVec.ofNat 4 op
  dest := p.src
  src := p.dest
  tag := p.tag
  arg := BitVec.ofNat 16 arg
  pay := BitVec.ofNat 8 (16 * hi + p.tid)
  len := BitVec.ofNat 4 data.length
  data := data

/-- The ACK of a request; `tok` returns its landing token. -/
def Packet.ack (p : Packet) (tok : Bool) : Packet := p.reply 8 p.arg.toNat (b2n tok) []

/-- The NACK of a request with a reason. -/
def Packet.nack (p : Packet) (reason : Nat) (tok : Bool) : Packet := p.reply 10 reason (b2n tok) []

/-- The DATA response of an RRD. -/
def Packet.dataReply (p : Packet) (ws : List Word) : Packet := p.reply 9 p.arg.toNat ws.length ws

/-- The chip address that a request's extension flit gives (01 R30, R31); bits [63:48], which the flit has at zero, are
ignored (DESIGN CHOICE, log entry 39). -/
def Packet.chipAddr (k : Packet) : Nat := bits (k.data.headD 0).toNat 47 0 / 8 * 8

/-- The base of an agent's window of the chip address space (01 R28): Collier owns chip control. -/
def agentBase (a : Nat) : Nat :=
  if a < 1024 then a * 0x100000
  else if a < 0x1F08 then 0x0100000000 + (a - 0x1F00) * 0x10000
  else if a = agCollier then 0x0200000000
  else 0x0300000000 + (a - 0x1F00) * 0x80000

/-- The chip address of the word that a request names (01 R29, R30). -/
def Packet.targetAddr (k : Packet) : Nat :=
  if isGroupAgent k.dest.toNat then k.chipAddr else agentBase k.dest.toNat + 8 * k.arg.toNat

/-- Words that a group request covers: those of an RWR, the count of an RRD, one of an RADD. -/
def Packet.g6Words (k : Packet) : Nat :=
  if k.op = 2 then k.data.length - 1 else if k.op = 3 then k.hi else 1

/-- Whether two packets are the same but for the TID, which the requester's interface fills in (R197). -/
def Packet.sameButTid (p q : Packet) : Bool :=
  p.op == q.op && p.dest == q.dest && p.src == q.src && p.tag == q.tag && p.arg == q.arg && p.hi == q.hi &&
    p.len == q.len && p.data == q.data

/-- The fields of a Drulum packet (12 R325). -/
def HostCmd.word0 (c : HostCmd) : Nat := byteField c.bytes 0 4
def HostCmd.major (c : HostCmd) : Nat := byteField c.bytes 3 1
def HostCmd.op (c : HostCmd) : Nat := byteField c.bytes 2 1
def HostCmd.word1 (c : HostCmd) : Nat := byteField c.bytes 4 4
def HostCmd.plen (c : HostCmd) : Nat := byteField c.bytes 6 2
def HostCmd.ackReq (c : HostCmd) : Bool := bit c.word1 8
def HostCmd.target (c : HostCmd) : Nat := byteField c.bytes 8 8
def HostCmd.params (c : HostCmd) : List Byte := (c.bytes.drop 16).take c.plen

/-- `n` parameter bytes from offset `o` on, as a number. -/
def HostCmd.par (c : HostCmd) (o n : Nat) : Nat := byteField c.params o n

end Sys2Proof

namespace Sys2Proof.Machine

/-- A request packet. -/
def mkPacket (op dest src tag arg hi : Nat) (data : List Word) : Packet where
  op := BitVec.ofNat 4 op
  dest := BitVec.ofNat 13 dest
  src := BitVec.ofNat 13 src
  tag := BitVec.ofNat 6 tag
  arg := BitVec.ofNat 16 arg
  pay := BitVec.ofNat 8 (16 * hi)
  len := BitVec.ofNat 4 data.length
  data := data

/-- The queue operation of a push header, and an APPEND's packet index and packet count (09 R247). -/
def hdrIdx (w : Word) : Nat := bits w.toNat 44 35
def hdrCnt (w : Word) : Nat := bits w.toNat 34 25
def pushOp (k : Packet) : Nat := bits (k.data.headD 0).toNat 63 62
def pushIdx (k : Packet) : Nat := hdrIdx (k.data.headD 0)
def pushCnt (k : Packet) : Nat := hdrCnt (k.data.headD 0)

/-- Whether a packet is an APPEND's. -/
def isAppend (k : Packet) : Bool := k.op == 5 && pushOp k == 0

/-- The packets of an APPEND of a payload to a queue, CHK = 0 (09 R247, R248). -/
def appendPackets (src qid tag : Nat) (payload : List Byte) : List Packet :=
  let n := max 1 (ceilDiv payload.length 112)
  (List.range n).map (fun i =>
    let part := (payload.drop (112 * i)).take 112
    let h : Word := BitVec.ofNat 64 (i * 2 ^ 35 + n * 2 ^ 25 + payload.length)
    mkPacket 5 (if qid < 0x10000 then qid / 64 else agDrey) src tag (qid % 65536) (qid / 65536) (h :: wordsOf part))

/-- Stage an ACK, a NACK or DATA at the target `a` of a request, on CTL where the request came on it (R199); NACK FENCED is
the router's (R218). -/
def State.sendAck (s : State) (a : Nat) (p : Packet) (tok : Bool := false) : State := s.stage a (p.ack tok) .plain p.onCtl
def State.sendNack (s : State) (a : Nat) (p : Packet) (reason : Nat) (tok : Bool := false) : State :=
  s.stage a (p.nack reason tok) .plain p.onCtl (reason == rsnFenced)
def State.sendData (s : State) (a : Nat) (p : Packet) (ws : List Word) : State :=
  s.stage a (p.dataReply ws) .plain p.onCtl

/-- Drop the first entry of a list that meets a condition. -/
def dropFirst {α : Type} (f : α → Bool) : List α → List α
  | [] => []
  | e :: t => if f e then t else e :: dropFirst f t

/-- The staged packet that an injection takes: its entry, if any. -/
def State.staged? (s : State) (p : Packet) : Option Staged :=
  s.net.staging.find? (fun e => if p.response then e.pkt == p else e.pkt.sameButTid p)

/-- The state without that entry. -/
def State.unstage (s : State) (p : Packet) : State :=
  let rest := dropFirst (fun e => if p.response then e.pkt == p else e.pkt.sameButTid p) s.net.staging
  { s with net := { s.net with staging := rest } }

/-- The delivery record of a packet that an arrival row names, if the network holds one for that agent. -/
def State.arrived? (s : State) (a : Nat) (p : Packet) : Option Delivered :=
  s.net.delivered.find? (fun d => d.agent == a && d.pkt == p)

/-- The state without that record. -/
def State.taken (s : State) (a : Nat) (p : Packet) : State :=
  { s with net := { s.net with delivered := dropFirst (fun d => d.agent == a && d.pkt == p) s.net.delivered } }

end Sys2Proof.Machine
end

