-- ==== Sys2Proof/Machine/Fox.lean ====
section
/-!
DEFINITION. The places and routes of the Fox network and the edge ring (07_event_network.md R186 to R188, R198, R204 to
R207, R216, R217).
-/
namespace Sys2Proof.Machine

/-- Column and row of a tile (01 R12). -/
def tileX (p : Nat) : Nat := p % 34
def tileY (p : Nat) : Nat := p / 34

/-- Whether tile `p` lies in a retired column of its engine (14 R397). -/
def State.retired (s : State) (p : Nat) : Bool :=
  s.on F.SPARE_STAT_COL_RETIRED 0 (tileEngine p) &&
    s.rd F.SPARE_STAT_COLUMN 0 (tileEngine p) == tileX p % 17

/-- The tile of gateway `g`; a retired one passes its port to the first live tile inward in its row (R12, 14 R398). -/
def State.gatewayTile (s : State) (g : Nat) : Nat :=
  let y := 8 * (g / 4) + (if g % 2 = 0 then 2 else 5)
  let row := if g / 2 % 2 = 0 then (List.range 17).map (34 * y + ·) else (List.range 17).map (34 * y + 33 - ·)
  (row.find? (fun p => !s.retired p)).getD (34 * y)

/-- The edge-ring stop of a gateway (01 R17). -/
def gatewayStop (g : Nat) : Nat :=
  match g with
  | 2 => 9 | 3 => 10 | 6 => 11 | 7 => 12 | 10 => 13 | 11 => 14 | 14 => 15 | 15 => 16
  | 13 => 27 | 12 => 28 | 9 => 29 | 8 => 30 | 5 => 31 | 4 => 32 | 1 => 33 | _ => 34

/-- The gateway at an edge-ring stop, if any. -/
def stopGateway (t : Nat) : Option Nat := (List.range 16).find? (fun g => gatewayStop g == t)

/-- The edge-ring stop of an I/O agent (R17). -/
def agentStop (a : Nat) : Nat :=
  if a = agTinder then 6 else if a = agCollier then 7 else if a = agOwl then 8 else if a = agAsh then 17
  else if a = agGwynell then 22 else if a = agSecurity then 23 else if a = agGroup 1 then 24
  else if a = agDrey then 25 else if a = agGroup 0 then 26
  else if 0x1F38 ≤ a then 18 + (a - 0x1F38) else a - 0x1F30

/-- Positions on a ring: rows have 34, columns the enabled rows, the edge ring 35 (R186, R17). -/
def State.ringLen (s : State) (ring : Nat) : Nat := match ring with | 0 => 34 | 1 => s.rows | _ => 35

/-- The tile of a ring buffer; an edge-ring buffer has none. -/
def Buf.tile (b : Buf) : Nat :=
  match b.ring with | 0 => 34 * b.idx + b.pos | 1 => 34 * b.pos + b.idx | _ => 1088

/-- The tile of a buffer, a gateway port's staging included. -/
def State.bufTile (s : State) (b : Buf) : Nat := if b.ring = 3 then s.gatewayTile b.idx else b.tile

/-- The input port of a buffer (R221): a packet that travels east comes in on W. -/
def Buf.port (b : Buf) : Nat :=
  match b.ring, b.dir with | 0, 0 => 3 | 0, _ => 1 | 1, 0 => 0 | 1, _ => 2 | 2, d => d | _, _ => 5

/-- The link, or the gateway port's output, into a buffer; its VCs share it (R212). -/
def Buf.link (b : Buf) : Nat := ((b.ring * 2048 + b.idx) * 2 + b.dir) * 2048 + b.pos

/-- The staging of gateway `g`'s port for packets into the array, or out of it (R201). -/
def gateIn (g vc : Nat) : Buf := ⟨3, g, 0, vc, 0⟩
def gateOut (g vc : Nat) : Buf := ⟨3, g, 1, vc, 0⟩

/-- Whether a buffer exists: a retired tile holds none (14 R398). -/
def State.bufLive (s : State) (b : Buf) : Bool := decide (2 ≤ b.ring) || !s.retired b.tile

/-- The buffer one position further in its direction. -/
def State.bufNext (s : State) (b : Buf) : Buf :=
  let n := s.ringLen b.ring
  { b with pos := if b.dir = 0 then (b.pos + 1) % n else (b.pos + n - 1) % n }

/-- The next `k` live buffers from `b` on, `b` counted; `fuel` bounds the walk around the ring. -/
def State.bufRun (s : State) (b : Buf) (k : Nat) : Nat → List Buf
  | 0 => []
  | fuel + 1 =>
    if k = 0 then []
    else if s.bufLive b then b :: s.bufRun (s.bufNext b) (k - 1) fuel
    else s.bufRun (s.bufNext b) k fuel

/-- Direction and hops of R204 from `a` to `b` on a ring of `n`; equal distances go east or south. -/
def ringWay (n a b : Nat) : Nat × Nat :=
  let f := (b + n - a) % n
  let r := (a + n - b) % n
  if f ≤ r then (0, f) else (1, r)

/-- The buffers that `k` hops from position `pos` pass. -/
def State.legBufs (s : State) (b : Buf) : Nat → List Buf
  | 0 => []
  | k + 1 => let c := s.bufNext b; c :: s.legBufs c k

/-- One leg along a ring from position `a` to position `b`, the shorter way (R204). -/
def State.leg (s : State) (ring idx vc a b : Nat) : List Buf :=
  let w := ringWay (s.ringLen ring) a b
  (s.legBufs ⟨ring, idx, w.1, vc, a⟩ w.2).filter s.bufLive

/-- X then Y from tile `p` to tile `q` on one VC (R205). -/
def State.legXY (s : State) (vc p q : Nat) : List Buf :=
  s.leg 0 (tileY p) vc (tileX p) (tileX q) ++ s.leg 1 (tileX q) vc (tileY p) (tileY q)

/-- The column of an intermediate router that R205 draws, moved off a retired column (14 R398). -/
def State.midColumn (s : State) (y x dst dir : Nat) : Nat → Nat
  | 0 => dst
  | fuel + 1 =>
    if x = dst || !s.retired (34 * y + x) then x
    else s.midColumn y (if dir = 0 then (x + 1) % 34 else (x + 33) % 34) dst dir fuel

/-- The intermediate router of R205 from tile `p` to tile `q` for an LFSR state after stepping. -/
def State.midTile (s : State) (p q : Nat) (l : BitVec 32) : Nat :=
  let wx := ringWay 34 (tileX p) (tileX q)
  let wy := ringWay s.rows (tileY p) (tileY q)
  let ox := (l.toNat % 65536 * (wx.2 + 1)) / 65536
  let oy := (l.toNat / 65536 * (wy.2 + 1)) / 65536
  let my := if wy.1 = 0 then (tileY p + oy) % s.rows else (tileY p + s.rows - oy) % s.rows
  34 * my + s.midColumn my (if wx.1 = 0 then (tileX p + ox) % 34 else (tileX p + 34 - ox) % 34) (tileX q) wx.1 34

/-- The gateway through which traffic between tile `p` and an I/O agent leaves the array (01 R19). -/
def outGateway (p : Nat) : Nat := 2 * tileEngine p + (if tileY p % 8 < 4 then 0 else 1)

/-- The gateway through which an I/O agent reaches an agent in the array (R19, R187). -/
def inGateway (a : Nat) : Nat :=
  if isEngineAgent a then 2 * (a - 0x1F00) else 2 * (a / 128) + (if a % 128 < 64 then 0 else 1)

/-- Whether an agent's place is a tile. -/
def inArray (a : Nat) : Bool := isCoreAgent a || isEngineAgent a

/-- The tile at which an agent of the array injects. -/
def State.agentTile (s : State) (a : Nat) : Nat :=
  if isEngineAgent a then s.gatewayTile (2 * (a - 0x1F00)) else s.tileOf a

/-- The tile to which a packet for agent `a` goes, by engine `e`'s active map (R28). -/
def State.destTile (s : State) (e a : Nat) : Nat :=
  if isEngineAgent a then s.gatewayTile (2 * (a - 0x1F00)) else s.mapOf e a

/-- A leg of the array: the buffers of its path, its intermediate router, and the state after the LFSR that drew it. -/
structure Leg where
  path : List Buf
  mid : Nat
  s : State

/-- A leg of the array from tile `p` to tile `q`: X-Y on CTL, else two phases drawn by the LFSR held in `f` of unit `u`
(R205). -/
def State.arrayLeg (s : State) (k : Packet) (ctl : Bool) (p q : Nat) (f : Fld) (u : Nat) : Leg :=
  if ctl then ⟨s.legXY 4 p q, p, s⟩
  else
    let l := lfsrStep (BitVec.ofNat 32 (s.rd f u))
    let m := s.midTile p q l
    ⟨s.legXY (k.vc1 false) p m ++ s.legXY (k.vc2 false) m q, m, s.wr f l.toNat u⟩

/-- A route: the buffers of its path, its target, its sideband and the state after the LFSR that drew it. -/
structure Route where
  path : List Buf
  target : Nat
  side : Side
  s : State

/-- The route of a unicast packet from agent `a` (R205, R206, R216, R217): one from the edge ring into the array ends at the
gateway, whose router computes the rest (01 R19, 14 R384). -/
def State.route (s : State) (a : Nat) (k : Packet) (ctl : Bool) : Route :=
  let d := k.dest.toNat
  if inArray a then
    let p := s.agentTile a
    if inArray d then
      let q := s.destTile (tileEngine p) d
      let r := s.arrayLeg k ctl p q F.FOX_SEED_STATE p
      ⟨r.path, q, ⟨q, r.mid, 0⟩, r.s⟩
    else
      let g := outGateway p
      let q := s.gatewayTile g
      let r := s.arrayLeg k ctl p q F.FOX_SEED_STATE p
      ⟨r.path ++ gateOut g (k.vc2 ctl) :: s.leg 2 0 (k.vc2 ctl) (gatewayStop g) (agentStop d), 10000 + agentStop d,
        ⟨q, r.mid, 1⟩, r.s⟩
  else if inArray d then
    let g := inGateway d
    ⟨s.leg 2 0 (k.vc1 ctl) (agentStop a) (gatewayStop g) ++ [gateIn g (k.vc1 ctl)], 20000 + g, ⟨0, 0, 0⟩, s⟩
  else if (a == agDrey && isGroupAgent d) || (isGroupAgent a && d == agDrey) then
    ⟨[], 10000 + agentStop d, ⟨0, 0, 0⟩, s⟩
  else ⟨s.leg 2 0 (k.vc2 ctl) (agentStop a) (agentStop d), 10000 + agentStop d, ⟨0, 0, 0⟩, s⟩

/-- The route of the packet of a flight that the router of gateway `g` takes in: its path in the array, drawn by the
gateway's LFSR from the engine's map (01 R19, R206). -/
def State.enterArray (s : State) (f : Flight) (g : Nat) : Flight × State :=
  let q := s.destTile (g / 2) f.pkt.dest.toNat
  let r := s.arrayLeg f.pkt f.ctl (s.gatewayTile g) q F.FOX_GW_SEED_STATE (gatewayStop g)
  ({ f with path := r.path, target := q, side := ⟨q, r.mid, 0⟩ }, r.s)

/-- The route sideband of a packet whose head goes on on virtual channel `vc` (R188). -/
def Flight.sideband (f : Flight) (vc : Nat) : BitVec 30 :=
  BitVec.ofNat 3 vc ++ BitVec.ofNat 1 (b2n (vc == 1 || vc == 3)) ++ BitVec.ofBool f.bcast.isSome ++
    BitVec.ofNat 6 (tileX f.side.dest) ++ BitVec.ofNat 5 (tileY f.side.dest) ++
    BitVec.ofNat 6 (tileX f.side.mid) ++ BitVec.ofNat 5 (tileY f.side.mid) ++ BitVec.ofNat 3 f.side.exit

end Sys2Proof.Machine
end

