-- ==== Sys2Proof/Machine/Hop.lean ====
section
/-!
DEFINITION. Packets in the rings of the Fox network (07_event_network.md): the rules for entering a ring and for advancing,
the arbiters, reception and its counters, broadcast copies, the end of a route, one hop of a packet, and replays.  Each
PACKET_HOP is one win of an arbiter: which outputs are served in which order is the order of the commands (DESIGN CHOICE,
log entry 10).
-/
namespace Sys2Proof.Machine

/-- The critical buffer of a ring and VC: position 0, or the first live one after it, until the mark has moved (R202). -/
def State.criticalOf (s : State) (b : Buf) : Buf :=
  (s.net.critical.find? (fun c => c.ring == b.ring && c.idx == b.idx && c.dir == b.dir && c.vc == b.vc)).getD
    (((s.bufRun { b with pos := 0, dir := 0 } 1 40).head?.getD { b with pos := 0 }) |> fun c => { c with dir := b.dir })

/-- Whether some packet holds a buffer, or has one reserved. -/
def State.bufBusy (s : State) (b : Buf) : Bool := s.net.flights.any (fun f => f.occ.contains b)
def State.bufReserved (s : State) (b : Buf) (me : Nat) : Bool :=
  s.net.flights.any (fun f => f.id != me && f.res.contains b)

/-- Packet buffers that a packet of `l` flits needs on a ring: those of the array hold 8 flits, those of the edge ring and
of a gateway port 16 (R201, R202, R216). -/
def bufsFor (ring l : Nat) : Nat := if 2 ≤ ring then 1 else if l ≤ 8 then 1 else 2

/-- The flits that a flight has in each buffer it holds, its head's buffer first (R201): the first fills before the
second. -/
def Flight.holds (f : Flight) : List (Buf × Nat) :=
  f.occ.zipIdx.map (fun x =>
    (x.1, if 2 ≤ x.1.ring then f.pkt.flits - 8 * x.2 else if x.2 = 0 then min 8 f.pkt.flits else f.pkt.flits - 8 * x.2))

/-- The flits of a flight that its injecting interface still stages: the whole packet, or the tail of a long one. -/
def Flight.inStage (f : Flight) : Nat :=
  if f.repl.isSome then 0
  else match f.occ with
    | [] => f.pkt.flits
    | [b] => if b.ring < 2 then f.pkt.flits - 8 else 0
    | _ => 0

/-- The virtual channel on which a flight leaves its injecting interface. -/
def Flight.firstVc (f : Flight) : Nat :=
  match f.occ, f.path with | [b], _ => b.vc | _, b :: _ => b.vc | _, [] => f.pkt.vc2 f.ctl

/-- Flits that a router's port `i / 5` holds in VC `i % 5`: those in its buffers, and on the local port those that the core's
injecting interface stages (R221, R222). -/
def State.portOcc (s : State) (tile i : Nat) : Nat :=
  (s.net.flights.map (fun f =>
    ((f.holds.filter (fun x => x.1.ring != 2 && !(x.1.ring == 3 && x.1.dir == 1) && s.bufTile x.1 == tile &&
      5 * x.1.port + x.1.vc == i)).map (·.2)).sum +
    (if i / 5 = 4 ∧ isCoreAgent f.agent ∧ s.tileOf f.agent = tile ∧ f.firstVc = i % 5 then f.inStage else 0))).sum

/-- Flits that an edge-ring stop holds in VC `i % 5` of direction `i / 5` (R216, R222). -/
def State.stopOcc (s : State) (t i : Nat) : Nat :=
  (s.net.flights.map (fun f =>
    ((f.holds.filter (fun x => x.1.ring == 2 && x.1.pos == t && 5 * x.1.dir + x.1.vc == i)).map (·.2)).sum)).sum

/-- Flits on CTL in a buffer; CTL buffers hold 4 (R199, R203). -/
def State.ctlFlits (s : State) (b : Buf) : Nat :=
  ((s.net.flights.filter (fun f => f.occ.contains b)).map (fun f => f.pkt.flits)).sum

/-- Whether a packet may enter a ring at buffer `b` (R202, R203). -/
def State.mayEnter (s : State) (me l : Nat) (b : Buf) : Bool :=
  if b.vc = 4 then s.ctlFlits b == 0
  else (s.bufRun b (bufsFor b.ring l) 40).all (fun c =>
    !s.bufBusy c && !s.bufReserved c me && (c.ring == 3 || s.criticalOf c != c))

/-- Whether a packet in a ring may advance into buffer `b` (R202): on CTL while the receiver signals on, with more than 2
of its 4 flits free, which is room for all of a packet (R200, R203). -/
def State.mayAdvance (s : State) (me : Nat) (b : Buf) : Bool :=
  if b.vc = 4 then decide (s.ctlFlits b ≤ 1) else !s.bufBusy b && !s.bufReserved b me

/-- Whether a flight's move into buffer `b` enters a ring: it comes from anywhere but the buffer before it (R201). -/
def Flight.enters (f : Flight) (b : Buf) : Bool :=
  match f.occ with
  | c :: _ => !(c.ring == b.ring && c.idx == b.idx && c.dir == b.dir && c.vc == b.vc)
  | [] => true

/-- The tile from which a row link leads into buffer `b`. -/
def Buf.before (b : Buf) : Nat := 34 * b.idx + (if b.dir = 0 then (b.pos + 33) % 34 else (b.pos + 1) % 34)

/-- Whether the link into a buffer is down (R219); a retired neighbour's link has been replaced by skip wires (14 R398). -/
def State.linkDown (s : State) (b : Buf) : Bool :=
  if b.ring = 2 then s.net.down.contains (b.pos, b.dir)
  else if b.ring = 3 then b.dir == 0 && bit (s.rd F.FOX_RT_STAT_LINK_DOWN (s.gatewayTile b.idx)) 4
  else s.bufLive b && !(b.ring == 0 && s.retired b.before) && bit (s.rd F.FOX_RT_STAT_LINK_DOWN b.tile) b.port

/-- Flits in the replication buffer of tile `p`: each packet there counts once (R214). -/
def State.replFlits (s : State) (p : Nat) : Nat :=
  let waits := (s.net.flights.filter (fun f => f.occ == [])).filterMap (fun f => match f.repl with
    | some (q, n) => if q = p then some (n, f.pkt.flits) else none
    | none => none)
  (waits.dedup.map (·.2)).sum

/-- Whether a long packet keeps the link into buffer `b`, which its tail has not passed (R212). -/
def State.linkKept (s : State) (b : Buf) (me : Nat) : Bool :=
  s.net.flights.any (fun g => g.id != me && !g.ctl && decide (8 < g.pkt.flits) &&
    match g.occ with | c :: _ => decide (c.ring < 2) && c.link == b.link | [] => false)

/-- Whether the router of buffer `b` is awake: it is on the edge ring, or its engine is not gated (16 R442). -/
def State.bufAwake (s : State) (b : Buf) : Bool :=
  b.ring == 2 || (b.ring == 3 && b.dir == 1) || !bit (s.rd F.KILN_GATE_ENG) (tileEngine (s.bufTile b))

/-- Whether a flight's head may move into buffer `b` now: the flow control of R200 to R203, the replication room of R214, a
link that is up (R219) and that no other packet keeps (R212), and an engine that is awake (16 R442). -/
def State.mayHop (s : State) (f : Flight) (b : Buf) : Bool :=
  s.bufAwake b && (f.bcast.isNone || b.ring != 0 || decide (s.replFlits b.tile + f.pkt.flits ≤ 16)) &&
  (!s.bufLive b || (!s.linkDown b && (f.ctl || !s.linkKept b f.id) &&
    (if f.enters b then s.mayEnter f.id f.pkt.flits b else s.mayAdvance f.id b)))

/-- The flights that contend for the link into buffer `b` (R210, R211): their heads are next to take it and their
flow-control conditions hold. -/
def State.contenders (s : State) (b : Buf) : List Flight :=
  s.net.flights.filter (fun f => f.replay == [] &&
    match f.path with | c :: _ => c.link == b.link && s.mayHop f c | [] => false)

/-- The age key of a packet (R210). -/
def State.ageKey (s : State) (k : Packet) : Nat := (k.tag.toNat + 46 + (64 - s.step % 64)) % 64

/-- Whether a flight is an injection: from a local port, a gateway port or a replication buffer (R210). -/
def Flight.injects (f : Flight) : Bool := match f.occ with | [] => true | b :: _ => b.ring == 3

/-- The arbiter input of a flight, 5 times its port plus its VC; the replication buffer counts as port 6 (DESIGN CHOICE, log
entry 40). -/
def Flight.input (f : Flight) : Nat :=
  match f.occ with
  | b :: _ => 5 * b.port + b.vc
  | [] => 5 * (if f.repl.isSome then 6 else 4) + f.firstVc

/-- The order of contenders at the link into buffer `b`, lowest first: CTL (R212), the age key, promotion after 32 lost
rounds, then round-robin from the input after the one served last (R210). -/
def State.rank (s : State) (b : Buf) (f : Flight) : Nat :=
  ((b2n (!f.ctl) * 64 + s.ageKey f.pkt) * 2 + b2n (!(f.injects && decide (32 ≤ f.lost)))) * 64 +
    (f.input + 63 - Sparse.get s.net.turns b.link 63) % 64

/-- The winner of the link into buffer `b` (R210, R212). -/
def State.winner (s : State) (b : Buf) : Option Nat :=
  ((s.contenders b).foldl (fun m f => match m with
    | some x => if s.rank b f < x.1 then some (s.rank b f, f.id) else m
    | none => some (s.rank b f, f.id)) none).map (·.2)

/-- The round that flight `f` wins at the link into buffer `b`: every injection that contended has lost one more, and the
winner is unpromoted (R210, R211). -/
def State.round (s : State) (b : Buf) (f : Flight) : State :=
  let lost := (s.contenders b).filter (fun g => g.injects && g.id != f.id)
  { s with net := { s.net with
      flights := s.net.flights.map (fun g =>
        if g.id = f.id then { g with lost := 0 }
        else if lost.any (fun x => x.id == g.id) then { g with lost := min 32 (g.lost + 1) } else g)
      turns := Sparse.set natLt s.net.turns b.link 63 f.input } }

/-- Reception of a packet on a router's port (R221). -/
def State.countTile (s : State) (tile port vc l : Nat) (k : Packet) : State :=
  let i := 5 * port + vc
  let s1 := (s.inc F.FOX_PV_FLIT_CNT_FLITS l tile i).inc F.FOX_PV_PKT_CNT_PKTS 1 tile i
  let s2 := s1.top F.FOX_PV_OCC_MAX_OCC (s1.portOcc tile i) tile i
  if k.op = 10 then s2.inc F.FOX_PV_ERR_NACK_CNT 1 tile i else s2

/-- Reception of a packet at an edge-ring stop. -/
def State.countStop (s : State) (b : Buf) (l : Nat) (k : Packet) : State :=
  let i := 5 * b.dir + b.vc
  let s1 := (s.inc F.FOX_ES_PV_FLIT_CNT_FLITS l b.pos i).inc F.FOX_ES_PV_PKT_CNT_PKTS 1 b.pos i
  let s2 := s1.top F.FOX_ES_PV_OCC_MAX_OCC (s1.stopOcc b.pos i) b.pos i
  if k.op = 10 then s2.inc F.FOX_ES_PV_ERR_NACK_CNT 1 b.pos i else s2

/-- Reception into a buffer; the staging of a gateway port toward the edge ring is no input port. -/
def State.countBuf (s : State) (b : Buf) (k : Packet) : State :=
  if b.ring = 2 then s.countStop b k.flits k
  else if b.ring = 3 ∧ b.dir = 1 then s
  else s.countTile (s.bufTile b) b.port b.vc k.flits k

/-- A drop at a router: DROP_CNT of the port and VC on which the packet came (R220). -/
def State.dropAt (s : State) (tile port vc : Nat) : State :=
  if tile < 1088 then s.inc F.FOX_PV_ERR_DROP_CNT 1 tile (5 * port + vc) else s

/-- Where a packet that an arrival row names came in at agent `a`: the port and VC of its delivery, or the local port where
none is recorded. -/
def State.cameIn (s : State) (a : Nat) (k : Packet) : Nat × Nat :=
  match s.arrived? a k with | some d => (d.port, d.vc) | none => (4, k.vc2 k.onCtl)

/-- A drop of a packet that an arrival row names for agent `a` (R220). -/
def State.dropArrived (s : State) (a : Nat) (k : Packet) : State :=
  let c := s.cameIn a k
  match s.arrived? a k with
  | some d =>
    if d.tile < 1088 then s.dropAt d.tile c.1 c.2 else s.inc F.FOX_ES_PV_ERR_DROP_CNT 1 (agentStop a) (5 * c.1 % 10 + c.2)
  | none => if inArray a then s.dropAt (s.agentTile a) c.1 c.2 else s.inc F.FOX_ES_PV_ERR_DROP_CNT 1 (agentStop a) c.2

/-- A packet that reaches its agent. -/
def State.deliver (s : State) (a : Nat) (k : Packet) (tile port vc : Nat) : State :=
  { s with net := { s.net with delivered := s.net.delivered ++ [⟨a, k, tile, port, vc⟩] } }

/-- The engines that a broadcast selects (R215). -/
def State.bcastEngines (s : State) (mask : Nat) : List Nat := s.engines.filter (fun e => bit mask e)

/-- A broadcast's copy to the local port of tile `p` (R214, R215). -/
def State.bcastLocal (s : State) (k : Packet) (mask p port vc : Nat) : State :=
  match s.coreAt p with
  | some n => if bit mask (n / 128) && s.engineOn (n / 128) then s.deliver n k p port vc else s
  | none => s

/-- The state with a flight added under a fresh number. -/
def State.launch (s : State) (f : Flight) : State :=
  { s with net := { s.net with flights := s.net.flights ++ [{ f with id := s.net.nextId }],
                               nextId := s.net.nextId + 1 } }

/-- The copies that the replication buffer of tile `p` sends into its column, and the local one (R214). -/
def State.replicate (s : State) (agent : Nat) (k : Packet) (mask p port : Nat) : State :=
  let r := s.rows
  let num := s.net.nextId
  let col := fun (s : State) (dir n : Nat) =>
    if n = 0 then s
    else s.launch ⟨0, k, agent, false, s.legBufs ⟨1, tileX p, dir, 1, tileY p⟩ n, [], [], p, ⟨p, p, 0⟩, some mask,
      some (p, num), [], 0⟩
  col (col (s.bcastLocal k mask p port 0) 0 (r / 2)) 1 ((r - 1) / 2)

/-- The row copies of a broadcast that starts at tile `p`: 17 columns east, 16 west (R214). -/
def State.spread (s : State) (agent : Nat) (k : Packet) (mask p port : Nat) : State :=
  let s1 := s.replicate agent k mask p port
  let row := fun (s : State) (dir n : Nat) =>
    s.launch ⟨0, k, agent, false, s.legBufs ⟨0, tileY p, dir, 0, tileX p⟩ n, [], [], p, ⟨p, p, 0⟩, some mask, none, [], 0⟩
  row (row s1 0 17) 1 16

/-- The state with one flight changed. -/
def State.setFlight (s : State) (f : Flight) : State :=
  { s with net := { s.net with flights := s.net.flights.map (fun g => if g.id = f.id then f else g) } }

/-- The critical mark after a move that freed `freed` while the packet holds `occ` (R202). -/
def State.passMark (s : State) (occ freed : List Buf) : State :=
  match occ.find? (fun b => b.vc < 4 && s.criticalOf b == b) with
  | none => s
  | some c =>
    match freed.find? (fun b => b.ring == c.ring && b.idx == c.idx && b.dir == c.dir && b.vc == c.vc) with
    | none => s
    | some b =>
      let rest := s.net.critical.filter (fun x =>
        !(x.ring == c.ring && x.idx == c.idx && x.dir == c.dir && x.vc == c.vc))
      { s with net := { s.net with critical := rest ++ [b] } }

/-- A flight ends, and frees its rearmost buffer first (R202). -/
def State.endFlight (s : State) (f : Flight) : State :=
  let t := s.passMark f.occ f.occ.reverse
  { t with net := { t.net with flights := t.net.flights.filter (fun g => g.id != f.id) } }

/-- A packet is sent on from tile `p` as a phase-2 packet toward tile `q`, and the redirect counted (R208). -/
def State.sendOn (s : State) (f : Flight) (p q : Nat) (tail : List Buf) : State :=
  (s.setFlight { f with path := s.legXY (f.pkt.vc2 f.ctl) p q ++ tail, replay := [],
                        target := if f.target < 10000 then q else f.target,
                        side := { f.side with dest := q, mid := p } }).inc F.FOX_RT_CNT_REDIR 1 p

/-- The end of a packet's route: ejection at a tile or a stop, with the redirection of R208. -/
def State.eject (s : State) (f : Flight) (tile port vc : Nat) : State :=
  let d := f.pkt.dest.toNat
  if f.target ≥ 10000 then (s.endFlight f).deliver d f.pkt 1088 port vc
  else if isEngineAgent d then ((s.endFlight f).deliver d f.pkt tile port vc).act (tileEngine tile) 4 f.pkt.flits
  else if s.coreAt tile = some d then
    ((s.endFlight f).deliver d f.pkt tile port vc).act (tileEngine tile) 4 f.pkt.flits
  else
    let e := tileEngine tile
    if s.on F.SPARE_MAP_VALID e d && s.mapOf e d != tile then s.sendOn f tile (s.mapOf e d) []
    else s

/-- The engine whose router a packet leaves by a move: that of its head buffer's tile, or of the tile at which it was
injected; none on the edge ring. -/
def State.leaving (s : State) (f : Flight) : Option Nat :=
  match f.occ with
  | b :: _ => if b.ring = 2 ∨ (b.ring = 3 ∧ b.dir = 1) then none else some (tileEngine (s.bufTile b))
  | [] => if f.bcast.isSome then (if f.target < 1088 then some (tileEngine f.target) else none)
    else if inArray f.agent then some (tileEngine (s.agentTile f.agent)) else none

/-- A copy of a broadcast in the router of buffer `b`, which is the last of its leg where `last` (R214). -/
def State.copyHere (s : State) (f : Flight) (m : Nat) (b : Buf) (last : Bool) : State :=
  let t := if b.ring = 0 then s.replicate f.agent f.pkt m b.tile b.port
    else if b.ring = 1 then s.bcastLocal f.pkt m b.tile b.port b.vc else s
  if last && decide (b.ring < 2) then t.endFlight f else t

/-- The head of a packet moves into buffer `b`; `rest` remains of its path (R201, R202).  A retired tile has no buffer, and
is passed (14 R398). -/
def State.moveTo (s : State) (f : Flight) (b : Buf) (rest : List Buf) : State :=
  if !s.bufLive b then
    let g := { f with path := rest }
    match f.bcast with
    | some m => (s.setFlight g).copyHere g m b (rest == [])
    | none => s.setFlight g
  else
    let k := bufsFor b.ring f.pkt.flits
    let occ := (b :: f.occ).take k
    let freed := f.occ.filter (fun c => !occ.contains c)
    let res := if f.enters b then (s.bufRun b k 40).filter (· != b) else f.res.filter (· != b)
    let g := { f with path := rest, occ := occ, res := res, lost := 0 }
    let s1 := ((s.setFlight g).passMark occ freed.reverse).countBuf b f.pkt
    let s2 := match s.leaving f with
      | some e => s1.act e 4 f.pkt.flits
      | none => s1
    match f.bcast with
    | some m => s2.copyHere g m b (rest == [])
    | none =>
      if rest ≠ [] then s2
      else if b.ring = 3 then
        let r := s2.enterArray g b.idx
        if r.1.path = [] then (r.2.setFlight r.1).eject r.1 r.1.target 5 b.vc else r.2.setFlight r.1
      else s2.eject g (if b.ring = 2 then f.target else b.tile) b.port b.vc

/-- A flight at the end of its path: a broadcast at the tile where it starts waits for room in the replication buffer
there, and spreads (R214); another packet is delivered. -/
def State.arrive (s : State) (f : Flight) : State :=
  match f.bcast with
  | some m =>
    let p := if f.target < 10000 then f.target else s.gatewayTile (f.target - 20000)
    if s.replFlits p + f.pkt.flits ≤ 16 then (s.endFlight f).spread f.agent f.pkt m p (if f.occ = [] then 4 else 5) else s
  | none => s.eject f f.target 4 (f.pkt.vc2 f.ctl)

/-- The source and port code of a link fault at the receiver of buffer `b` (R219, 15 R406): the tile, or the gateway
nearest to the stop (DESIGN CHOICE for a stop that is no gateway, log entry 11). -/
def State.linkSource (s : State) (b : Buf) : Nat × Nat :=
  if b.ring = 2 then
    let near := (List.range 18).findSome? (fun d =>
      match stopGateway ((b.pos + d) % 35) with
      | some g => some g
      | none => stopGateway ((b.pos + 35 - d) % 35))
    (0x600 + near.getD 0, 5)
  else (s.bufTile b, b.port)

/-- A corrected flit at the receiver of buffer `b` (R219). -/
def State.linkCorrected (s : State) (b : Buf) : State :=
  let s1 := if b.ring = 2 then s.inc F.FOX_ES_CNT_CORR 1 b.pos else s.inc F.FOX_RT_CNT_CORR 1 (s.bufTile b)
  let key := if b.ring = 2 then 10000 + 2 * b.pos + b.dir else 8 * s.bufTile b + b.port
  let n := Sparse.get s1.net.corrRun key 0 + 1
  let s2 := { s1 with net := { s1.net with corrRun := Sparse.set natLt s1.net.corrRun key 0 (n % 256) } }
  if n = 256 then s2.report (s.linkSource b).1 0x05 1 (s.linkSource b).2 else s2

/-- The packet whose flits are given. -/
def ofFlits (ws : List Word) : Packet := Packet.ofHeader (ws.headD 0) ws.tail

/-- One flit at a link's receiver: what it holds afterwards, none where it is uncorrectable, and whether it was corrected
(R219). -/
def receive (w : Word) (errs : BitVec 80) : Option Word × Bool :=
  if errs = 0 then (some w, false)
  else match Ecc.decode (Ecc.encode w ^^^ errs) with
    | .clean v => (some v, false)
    | .corrected v _ => (some v, true)
    | .bad => (none, false)

/-- The flits of a packet cross the link into buffer `b`, flit `i` with the bits of `errs[i]` flipped: corrected ones are
counted, and uncorrectable ones wait for their replay, the packet with them (R219).  A gateway port's output is no link. -/
def State.cross (s : State) (f : Flight) (b : Buf) (rest : List Buf) (errs : List (BitVec 80)) : State :=
  if errs.all (· == 0) || !s.bufLive b || (b.ring == 3 && b.dir == 1) then s.moveTo f b rest
  else
    let got := f.pkt.words.zipIdx.map (fun x => (receive x.1 (errs.getD x.2 0), x.1, x.2))
    let s1 := (got.filter (fun x => x.1.2)).foldl (fun s _ => s.linkCorrected b) s
    let g : Flight := { f with
                      pkt := ofFlits (got.map (fun x => x.1.1.getD x.2.1)),
                      replay := (got.filter (fun x => x.1.1.isNone)).map (fun x => (x.2.2, 0)) }
    if g.replay = [] then s1.moveTo g b rest else s1.setFlight g

/-- PACKET_HOP on a flight (R212): the winner of the output that its head needs crosses the link.  A flight that does not
win now changes nothing. -/
def State.hop (s : State) (id : Nat) (errs : List (BitVec 80)) : State :=
  match s.net.flights.find? (fun f => f.id == id) with
  | none => s
  | some f =>
    match f.path with
    | [] => s.arrive f
    | b :: rest =>
      if !s.bufLive b then (if s.mayHop f b then s.moveTo f b rest else s)
      else if s.winner b = some f.id then (s.round b f).cross { f with lost := 0 } b rest errs
      else s

/-- The fourth failed replay of a flit takes the link into buffer `b` down (R219). -/
def State.linkFails (s : State) (b : Buf) : State :=
  let s1 := if b.ring = 2 then { s with net := { s.net with down := (b.pos, b.dir) :: s.net.down } }
    else
      let k := if b.ring = 3 then 4 else b.port
      s.wr F.FOX_RT_STAT_LINK_DOWN (s.rd F.FOX_RT_STAT_LINK_DOWN (s.bufTile b) ||| 2 ^ k) (s.bufTile b)
  s1.report (s.linkSource b).1 0x06 3 (s.linkSource b).2

/-- LINK_REPLAY on a flight: the first flit that waits comes again, with the bits of `errs` flipped; the fourth failure
takes the link down, and the flits wait in place (R219).  A packet whose flits have all come keeps the output that it won
and moves. -/
def State.replayFlit (s : State) (id : Nat) (errs : BitVec 80) : State :=
  match s.net.flights.find? (fun f => f.id == id) with
  | none => s
  | some f =>
    match f.path, f.replay with
    | b :: rest, (i, n) :: more =>
      if n ≥ 4 then s
      else
        let s1 := if b.ring = 2 then s.inc F.FOX_ES_CNT_RETRY 1 b.pos else s.inc F.FOX_RT_CNT_RETRY 1 (s.bufTile b)
        match receive (f.pkt.words.getD i 0) errs with
        | (some w, c) =>
          let s2 := if c then s1.linkCorrected b else s1
          let g := { f with pkt := ofFlits (f.pkt.words.set i w), replay := more }
          if more = [] ∧ s2.mayHop g b then s2.moveTo g b rest else s2.setFlight g
        | (none, _) =>
          let s2 := s1.setFlight { f with replay := (i, n + 1) :: more }
          if n + 1 < 4 then s2 else s2.linkFails b
    | _, _ => s

/-- PACKET_HOP. -/
def execPacketHop (flight : Nat) (errs : List (BitVec 80)) (s : State) : Host.Outcome State Fault Refusal :=
  .next (s.hop flight errs)

/-- LINK_REPLAY. -/
def execLinkReplay (flight : Nat) (errs : BitVec 80) (s : State) : Host.Outcome State Fault Refusal :=
  .next (s.replayFlit flight errs)

end Sys2Proof.Machine
end

