-- ==== Sys2Proof/Machine/Inject.lean ====
section
/-!
DEFINITION. Injection into the Fox network, transaction identifiers, in-flight counters and landing tokens
(07_event_network.md R197, R198, R205, R214, R215, R218, R220, 02_time_and_ordering.md R52, R53, 09_queues.md R249).  A
packet is injected when its injecting interface takes it in whole, which R201 has it do before the packet enters a ring;
what the interface staged before a fence or a quench goes on (DESIGN CHOICE, log entry 41).
-/
namespace Sys2Proof.Machine

/-- The in-flight counter of parity `tag` of a source of counted operations (02 R52, R53). -/
def inflightFld (a tag : Nat) : Fld :=
  if a = agTinder then (if tag % 2 = 1 then F.TND_INFLIGHT_IF_ODD else F.TND_INFLIGHT_IF_EVEN)
  else if tag % 2 = 1 then F.CORE_INFLIGHT_IF_ODD else F.CORE_INFLIGHT_IF_EVEN

/-- The unit that holds an agent's in-flight counters. -/
def inflightUnit (a : Nat) : Nat := if a = agTinder then 0 else a

/-- Whether an agent counts its operations in flight. -/
def countsInflight (a : Nat) : Bool := isCoreAgent a || a == agTinder

/-- An in-flight counter of parity `tag` raised or lowered by `n`. -/
def State.addInflight (s : State) (a tag n : Nat) : State :=
  s.wr (inflightFld a tag) (s.rd (inflightFld a tag) (inflightUnit a) + n) (inflightUnit a)
def State.subInflight (s : State) (a tag n : Nat) : State :=
  s.wr (inflightFld a tag) (s.rd (inflightFld a tag) (inflightUnit a) - n) (inflightUnit a)

/-- The place from which an agent's landing tokens start: its tile, or 2,000 plus its edge-ring stop. -/
def State.placeOf (s : State) (a : Nat) : Nat := if inArray a then s.agentTile a else 2000 + agentStop a

/-- The output by which a token at a place goes on toward agent `a` (R198): X then Y in the array, then the gateway of 01
R19; the shorter direction of the edge ring. -/
def State.tokenOut (s : State) (place a : Nat) : Nat :=
  if place < 1088 then
    let q := if inArray a then s.destTile (tileEngine place) a else s.gatewayTile (outGateway place)
    if tileX q ≠ tileX place then (if (ringWay 34 (tileX place) (tileX q)).1 = 0 then 1 else 3)
    else if tileY q ≠ tileY place then (if (ringWay s.rows (tileY place) (tileY q)).1 = 0 then 2 else 0)
    else if inArray a then 4 else 5
  else (ringWay 35 (place - 2000) (if inArray a then gatewayStop (inGateway a) else agentStop a)).1

/-- A landing token arrives at an output: tokens for one agent and parity that wait there merge, up to 63 (R198). -/
def addToken (ts : List Token) (place out a : Nat) (odd : Bool) : List Token :=
  match ts with
  | [] => [⟨place, out, a, odd, 1⟩]
  | t :: r =>
    if t.place = place ∧ t.out = out ∧ t.agent = a ∧ t.odd = odd ∧ t.count < 63 then { t with count := t.count + 1 } :: r
    else t :: addToken r place out a odd

/-- The occupancy of the fullest token merge buffer of a place; each holds 16 entries, and the upstream sideband holds what
does not fit (R198). -/
def State.mergeOcc (s : State) (place : Nat) : Nat :=
  ((List.range 6).map (fun o => min 16 (s.net.tokens.countP (fun t => t.place == place && t.out == o)))).foldl max 0

/-- A landing token sent back from a place to the source of a counted operation (02 R52, R198). -/
def State.sendToken (s : State) (place a : Nat) (odd : Bool) : State :=
  let s1 := { s with net := { s.net with tokens := addToken s.net.tokens place (s.tokenOut place a) a odd } }
  if place < 1088 then s1.top F.FOX_RT_CNT_TOK_MAX (s1.mergeOcc place) place
  else s1.top F.FOX_ES_CNT_TOK_MAX (s1.mergeOcc place) (place - 2000)

/-- The token of a counted operation on the sideband: of an RACC, and of an operation that enters a Den. -/
def State.tokenFor (s : State) (place : Nat) (k : Packet) : State := s.sendToken place k.src.toNat (bit k.tag.toNat 0)

/-- Tokens of an agent and parity taken out of the sideband, `n` in all. -/
def takeTokens : List Token → Nat → Bool → Nat → List Token
  | [], _, _, _ => []
  | t :: r, a, odd, n =>
    if t.agent = a ∧ t.odd = odd then
      (if t.count ≤ n then takeTokens r a odd (n - t.count) else { t with count := t.count - n } :: r)
    else t :: takeTokens r a odd n

/-- Tokens under way for an agent and parity. -/
def State.tokensFor (s : State) (a : Nat) (odd : Bool) : Nat :=
  ((s.net.tokens.filter (fun t => t.agent == a && t.odd == odd)).map (·.count)).sum

/-- LANDING_TOKEN_ARRIVE (02 R52, R198): one sideband token, of 1 to 63 counts that are under way, reaches its agent; the
token's hops are within this command (DESIGN CHOICE, log entry 42). -/
def State.tokenArrive (s : State) (a : Nat) (odd : Bool) (n : Nat) : State :=
  if n = 0 ∨ n > 63 ∨ s.tokensFor a odd < n then s
  else
    let t := { s with net := { s.net with tokens := takeTokens s.net.tokens a odd n } }
    if countsInflight a then t.subInflight a (b2n odd) n else t

/-- The lowest free TID of an agent (R197; which free one is taken is a DESIGN CHOICE, log entry 12). -/
def State.freeTid (s : State) (a : Nat) : Option Nat :=
  (List.range 16).find? (fun t => !s.net.tids.any (fun x => x.agent == a && x.tid == t))

/-- A packet with its TID filled in. -/
def withTid (k : Packet) (t : Nat) : Packet := { k with pay := BitVec.ofNat 8 (16 * k.hi + t) }

/-- What the injecting interface is handed when a packet is injected: its entry, or a packet of its source. -/
def State.entry (s : State) (k : Packet) : Staged := (s.staged? k).getD ⟨k.src.toNat, k, .plain, false, false⟩

/-- Whether a packet travels on CTL: a request by itself, a response as its request did (R199). -/
def Staged.onCtl (e : Staged) : Bool := if e.pkt.response then e.ctl else e.pkt.onCtl

/-- The gateway of an I/O agent's broadcasts: the enabled one with the fewest stops between; the lower number on a tie
(R214). -/
def State.bcastGateway (s : State) (a : Nat) : Nat :=
  let t := agentStop a
  let dist := fun (g : Nat) => (ringWay 35 t (gatewayStop g)).2
  ((List.range 16).filter (fun g => s.engineOn (g / 2))).foldl (fun b g => if dist g < dist b then g else b) 0

/-- The BCAST_MASK that applies to an agent's broadcasts (R215); an engine agent's is that of its tile (DESIGN CHOICE, log
entry 43). -/
def State.bcastMask (s : State) (a : Nat) : Nat :=
  if inArray a then s.rd F.FOX_RT_CFG_BCAST_MASK (s.agentTile a)
  else s.rd F.FOX_GW_CFG_BCAST_MASK (gatewayStop (s.bcastGateway a))

/-- The number of receivers of a broadcast (R215). -/
def State.receivers (s : State) (mask : Nat) : Nat := 128 * (s.bcastEngines mask).length

/-- Whether an outstanding request is of the same record as an APPEND's packet: the same queue and header but for PIDX, and
an earlier packet (09 R247, R249). -/
def Tid.sameRecord (t : Tid) (k : Packet) : Bool :=
  let h := k.data.headD 0
  t.qid == k.qid && decide (hdrIdx t.push < pushIdx k) &&
    decide (t.push.toNat - hdrIdx t.push * 2 ^ 35 = h.toNat - pushIdx k * 2 ^ 35)

/-- Whether 09 R249 holds an APPEND's packet back.  Packets go in the order in which they are staged, to one queue and, of
records of several packets, to the central engine; and a record waits while an earlier one to its queue, or of records of
several packets another one to the central engine, is outstanding. -/
def State.pushHeld (s : State) (a : Nat) (k : Packet) : Bool :=
  let many := fun (d n : Nat) => d == agDrey && decide (1 < n)
  let mine := many k.dest.toNat (pushCnt k)
  let first := fun (p : Packet → Bool) => match s.net.staging.find? (fun e => e.agent == a && isAppend e.pkt && p e.pkt) with
    | some e => !e.pkt.sameButTid k
    | none => false
  isAppend k &&
    (first (fun p => p.qid == k.qid) || (mine && first (fun p => many p.dest.toNat (pushCnt p))) ||
      s.net.tids.any (fun t => t.agent == a && t.op == 5 && wbits t.push 63 62 == 0 && !t.sameRecord k &&
        (t.qid == k.qid || (mine && many t.dest (hdrCnt t.push)))))

/-- Whether an agent may inject the packet of an entry now: no quench stop (12 R344), no fence (R218), no hold of 09 R249,
and on CTL no other request of its own outstanding to the same target (R197). -/
def State.mayLeave (s : State) (e : Staged) : Bool :=
  let k := e.pkt
  (!s.net.stopped || e.onCtl || k.hostGddr) &&
  (!isCoreAgent e.agent || e.onCtl || e.router || !s.on F.CORE_STAT_FENCED e.agent) && !s.pushHeld e.agent k &&
  !(e.onCtl && !k.response && s.net.tids.any (fun t => t.agent == e.agent && t.ctl && t.dest == k.dest.toNat))

/-- Whether a counted operation's in-flight counter has room for `n` more (02 R53). -/
def State.mayCount (s : State) (a : Nat) (k : Packet) (n : Nat) : Bool :=
  !(k.counted && countsInflight a) ||
    decide (s.rd (inflightFld a k.tag.toNat) (inflightUnit a) + n < 1048576)

/-- Whether an agent's injecting interface has its room for a whole packet on a VC free (R201). -/
def State.stageFree (s : State) (a vc : Nat) : Bool :=
  !s.net.flights.any (fun f => f.agent == a && f.inStage != 0 && f.firstVc == vc)

/-- A packet with a free TID where it is a request that needs one (R197); none while there is no free one. -/
def State.numbered (s : State) (a : Nat) (k : Packet) : Option Packet :=
  if k.nonPosted then (s.freeTid a).map (withTid k) else some k

/-- The entry of a request among the outstanding ones, for `n` responses (R197). -/
def State.track (s : State) (e : Staged) (k : Packet) (n : Nat) : State :=
  if k.nonPosted && n != 0 then
    { s with net := { s.net with
        tids := s.net.tids ++ [Tid.mk e.agent k.tid k.op.toNat k.dest.toNat k.qid (decide (k.dest.toNat = agBroadcast))
          e.onCtl (if isAppend k then k.data.headD 0 else 2 ^ 62) n e.why k.targetAddr] } }
  else s

/-- The bookkeeping of an injection: the count of a core's fan-out packets (03 R90), the in-flight counter and the TID's
entry (02 R52, R197). -/
def State.injected (s : State) (e : Staged) (k : Packet) (n : Nat) : State :=
  let s0 := if k.op = 1 ∧ isCoreAgent e.agent then s.inc F.CORE_SPK_CNT_PKT 1 e.agent else s
  let s1 := if k.counted && countsInflight e.agent then s0.addInflight e.agent k.tag.toNat n else s0
  s1.track e k n

/-- A drop at the injecting router (R220), on its local port.  An edge-ring stop has no local port: a drop there counts in
its port block of direction 0 (DESIGN CHOICE, log entry 44). -/
def State.injectDrop (s : State) (e : Staged) : State :=
  let s1 := s.unstage e.pkt
  let vc := e.pkt.vc1 e.onCtl
  if inArray e.agent then s1.dropAt (s1.agentTile e.agent) 4 vc else s1.inc F.FOX_ES_PV_ERR_DROP_CNT 1 (agentStop e.agent) vc

/-- A request that is not injected: the injecting router answers with NACK NO_AGENT (01 R27, R215), against the request's
TID; it was never counted in flight, so its NACK returns no token. -/
def State.injectNack (s : State) (e : Staged) (k : Packet) : State :=
  ((s.unstage k).track e k 1).deliver e.agent (k.nack rsnNoAgent false)
    (if inArray e.agent then s.agentTile e.agent else 1088) 4 (k.vc1 e.onCtl)

/-- A packet on its route enters the interface's staging; a core's is received on its local port (R201, R221). -/
def State.takeIn (s : State) (e : Staged) (k : Packet) (n : Nat) (r : Route) (bcast : Option Nat) : State :=
  let f : Flight := ⟨0, k, e.agent, e.onCtl, r.path, [], [], r.target, r.side, bcast, none, [], 0⟩
  if !s.stageFree e.agent f.firstVc then s
  else
    let t := (((r.s).unstage k).injected e k n).launch f
    if isCoreAgent e.agent then t.countTile (t.agentTile e.agent) 4 f.firstVc k.flits k else t

/-- The route of a broadcast to the tile from which it spreads (R214). -/
def State.bcastRoute (s : State) (a : Nat) : Route :=
  if inArray a then ⟨[], s.agentTile a, ⟨s.agentTile a, s.agentTile a, 0⟩, s⟩
  else
    let g := s.bcastGateway a
    ⟨s.leg 2 0 0 (agentStop a) (gatewayStop g) ++ [gateIn g 0], 20000 + g, ⟨0, 0, 0⟩, s⟩

/-- PACKET_INJECT (R205, R214, R220): a packet enters its injecting interface, is dropped or refused there, or waits. -/
def State.inject (s : State) (p : Packet) : State :=
  let e := s.entry p
  let a := e.agent
  let d := p.dest.toNat
  if p.reservedOp || (p.op == 15 && !originatesCtl a) then s.injectDrop e
  else if !s.mayLeave e then s
  else match s.numbered a p with
    | none => s
    | some k =>
      if d = agBroadcast then
        (if p.op ≠ 1 ∧ p.op ≠ 2 then (if p.nonPosted then s.injectNack e k else s.unstage p)
        else
          let mask := s.bcastMask a
          let n := s.receivers mask
          if s.mayCount a p n then s.takeIn e k n (s.bcastRoute a) (some mask) else s)
      else if !s.agentOn d then
        (if p.op = 1 then s.injectDrop e else if p.nonPosted then s.injectNack e k else s.unstage p)
      else if s.mayCount a p 1 then s.takeIn e k 1 (s.route a k e.onCtl) none
      else s

/-- PACKET_INJECT. -/
def execPacketInject (pkt : Packet) (s : State) : Host.Outcome State Fault Refusal := .next (s.inject pkt)

/-- LANDING_TOKEN_ARRIVE. -/
def execLandingTokenArrive (agent : BitVec 13) (odd : Bool) (count : Nat) (s : State) :
    Host.Outcome State Fault Refusal := .next (s.tokenArrive agent.toNat odd count)

end Sys2Proof.Machine
end

