-- ==== Sys2Proof/Machine/Clock.lean ====
section
/-!
DEFINITION. The grain counter, the nominal grid and the input windows, SYNC_IN, the fall of RUN_EN, and the Quench tree
(02_time_and_ordering.md R35 to R48 and R481, 12_command_interface.md R344, 06_encoders_decoders_and_actuation.md R182).
A command that comes about at a defined grain brings the grain counter forward to that grain (DESIGN CHOICE, log
entry 13).
-/
namespace Sys2Proof.Machine

/-- Free-run operation: MODE = 1, or a standby's catch-up replay (02 R43, 13 R364). -/
def State.freeRun (s : State) : Bool := s.on F.TIME_CTRL_MODE || s.rd F.PAIR_STAT_PHASE == 2

/-- STEP_LEN, FRAME_STEPS and the stretch budget of R58. -/
def State.stepLen (s : State) : Nat := s.rd F.TIME_STEP_CFG_STEP_LEN
def State.frameSteps (s : State) : Nat := s.rd F.TIME_STEP_CFG_FRAME_STEPS
def State.budget (s : State) : Nat := s.stepLen * s.rd F.TIME_STEP_CFG_STRETCH_PCT / 100

/-- The length of a frame in grains. -/
def State.frameLen (s : State) : Nat := s.stepLen * s.frameSteps

/-- The nominal start of step `n` in locked mode (R39). -/
def State.startOf (s : State) (n : Nat) : Nat := (s.rd F.TIME_ORIGIN_ORIGIN + n * s.stepLen) % 2 ^ 64

/-- The units whose copy of a field is not zero, ascending. -/
def State.unitsOn (s : State) (f : Fld) : List Nat :=
  (s.regs.filter (fun e => e.1.r == f.reg.num && e.1.lo == f.lo && e.1.i == 0 && e.2 != 0)).map (fun e => e.1.u)

/-- The loaded logical cores, and those of them that are not fenced (02 R57, 07 R218). -/
def State.loaded (s : State) : List Nat := (s.unitsOn F.CORE_STAT_LOADED).filter s.coreOn
def State.liveCores (s : State) : List Nat := s.loaded.filter (fun n => !s.on F.CORE_STAT_FENCED n)

/-- The frames without a heartbeat that have passed are counted (13 R367): the first two with SUSPECT and LOST (13 R368), those
after them as they pass. -/
def State.countGaps (s : State) : State :=
  let gone := (max 0 (span s.grain s.pair.timer)).toNat / max 1 s.frameLen
  if s.on F.PAIR_CFG_MIRROR_EN ∧ 3 ≤ s.rd F.PAIR_STAT_SB_STATE ∧ s.pair.gaps < gone then
    { s.inc F.PAIR_CNT0_HB_GAP (gone - s.pair.gaps) with pair := { s.pair with gaps := gone } }
  else s

/-- The state at a later grain: SYNC_OUT has fallen (R38), slewing has consumed one root cycle a grain (R36), a write
of ACT_ARM has taken effect (06 R180), and missing heartbeats are counted.  A low QUENCH_N is high again unless its row comes
anew (DESIGN CHOICE, log entry 27). -/
def State.toGrain (s : State) (g : Nat) : State :=
  let k := (span g s.grain).toNat
  let arm := match s.ash.armNext with | some v => s.wr F.ACT_ARM_ARM v | none => s
  let left : Int := if s.time.slew ≥ 0 then max 0 (s.time.slew - k) else min 0 (s.time.slew + k)
  let t := arm.wr F.TIME_GRAIN_GRAIN g
  State.countGaps { t with
    pins := { s.pins with syncOut := false, quenchN := true }, ash := { s.ash with armNext := none },
    time := { s.time with slew := left } }

/-- The state brought forward to grain `g`, if it has not reached it. -/
def State.advance (s : State) (g : Nat) : State := if reached s.grain g then s else s.toGrain (g % 2 ^ 64)

/-- Root cycles of the whole grain scale. -/
def rootScale : Nat := 2 ^ 64 * 3200

/-- The signed distance from root position `b` to root position `a`. -/
def rootSpan (a b : Nat) : Int :=
  let d := (a % rootScale + rootScale - b % rootScale) % rootScale
  if d < rootScale / 2 then (d : Int) else (d : Int) - rootScale

/-- The spacing of expected edges in root cycles. -/
def State.syncStep (s : State) : Nat := s.rd F.TIME_SYNC_CFG_SYNC_PERIOD * 3200

/-- A first stamped edge at root position `p` (R36): it measures nothing. -/
def State.syncFirst (s : State) (p : Nat) : State :=
  let t := (s.wr F.TIME_SYNC_STAT_PHASE_ERR 0).wr F.TIME_SYNC_STAT_LOCKED 0
  { t with time := { t.time with syncKnown := true, syncExpect := (p + s.syncStep) % rootScale } }

/-- A measured edge at root position `p`: within MAX_ERR it sets or clears LOCKED and, in slew mode, starts a
correction; beyond, it sets LOSS and the grid starts anew from it (R36, R37). -/
def State.syncMeasure (s : State) (p : Nat) : State :=
  let e := rootSpan p s.time.syncExpect
  let t := s.wr F.TIME_SYNC_STAT_PHASE_ERR (uns 16 (max (-32767) (min 32767 e)))
  if e.natAbs > s.rd F.TIME_SYNC_CFG_MAX_ERR * 3200 then
    let u := (t.wr F.TIME_SYNC_STAT_LOSS 1).wr F.TIME_SYNC_STAT_LOCKED 0
    { u with time := { u.time with syncExpect := (p + s.syncStep) % rootScale } }
  else
    let u := t.wrB F.TIME_SYNC_STAT_LOCKED (decide (e.natAbs ≤ 32))
    { u with time := { u.time with
        syncExpect := (s.time.syncExpect + s.syncStep) % rootScale
        slew := if s.rd F.TIME_CTRL_SYNC_MODE = 3 then e else u.time.slew } }

/-- SYNC_IN_EDGE (R36): a rising edge `pos` root cycles into the current grain. -/
def State.syncEdge (s : State) (pos : Nat) : State :=
  let p := s.grain * 3200 + pos % 3200
  if s.rd F.TIME_CTRL_SYNC_MODE = 0 then s
  else
    let t := s.inc F.TIME_SYNC_STAT_EDGE_CNT
    if s.time.syncArmed && !s.running then
      let load := s.rd F.TIME_SYNC_LOAD_LOAD
      let u := t.wr F.TIME_GRAIN_GRAIN load
      let v := { u with time := { u.time with syncArmed := false } }
      v.syncFirst ((load * 3200 + rootScale - (3200 - pos % 3200)) % rootScale)
    else if !s.time.syncKnown then t.syncFirst p
    else t.syncMeasure p

/-- The grain MAX_ERR grains after the expected position, by which an edge is missing (R37). -/
def State.syncLimit (s : State) : Nat :=
  (ceilDiv s.time.syncExpect 3200 + s.rd F.TIME_SYNC_CFG_MAX_ERR) % 2 ^ 64

/-- SYNC_EDGE_MISSING (R37): the grid of expected edges is kept. -/
def State.syncMissing (s : State) : State :=
  if s.rd F.TIME_CTRL_SYNC_MODE = 0 ∨ !s.time.syncKnown then s
  else
    let t := ((s.advance s.syncLimit).wr F.TIME_SYNC_STAT_LOSS 1).wr F.TIME_SYNC_STAT_LOCKED 0
    { t with time := { t.time with syncExpect := (s.time.syncExpect + s.syncStep) % rootScale } }

/-- What a write of TIME_CTRL.SYNC_MODE from `old` does beside the field: Load is armed when it is selected, and the first
stamped edge is awaited when the mode leaves 0 (R36).  A correction that slewing has not consumed goes on when the mode leaves
3 (DESIGN CHOICE, log entry 48). -/
def State.syncSelected (s : State) (old : Nat) : State :=
  let m := s.rd F.TIME_CTRL_SYNC_MODE
  if m = old then s
  else { s with time := { s.time with
      syncArmed := m == 2, syncKnown := s.time.syncKnown && old != 0 && m != 0 } }

/-- The step whose input window contains a stamp, in locked mode: window n opens IN_GUARD grains before step n's nominal
start (R47). -/
def State.gridStep (s : State) (stamp : Nat) : Int :=
  span (stamp + s.rd F.TIME_STEP_CFG_IN_GUARD) (s.rd F.TIME_ORIGIN_ORIGIN) / (s.stepLen : Int)

/-- The first step whose input window has not closed, counted from step 0 (R47, R481). -/
def State.openStep (s : State) : Nat := s.time.winClosed

/-- In free-run mode, the step whose input window is open at a stamp, else the next step to begin after it (R481).  A window
that opens and closes in one grain is open in that grain (DEDUCED, log entry 47). -/
def State.windowAt (s : State) (stamp : Nat) : Nat :=
  match s.tinder.wins.find? (fun w => reached stamp w.2.1 && w.2.2.all (fun c => reached c stamp)) with
  | some w => w.1
  | none => match s.tinder.wins.find? (fun w => !reached stamp w.2.1) with
    | some w => w.1
    | none => s.time.winClosed

/-- The step of a stamped input (R47, R481): by the grid in locked mode; in free-run mode by the windows; for a standby that
catches up, the step that it replays. -/
def State.stepOf (s : State) (stamp : Nat) : Int :=
  if s.on F.TIME_CTRL_MODE then s.windowAt stamp
  else if s.rd F.PAIR_STAT_PHASE = 2 then s.time.winClosed else s.gridStep stamp

/-- The grain at which the input window of step `n` opens, and the first grain after it (R47). -/
def State.winStart (s : State) (n : Nat) : Nat :=
  (s.startOf n + 2 ^ 64 - s.rd F.TIME_STEP_CFG_IN_GUARD) % 2 ^ 64

/-- Every ACT line low, and no assert grain or pulse to come (06 R182). -/
def State.actLow (s : State) : State :=
  let t := s.wr F.ACT_STAT_LEVEL 0
  { t with ash := { t.ash with actDue := [], pulseEnd := [] } }

/-- RUN_EN falls: no step is open and no tick follows (12 R333, R344, 06 R182). -/
def State.runFall (s : State) : State :=
  let t := (s.wr F.CHIP_CTRL_RUN_EN 0).actLow
  { t with time := { t.time with phase := .off, stop := .none }, tinder := { t.tinder with winOpen := false } }

/-- The number of the step updated last, all ones where none has been (12 R333 DISABLE). -/
def State.lastStep (s : State) : Nat :=
  match s.time.phase with
  | .off | .armed => 2 ^ 64 - 1
  | .between | .away => (s.step + 2 ^ 64 - 1) % 2 ^ 64
  | _ => s.step


/-- SYNC_IN_EDGE. -/
def execSyncInEdge (pos : Nat) (s : State) : Host.Outcome State Fault Refusal := .next (s.syncEdge pos)

/-- SYNC_EDGE_MISSING. -/
def execSyncEdgeMissing (s : State) : Host.Outcome State Fault Refusal := .next s.syncMissing

end Sys2Proof.Machine
end

