-- ==== Sys2Proof/Machine/Tx.lean ====
section
/-!
DEFINITION. The CSI-2 TX ports: block buffers, frame packets, relays, and the loss of a port's PLL
(11_csi2_ports.md R309 to R313, 16_power_clocks_thermal.md R444).
-/
namespace Sys2Proof.Machine

/-- A TX port's own record. -/
def State.txp (s : State) (p : Nat) : TxSt := Sparse.get s.tx p TxSt.fresh

/-- The state with a TX port's record changed. -/
def State.onTx (s : State) (p : Nat) (f : TxSt → TxSt) : State :=
  { s with tx := Sparse.set natLt s.tx p TxSt.fresh (f (s.txp p)) }

/-- Lanes of a lane field: 1, 2 or 4; the reserved code gives none. -/
def lanesOf (f : Nat) : Nat := match f with | 0 => 1 | 1 => 2 | 2 => 4 | _ => 0

/-- Whether an enabled-by-fuse port can send (R309). -/
def State.txReady (s : State) (p : Nat) : Bool :=
  s.txOn p && s.on F.CSITX_PORT_CFG_EN p && decide (8 ≤ s.rd F.CSITX_PORT_CFG_RATE p) &&
    decide (s.rd F.CSITX_PORT_CFG_RATE p ≤ 450) && decide (s.rd F.CSITX_PORT_CFG_LANES p ≠ 3)

/-- Whether a port's PLL runs and holds its lock (16 R444); in DEEP it does not run (16 R438, R440). -/
def State.txLocked (s : State) (p : Nat) : Bool := bit (s.rd F.CLK_STAT_TX_LOCK) p && s.rd F.KILN_STAT_STATE != 3

/-- Payload bytes in a block buffer. -/
def TxSt.used (t : TxSt) : Nat := (t.blocks.map (fun b => b.payload.length)).sum

/-- Whether a block of `len` payload bytes fits the 64 KiB block buffer now (R309). -/
def State.txFits (s : State) (p len : Nat) : Bool := decide ((s.txp p).used + len ≤ 65536)

/-- Whether a port takes a result block of `len` bytes (R309, 16 R444). -/
def State.txTakes (s : State) (p len : Nat) : Bool := s.txReady p && s.txLocked p && s.txFits p len

/-- Whether Gwynell, not Collier, sends a class's blocks. -/
def TxClass.gwynell (c : TxClass) : Bool := c == .mirror

/-- Whether the sender of a class waits for space: a block of its own is waiting, so it sends none ahead of it (R309). -/
def TxSt.waits (t : TxSt) (c : TxClass) : Bool := t.wait.any (fun b => b.cls.gwynell == c.gwynell)

/-- A block addressed to a port: taken, kept waiting at Gwynell or Collier, or discarded (R309, 16 R444). -/
def State.emitBlock (s : State) (p vc dt : Nat) (payload : List Byte) (cls : TxClass) : State :=
  if !s.txOn p then s
  else if !s.txReady p then s.inc F.CSITX_DROP_CNT_BLK_DROP 1 p
  else if cls = .result then
    (if s.txLocked p && s.txFits p payload.length then
      s.onTx p (fun t => { t with blocks := t.blocks ++ [⟨cls, vc, dt, payload⟩] })
    else s.inc F.CSITX_DROP_CNT_BLK_DROP 1 p)
  else if s.txLocked p && s.txFits p payload.length && !(s.txp p).waits cls then
    s.onTx p (fun t => { t with blocks := t.blocks ++ [⟨cls, vc, dt, payload⟩] })
  else s.onTx p (fun t => { t with wait := t.wait ++ [⟨cls, vc, dt, payload⟩] })

/-- A waiting block enters the block buffer if it fits and no earlier one of its sender waits (R309). -/
def TxSt.letIn (t : TxSt) (b : TxBlk) : TxSt :=
  if t.used + b.payload.length ≤ 65536 && !t.waits b.cls then { t with blocks := t.blocks ++ [b] }
  else { t with wait := t.wait ++ [b] }

/-- The waiting blocks of each sender enter the block buffer in order, as far as they fit. -/
def TxSt.enqueue (t : TxSt) : TxSt := t.wait.foldl TxSt.letIn { t with wait := [] }

/-- The frame number of the current frame (R310). -/
def State.frameNumber (s : State) : Nat := s.frame % 65535 + 1

/-- Bytes that must be buffered before a relayed packet may start (R312). -/
def State.relayThr (s : State) (p : Nat) : Nat := 16 * s.rd F.CSITX_PORT_CFG_RELAY_THR p

/-- The relayed packet that may start now: whole, or long enough for the threshold to be reached while it arrives. -/
def State.relayReady (s : State) (p : Nat) : Option RelayPkt :=
  match (s.txp p).relay with
  | [] => none
  | r :: _ => if r.whole || decide (s.relayThr p ≤ r.wc) then some r else none

/-- The first block of a class. -/
def TxSt.blockOf (t : TxSt) (c : TxClass) : Option TxBlk := t.blocks.find? (fun b => b.cls == c)

/-- The block that a port takes next: mirror, reply, result, load; after a quench replies alone (R309, 12 R344). -/
def State.nextBlock (s : State) (p : Nat) : Option TxBlk :=
  let t := s.txp p
  if s.net.stopped then t.blockOf .reply
  else [TxClass.mirror, .reply, .result, .load].findSome? t.blockOf

/-- The packets by which a block is sent: alone in an open frame, behind a Frame Start where its VC carries none yet, or
between its own frame packets while RUN_EN = 0 (R310). -/
def State.blockPackets (s : State) (p : Nat) (b : TxBlk) : List TxOut :=
  let k := TxOut.long b.vc b.dt b.payload b.cls
  if !s.running then [.frameStart b.vc 0, k, .frameEnd b.vc 0]
  else if ((s.txp p).frames.lookup b.vc).isSome then [k]
  else [.frameStart b.vc s.frameNumber, k]

/-- Drop the first block equal to `b`. -/
def TxSt.without (t : TxSt) (b : TxBlk) : TxSt := { t with blocks := dropFirst (fun x => x == b) t.blocks }

/-- A packet goes onto the lanes: its counts (R314, 16 R429). -/
def State.txCount (s : State) (p : Nat) (o : TxOut) : State :=
  let s1 := s.inc F.CSITX_PKT_CNT_PKTS 1 p
  match o with
  | .long _ _ pl _ => (s1.inc F.CSITX_BYTE_CNT_BYTES pl.length p).act 8 1 pl.length
  | .relayed _ _ dt wc _ _ _ =>
    let n := if dt < 16 then 0 else wc
    ((s1.inc F.CSITX_PKT_CNT_RELAY_PKTS 1 p).inc F.CSITX_BYTE_CNT_BYTES n p).act 8 1 n
  | _ => s1

/-- The packets `os` are committed: the first goes onto the lanes, the rest follow it. -/
def State.txSend (s : State) (p : Nat) (os : List TxOut) : State :=
  match os with
  | [] => s.onTx p (fun t => { t with cur := none })
  | o :: rest => (s.txCount p o).onTx p (fun t => { t with cur := some o, next := rest })

/-- Whether the packet on the lanes cannot end yet: a relayed packet that is still being received. -/
def TxSt.held (t : TxSt) : Bool :=
  match t.cur with
  | some (.relayed _ _ _ _ _ whole _) => !whole
  | _ => false

/-- The relayed packet `r` goes onto the lanes. -/
def State.txRelay (s : State) (p : Nat) (r : RelayPkt) : State :=
  (s.onTx p (fun t => { t with relay := t.relay.drop 1 })).txSend p
    [.relayed r.rxPort r.vc r.dt r.wc r.payload r.whole r.crcOk]

/-- The block `b` goes onto the lanes, with the frame that it opens (R310). -/
def State.txBlock (s : State) (p : Nat) (b : TxBlk) : State :=
  let os := s.blockPackets p b
  let open' := s.running && ((s.txp p).frames.lookup b.vc).isNone
  let n := s.frameNumber
  (s.onTx p (fun t => TxSt.enqueue { t.without b with frames := if open' then t.frames ++ [(b.vc, n)] else t.frames })).txSend p os

/-- TX_PACKET_START (R309): the packet in progress ends and the next one starts. -/
def State.txStart (s : State) (p : Nat) : State :=
  let s0 := s.onTx p TxSt.enqueue
  let t := s0.txp p
  if !s0.txReady p || !s0.txLocked p || t.held then s
  else match t.next with
    | o :: rest => s0.txSend p (o :: rest)
    | [] => match s0.relayReady p with
      | some r => s0.txRelay p r
      | none => match s0.nextBlock p with
        | some b => s0.txBlock p b
        | none => s0.txSend p []

/-- RELAY_START (R312): the packet in progress ends and a relayed packet starts; where none may, nothing changes. -/
def State.relayStart (s : State) (p : Nat) : State :=
  let t := s.txp p
  if !s.txReady p || !s.txLocked p || t.held || t.next ≠ [] then s
  else match s.relayReady p with
    | some r => s.txRelay p r
    | none => s

/-- The frame packets at a frame boundary: on each VC that carries blocks the end of the old frame and the start of the
new one (R310). -/
def State.txFrame (s : State) (p : Nat) : State :=
  if !s.txReady p then s
  else
    let n := s.frameNumber
    s.onTx p (fun t => { t with
      next := t.next ++ t.frames.flatMap (fun f => [.frameEnd f.1 f.2, .frameStart f.1 n])
      frames := t.frames.map (fun f => (f.1, n)) })

/-- The frame packets when RUN_EN falls: the end of the last frame on each VC (R310). -/
def State.txRunFall (s : State) (p : Nat) : State :=
  s.onTx p (fun t => { t with next := t.next ++ t.frames.map (fun f => .frameEnd f.1 f.2), frames := [] })

/-- A block that a quench holds back: one that is no reply (12 R344). -/
def TxOut.heldBlock (o : TxOut) : Option TxBlk :=
  match o with
  | .long vc dt pl cls => if cls = .reply then none else some ⟨cls, vc, dt, pl⟩
  | _ => none

/-- A quench at a TX port (12 R344): the packet in progress goes on, and blocks that were to follow it, other than replies,
go back to the block buffer; the frames that are open end with RUN_EN (R310; DEDUCED, log entry 53). -/
def State.txQuench (s : State) (p : Nat) : State :=
  (s.onTx p (fun t => { t with
    next := t.next.filter (fun o => o.heldBlock.isNone), blocks := t.next.filterMap TxOut.heldBlock ++ t.blocks })).txRunFall p

/-- The ports of the variant. -/
def State.txPorts (s : State) : List Nat := (List.range 4).filter s.txOn

/-- Frame packets on every port. -/
def State.txFrames (s : State) : State := s.txPorts.foldl (fun s p => s.txFrame p) s
def State.txRunFalls (s : State) : State := s.txPorts.foldl (fun s p => s.txRunFall p) s
def State.txQuenches (s : State) : State := s.txPorts.foldl (fun s p => s.txQuench p) s

/-- TX_PACKET_START. -/
def execTxPacketStart (port : Nat) (s : State) : Host.Outcome State Fault Refusal := .next (s.txStart port)

/-- RELAY_START. -/
def execRelayStart (port : Nat) (s : State) : Host.Outcome State Fault Refusal := .next (s.relayStart port)

/-- TX_PLL_LOCK_LOSS (16 R444): the port holds LP-11, so the packet on its lanes is cut off. -/
def execTxPllLockLoss (port : Nat) (s : State) : Host.Outcome State Fault Refusal :=
  if s.txOn port then
    .next ((s.wr F.CLK_STAT_TX_LOCK (putBits (s.rd F.CLK_STAT_TX_LOCK) port port 0)).onTx port
      (fun t => { t with cur := none }))
  else .next s

/-- TX_PLL_RELOCK (16 R444). -/
def execTxPllRelock (port : Nat) (s : State) : Host.Outcome State Fault Refusal :=
  if s.txOn port then
    .next ((s.wr F.CLK_STAT_TX_LOCK (putBits (s.rd F.CLK_STAT_TX_LOCK) port port 1)).onTx port TxSt.enqueue)
  else .next s

end Sys2Proof.Machine
end

