-- ==== Sys2Proof/Machine/Mirror.lean ====
section
/-!
DEFINITION. What the model's work leaves for Gwynell: the journal and the overload log
(13_redundant_pair.md R349, R362 and R365).
-/
namespace Sys2Proof.Machine

/-- Mirroring is on. -/
def State.mirroring (s : State) : Bool := s.on F.PAIR_CFG_MIRROR_EN

/-- The device behaves as a standby: by its role, or because it is fenced (13 R368). -/
def State.standby (s : State) : Bool := s.on F.PAIR_STAT_ROLE || s.on F.PAIR_STAT_FENCED

/-- Fault source of Gwynell (13). -/
def srcGwynell : Nat := 0x750

/-- An entry for the journal (R362); at the end of the area journalling stops (R365). -/
def State.journalPut (s : State) (e : JEntry) : State :=
  if !s.mirroring || !s.running || s.on F.PAIR_STAT_JOURNAL_FULL then s
  else
    let j := s.pair.journal ++ [e]
    if Config.journalFull (s.rd F.PAIR_CKPT_CFG_SIZE) j.length then
      (s.wr F.PAIR_STAT_JOURNAL_FULL 1).report srcGwynell 0x50 2 4
    else { s with pair := { s.pair with journal := j } }

/-- An entry has made a step unreplayable (R362). -/
def State.noReplay (s : State) : State :=
  let t := (s.inc F.PAIR_CNT1_OVL_OVF).report srcGwynell 0x50 2 3
  { t with pair := { t.pair with unreplayable := true } }

/-- The primary's overload log takes an entry that landed `late` steps after its tag (R362).  One that landed more than 15
steps late is logged with the others, so that the standby sees it (DEDUCED, log entry 55). -/
def State.overload (s : State) (e : Overload) (late : Nat) : State :=
  if !s.mirroring || !s.running || s.standby then s
  else if s.pair.overload.length ≥ 4096 then s.noReplay
  else
    let u := if late > 15 then s.noReplay else s
    let t := u.journalPut (.overload s.step e)
    { t with pair := { t.pair with overload := t.pair.overload ++ [e] } }

/-- Mirroring is turned on or off (13 R368, R371): on, SOLO becomes PAIRED and the heartbeat timer starts; off, the journal
is emptied and the state is SOLO. -/
def State.mirrorSet (s : State) (b : Bool) : State :=
  let t := s.wrB F.PAIR_CFG_MIRROR_EN b
  if b = s.mirroring then t
  else if b then
    let u := if s.rd F.PAIR_STAT_SB_STATE = 0 then t.wr F.PAIR_STAT_SB_STATE 1 else t
    { u with pair := { u.pair with timer := s.grain, gaps := 0 } }
  else
    let u := if s.rd F.PAIR_STAT_SB_STATE = 5 then t else t.wr F.PAIR_STAT_SB_STATE 0
    { u.wr F.PAIR_STAT_JOURNAL_FULL 0 with pair := { u.pair with journal := [] } }

/-- An overload entry about a counted operation (R362). -/
def overloadOf (kind : Nat) (discarded : Bool) (target step : Nat) (k : Packet) : Overload :=
  ⟨kind, discarded, target, k.src.toNat, k.arg.toNat, k.tag.toNat, k.pay.toNat, step % 2 ^ 32⟩

/-- Steps by which an operation with a tag is late for landing step `n` (02 R54). -/
def lateFor (n tag : Nat) : Nat := (n + 64 - tag % 64) % 64

/-- Low 32 bits of the step that a tag names, for an operation that is handled in step `step`: one of the 16 steps to come, or
one that has passed (02 R54). -/
def opStep (step tag : Nat) : Nat :=
  let d := lateFor tag step
  (if 1 ≤ d ∧ d ≤ 16 then step + d else step + 1 + 2 ^ 32 - lateFor (step + 1) tag) % 2 ^ 32

/-- The landing step of an overload entry, in tags: Ash counts a spike in the window of the step before its tag's. -/
def Overload.landing (e : Overload) : Nat := if e.kind = 6 then e.step + 1 else e.step

/-- Steps after its tag at which an entry landed, for the kinds that name an operation that came late (R362). -/
def Overload.lateBy (e : Overload) : Nat :=
  if e.kind = 1 ∨ e.kind = 2 ∨ e.kind = 6 then lateFor e.landing e.tag else 0

/-- Low 32 bits of the step that an entry's tag names: for a Den overflow a later step than the one it landed for (03 R93). -/
def Overload.tagStep (e : Overload) : Nat :=
  (if e.kind = 3 then e.step + lateFor e.tag e.step else e.landing + 2 ^ 32 - lateFor e.landing e.tag) % 2 ^ 32

/-- Whether an overload entry is that of a counted operation at a target, handled in step `step` (R364). -/
def JEntry.matchesOp (target step : Nat) (k : Packet) (j : JEntry) : Option Overload :=
  match j with
  | .overload _ e =>
    if (e.kind = 1 ∨ e.kind = 2 ∨ e.kind = 3 ∨ e.kind = 6) ∧ e.target = target ∧ e.source = k.src.toNat ∧
        e.axon = k.arg.toNat ∧ e.tag = k.tag.toNat ∧ e.pay = k.pay.toNat ∧ e.tagStep = opStep step e.tag then some e else none
  | _ => none

/-- The overload entry that a replay has for an operation at core or agent `n` (R364), and the state without it. -/
def State.replayed (s : State) (n : Nat) (k : Packet) : Option Overload :=
  if s.rd F.PAIR_STAT_PHASE = 2 then s.pair.replay.findSome? (JEntry.matchesOp n s.step k) else none
def State.replayUsed (s : State) (n : Nat) (k : Packet) : State :=
  { s with pair := { s.pair with
      replay := dropFirst (fun j => (JEntry.matchesOp n s.step k j).isSome) s.pair.replay } }

/-- Whether a replay abandons in this step what an entry of a kind names by target, source and axon: a Cordwood run or word
(R364). -/
def State.abandoned (s : State) (kind target source axon : Nat) : Bool :=
  s.rd F.PAIR_STAT_PHASE == 2 && s.pair.replay.any (fun j => match j with
    | .overload _ e => e.kind == kind && e.target == target && e.source == source && e.axon == axon &&
        e.step == s.step % 2 ^ 32
    | _ => false)

/-- The step for which a replay takes an input: for a sample of a set with an entry of kind 7 that entry's step, or none where
the set is discarded (R364). -/
def State.replayStep (s : State) (e : Input) : Option Nat :=
  match (if e.set then s.pair.replay.findSome? (fun j => match j with
      | .overload n o => if o.kind = 7 ∧ o.target = e.ord ∧ o.step = e.param.toNat % 2 ^ 32 then some (n, o.discarded) else none
      | _ => none) else none) with
  | some (n, gone) => if gone then none else some n
  | none => some e.step

/-- Whether a journal entry is an input for step `n` or an earlier one. -/
def State.dueBy (s : State) (n : Nat) : JEntry → Bool
  | .taken e => decide ((s.replayStep e).getD e.step ≤ n)
  | _ => false

/-- A journal entry as the input that a replay takes. -/
def State.replayInput (s : State) : JEntry → Option Input
  | .taken e => (s.replayStep e).map (fun n => { e with step := n })
  | _ => none

end Sys2Proof.Machine
end

