-- ==== Sys2Proof/Machine/Cost.lean ====
section
/-!
DEFINITION. The cycles of synapse-engine operations (04_synapses_and_arithmetic.md R112), the rate of a core's clock
(16_power_clocks_thermal.md R423), and the counting of shed and late operations at a core (02_time_and_ordering.md R62).
-/
namespace Sys2Proof.Machine

/-- One more operation shed, or carried late, at core `n`: its register and its share of the frame's total (02 R61,
R62). -/
def State.shedAt (s : State) (n : Nat) : State :=
  (s.inc F.CORE_OVL_CNT_SHED_CNT 1 n).onCore n (fun c => { c with shedFrame := c.shedFrame + 1 })
def State.lateAt (s : State) (n : Nat) : State :=
  (s.inc F.CORE_OVL_CNT_LATE_CNT 1 n).onCore n (fun c => { c with lateFrame := c.lateFrame + 1 })

/-- Aligned groups of `g` words that `len` words from word `w` on touch. -/
def touchedBy (g w len : Nat) : Nat := if len = 0 then 0 else (w + len - 1) / g - w / g + 1

/-- The target slot of entry `k` of a sparse row. -/
def State.sparseSlot (s : State) (n : Nat) (d : RowDesc) (k : Nat) : Option Nat :=
  ((Port.start s n).sparseEntry d k).1.map (fun e => d.tbase + bits e 11 0)

/-- Entries of a sparse row whose slot stands already in their group of 21. -/
def State.sparseRepeats (s : State) (n : Nat) (d : RowDesc) : Nat :=
  ((List.range d.len).filter (fun k =>
    match s.sparseSlot n d k with
    | some j => (List.range (k % 21)).any (fun i => s.sparseSlot n d (k / 21 * 21 + i) == some j)
    | none => false)).length

/-- The cycles of an operation with activation not zero on a row (R112). -/
def State.rowCycles (s : State) (n : Nat) (d : RowDesc) : Nat :=
  if d.len = 0 then 1
  else if d.fmt = 1 then 1 + ceilDiv d.len 21 + s.sparseRepeats n d
  else 1 + touchedBy (if d.wfmt = 4 then 4 else 8) (s.rowWord n d 0) d.words

/-- The cycles of an operation on axon `x` whose activation `act` forms from the row's PAY field (R112). -/
def State.opCycles (s : State) (n x : Nat) (act : Nat → Int) : Nat :=
  if x ≥ s.rd F.SYN_AXON_CFG_AXON_COUNT n then 1
  else match s.sramPeek n (s.axonWord n x) with
    | none => 1
    | some w =>
      let d := RowDesc.ofWord w
      if !d.usable || act d.pay == 0 then 1 else s.rowCycles n d

/-- The cycles of a Cordwood word at core `n` (R112, R114). -/
def State.cordCycles (s : State) (n : Nat) (c : CordWord) : Nat :=
  let base := s.rd F.SYN_CORD_CFG_BASE n
  match s.rd F.SYN_CORD_CFG_MODE n with
  | 1 => ((List.range 8).map (fun k => s.opCycles n (base + 8 * c.m + k) (fun f => activation f (octet c.word k)))).sum
  | 2 => ((List.range 16).map (fun k => s.opCycles n (base + 16 * c.m + k)
      (fun f => activation4 f (wbits c.word (4 * k + 3) (4 * k))))).sum
  | _ => 1

/-- Whether the cores of engine `e` run on ARITH boost (16 R422, R427). -/
def State.boosted (s : State) (e : Nat) : Bool := bit (s.rd F.KILN_STAT_BOOST) e

/-- The fused and the live speed bin of tile `p` (16 R424). -/
def State.fusedBin (s : State) (p : Nat) : Nat := (s.fuse.bins.lookup p).getD 8
def State.liveBin (s : State) (p : Nat) : Nat := (s.kiln.live.lookup p).getD (s.fusedBin p)

/-- B of 16 R423: the chip floor bin in fixed-frequency mode, once it is known, else 8. -/
def State.binTerm (s : State) : Nat :=
  if s.on F.KILN_CTRL_MODE || !s.on F.KILN_STAT_FLOOR then 8 else s.rd F.KILN_STAT_FLOOR

/-- The ratio r of the core clock of tile `p` (16 R423). -/
def State.coreRatio (s : State) (p : Nat) : Nat := max 1 (min s.binTerm (min (s.liveBin p) (s.rd F.KILN_STAT_T)))

/-- The pulses of 16 that the core passes: twice the ratio, or, as every second remaining pulse is swallowed while the engine's
droop response is active, the ratio itself (16 R423, R434). -/
def State.pulses (s : State) (p : Nat) : Nat :=
  (if s.kiln.droop.contains (tileEngine p) then 1 else 2) * s.coreRatio p

/-- The clock of the core on tile `p` in a unit of which a fabric cycle and a core cycle take whole numbers: the fabric runs at
640 MHz, the core at the passed share of 320 MHz, or of 400 MHz boosted (16 R421 to R423). -/
def State.clockUnit (s : State) (p : Nat) : Nat × Nat :=
  (5 * s.pulses p, if s.boosted (tileEngine p) then 128 else 160)

/-- `k` cycles of the core on tile `p` in fabric cycles, rounded up. -/
def State.coreFabric (s : State) (p k : Nat) : Nat := ceilDiv (k * (s.clockUnit p).2) (s.clockUnit p).1

end Sys2Proof.Machine
end

