-- ==== Sys2Proof/Machine/Cord.lean ====
section
/-!
DEFINITION. The Cordwood plane (08_scheduled_plane.md): slot tables, a run of the table over the mesh, readiness and miss
cords, the compute ports, and the loading of tables by broadcast.
-/
namespace Sys2Proof.Machine

/-- A lane field of a slot-table entry (R225). -/
structure LaneField where
  a : Nat
  b : Nat
  op : Nat
  out : Nat
  rsv : Nat
  deriving DecidableEq, Repr

/-- Lane field `l` of an entry (R225). -/
def laneField (entry l : Nat) : LaneField :=
  let f := bits entry (16 * l + 15) (16 * l)
  ⟨bits f 15 13, bits f 12 10, bits f 9 7, bits f 6 2, bits f 1 0⟩

/-- Whether a field drives its output toward N, E, S or W (1 to 4), or its compute port (5). -/
def LaneField.drives (f : LaneField) (dir : Nat) : Bool := bit f.out (5 - dir)

/-- The operation of a lane field on one 32-bit half (R226). -/
def laneHalf (op a b : Nat) : Nat :=
  match op with
  | 2 => uns 32 (satS 32 (sgn 32 a + sgn 32 b))
  | 3 => uns 32 (max (sgn 32 a) (sgn 32 b))
  | _ => (a + b) % 2 ^ 32

/-- The result r of a lane field (R226). -/
def laneOp (op : Nat) (a b : Word) : Word :=
  match op with
  | 0 => a
  | 4 => BitVec.ofNat 64 (((List.range 4).map (fun k => (quarter a k + quarter b k) % 65536 * 2 ^ (16 * k))).sum)
  | o => BitVec.ofNat 64 (laneHalf o (half a 0) (half b 0) + laneHalf o (half a 1) (half b 1) * 2 ^ 32)

/-- Whether tile `p`'s column is in bypass (R239). -/
def State.bypassed (s : State) (p : Nat) : Bool := bit (s.rd F.CORD_BYPASS_BYPASS (tileEngine p)) (tileX p % 17)

/-- Whether a tile's engine is enabled. -/
def State.tileOn (s : State) (p : Nat) : Bool := decide (p < 1088) && s.engineOn (tileEngine p)

/-- The first tile not in bypass that lies in a row beyond tile `p`, to the east or to the west (R239). -/
def State.rowNeighbour (s : State) (east : Bool) (p : Nat) : Nat → Option Nat
  | 0 => none
  | fuel + 1 =>
    if (if east then tileX p = 33 else tileX p = 0) then none
    else
      let q := if east then p + 1 else p - 1
      if !s.tileOn q then none
      else if s.bypassed q then s.rowNeighbour east q fuel
      else some q

/-- The Cordwood neighbour of tile `p` toward N, E, S or W (1 to 4); the plane has no wraparound link (R223, R239). -/
def State.cordNeighbour (s : State) (p dir : Nat) : Option Nat :=
  match dir with
  | 1 => if tileY p = 0 ∨ !s.tileOn (p - 34) then none else some (p - 34)
  | 2 => s.rowNeighbour true p 34
  | 3 => if s.tileOn (p + 34) then some (p + 34) else none
  | 4 => s.rowNeighbour false p 34
  | _ => none

/-- The input at which a word sent toward `dir` comes in. -/
def facing (dir : Nat) : Nat := match dir with | 1 => 3 | 2 => 4 | 3 => 1 | _ => 2

/-- The slots that a link takes (R227). -/
def State.linkSlots (s : State) (p q : Nat) : Nat :=
  if tileEngine p = tileEngine q then 1 else if s.on F.CORD_CTRL_REGION then 5 else 3

/-- A word on a link: the slot in which it arrives, the tile and input it arrives at, its lane, and its ERR bit. -/
structure Wire where
  slot : Nat
  tile : Nat
  input : Nat
  lane : Nat
  word : Word
  err : Bool
  deriving DecidableEq, Repr

/-- A word delivered by a compute port: the slot of its lane field, its lane and its ERR bit. -/
structure Delivery where
  tile : Nat
  slot : Nat
  lane : Nat
  word : Word
  err : Bool
  deriving DecidableEq, Repr

/-- A run under way. -/
structure RunSt where
  s : State
  wires : List Wire
  out : List Delivery

/-- The slot-table entries that are not idle, as tile, slot and entry. -/
def State.cordTable (s : State) : List (Nat × Nat × Nat) :=
  (s.regs.filter (fun e => e.1.r == Reg.num .CORD_TABLE)).map (fun e => (e.1.u, e.1.i, e.2))

/-- A corrected lane word at an input of tile `p` (R237). -/
def State.cordCorrected (s : State) (p input : Nat) : State :=
  let k := Sparse.get s.cord.corrRun p 0 + 1
  let s1 := s.inc F.CORD_CNT_CORR 1 p
  let s2 := { s1 with cord := { s1.cord with corrRun := Sparse.set natLt s1.cord.corrRun p 0 (k % 256) } }
  if k = 256 then s2.report p 0x05 1 (16 + (input - 1)) else s2

/-- A word arrives at a link receiver, with the flipped bits that a fault names (R237). -/
def RunSt.arrive (r : RunSt) (faults : List LaneFault) (w : Wire) : RunSt :=
  match faults.find? (fun f => f.tile == w.tile && f.input == w.input && f.lane == w.lane && f.slot == w.slot) with
  | none => r
  | some f =>
    let put := fun (r : RunSt) (v : Wire) => { r with wires := r.wires.map (fun x => if x = w then v else x) }
    match Ecc.decode (Ecc.encode w.word ^^^ f.mask) with
    | .clean d => put r { w with word := d }
    | .corrected d _ => put { r with s := r.s.cordCorrected w.tile w.input } { w with word := d }
    | .bad => put r { w with err := true }

/-- An input of a lane field in slot `t`: the word and whether it makes ERR. -/
def RunSt.input (r : RunSt) (p t l code : Nat) : RunSt × Word × Bool :=
  if code = 5 then
    match r.s.coreAt p with
    | none => (r, 0, true)
    | some n =>
      let c := r.s.core n
      match c.sendBuf[c.sendNext]? with
      | none => (r, 0, true)
      | some w => ({ r with s := r.s.onCore n (fun c => { c with sendNext := c.sendNext + 1 }) }, w, false)
  else if code = 0 then (r, 0, false)
  else match r.wires.find? (fun w => w.slot == t && w.tile == p && w.input == code && w.lane == l) with
    | some w => (r, w.word, w.err)
    | none => (r, 0, true)

/-- A result driven toward one output (R226, R227). -/
def RunSt.drive (r : RunSt) (p t l dir : Nat) (w : Word) (err : Bool) : RunSt :=
  let r1 := { r with s := r.s.act (tileEngine p) 5 1 }
  if dir = 5 then { r1 with out := r1.out ++ [⟨p, t, l, w, err⟩] }
  else match r.s.cordNeighbour p dir with
    | none => r1
    | some q => { r1 with wires := r1.wires ++ [⟨t + r.s.linkSlots p q, q, facing dir, l, w, err⟩] }

/-- A lane field of tile `p` in slot `t` (R226). -/
def RunSt.lane (r : RunSt) (p t entry l : Nat) : RunSt :=
  let f := laneField entry l
  if f.a = 0 then r
  else
    let x := r.input p t l f.a
    let y := x.1.input p t l f.b
    let w := laneOp f.op x.2.1 y.2.1
    ((List.range 5).filter (fun k => f.drives (k + 1))).foldl
      (fun r k => r.drive p t l (k + 1) w (x.2.2 || y.2.2)) y.1

/-- Slot `t` at every router: the words that arrive, then the lane fields. -/
def RunSt.slot (table : List (Nat × Nat × Nat)) (faults : List LaneFault) (r : RunSt) (t : Nat) : RunSt :=
  let r0 := { r with wires := r.wires.filter (fun w => decide (t ≤ w.slot)) }
  let r1 := (r0.wires.filter (fun w => w.slot == t)).foldl (fun r w => r.arrive faults w) r0
  (table.filter (fun e => e.2.1 == t && !r.s.bypassed e.1)).foldl
    (fun r e => (List.range 4).foldl (fun r l => r.lane e.1 t e.2.2 l) r) r1

/-- A word discarded on its way to core `n`'s synapse engine (R236, 13 R362). -/
def State.cordDiscard (s : State) (n m : Nat) : State :=
  (s.shedAt n).overload ⟨5, true, n, 0, m, (s.step + 1) % 64, 0, s.step % 2 ^ 32⟩ 0

/-- A Cordwood word's turn at the synapse engine (04 R114). -/
def State.cordTurn (s : State) (n : Nat) (c : CordWord) : State :=
  (s.act (n / 128) 0 (s.cordCycles n c)).cordWord n s.step c

/-- A core's receive buffer as its words come and are taken: the state, and when its synapse engine is next free for them, in
1/(5·r) fabric cycles from the step tick, a unit of which a core cycle takes a whole number. -/
structure Feed where
  s : State
  free : Nat

/-- The clock of core `n` in that unit: ticks of a fabric cycle, and of a core cycle (16 R423). -/
def State.feedUnit (s : State) (n : Nat) : Nat × Nat := s.clockUnit (s.tileOf n)

/-- The engine takes a word at time `t`. -/
def Feed.take (n cc : Nat) (f : Feed) (t : Nat) (w : CordWord) : Feed :=
  ⟨f.s.cordTurn n w, t + f.s.cordCycles n w * cc⟩

/-- The engine has taken, one after the other, the buffered words for which it was free by time `t` (04 R112). -/
def Feed.drain (n cc t : Nat) : Nat → Feed → Feed
  | 0, f => f
  | fuel + 1, f =>
    match (f.s.core n).recv with
    | [] => f
    | w :: r =>
      if t < f.free then f
      else Feed.drain n cc t fuel (Feed.take n cc { f with s := f.s.onCore n (fun c => { c with recv := r }) } f.free w)

/-- One word delivered to core `n` at fabric cycle `d` of the step (R236, 05 R142): discarded with ERR, taken by an engine that
is free, or put into the 32-word receive buffer, which holds it during an apply; discarded where that is full. -/
def State.feed (n : Nat) (f0 : Feed) (d : Nat) (x : Delivery) : Feed :=
  let u := f0.s.feedUnit n
  let t := d * u.1
  let f := Feed.drain n u.2 t 32 f0
  let c := f.s.core n
  let word : CordWord := ⟨c.recvNum, x.word⟩
  let s0 := f.s.onCore n (fun c => { c with recvNum := c.recvNum + 1 })
  let apply := decide (t < c.applyEnd * u.2)
  if x.err then
    { f with s := ((s0.inc F.CORD_CNT_ERR 1 x.tile).cordDiscard n c.recvNum).report x.tile 0x06 2 0x14 }
  else if f.s.abandoned 5 n 0 c.recvNum then { f with s := s0.cordDiscard n c.recvNum }
  else if 32 ≤ c.recv.length then
    { f with s := (if apply then s0.inc F.LRN_HOLD_CORD_DROP 1 n else s0.inc F.CORD_CNT_RX_DROP 1 x.tile).cordDiscard n c.recvNum }
  else
    let s1 := s0.top F.CORD_PORT_STAT_RX_MAX (c.recv.length + 1) x.tile
    let s2 := if apply then s1.top F.LRN_HOLD_CORD_MAX (c.recv.length + 1) n else s1
    if c.recv = [] ∧ f.free ≤ t then Feed.take n u.2 { f with s := s2 } t word
    else { f with s := s2.onCore n (fun c => { c with recv := c.recv ++ [word] }) }

/-- Fabric cycles from the rise of RUN_EN to the tick of the current step, and from that tick to its first cord (R224,
R229). -/
def State.stepFabric (s : State) : Nat := 640 * (span s.time.begun s.time.rise).toNat
def State.firstCord (s : State) : Nat := ceilDiv (s.stepFabric + 16) 1024 * 1024 - s.stepFabric

/-- Cord `k` of the step at the compute port of core `n`, with the words of its run: the state at the cord's end, and whether
the receive buffer held words at slot 768, where the ready signal is sampled (R230).  A word is in the buffer two slots after
its lane field's (R227). -/
def State.portCord (s : State) (k n : Nat) (ds : List Delivery) : State × Bool :=
  let u := s.feedUnit n
  let t0 := s.firstCord + 1024 * k
  let at' (d : Delivery) : Nat := t0 + d.slot + 2
  let early := ds.filter (fun d => decide (d.slot + 2 ≤ 768))
  let late := ds.filter (fun d => decide (768 < d.slot + 2))
  let f0 : Feed := ⟨s, max ((s.core n).synFree * u.1) ((s.core n).applyEnd * u.2)⟩
  let f1 := Feed.drain n u.2 ((t0 + 768) * u.1) 32 (early.foldl (fun f d => State.feed n f (at' d) d) f0)
  let f2 := Feed.drain n u.2 ((t0 + 1024) * u.1) 32 (late.foldl (fun f d => State.feed n f (at' d) d) f1)
  (f2.s.onCore n (fun c => { c with synFree := ceilDiv f2.free u.1 }), (f1.s.core n).recv != [])

/-- A run of the whole table (R226, R227, R237): the words that the compute ports deliver. -/
def State.cordRun (s : State) (faults : List LaneFault) : State × List Delivery :=
  let table := s.cordTable
  let r := (List.range 1024).foldl (fun (r : RunSt) t => r.slot table faults t) ⟨s, [], []⟩
  (r.s, r.out)

/-- Whether a tile's router supplies words, and whether it receives any (R230, R242). -/
def State.supplies (s : State) (p : Nat) : Bool := s.on F.CORD_PORT_CNT_LOCAL_IN p
def State.receives (s : State) (p : Nat) : Bool := s.on F.CORD_PORT_CNT_LOCAL_OUT p

/-- The tiles whose router supplies or receives words, ascending. -/
def State.portTiles (s : State) : List Nat :=
  ((s.unitsOn F.CORD_PORT_CNT_LOCAL_IN ++ s.unitsOn F.CORD_PORT_CNT_LOCAL_OUT).mergeSort (· ≤ ·)).eraseDups.filter
    (fun p => s.tileOn p && !s.bypassed p)

/-- The last slot of core `n`'s send range (R234). -/
def State.lastSend (s : State) (n : Nat) : Nat :=
  let p := s.tileOf n
  min (s.slots n) (s.rd F.CORD_SEND_CFG_SBASE p + s.rd F.CORD_SEND_CFG_SCOUNT p) - 1

/-- The cycles after the tick at which core `n`'s update, if nothing stalls it, writes its last send word (03 R85). -/
def State.sendEnd (s : State) (n : Nat) : Nat := (s.core n).applyEnd + s.lastSend n / 4 + 1 + 24

/-- Whether core `n`'s send buffer is whole `t` fabric cycles after the step tick: its last word is written, and no more
spikes of the slots before wait than the spike FIFO's 512 entries, on which the update would stall (R230, 03 R85, R90). -/
def State.sendReady (s : State) (n : Nat) (t : Int) : Bool :=
  let c := s.core n
  c.updStep == s.step && decide ((s.coreFabric (s.tileOf n) (s.sendEnd n) : Int) ≤ t) &&
    decide ((c.spikes.filter (fun x => decide (x.slot ≤ s.lastSend n))).length ≤ 512)

/-- The ready signal of the router of tile `p`, `t` fabric cycles after the step tick; `full` tells whether the core's receive
buffer holds words then (R230). -/
def State.cordReady (s : State) (p : Nat) (t : Int) (full : Bool) : Bool :=
  match s.coreAt p with
  | none => true
  | some n => (!s.supplies p || s.sendReady n t) && (!s.receives p || !full)

/-- A miss cord (R231). -/
def State.missCord (s : State) (late : List Nat) : State :=
  let s1 := late.foldl (fun s p => s.inc F.CORD_CNT_SLOT_MISS_CNT 1 p) (s.inc F.CORD_MISS_CNT_CNT)
  let m := s.cord.misses + 1
  let s2 := { s1 with cord := { s1.cord with misses := m } }
  let thr := s.rd F.CORD_CTRL_MISS_THR
  if thr ≠ 0 ∧ m ≥ thr ∧ !s.cord.reported then
    let t := s2.report 0x740 0x12 2 (((late.filterMap s.coreAt).foldl min 1023))
    { t with cord := { t.cord with reported := true } }
  else s2

/-- Whether a step is open. -/
def State.stepOpen (s : State) : Bool :=
  s.running && (s.time.phase == .opened || s.time.phase == .stretch || s.time.phase == .hang)

/-- The compute ports in cord `k` take the words of its run, and the routers whose receive buffer holds words at the sample
of slot 768 are kept for the next cord (R230, R236). -/
def State.cordPorts (s : State) (k : Nat) (ds : List Delivery) : State :=
  let r := s.portTiles.foldl (fun (acc : State × List Nat) p =>
    match acc.1.coreAt p with
    | none => acc
    | some n =>
      let x := acc.1.portCord k n (ds.filter (fun d => d.tile == p))
      (x.1, if x.2 then acc.2 ++ [p] else acc.2)) (s, [])
  { r.1 with cord := { r.1.cord with full := r.2 } }

/-- CORD_BEGIN (R229 to R231): the next cord of the step begins, and a due run executes in it or misses, as the ready signals
sampled in slot 768 of the cord before say; a replay abandons the runs and words that the primary abandoned (13 R364). -/
def State.cordBegin (s : State) (faults : List LaneFault) : State :=
  if !s.stepOpen || s.net.stopped then s
  else
    let k := s.cord.cord
    let first := s.firstCord
    let s0 := s.advance ((s.time.begun + (first + 1024 * k) / 640) % 2 ^ 64)
    let sample : Int := (first + 1024 * k : Nat) - 256
    let late := s0.portTiles.filter (fun p => !s0.cordReady p sample (s.cord.full.contains p))
    let s1 := (({ s0 with cord := { s0.cord with cord := k + 1 } }).wrB F.CORD_STAT_READY (late == [])).wr
      F.CORD_STAT_BUSY 0
    if s1.rd F.CORD_CTRL_START ≤ k ∧ s1.cord.runs < s1.rd F.CORD_CTRL_RUNS then
      if s1.abandoned 4 agCollier s1.cord.runs 0 then
        let t := (s1.inc F.CORD_LOST_CNT_CNT).cordPorts k []
        { t with cord := { t.cord with runs := t.cord.runs + 1 } }
      else if late = [] then
        let r := s1.cordRun faults
        let t := r.1.cordPorts k r.2
        ({ t with cord := { t.cord with runs := t.cord.runs + 1 } }).wr F.CORD_STAT_BUSY 1
      else (s1.cordPorts k []).missCord late
    else s1.cordPorts k []

/-- Whether core `n` has no Cordwood work left in the step (R232). -/
def State.cordDone (s : State) (n : Nat) : Bool :=
  let p := s.tileOf n
  !(s.supplies p || s.receives p) ||
    (decide (s.rd F.CORD_CTRL_RUNS ≤ s.cord.runs) && (s.core n).recv == [])

/-- What a forced boundary leaves of the plane's words (R233). -/
def State.cordForced (s : State) : State :=
  let lost := s.rd F.CORD_CTRL_RUNS - s.cord.runs
  let s1 := (List.range lost).foldl (fun s k =>
    (s.inc F.CORD_LOST_CNT_CNT).overload ⟨4, true, agCollier, s.cord.runs + k, 0, 0, 0, s.step % 2 ^ 32⟩ 0) s
  (s1.cores.map (·.1)).foldl (fun s n =>
    ((s.core n).recv.foldl (fun s w => s.cordDiscard n w.m) s).onCore n (fun c => { c with recv := [] })) s1

/-- The plane at a boundary: the miss cords of the step are recorded and the next step starts afresh (R229, R242). -/
def State.cordBoundary (s : State) : State :=
  let t := ((s.wr F.CORD_STAT_LAST_MISS (min 255 s.cord.misses)).top F.CORD_STAT_MAX_MISS s.cord.misses).wr
    F.CORD_STAT_BUSY 0
  { t with cord := { t.cord with cord := 0, runs := 0, misses := 0, reported := false, full := [] } }

/-- CORD_PORT_CNT of a tile's router, computed from its table (R242). -/
def State.countPorts (s : State) (p : Nat) : State :=
  let fs := (s.cordTable.filter (fun e => e.1 == p)).flatMap (fun e => (List.range 4).map (laneField e.2.2))
  let ins := ((fs.map (fun f => b2n (f.a == 5) + b2n (f.b == 5))).sum)
  let outs := (fs.filter (fun f => f.drives 5)).length
  (s.wr F.CORD_PORT_CNT_LOCAL_IN ins p).wr F.CORD_PORT_CNT_LOCAL_OUT outs p

/-- An entry of a tile's slot table written. -/
def State.writeSlot (s : State) (p t v : Nat) : State := (s.wr F.CORD_TABLE_ENTRY v p t).countPorts p

/-- The tiles that hold a logical core, and so take a broadcast (R241, 07 R215). -/
def State.broadcastTiles (s : State) : List Nat :=
  ((List.range 1024).filter (fun n => s.coreOn n && s.on F.SPARE_MAP_VALID (n / 128) n)).map s.tileOf

/-- Mask word `k` at the router of tile `p`: the router of core n takes bit n mod 64 of word n div 64 (R241). -/
def State.loadMask (s : State) (p k : Nat) (mask : Nat) : State :=
  match s.coreAt p with
  | some n => if n / 64 = k then s.wrB F.CORD_ARM_ARM (bit mask (n % 64)) p else s
  | none => s

/-- A broadcast table write at tile `p`: taken by an armed router, and ignored while RUN_EN = 1 (R241, R243). -/
def State.loadSlot (s : State) (p t v : Nat) : State :=
  if s.running || !s.on F.CORD_ARM_ARM p then s else s.writeSlot p t v

/-- CORD_BEGIN. -/
def execCordBegin (faults : List LaneFault) (s : State) : Host.Outcome State Fault Refusal := .next (s.cordBegin faults)

/-- CORD_LOAD_MASK_WRITE. -/
def execCordLoadMaskWrite (word : Nat) (mask : BitVec 64) (s : State) : Host.Outcome State Fault Refusal :=
  .next (s.broadcastTiles.foldl (fun s p => s.loadMask p word mask.toNat) s)

/-- CORD_TABLE_BC_WRITE. -/
def execCordTableBcWrite (slot : Nat) (entry : BitVec 64) (s : State) : Host.Outcome State Fault Refusal :=
  if slot < 1024 then .next (s.broadcastTiles.foldl (fun s p => s.loadSlot p slot entry.toNat) s) else .next s

/-- CORD_ARM_CLEAR. -/
def execCordArmClear (s : State) : Host.Outcome State Fault Refusal :=
  .next (s.broadcastTiles.foldl (fun s p => s.wr F.CORD_ARM_ARM 0 p) s)

end Sys2Proof.Machine
end

