-- ==== Sys2Proof/Machine/Wake.lean ====
section
/-!
DEFINITION. Power domains that wake, and the return from SLEEP or DEEP to RUN (16_power_clocks_thermal.md R438, R440,
R442).
-/
namespace Sys2Proof.Machine

/-- A group's own record, and the state with it changed. -/
def State.g6g (s : State) (g : Nat) : G6St := Sparse.get s.g6 g G6St.fresh
def State.onG6 (s : State) (g : Nat) (f : G6St → G6St) : State :=
  { s with g6 := Sparse.set natLt s.g6 g G6St.fresh (f (s.g6g g)) }

/-- A group enters or leaves self-refresh (16 R442, R445). -/
def State.g6SelfRef (s : State) (g : Nat) (v : Bool) : State :=
  (s.wrB F.MEM_STAT_SELF_REF v g).wr F.KILN_GATE_G6_SR (putBits (s.rd F.KILN_GATE_G6_SR) g g (b2n v))

/-- Whether a domain is gated (16_power_clocks_thermal.md R442). -/
def State.gated (s : State) : Domain → Bool
  | .core n => s.kiln.gated.contains n
  | .engine e => bit (s.rd F.KILN_GATE_ENG) e
  | .group g => s.on F.MEM_STAT_SELF_REF g

/-- A wake is counted (16_power_clocks_thermal.md R442). -/
def State.countWake (s : State) : Domain → State
  | .core _ => s.inc F.KILN_WAKE_CNT_CORE_WAKES
  | .engine _ => s.inc F.KILN_WAKE_CNT_ENG_WAKES
  | .group _ => s.inc F.KILN_WAKE_CNT_G6_WAKES

/-- A domain is no longer gated. -/
def State.ungate (s : State) : Domain → State
  | .core n => { s with kiln := { s.kiln with gated := s.kiln.gated.filter (fun x => x != n) } }
  | .engine e => s.wr F.KILN_GATE_ENG (putBits (s.rd F.KILN_GATE_ENG) e e 0)
  | .group g => (s.g6SelfRef g false).onG6 g (fun x => { x with lastUse := s.grain })

/-- DOMAIN_WAKE (16_power_clocks_thermal.md R442): the wake of a gated domain starts. -/
def State.wakeStart (s : State) (d : Domain) : State :=
  if !s.gated d || s.kiln.waking.contains d then s
  else
    let t := s.countWake d
    { t with kiln := { t.kiln with waking := t.kiln.waking ++ [d] } }

/-- DOMAIN_WAKE_DONE (16 R442, R443). -/
def State.wakeDone (s : State) (d : Domain) : State :=
  if !s.kiln.waking.contains d then s
  else
    let t := s.ungate d
    { t with kiln := { t.kiln with waking := t.kiln.waking.filter (fun x => x != d) } }

/-- A gated domain wakes and is ready, in one go: what an access of Collier's waits for (16_power_clocks_thermal.md R442). -/
def State.woken (s : State) (d : Domain) : State := if s.gated d then (s.wakeStart d).wakeDone d else s

/-- The device is in RUN again (16 R438): a GDDR6 group that SLEEP or DEEP gated wakes with it (16 R442). -/
def State.toRun (s : State) : State :=
  let t := s.groups.foldl (fun s g => s.woken (.group g)) (s.wr F.KILN_STAT_STATE 0)
  { t with kiln := { t.kiln with waking2Run := false } }

end Sys2Proof.Machine
end

