-- ==== Sys2Proof/Machine/Gddr.lean ====
section
/-!
DEFINITION. The GDDR6 groups (10_memory_system.md R276 to R287): the address map, bursts and beats, the group agents'
service, EDC retries, refresh and scrubbing, pin retirement, and the PLLs of 16_power_clocks_thermal.md R444.
-/
namespace Sys2Proof.Machine

/-- The chip address at which GDDR6 data begins (R286). -/
def g6Base : Nat := 0x1000000000

/-- Data bytes per group: the density figure, or G6_CAP_LIMIT if smaller (R277, 01 R32). -/
def State.g6PerGroup (s : State) : Nat :=
  min (if s.on F.MEM_CFG_DENSITY then 2 ^ 32 else 2 ^ 31)
    (match s.fuse.capLimit with | 0 => 2 ^ 32 | 1 => 2 ^ 31 | _ => 2 ^ 30)

/-- The populated capacity C (R277). -/
def State.g6Cap (s : State) : Nat := s.g6PerGroup * s.groups.length

/-- Whether a chip address reaches a GDDR6 byte (R278). -/
def State.g6Has (s : State) (a : Nat) : Bool := decide (g6Base ≤ a) && decide (a - g6Base < s.g6Cap)

/-- The group that an address selects (R278). -/
def State.g6Group (s : State) (a : Nat) : Nat :=
  if s.groups.length = 2 then (a - g6Base) / 128 % 2 else s.groups.headD 0

/-- The chip address of burst `b` of group `g` (R278). -/
def State.g6Burst (s : State) (g b : Nat) : Nat :=
  g6Base + (if s.groups.length = 2 then 256 * b + 128 * g else 128 * b)

/-- Where a burst lies in the devices of its group (R278). -/
structure DramPlace where
  column : Nat
  bankGroup : Nat
  bank : Nat
  row : Nat
  deriving DecidableEq, Repr

/-- The burst index of an address, and its beat (R278). -/
def State.g6Index (s : State) (a : Nat) : Nat := (a - g6Base) / (if s.groups.length = 2 then 256 else 128)
def g6Beat (a : Nat) : Nat := (a - g6Base) / 8 % 16

/-- The place in the DRAM of burst `b` of group `g`: the row has a bit more on 16 Gb devices (R278). -/
def State.g6Dram (s : State) (g b : Nat) : DramPlace :=
  ⟨bits b 5 0, bits b 7 6, bits b 9 8, bits b (if s.on F.MEM_CFG_DENSITY g then 24 else 23) 10⟩

/-- The retired positions of a group (R284). -/
def State.g6Retired (s : State) (g : Nat) : List Nat :=
  (if s.on F.MEM_RETIRE_V0 g then [s.rd F.MEM_RETIRE_POS0 g] else []) ++
  (if s.on F.MEM_RETIRE_V1 g then [s.rd F.MEM_RETIRE_POS1 g] else [])

/-- Whether a group has failed: every access to it is refused (R284). -/
def State.g6Failed (s : State) (g : Nat) : Bool := s.on F.MEM_STAT_FAILED g

/-- A group fails: kind 0x04, class 4 (R284, 16 R444). -/
def State.g6Fail (s : State) (g addr : Nat) : State :=
  (s.wr F.MEM_STAT_FAILED 1 g).report (0x710 + g) 0x04 4 addr

/-- The byte lane of a codeword position: lane l is eight DQs of device l div 2 (R276, R289). -/
def posLane (p : Nat) : Nat := 2 * (p / 16) + p % 16 / 8

/-- Position `p` of a group is retired, or the group fails at a third one, for which `addr` is the report's address: the beat
that met the threshold (R284, R285). -/
def State.g6Retire (s : State) (g p addr : Nat) : State :=
  if (s.g6Retired g).contains p then s
  else
    match s.rd F.MEM_STAT_RETIRED g with
    | 0 =>
      ((((s.wr F.MEM_RETIRE_V0 1 g).wr F.MEM_RETIRE_POS0 p g).wr F.MEM_STAT_RETIRED 1 g).wr F.MEM_LANE_MASK_EDC_OFF
        (putBits (s.rd F.MEM_LANE_MASK_EDC_OFF g) (posLane p) (posLane p) 1) g).report (0x710 + g) 0x07 1 p
    | 1 =>
      (((((s.wr F.MEM_RETIRE_V1 1 g).wr F.MEM_RETIRE_POS1 p g).wr F.MEM_STAT_RETIRED 2 g).wr F.MEM_STAT_DEGRADED 1
        g).wr F.MEM_LANE_MASK_EDC_OFF (putBits (s.rd F.MEM_LANE_MASK_EDC_OFF g) (posLane p) (posLane p) 1) g).report
        (0x710 + g) 0x07 2 p
    | _ => if s.g6Failed g then s else s.g6Fail g addr

/-- What the decoder makes of the stored beat at an address (R271, R284). -/
def State.g6Decode (s : State) (g a : Nat) : Ecc.Outcome :=
  if s.flip a = 0 then .clean (s.word a) else Ecc.decodeErased (s.g6Retired g) (s.codeAt a)

/-- The last error of a group (R285). -/
def State.g6Log (s : State) (g a type : Nat) : State :=
  ((s.wr F.MEM_ERR_LOG_SYNDROME (Ecc.syndrome (s.codeAt a)).toNat g).wr F.MEM_ERR_LOG_TYPE type g).wr
    F.MEM_ERR_LOG_OFFSET (a - g6Base) g

/-- The corrected positions of the beat at address `a` enter the window's counts, and one that reaches PIN_THR is retired
(R284). -/
def State.g6Pins (s : State) (g a : Nat) (mask : Code) : State :=
  ((List.range 80).filter (fun p => mask.getLsbD p)).foldl (fun s p =>
    let k := Sparse.get (s.g6g g).pins p 0 + 1
    let s1 := s.onG6 g (fun x => { x with pins := Sparse.set natLt x.pins p 0 k })
    if s.rd F.MEM_PIN_CFG_PIN_THR g ≤ k then s1.g6Retire g p ((a - g6Base) / 8) else s1) s

/-- The window of a group, of 65,536 codewords read, ends where it is full, and the counts restart (R284). -/
def State.g6Window (s : State) (g : Nat) : State :=
  if (s.g6g g).window < 65536 then s else s.onG6 g (fun x => { x with pins := [], window := 0 })

/-- The account of one beat read: counts, log and reports (R281, R285). -/
def State.g6Account (s : State) (g a : Nat) : State :=
  let s0 := (s.g6Window g).onG6 g (fun x => { x with window := x.window + 1 })
  match s.g6Decode g a with
  | .clean _ => s0
  | .corrected _ m =>
    let k := (s.g6g g).corrRun + 1
    let s1 := (((s0.g6Log g a 1).inc F.MEM_ECC_CNT_CORR 1 g).onG6 g (fun x => { x with corrRun := k % 256 })).g6Pins g a m
    if k = 256 then s1.report (0x710 + g) 0x03 1 ((a - g6Base) / 8) else s1
  | .bad => ((s0.g6Log g a 2).inc F.MEM_ECC_CNT_UNCORR 1 g).report (0x710 + g) 0x04 3 ((a - g6Base) / 8)

/-- The data of the beat at an address, if it can be read. -/
def State.g6Data (s : State) (a : Nat) : Option Word :=
  if !s.g6Has a || s.g6Failed (s.g6Group a) then none
  else match s.g6Decode (s.g6Group a) a with
    | .clean d => some d
    | .corrected d _ => some d
    | .bad => none

/-- One burst counted for the power estimate (16 R429). -/
def State.g6Active (s : State) : State := s.act 8 0 1

/-- A read of `n` words from address `a` on: the words, or none where one of them cannot be read (R285). -/
def State.g6Fetch (s : State) (a n : Nat) : Option (List Word) × State :=
  let as := (List.range n).map (fun k => a + 8 * k)
  if as.any (fun x => !s.g6Has x || s.g6Failed (s.g6Group x)) then (none, s)
  else (as.mapM s.g6Data, (as.foldl (fun s x => s.g6Account (s.g6Group x) x) s).g6Active)

/-- A beat that a read-modify-write does not write (R281). -/
def State.g6KeepBeat (s : State) (g a : Nat) : State :=
  let s1 := s.g6Account g a
  match s.g6Decode g a with
  | .clean _ => s1
  | .corrected d _ => s1.setWord a d
  | .bad => s1.inc F.MEM_ECC_CNT_RAW_KEEP 1 g

/-- A burst is written: `f` gives the data of the beats that the write holds; a full burst is not read first (R281). -/
def State.g6WriteBurst (s : State) (block : Nat) (f : Nat → Option Word) : State :=
  let g := s.g6Group block
  (List.range 16).foldl (fun s k =>
    match f k with
    | some w => s.setWord (block + 8 * k) w
    | none => s.g6KeepBeat g (block + 8 * k)) s.g6Active

/-- The aligned 128-byte block of an address. -/
def g6Block (a : Nat) : Nat := a / 128 * 128

/-- Why a request to group `g` is refused before it acts, if it is (R278, R279, 07 R191, R193). -/
def State.g6Refusal (s : State) (g : Nat) (k : Packet) : Option Nat :=
  let a := k.chipAddr
  let n := k.g6Words
  let badLen := if k.op = 2 then decide (k.data.length < 2) || (k.hi % 4 == 3) ||
      (decide (k.hi % 4 ≠ 0) && decide (k.data.length ≠ 2))
    else if k.op = 3 then k.hi == 0 || decide (k.data.length ≠ 1)
    else decide (k.data.length ≠ 2)
  if badLen then some rsnBadLength
  else if !s.g6Has a || !s.g6Has (a + 8 * n - 8) || s.g6Group a ≠ g || g6Block a ≠ g6Block (a + 8 * n - 8) then
    some rsnAddrError
  else if s.g6Failed g then some rsnDataError
  else none

/-- An operation that has to read its own word, and cannot: every beat of the burst is read and accounted, nothing is written,
and the answer is DATA_ERROR (R281). -/
def State.g6Unread (s : State) (g : Nat) (k : Packet) (tok : Bool) : State :=
  (((List.range 16).foldl (fun s j => s.g6Account g (g6Block k.chipAddr + 8 * j)) s).g6Active).sendNack (agGroup g) k
    rsnDataError tok

/-- An RADD at a group: one indivisible read-modify-write (07 R192, R281). -/
def State.g6Add (s : State) (g : Nat) (k : Packet) : State :=
  let a := k.chipAddr
  let v := k.data.getD 1 0
  match s.g6Data a with
  | some w =>
    let h := if bit v.toNat 32 then 1 else 0
    let r := setHalf w h ((half w h + half v 0) % 2 ^ 32)
    ((s.g6Account g a).g6WriteBurst (g6Block a) (fun j => if g6Block a + 8 * j = a then some r else none)).sendAck
      (agGroup g) k true
  | none => s.g6Unread g k true

/-- An RWR at a group; a half write reads its own word first (07 R193, R281). -/
def State.g6Store (s : State) (g : Nat) (k : Packet) : State :=
  let a := k.chipAddr
  match k.hi % 4 with
  | 0 =>
    let ws := k.data.drop 1
    (s.g6WriteBurst (g6Block a) (fun j =>
      if a ≤ g6Block a + 8 * j then ws[(g6Block a + 8 * j - a) / 8]? else none)).sendAck (agGroup g) k
  | m =>
    match s.g6Data a with
    | some w =>
      let r := setHalf w (m - 1) (half (k.data.getD 1 0) (m - 1))
      ((s.g6Account g a).g6WriteBurst (g6Block a) (fun j => if g6Block a + 8 * j = a then some r else none)).sendAck
        (agGroup g) k
    | none => s.g6Unread g k false

/-- An accepted operation of a group takes effect and is answered (R280, R281, R285). -/
def State.g6Perform (s : State) (g : Nat) (k : Packet) : State :=
  match s.g6Refusal g k with
  | some r => s.sendNack (agGroup g) k r k.counted
  | none =>
    if k.op = 2 then s.g6Store g k
    else if k.op = 4 then s.g6Add g k
    else
      let r := s.g6Fetch k.chipAddr k.hi
      match r.1 with
      | some ws => r.2.sendData (agGroup g) k ws
      | none => r.2.sendNack (agGroup g) k rsnDataError

/-- What goes before an access of the Drey port or of Collier to the addresses `as` (R280, 16 R442): a group in self-refresh
wakes; the operations accepted before on one of the same 128-byte blocks take effect first, and where 128 are held, the oldest. -/
def State.g6Turn (s : State) (as : List Nat) : State :=
  let blocks := as.map g6Block
  (s.groups.filter (fun g => as.any (fun a => s.g6Has a && s.g6Group a == g))).foldl (fun s g =>
    let t := s.woken (.group g)
    let ops := (t.g6g g).queue.zipIdx
    let first (o : G6Op × Nat) : Bool := blocks.contains (g6Block o.1.pkt.chipAddr) || (decide (128 ≤ ops.length) && o.2 == 0)
    let u := t.onG6 g (fun x => { x with queue := (ops.filter (fun o => !first o)).map (·.1), lastUse := s.grain })
    (ops.filter first).foldl (fun s o => s.g6Perform g o.1.pkt) u) s

/-- Words that Collier or the Drey port reads from address `a` on, of any number of bursts. -/
def State.g6Read (s : State) (a n : Nat) : Option (List Word) × State :=
  (s.g6Turn ((List.range n).map (fun k => a + 8 * k))).g6Fetch a n

/-- Words that Collier or the Drey port stores from address `a` on, burst by burst; where a word lies outside the data or in a
failed group, nothing of that burst is stored. -/
def State.g6Write (s : State) (a : Nat) (ws : List Word) : State :=
  if ws = [] then s
  else
    let first := g6Block a
    (List.range ((a + 8 * ws.length - 1 - first) / 128 + 1)).foldl (fun s j =>
      let block := first + 128 * j
      if !s.g6Has block || s.g6Failed (s.g6Group block) then s
      else (s.g6Turn [block]).g6WriteBurst block (fun k =>
        if a ≤ block + 8 * k then ws[(block + 8 * k - a) / 8]? else none)) s

/-- Whether a group can serve operations now: awake, and its PLL locked (R280, 16 R442, R444). -/
def State.g6Awake (s : State) (g : Nat) : Bool :=
  !s.on F.MEM_STAT_SELF_REF g && bit (s.rd F.CLK_STAT_G6_LOCK) g

/-- G6_OP_ACCEPT (R280): into the queue of 128, or held on its input while the queue is full. -/
def State.g6Accept (s : State) (g : Nat) (k : Packet) : State :=
  if !s.groupOn g || (s.g6g g).queue.length ≥ 128 then s
  else (s.taken (agGroup g) k).onG6 g (fun x => { x with
    queue := x.queue ++ [⟨k, 0, 0, false⟩], lastUse := s.grain })

/-- G6_OP_COMPLETE (R280): the oldest operation; a sleeping or unlocked group stalls it. -/
def State.g6Complete (s : State) (g : Nat) : State :=
  match (s.g6g g).queue with
  | [] => s
  | o :: rest =>
    if !s.g6Awake g then s
    else (s.onG6 g (fun x => { x with queue := rest, lastUse := s.grain })).g6Perform g o.pkt

/-- The oldest operation of a group changed. -/
def State.onG6Head (s : State) (g : Nat) (f : G6Op → G6Op) : State :=
  s.onG6 g (fun x => { x with queue := match x.queue with | [] => [] | o :: r => f o :: r })

/-- Whether EDC mismatches: on a byte lane that EDC_OFF does not mark (R282). -/
def State.edcBad (s : State) (g : Nat) (lanes : BitVec 10) : Bool :=
  lanes &&& ~~~(BitVec.ofNat 10 (s.rd F.MEM_LANE_MASK_EDC_OFF g)) != 0

/-- G6_READ_REISSUE (R282): one reissue of the oldest operation's burst, and the byte lanes on which its EDC mismatches
again. -/
def State.g6Reissue (s : State) (g : Nat) (lanes : BitVec 10) : State :=
  match (s.g6g g).queue with
  | [] => s
  | o :: _ =>
    if o.reads ≥ 3 then s
    else
      let give := s.edcBad g lanes && o.reads == 2
      let s1 := ((s.inc F.MEM_EDC_CNT_RD_REPLAY 1 g).g6Active).onG6Head g (fun o => { o with
        reads := o.reads + 1, gaveUp := give })
      if give then s1.inc F.MEM_EDC_CNT_GIVEUP 1 g else s1

/-- G6_WRITE_REWRITE (R282): one rewrite of the oldest operation's burst, and the byte lanes on which its EDC mismatches
again. -/
def State.g6Rewrite (s : State) (g : Nat) (lanes : BitVec 10) : State :=
  match (s.g6g g).queue with
  | [] => s
  | o :: _ =>
    if o.writes ≥ 3 ∨ !(o.pkt.op == 2 || o.pkt.op == 4) then s
    else
      let s1 := ((s.inc F.MEM_EDC_CNT_WR_REPLAY 1 g).g6Active).onG6Head g (fun o => { o with writes := o.writes + 1 })
      if s.edcBad g lanes && o.writes == 2 then
        s1.report (0x710 + g) 0x04 2 ((g6Block o.pkt.chipAddr - g6Base) / 8)
      else s1

/-- G6_REFRESH (R283): the next bank, round-robin over 16, as the device's temperature asks; `hot` is its reading. -/
def State.g6NextBank (s : State) (g : Nat) (hot : Bool) : State :=
  if !s.groupOn g || !s.g6Awake g then s
  else (s.wrB F.MEM_STAT_HOT hot g).onG6 g (fun x => { x with bank := (x.bank + 1) % 16 })

/-- G6_PATROL_SCRUB (R283): MEM_SCRUB_CFG.INTERVAL grains after the last one, the next burst is read and rewritten. -/
def State.g6Patrol (s : State) (g : Nat) : State :=
  if !s.groupOn g || !s.on F.MEM_SCRUB_CFG_EN g || s.g6Failed g || !s.g6Awake g then s
  else
    let x := s.g6g g
    let t := s.advance ((x.scrubAt + s.rd F.MEM_SCRUB_CFG_INTERVAL g) % 2 ^ 64)
    (t.g6WriteBurst (t.g6Burst g x.scrub) (fun _ => none)).onG6 g (fun y => { y with
      scrub := (x.scrub + 1) % max 1 (s.g6PerGroup / 128), scrubAt := t.grain })

/-- G6_PLL_LOCK_LOSS (16 R444). -/
def State.g6Unlock (s : State) (g : Nat) : State :=
  if s.groupOn g then s.wr F.CLK_STAT_G6_LOCK (putBits (s.rd F.CLK_STAT_G6_LOCK) g g 0) else s

/-- G6_PLL_RELOCK (16 R444). -/
def State.g6Relock (s : State) (g : Nat) : State :=
  if s.groupOn g then s.wr F.CLK_STAT_G6_LOCK (putBits (s.rd F.CLK_STAT_G6_LOCK) g g 1) else s

/-- G6_PLL_LOCK_TIMEOUT (16 R444): 1 ms without lock. -/
def State.g6LockTimeout (s : State) (g : Nat) : State :=
  if !s.groupOn g || bit (s.rd F.CLK_STAT_G6_LOCK) g || s.g6Failed g then s else s.g6Fail g 0

/-- G6_AUTO_SELF_REFRESH (16 R442): no operation for G6_IDLE µs, with G6_AUTO set. -/
def State.g6AutoSleep (s : State) (g : Nat) : State :=
  if !s.groupOn g || !s.on F.KILN_CTRL_G6_AUTO || (s.g6g g).queue != [] || s.on F.MEM_STAT_SELF_REF g then s
  else (s.advance (((s.g6g g).lastUse + s.rd F.KILN_GATE_G6_IDLE) % 2 ^ 64)).g6SelfRef g true

/-- G6_OP_ACCEPT. -/
def execG6OpAccept (group : Nat) (pkt : Packet) (s : State) : Host.Outcome State Fault Refusal :=
  .next (s.g6Accept group pkt)

/-- G6_OP_COMPLETE. -/
def execG6OpComplete (group : Nat) (s : State) : Host.Outcome State Fault Refusal := .next (s.g6Complete group)

/-- PIN_WINDOW_END. -/
def execPinWindowEnd (group : Nat) (s : State) : Host.Outcome State Fault Refusal := .next (s.g6Window group)

/-- G6_READ_REISSUE. -/
def execG6ReadReissue (group : Nat) (lanes : BitVec 10) (s : State) : Host.Outcome State Fault Refusal :=
  .next (s.g6Reissue group lanes)

/-- G6_WRITE_REWRITE. -/
def execG6WriteRewrite (group : Nat) (lanes : BitVec 10) (s : State) : Host.Outcome State Fault Refusal :=
  .next (s.g6Rewrite group lanes)

/-- G6_REFRESH. -/
def execG6Refresh (group : RefreshTurn) (s : State) : Host.Outcome State Fault Refusal :=
  .next (s.g6NextBank group.group group.hot)

/-- G6_PATROL_SCRUB. -/
def execG6PatrolScrub (group : Nat) (s : State) : Host.Outcome State Fault Refusal := .next (s.g6Patrol group)

/-- G6_PLL_LOCK_LOSS. -/
def execG6PllLockLoss (group : Nat) (s : State) : Host.Outcome State Fault Refusal := .next (s.g6Unlock group)

/-- G6_PLL_LOCK_TIMEOUT. -/
def execG6PllLockTimeout (group : Nat) (s : State) : Host.Outcome State Fault Refusal := .next (s.g6LockTimeout group)

/-- G6_PLL_RELOCK. -/
def execG6PllRelock (group : Nat) (s : State) : Host.Outcome State Fault Refusal := .next (s.g6Relock group)

/-- G6_AUTO_SELF_REFRESH. -/
def execG6AutoSelfRefresh (group : Nat) (s : State) : Host.Outcome State Fault Refusal := .next (s.g6AutoSleep group)

end Sys2Proof.Machine
end

