-- ==== Sys2Proof/Machine/Drey.lean ====
section
/-!
DEFINITION. Drey (09_queues.md): descriptors and their cache, placement and commit of records, reassembly, the reader's
operations, combining queues, the host's queue commands, and the mailbox units of the cores.
-/
namespace Sys2Proof.Machine

/-- Fault source of Drey (15_faults.md R404). -/
def srcDrey : Nat := 0x700

/-- A descriptor's fields (R250). -/
def Desc.maxLen (d : Desc) : Nat := wbits d.w0 63 48
def Desc.ring (d : Desc) : Nat := wbits d.w0 47 7 * 128
def Desc.size (d : Desc) : Nat := 2 ^ wbits d.w0 6 2
def Desc.type (d : Desc) : Nat := wbits d.w0 1 0
def Desc.open' (d : Desc) : Bool := bit d.w1.toNat 63
def Desc.epoch (d : Desc) : Nat := wbits d.w1 62 47
def Desc.reader (d : Desc) : Nat := wbits d.w1 46 34
def Desc.sender (d : Desc) : Nat := wbits d.w1 33 21
def Desc.period (d : Desc) : Bool := bit d.w1.toNat 20
def Desc.accBase (d : Desc) : Nat := wbits d.w1 19 10
def Desc.accN (d : Desc) : Nat := wbits d.w1 9 0
def Desc.rd (d : Desc) : Nat := wbits d.w2 63 32
def Desc.commit (d : Desc) : Nat := wbits d.w2 31 0
def Desc.res (d : Desc) : Nat := wbits d.w3 63 32
def Desc.seq (d : Desc) : Nat := wbits d.w3 31 0

/-- A word with bits [hi:lo] replaced. -/
def wput (w : Word) (hi lo v : Nat) : Word := BitVec.ofNat 64 (putBits w.toNat hi lo v)

/-- The chip address of a queue's descriptor (R250). -/
def State.descAddr (s : State) (q : Nat) : Nat := s.rd F.DREY_DESC_BASE_ADDR + 32 * q

/-- The descriptor of a queue as GDDR6 holds it; none where a word is uncorrectable. -/
def State.descRead (s : State) (q : Nat) : Option Desc × State :=
  let r := s.g6Read (s.descAddr q) 4
  (r.1.bind (fun ws => match ws with | [a, b, c, d] => some ⟨q, a, b, c, d⟩ | _ => none), r.2)

/-- A descriptor of which some words are uncorrectable: what can be read of it, zero in the other words, and the numbers of
those. -/
def State.descPart (s : State) (q : Nat) : Desc × List Nat :=
  let w (k : Nat) : Option Word := s.g6Data (s.descAddr q + 8 * k)
  (⟨q, (w 0).getD 0, (w 1).getD 0, (w 2).getD 0, (w 3).getD 0⟩, (List.range 4).filter (fun k => (w k).isNone))

/-- Words 0, 1 and 3 of a descriptor written back to GDDR6 (R252). -/
def State.descBack (s : State) (d : Desc) : State :=
  (s.g6Write (s.descAddr d.qid) [d.w0, d.w1]).g6Write (s.descAddr d.qid + 24) [d.w3]

/-- Whether a descriptor is cached. -/
def State.cached (s : State) (q : Nat) : Option Desc := s.drey.cache.find? (fun d => d.qid == q)

/-- A descriptor put into the cache as its most recently used one; a set of 16 evicts its oldest (R252). -/
def State.cachePut (s : State) (d : Desc) : State :=
  let rest := s.drey.cache.filter (fun x => x.qid != d.qid)
  let same := rest.filter (fun x => x.qid % 256 == d.qid % 256)
  match (same.drop 15).getLast? with
  | some v => ({ s with drey := { s.drey with cache := d :: rest.filter (fun x => x.qid != v.qid) } }).descBack v
  | none => { s with drey := { s.drey with cache := d :: rest } }

/-- A changed descriptor, word 2 written through when it changed (R252). -/
def State.descPut (s : State) (d : Desc) : State :=
  match s.cached d.qid with
  | some old =>
    let t := s.cachePut d
    if old.w2 = d.w2 then t else t.g6Write (s.descAddr d.qid + 16) [d.w2]
  | none => (s.cachePut d).g6Write (s.descAddr d.qid + 16) [d.w2]

/-- The descriptor of a queue wherever it stands, without an account of the read. -/
def State.descOf (s : State) (q : Nat) : Option Desc :=
  match s.cached q with
  | some d => some d
  | none => (s.descRead q).1

/-- The counter of a refusal (R266). -/
def dreyNackFld (reason : Nat) : Fld :=
  if reason = rsnRingFull then F.DREY_NACK_CNT0_RING_FULL
  else if reason = rsnQueueClosed then F.DREY_NACK_CNT0_QUEUE_CLOSED
  else if reason = rsnNotBound then F.DREY_NACK_CNT0_NOT_BOUND
  else if reason = rsnTooLong then F.DREY_NACK_CNT0_TOO_LONG
  else if reason = rsnNotPermitted then F.DREY_NACK_CNT1_NOT_PERMITTED
  else if reason = rsnBadLength then F.DREY_NACK_CNT1_BAD_LENGTH
  else if reason = rsnAddrError then F.DREY_NACK_CNT1_ADDR_ERROR
  else if reason = rsnShed then F.DREY_NACK_CNT1_SHED
  else F.DREY_MISC_CNT_DATA_ERROR

/-- A refusal by the central engine: counted, recorded, and answered (R257, R266); a QCOMB's NACK returns its token. -/
def State.dreyRefuse (s : State) (k : Packet) (reason : Nat) : State :=
  ((((s.inc (dreyNackFld reason)).wr F.DREY_LAST_NACK_REASON reason).wr F.DREY_LAST_NACK_SRC k.src.toNat).wr
    F.DREY_LAST_NACK_QID k.qid).sendNack agDrey k reason k.counted

/-- A record header (R255). -/
def recordHeader (seq src kind len : Nat) : Word :=
  BitVec.ofNat 64 (seq % 2 ^ 32 * 2 ^ 32 + src * 2 ^ 18 + kind * 2 ^ 16 + len)

/-- The chip address of a count in a ring (R256). -/
def Desc.at (d : Desc) (c : Nat) : Nat := d.ring + c % d.size

/-- Where place(n) of R256 puts a record: the bytes of PAD before it, or none for RING_FULL. -/
def placement (size rd res n width : Nat) : Option Nat :=
  let tail := size - res % size
  let free : Int := (size : Int) - ((res + 2 ^ width - rd) % 2 ^ width : Nat)
  if n ≤ tail ∧ (n : Int) ≤ free then some 0
  else if n > tail ∧ ((tail + n : Nat) : Int) ≤ free then some tail
  else none

/-- COMMIT advances over the complete records of a queue in reservation order (R259). -/
def State.advanceCommit (s : State) (q : Nat) : Nat → State
  | 0 => s
  | fuel + 1 =>
    match s.drey.resv.find? (fun r => r.qid == q), s.descOf q with
    | some r, some d =>
      if !r.done then s
      else
        let t := { s with drey := { s.drey with resv := dropFirst (fun x => x == r) s.drey.resv } }
        ((t.descPut { d with w2 := wput d.w2 31 0 ((d.commit + r.n) % 2 ^ 32) }).inc
          F.DREY_OP_CNT_RECORDS).advanceCommit q fuel
    | _, _ => s

/-- COMMIT of a queue brought up to date. -/
def State.commit (s : State) (q : Nat) : State := s.advanceCommit q (s.drey.resv.length)

/-- A reservation of `n` bytes on queue `d`, PAD first where place(n) asks for it: its count and sequence number. -/
def State.reserve (s : State) (d : Desc) (n : Nat) : Option (Nat × Nat × State) :=
  match placement d.size d.rd d.res n 32 with
  | none => none
  | some pad =>
    let pos := (d.res + pad) % 2 ^ 32
    let seq := if pad = 0 then d.seq else (d.seq + 1) % 2 ^ 32
    let w3 := BitVec.ofNat 64 ((pos + n) % 2 ^ 32 * 2 ^ 32 + (seq + 1) % 2 ^ 32)
    let s1 := if pad = 0 then s else s.g6Write (d.at d.res) [recordHeader d.seq agDrey 2 (pad - 8)]
    let padRes : List Resv := if pad = 0 then [] else [⟨d.qid, d.res, pad, true⟩]
    let s2 := { s1 with drey := { s1.drey with resv := s1.drey.resv ++ padRes ++ [Resv.mk d.qid pos n false] } }
    some (pos, seq, (s2.descPut { d with w3 := w3 }).commit d.qid)

/-- The reservation at count `pos` is complete, and COMMIT follows (R259). -/
def State.complete (s : State) (q pos : Nat) : State :=
  ({ s with drey := { s.drey with resv := s.drey.resv.map (fun (r : Resv) =>
      if r.qid = q ∧ r.pos = pos then { r with done := true } else r) } }).commit q

/-- Push header fields (R247). -/
def pushChk (k : Packet) : Bool := bit (k.data.headD 0).toNat 61
def pushEpoch (k : Packet) : Nat := wbits (k.data.headD 0) 60 45
def pushLen (k : Packet) : Nat := wbits (k.data.headD 0) 15 0
def pushRd (k : Packet) : Nat := wbits (k.data.headD 0) 31 0

/-- Bytes of a record of LEN payload bytes (R255). -/
def recordBytesOf (len : Nat) : Nat := 8 + 8 * ceilDiv len 8

/-- Whether an APPEND's packet keeps R248. -/
def pushWell (k : Packet) : Bool :=
  let b := min 112 (pushLen k - 112 * pushIdx k)
  pushCnt k == max 1 (ceilDiv (pushLen k) 112) && decide (pushIdx k < pushCnt k) &&
    k.data.length == 1 + ceilDiv b 8 && (b % 8 == 0 || (k.data.getLastD 0).toNat / 2 ^ (8 * (b % 8)) == 0)

/-- Whether a descriptor names its sender, or any (R257). -/
def mayAppend (sender src : Nat) : Bool := sender == agBroadcast || src == sender || src == agCollier

/-- Whether a source may RELEASE, OPEN and CLOSE (R260, R261). -/
def mayRead (reader src : Nat) : Bool := src == reader || src == agCollier

/-- The reassembly entry of a source. -/
def State.reasmOf (s : State) (src : Nat) : Option Reasm := s.drey.reasm.find? (fun r => r.src == src)

/-- Whether a packet belongs to the record of an entry. -/
def Reasm.holds (r : Reasm) (k : Packet) : Bool :=
  r.qid == k.qid && r.epoch == pushEpoch k && r.chk == pushChk k && r.len == pushLen k && r.pcnt == pushCnt k

/-- An entry replaced, and removed. -/
def State.setReasm (s : State) (r : Reasm) : State :=
  { s with drey := { s.drey with reasm := s.drey.reasm.filter (fun x => x.src != r.src) ++ [r] } }
def State.endReasm (s : State) (src : Nat) : State :=
  { s with drey := { s.drey with reasm := s.drey.reasm.filter (fun x => x.src != src) } }

/-- Why the first packet of a record is refused, before placement (R257); a row that needs a descriptor word listed in `bad`,
which is uncorrectable, does not apply. -/
def appendRefusal (d : Desc) (bad : List Nat) (k : Packet) (busy expired : Bool) : Option Nat :=
  let ok (w : Nat) : Bool := !bad.contains w
  if ok 0 && d.type != 1 then some rsnNotBound
  else if (ok 1 && !mayAppend d.sender k.src.toNat) || busy then some rsnNotPermitted
  else if !pushWell k then some rsnBadLength
  else if ok 0 && decide (d.maxLen < pushLen k) then some rsnTooLong
  else if (ok 1 && (!d.open' || (pushChk k && pushEpoch k != d.epoch))) || expired then some rsnQueueClosed
  else if ok 0 && ok 2 && ok 3 && placement d.size d.rd d.res (recordBytesOf (pushLen k)) 32 == none then some rsnRingFull
  else if bad != [] then some rsnDataError
  else none

/-- The data of a packet written at its place in the ring, the record's space beginning at address `a` (R258). -/
def State.writePart (s : State) (a : Nat) (k : Packet) : State := s.g6Write (a + 8 + 112 * pushIdx k) (k.data.drop 1)

/-- The record whose packets have all been counted is completed: its header is written last (R258). -/
def State.finishRecord (s : State) (q a src pos seq len : Nat) : State :=
  (s.g6Write a [recordHeader seq src 1 len]).complete q pos

/-- The first packet of a record to arrive (R257, R258); an uncorrectable descriptor is reported too. -/
def State.appendFirst (s : State) (d : Desc) (bad : List Nat) (k : Packet) (busy : Bool) : State :=
  let src := k.src.toNat
  let entry (st : ReasmState) (pos place seq : Nat) : Reasm :=
    ⟨src, k.qid, pushEpoch k, pushChk k, pushLen k, pushCnt k, 1, pos, place, seq, s.grain, st⟩
  match appendRefusal d bad k busy false with
  | some r =>
    let t := (if r = rsnDataError then s.report srcDrey 0x04 3 ((s.descAddr k.qid - g6Base) / 8) else s).dreyRefuse k r
    if decide (pushCnt k > 1) && !busy && r != rsnBadLength then t.setReasm (entry (.refused r) 0 0 0) else t
  | none =>
    match s.reserve d (recordBytesOf (pushLen k)) with
    | none => s
    | some (pos, seq, t) =>
      let t1 := t.writePart (d.at pos) k
      let t2 := if pushCnt k = 1 then t1.finishRecord d.qid (d.at pos) src pos seq (pushLen k)
        else t1.setReasm (entry .filling pos (d.at pos) seq)
      t2.sendAck agDrey k

/-- A later packet of a record in reassembly (R258, R259, R261). -/
def State.appendNext (s : State) (r : Reasm) (k : Packet) : State :=
  if !pushWell k then s.dreyRefuse k rsnBadLength
  else
    let last := r.got + 1 ≥ r.pcnt
    let s1 := if last then s.endReasm r.src else s.setReasm { r with got := r.got + 1 }
    match r.st with
    | .filling =>
      let s2 := s1.writePart r.place k
      (if last then s2.finishRecord r.qid r.place r.src r.pos r.seq r.len else s2).sendAck agDrey k
    | .dropped => s1.sendAck agDrey k
    | .refused reason => s1.dreyRefuse k reason
    | .expired => s.dreyRefuse k rsnQueueClosed

/-- An APPEND's packet at the central engine (R257, R258). -/
def State.dreyAppend (s : State) (d : Desc) (bad : List Nat) (k : Packet) : State :=
  match s.reasmOf k.src.toNat with
  | some r => if r.holds k && decide (1 < pushCnt k) then s.appendNext r k
      else s.appendFirst d bad k (decide (1 < pushCnt k))
  | none => s.appendFirst d bad k false

/-- The records of a queue in reassembly are discarded, and RD, COMMIT and RES are made equal (R261, R266). -/
def State.discardRecords (s : State) (q : Nat) : State :=
  { s with drey := { s.drey with
      resv := s.drey.resv.filter (fun r => r.qid != q)
      reasm := s.drey.reasm.map (fun (r : Reasm) => if r.qid = q ∧ r.st = .filling then { r with st := .dropped } else r) } }

/-- The descriptor after OPEN, CLOSE and RELEASE (R260, R261). -/
def Desc.opened (d : Desc) : Desc :=
  { d with w1 := wput (wput d.w1 63 63 1) 62 47 (d.epoch + 1), w2 := BitVec.ofNat 64 (d.res * 2 ^ 32 + d.res) }
def Desc.closed (d : Desc) : Desc := { d with w1 := wput d.w1 63 63 0 }
def Desc.released (d : Desc) (rd : Nat) : Desc := { d with w2 := wput d.w2 63 32 rd }

/-- Whether a new read count is allowed, for counts of a width (R260). -/
def releaseOk (old new commit width : Nat) : Bool :=
  decide ((new + 2 ^ width - old) % 2 ^ width ≤ (commit + 2 ^ width - old) % 2 ^ width)

/-- A RELEASE, OPEN or CLOSE at the central engine. -/
def State.dreyReader (s : State) (d : Desc) (k : Packet) : State :=
  if d.type = 0 ∨ d.type = 3 then s.dreyRefuse k rsnNotBound
  else if !mayRead d.reader k.src.toNat then s.dreyRefuse k rsnNotPermitted
  else if k.data.length ≠ 1 then s.dreyRefuse k rsnBadLength
  else match pushOp k with
    | 1 =>
      if pushChk k && pushEpoch k != d.epoch then s.dreyRefuse k rsnQueueClosed
      else if !releaseOk d.rd (pushRd k) d.commit 32 then s.dreyRefuse k rsnAddrError
      else (s.descPut (d.released (pushRd k))).sendAck agDrey k
    | 2 => ((s.discardRecords d.qid).descPut d.opened).sendAck agDrey k
    | _ => (s.descPut d.closed).sendAck agDrey k

/-- The elements of a QCOMB: index and addend (R262). -/
def combElements (k : Packet) : List (Nat × BitVec 32) :=
  let e := wbits (k.data.headD 0) 15 0
  (List.range (2 * (k.data.length - 1))).map (fun j =>
    (e + j, BitVec.ofNat 32 (half (k.data.getD (1 + j / 2) 0) (j % 2))))

/-- The parity of the period of queue `d` that contains the current step (R262, R263). -/
def State.combBank (s : State) (d : Desc) : Nat := (if d.period then s.frame else s.step) % 2

/-- Elements added into a bank of the combining store (R262). -/
def State.combAdd (s : State) (b base : Nat) (es : List (Nat × BitVec 32)) : State :=
  let add := fun (m : List (Nat × BitVec 32)) =>
    es.foldl (fun m e => Sparse.set natLt m (base + e.1) 0 (Sparse.get m (base + e.1) 0 + e.2)) m
  if b = 0 then { s with drey := { s.drey with comb0 := add s.drey.comb0 } }
  else { s with drey := { s.drey with comb1 := add s.drey.comb1 } }

/-- A QCOMB at the central engine (R262, R263). -/
def State.dreyComb (s : State) (d : Desc) (k : Packet) : State :=
  let es := combElements k
  if d.type ≠ 2 then s.dreyRefuse k rsnNotBound
  else if !mayAppend d.sender k.src.toNat then s.dreyRefuse k rsnNotPermitted
  else if k.data.length < 2 then s.dreyRefuse k rsnBadLength
  else if !d.open' then s.dreyRefuse k rsnQueueClosed
  else if es.any (fun e => decide (8 * (d.accN + 1) ≤ e.1)) then s.dreyRefuse k rsnAddrError
  else
    let late := k.tag.toNat ≠ (s.step + 1) % 64
    if late ∧ s.on F.TIME_CTRL_POLICY then s.dreyRefuse k rsnShed
    else
      ((if late then s.inc F.DREY_MISC_CNT_COMB_LATE else s).combAdd (s.combBank d) (8 * d.accBase) es).sendAck
        agDrey k true

/-- Operation of an APPEND, a reader or a QCOMB packet on its descriptor, the words of which that `bad` lists are
uncorrectable; only an APPEND has rows that go before that (R257). -/
def State.dreyPacket (s : State) (d : Desc) (bad : List Nat) (k : Packet) : State :=
  if k.op = 5 ∧ pushOp k = 0 then s.dreyAppend d bad k
  else if bad ≠ [] then (s.report srcDrey 0x04 3 ((s.descAddr k.qid - g6Base) / 8)).dreyRefuse k rsnDataError
  else if k.op = 6 then s.dreyComb d k
  else s.dreyReader d k

/-- The result of a host command (R266). -/
def State.qcmdDone (s : State) (reason : Nat) : State :=
  (s.wr F.DREY_QCMD_REASON reason).wr F.DREY_QCMD_BUSY 0

/-- Descriptor words into and out of DREY_QDESC. -/
def State.qdesc (s : State) (k : Nat) : Word := BitVec.ofNat 64 (s.rd F.DREY_QDESC_WORD 0 k)
def State.setQdesc (s : State) (ws : List Word) : State :=
  (ws.zipIdx).foldl (fun s x => s.wr F.DREY_QDESC_WORD x.1.toNat 0 x.2) s

/-- A host command on a GDDR6 queue's descriptor (R266); what refuses a BIND of a bound queue is NOT_PERMITTED, and a
queue that is not bound refuses the reader's commands with NOT_BOUND (DEDUCED, log entry 17). -/
def State.qcmd (s : State) (d : Desc) (c : Nat) : State :=
  match c with
  | 1 => (s.setQdesc [d.w0, d.w1, d.w2, d.w3]).qcmdDone 0
  | 2 => if d.type ≠ 0 then s.qcmdDone rsnNotPermitted
    else (s.descPut ⟨d.qid, s.qdesc 0, s.qdesc 1, s.qdesc 2, s.qdesc 3⟩).qcmdDone 0
  | 3 => ((s.discardRecords d.qid).descPut { d with w0 := wput d.w0 1 0 0 }).qcmdDone 0
  | 4 => if d.type = 0 then s.qcmdDone rsnNotBound
    else ((s.discardRecords d.qid).descPut d.opened).qcmdDone 0
  | 5 => if d.type = 0 then s.qcmdDone rsnNotBound else (s.descPut d.closed).qcmdDone 0
  | 6 => if d.type = 0 then s.qcmdDone rsnNotBound
    else if !releaseOk d.rd (s.rd F.DREY_QARG_RD) d.commit 32 then s.qcmdDone rsnAddrError
    else (s.descPut (d.released (s.rd F.DREY_QARG_RD))).qcmdDone 0
  | _ => s.qcmdDone 0

/-- The queue of an operation. -/
def MissOp.qid : MissOp → Nat
  | .pkt k => k.qid
  | .cmd _ q => q

/-- An operation with its descriptor, the words of which that `bad` lists are uncorrectable. -/
def State.dreyRun (s : State) (o : MissOp) (d : Desc) (bad : List Nat) : State :=
  let s1 := s.inc F.DREY_OP_CNT_OPS
  match o with
  | .pkt k => s1.dreyPacket d bad k
  | .cmd c q =>
    if bad = [] then s1.qcmd d c
    else ((s1.report srcDrey 0x04 3 ((s.descAddr q - g6Base) / 8)).inc F.DREY_MISC_CNT_DATA_ERROR).qcmdDone rsnDataError

/-- An operation reaches the central engine: a hit proceeds, a miss waits, and a full miss queue takes nothing (R253). -/
def State.dreyOp (s : State) (o : MissOp) : State :=
  if s.drey.miss.length ≥ 256 then s
  else
    let t := match o with
      | .pkt k => s.taken agDrey k
      | .cmd _ _ => s
    match s.cached o.qid with
    | some d => ((t.cachePut d).inc F.DREY_CACHE_CNT_HITS).dreyRun o d []
    | none =>
      let t1 := t.inc F.DREY_CACHE_CNT_MISSES
      { t1 with drey := { t1.drey with miss := t1.drey.miss ++ [o] } }

/-- Words 0, 1 and 3 of every cached descriptor are written back (R252, R266). -/
def State.cacheFlush (s : State) : State := s.drey.cache.foldl (fun s d => s.descBack d) s

/-- A command of DREY_QCMD on queue `q` at the central engine (R253, R266). -/
def State.qcmdEngine (s : State) (c q : Nat) : State :=
  if c = 7 then (s.cacheFlush.inc F.DREY_OP_CNT_OPS).qcmdDone 0 else s.dreyOp (.cmd c q)

/-- A command that the full miss queue kept waiting goes on once it has room (R253). -/
def State.qcmdWaiting (s : State) : State :=
  match s.drey.cmdWait with
  | some (c, q) =>
    if s.drey.miss.length ≥ 256 then s else State.qcmdEngine { s with drey := { s.drey with cmdWait := none } } c q
  | none => s

/-- DESCRIPTOR_MISS_RESOLVE (R253): the oldest waiting operation gets its descriptor, which is then the most recently used
one. -/
def State.missResolve (s : State) : State :=
  match s.drey.miss with
  | [] => s
  | o :: rest =>
    let s1 := { s with drey := { s.drey with miss := rest } }
    let t := match s1.cached o.qid with
      | some d => (s1.cachePut d).dreyRun o d []
      | none =>
        let r := s1.descRead o.qid
        match r.1 with
        | some d => (r.2.cachePut d).dreyRun o d []
        | none => let p := r.2.descPart o.qid; r.2.dreyRun o p.1 p.2
    t.qcmdWaiting

/-- A push to the central engine: a mailbox QID is served elsewhere (R246). -/
def State.dreyPush (s : State) (k : Packet) : State :=
  if s.drey.miss.length ≥ 256 then s
  else if k.qid < 0x10000 then ((s.taken agDrey k).inc F.DREY_OP_CNT_OPS).dreyRefuse k rsnNotBound
  else s.dreyOp (.pkt k)

/-- REASSEMBLY_EXPIRY (R259): the record's space becomes a PAD. -/
def State.reasmExpire (s : State) (src : Nat) : State :=
  match s.reasmOf src with
  | none => s
  | some r =>
    let s0 := s.advance ((r.since + s.rd F.DREY_CTRL_REASM_LIMIT) % 2 ^ 64)
    match r.st with
    | .expired => s
    | .refused _ => s0.endReasm src
    | .dropped => (s0.inc F.DREY_MISC_CNT_REASM_TO).setReasm { r with st := .expired, since := s0.grain }
    | .filling =>
      let s1 := (s0.inc F.DREY_MISC_CNT_REASM_TO).setReasm { r with st := .expired, since := s0.grain }
      (s1.g6Write r.place [recordHeader r.seq agDrey 2 (recordBytesOf r.len - 8)]).complete r.qid r.pos

/-- EXPIRED_ENTRY_FREE (R259). -/
def State.reasmFree (s : State) (src : Nat) : State :=
  match s.reasmOf src with
  | none => s
  | some r =>
    if r.st = .expired then (s.advance ((r.since + s.rd F.DREY_CTRL_REASM_LIMIT) % 2 ^ 64)).endReasm src else s

/-- The GDDR6 queues whose descriptors hold anything, ascending: those in the cache and those with a byte in the table. -/
def State.boundQids (s : State) : List Nat :=
  let base := s.rd F.DREY_DESC_BASE_ADDR
  let listed := (s.mem.filter (fun c => decide (base + 0x200000 ≤ c.1) && decide (c.1 < base + 0x2000000))).map
    (fun c => (c.1 - base) / 32)
  ((listed ++ s.drey.cache.map (·.qid)).mergeSort (· ≤ ·)).eraseDups

/-- The flush of one combining queue whose period ends: its record, and its elements of the bank zeroed (R264). -/
def State.combFlush (s : State) (d : Desc) (b first : Nat) : State :=
  let n := 8 * (d.accN + 1)
  let store := if b = 0 then s.drey.comb0 else s.drey.comb1
  let es := (List.range n).map (fun j => Sparse.get store (8 * d.accBase + j) 0)
  let kept := store.filter (fun e => !(decide (8 * d.accBase ≤ e.1) && decide (e.1 < 8 * d.accBase + n)))
  let s0 := if b = 0 then { s with drey := { s.drey with comb0 := kept } }
    else { s with drey := { s.drey with comb1 := kept } }
  let s1 := s0.inc F.DREY_OP_CNT_OPS (d.accN + 1)
  let len := 8 + 4 * n
  let lost := s1.inc F.DREY_MISC_CNT_FLUSH_LOST
  if !d.open' then lost
  else match s1.reserve d (recordBytesOf len) with
    | none => lost
    | some (pos, seq, t) =>
      (t.g6Write (d.at pos + 8) (wordsOf (toBytes 8 first ++ es.flatMap (fun e => toBytes 4 e.toNat)))).finishRecord
        d.qid (d.at pos) agDrey pos seq len

/-- The combining queues at the boundary that ends step `st`, and with it frame `fr` when `frame` (R264). -/
def State.combBoundary (s : State) (st fr : Nat) (frame : Bool) : State :=
  s.boundQids.foldl (fun s q =>
    match s.descOf q with
    | some d =>
      if d.type ≠ 2 then s
      else if !d.period then s.combFlush d (st % 2) st
      else if frame then s.combFlush d (fr % 2) (st + 1 - s.frameSteps)
      else s
    | none => s) s

/-- A mailbox descriptor's words, by SRAM word number; none where the mailbox does not exist (R251). -/
def State.mbxWord (s : State) (n m : Nat) : Option Nat :=
  if 2 * m + 1 < s.rd F.CORE_PART_MBX_SIZE n then some (s.rd F.CORE_PART_MBX_BASE n + 2 * m) else none

/-- A refusal by a mailbox unit is counted (R257, R266). -/
def State.mbxCount (s : State) (n reason : Nat) : State :=
  s.inc (if reason = rsnRingFull then F.DREY_MBX_CNT_RING_FULL
    else if reason = rsnQueueClosed then F.DREY_MBX_CNT_QUEUE_CLOSED
    else if reason = rsnTooLong then F.DREY_MBX_CNT_TOO_LONG else F.DREY_MBX_CNT_OTHER) 1 n

/-- The words of a mailbox record written from byte position `pos` of its ring on (R255, R256). -/
def State.mbxWrite (s : State) (n base size pos : Nat) (ws : List Word) : State :=
  (ws.zipIdx).foldl (fun s x => (s.sramWrite n (base + (pos % size) / 8 + x.2) x.1).act (n / 128) 3 1) s

/-- Why an APPEND to a mailbox with descriptor words `w0` and `w1`, each none where it is uncorrectable, is refused, placement
and all (R257). -/
def mbxRefusal (w0 w1 : Option Word) (k : Packet) : Option Nat :=
  let bytes := recordBytesOf (pushLen k)
  if w0.any (fun w => wbits w 63 62 != 1) then some rsnNotBound
  else if w0.any (fun w => !mayAppend (wbits w 31 19) k.src.toNat) then some rsnNotPermitted
  else if !pushWell k then some rsnBadLength
  else if pushLen k > 112 then some rsnTooLong
  else if w0.any (fun w => !bit w.toNat 61 || (pushChk k && pushEpoch k != wbits w 60 45)) then some rsnQueueClosed
  else match w0, w1 with
    | some a, some b =>
      if placement (8 * 2 ^ wbits a 18 15) (wbits b 63 48) (wbits b 47 32) bytes 16 = none then some rsnRingFull else none
    | _, _ => some rsnDataError

/-- A record appended to a mailbox that takes it (R251, R255, R256). -/
def State.mbxAppend (s : State) (n dw : Nat) (w0 w1 : Word) (k : Packet) : State :=
  let size := 8 * 2 ^ wbits w0 18 15
  let base := s.rd F.CORE_PART_MBX_BASE n + wbits w0 14 0
  let res := wbits w1 47 32
  let seq := wbits w1 31 0
  let bytes := recordBytesOf (pushLen k)
  let pad := (placement size (wbits w1 63 48) res bytes 16).getD 0
  let s1 := if pad = 0 then s else s.mbxWrite n base size res [recordHeader seq agDrey 2 (pad - 8)]
  let seq1 := if pad = 0 then seq else (seq + 1) % 2 ^ 32
  let s2 := s1.mbxWrite n base size (res + pad) (recordHeader seq1 k.src.toNat 1 (pushLen k) :: k.data.drop 1)
  let w1' := wput (wput w1 47 32 (res + pad + bytes)) 31 0 (seq1 + 1)
  (s2.sramWrite n (dw + 1) w1').act (n / 128) 3 1

/-- A RELEASE, OPEN or CLOSE at a mailbox, and why it is refused, if it is (R260, R261). -/
def State.mbxReader (s : State) (n dw : Nat) (w0 w1 : Word) (k : Packet) : State × Option Nat :=
  if wbits w0 63 62 ≠ 1 then (s, some rsnNotBound)
  else if !mayRead (wbits w0 44 32) k.src.toNat then (s, some rsnNotPermitted)
  else if k.data.length ≠ 1 then (s, some rsnBadLength)
  else match pushOp k with
    | 1 =>
      if pushChk k && pushEpoch k != wbits w0 60 45 then (s, some rsnQueueClosed)
      else if !releaseOk (wbits w1 63 48) (pushRd k % 65536) (wbits w1 47 32) 16 then (s, some rsnAddrError)
      else ((s.sramWrite n (dw + 1) (wput w1 63 48 (pushRd k))).act (n / 128) 3 1, none)
    | 2 =>
      let w0' := wput (wput w0 61 61 1) 60 45 (wbits w0 60 45 + 1)
      (((s.sramWrite n dw w0').sramWrite n (dw + 1) (wput w1 63 48 (wbits w1 47 32))).act (n / 128) 3 2, none)
    | _ => ((s.sramWrite n dw (wput w0 61 61 0)).act (n / 128) 3 1, none)

/-- What the mailbox unit of core `n` does with a push, and why it refuses it, if it does (R246, R251, R257). -/
def State.mbxServe (s : State) (n : Nat) (k : Packet) : State × Option Nat :=
  if k.op ≠ 5 ∨ k.qid / 64 ≠ n ∨ k.qid ≥ 0x10000 then (s, some rsnNotBound)
  else match s.mbxWord n (k.qid % 64) with
    | none => (s, some rsnNotBound)
    | some dw =>
      let a := s.sramRead n dw
      let b := a.2.sramRead n (dw + 1)
      let s1 := b.2.act (n / 128) 3 2
      if pushOp k = 0 then
        match mbxRefusal a.1 b.1 k with
        | some r => (s1, some r)
        | none => (s1.mbxAppend n dw (a.1.getD 0) (b.1.getD 0) k, none)
      else match a.1, b.1 with
        | some w0, some w1 => s1.mbxReader n dw w0 w1 k
        | _, _ => (s1, some rsnDataError)

/-- A push to the mailbox unit of core `n`, answered (R246; 07 R218). -/
def State.mbxPush (s : State) (n : Nat) (k : Packet) : State :=
  if s.on F.CORE_STAT_FENCED n then (s.dropArrived n k).taken n k |>.sendNack n k rsnFenced k.counted
  else
    let r := (s.taken n k).mbxServe n k
    match r.2 with
    | none => r.1.sendAck n k
    | some e => (r.1.mbxCount n e).sendNack n k e k.counted

/-- A push to whichever unit serves its destination (R246).  R246 names two receivers; any other agent answers, as 01 R21 asks,
with NACK, and its reason is NOT_BOUND (DESIGN CHOICE, log entry 57). -/
def State.push (s : State) (k : Packet) : State :=
  let a := k.dest.toNat
  if isCoreAgent a then s.mbxPush a k
  else if a = agDrey then s.dreyPush k
  else (s.taken a k).sendNack a k rsnNotBound k.counted

/-- Collier's push of OPEN, CLOSE or RELEASE to a mailbox (R247, R266). -/
def State.mbxCmdPush (s : State) (q c : Nat) : Packet :=
  let h := match c with | 4 => 2 * 2 ^ 62 | 5 => 3 * 2 ^ 62 | _ => 2 ^ 62 + s.rd F.DREY_QARG_RD
  mkPacket 5 (q / 64) agCollier 0 (q % 65536) 0 [BitVec.ofNat 64 h]

/-- A host command on a mailbox (R266): OPEN, CLOSE and RELEASE are Collier's push of that operation, which a fenced core's router
refuses and its unit counts where it refuses it; the others are its reads and writes of the descriptor words. -/
def State.mbxCmd (s : State) (q c : Nat) : State :=
  let n := q / 64
  if 4 ≤ c then
    if s.on F.CORE_STAT_FENCED n then (s.dropAt (s.tileOf n) 4 1).qcmdDone rsnFenced
    else
      let r := s.mbxServe n (s.mbxCmdPush q c)
      match r.2 with
      | none => r.1.qcmdDone 0
      | some e => (r.1.mbxCount n e).qcmdDone e
  else match s.mbxWord n (q % 64) with
    | none => s.qcmdDone rsnNotBound
    | some dw =>
      let a := s.sramRead n dw
      let b := a.2.sramRead n (dw + 1)
      match a.1, b.1 with
      | some w0, some w1 =>
        (match c with
        | 1 => (b.2.setQdesc [w0, w1]).qcmdDone 0
        | 2 => if wbits w0 63 62 ≠ 0 then b.2.qcmdDone rsnNotPermitted
          else ((b.2.sramWrite n dw (s.qdesc 0)).sramWrite n (dw + 1) (s.qdesc 1)).qcmdDone 0
        | _ => (b.2.sramWrite n dw (wput w0 63 62 0)).qcmdDone 0)
      | _, _ => b.2.qcmdDone rsnDataError

/-- A write of DREY_QCMD.CMD (R266): 0 and 8 to 15 start nothing, and a command in progress lets no other one start
(DEDUCED, log entry 17); one that finds the central engine's miss queue full waits (R253). -/
def State.qcmdWrite (s : State) (c : Nat) : State :=
  if s.on F.DREY_QCMD_BUSY then s
  else
    let s1 := s.wr F.DREY_QCMD_CMD c
    let q := s.rd F.DREY_QSEL_QID
    if c = 0 ∨ c ≥ 8 then s1
    else if q < 0x10000 ∧ c ≠ 7 then s1.mbxCmd q c
    else
      let s2 := s1.wr F.DREY_QCMD_BUSY 1
      State.qcmdWaiting { s2 with drey := { s2.drey with cmdWait := some (c, q) } }

/-- QPUSH_APPEND. -/
def execQpushAppend (pkt : Packet) (s : State) : Host.Outcome State Fault Refusal := .next (s.push pkt)

/-- MAILBOX_APPEND. -/
def execMailboxAppend (pkt : Packet) (s : State) : Host.Outcome State Fault Refusal := .next (s.mbxPush pkt.dest.toNat pkt)

/-- QPUSH_RELEASE. -/
def execQpushRelease (pkt : Packet) (s : State) : Host.Outcome State Fault Refusal := .next (s.push pkt)

/-- QPUSH_OPEN. -/
def execQpushOpen (pkt : Packet) (s : State) : Host.Outcome State Fault Refusal := .next (s.push pkt)

/-- QPUSH_CLOSE. -/
def execQpushClose (pkt : Packet) (s : State) : Host.Outcome State Fault Refusal := .next (s.push pkt)

/-- QCOMB. -/
def execQcomb (pkt : Packet) (s : State) : Host.Outcome State Fault Refusal := .next (s.push pkt)

/-- REASSEMBLY_EXPIRY. -/
def execReassemblyExpiry (src : BitVec 13) (s : State) : Host.Outcome State Fault Refusal :=
  .next (s.reasmExpire src.toNat)

/-- EXPIRED_ENTRY_FREE. -/
def execExpiredEntryFree (src : BitVec 13) (s : State) : Host.Outcome State Fault Refusal := .next (s.reasmFree src.toNat)

/-- DESCRIPTOR_MISS_RESOLVE. -/
def execDescriptorMissResolve (s : State) : Host.Outcome State Fault Refusal := .next s.missResolve

/-- DREY_QCMD_READ. -/
def execDreyQcmdRead (s : State) : Host.Outcome State Fault Refusal := .next (s.qcmdWrite 1)

/-- DREY_QCMD_BIND. -/
def execDreyQcmdBind (s : State) : Host.Outcome State Fault Refusal := .next (s.qcmdWrite 2)

/-- DREY_QCMD_UNBIND. -/
def execDreyQcmdUnbind (s : State) : Host.Outcome State Fault Refusal := .next (s.qcmdWrite 3)

/-- DREY_QCMD_OPEN. -/
def execDreyQcmdOpen (s : State) : Host.Outcome State Fault Refusal := .next (s.qcmdWrite 4)

/-- DREY_QCMD_CLOSE. -/
def execDreyQcmdClose (s : State) : Host.Outcome State Fault Refusal := .next (s.qcmdWrite 5)

/-- DREY_QCMD_RELEASE. -/
def execDreyQcmdRelease (s : State) : Host.Outcome State Fault Refusal := .next (s.qcmdWrite 6)

/-- DREY_QCMD_FLUSH. -/
def execDreyQcmdFlush (s : State) : Host.Outcome State Fault Refusal := .next (s.qcmdWrite 7)

end Sys2Proof.Machine
end

