-- ==== Sys2Proof/Machine/Drulum.lean ====
section
/-!
DEFINITION. Drulum packets, the checks that every command passes, and replies (12_command_interface.md R325 to R332).
-/
namespace Sys2Proof
open Machine

/-- Whether the trailer is the CRC-32C of every byte before it (R326). -/
def HostCmd.crcOk (c : HostCmd) : Bool :=
  decide (4 ≤ c.bytes.length) &&
    byteField c.bytes (c.bytes.length - 4) 4 == (crc32c (c.bytes.take (c.bytes.length - 4))).toNat

end Sys2Proof

namespace Sys2Proof.Machine

/-- The status of a reason (R328): 0 OK, 1 ERROR, 2 BUSY, 3 REFUSED. -/
def statusOf (reason : Nat) : Nat :=
  if reason = 0 then 0
  else if reason = 0x0620 ∨ reason = 0x0C02 ∨ reason / 256 = 0x0D then 1
  else if 0x0E01 ≤ reason ∧ reason ≤ 0x0E04 then 1
  else if reason = 0x0F04 ∨ reason = 0x0F05 then 2
  else 3

/-- A reply's bytes (R327). -/
def replyBytes (word0 status reason : Nat) (data : List Byte) : List Byte :=
  let b := toBytes 4 word0 ++ toBytes 4 (status * 2 ^ 24 + reason * 2 ^ 8) ++ data
  b ++ toBytes 4 (crc32c b).toNat

/-- Replies that wait enter the reply FIFO as far as it has room, each with its IBI (R323, R324). -/
def CmdSt.place (c : CmdSt) : CmdSt :=
  let k := min c.replyWait.length (4 - c.replies.length)
  { c with replies := c.replies ++ c.replyWait.take k, replyWait := c.replyWait.drop k, ibiReply := c.ibiReply + k }

/-- A reply goes out on the path of its command: into the reply FIFO with its IBI, or as a reply block (R323, R324,
11 R308); a command without ACK_REQ gets no plain OK (R327). The reply of a deferred command that finds the FIFO's 4 entries
taken waits for one (DEDUCED, log entry 52). -/
def State.sendReply (s : State) (path : CmdPath) (word0 : Nat) (ack : Bool) (reason : Nat) (data : List Byte) : State :=
  let st := statusOf reason
  let s1 := if st = 0 then s
    else (((s.inc F.CMD_CNT_NOT_OK).wr F.CMD_LAST_REASON reason).wr F.CMD_LAST_OPCODE (bits word0 23 16)).wr
      F.CMD_LAST_STATUS st
  if st = 0 ∧ data = [] ∧ !ack then s1
  else
    let b := replyBytes word0 st reason data
    match path with
    | .inband =>
      if s.on F.CMD_INBAND_CFG_REPLY_EN then
        s1.emitBlock (s.rd F.CMD_INBAND_CFG_TX_PORT) (s.rd F.CMD_INBAND_CFG_TX_VC) 0x36 b .reply
      else s1
    | _ => { s1 with cmd := CmdSt.place { s1.cmd with replyWait := s1.cmd.replyWait ++ [b] } }

/-- The reply to a command. -/
def State.answer (s : State) (c : HostCmd) (reason : Nat) (data : List Byte) : State :=
  s.sendReply c.path c.word0 c.ackReq reason data

/-- What a command's effect answers: a reply now, one when the effect is complete (R329), or one with a mirrored edit
(13_redundant_pair.md R357). -/
inductive Result where
  | done (reason : Nat) (data : List Byte)
  | later (arg : Nat)
  | edit
  deriving DecidableEq, Repr

/-- An opcode as R333 lists it: its parameter lengths, whether it uses the target field, the ranges and the zero bytes of
its parameters (0x0D04 and 0x0D05), the feature that gates it, whether it is deferred, and its conditions on signature,
address and state, each as the reasons that hold. -/
structure Opcode where
  op : Nat
  plen : HostCmd → Bool
  target : Bool
  range : State → HostCmd → Bool
  zero : HostCmd → Bool
  feature : Option Nat
  deferred : Bool
  address : State → HostCmd → Option Nat
  refused : State → HostCmd → List Nat

/-- An opcode without parameters, target and conditions. -/
def Opcode.plain (op : Nat) : Opcode where
  op := op
  plen := fun c => c.plen == 0
  target := false
  range := fun _ _ => true
  zero := fun _ => true
  feature := none
  deferred := false
  address := fun _ _ => none
  refused := fun _ _ => []

/-- Whether feature `k` is agreed (R331). -/
def State.agreed (s : State) (k : Nat) : Bool := bit (s.rd F.CMD_FEAT_FEATURES) k

/-- Whether a deferred command of an opcode is outstanding (R329). -/
def State.outstanding (s : State) (op : Nat) : Bool := s.cmd.deferred.any (fun d => d.op == op)

/-- Whether an address lies in a region that the chip decodes (10_memory_system.md R286, R287). -/
def State.decoded (s : State) (a : Nat) : Bool :=
  decide (a < 0x40000000) || (decide (0x0100000000 ≤ a) && decide (a < 0x0100080000)) ||
    (decide (0x0200000000 ≤ a) && decide (a < 0x0201000000)) || (decide (0x0300000000 ≤ a) && decide (a < 0x0308000000)) ||
    s.g6Has a

/-- Why a GDDR6 buffer of `n` bytes at address `a`, which `align` has to divide, is not taken (R328). -/
def State.bufferReason (s : State) (a n align : Nat) : Option Nat :=
  if !s.decoded a || (s.g6Has a && !s.g6Has (a + n - 1)) then some 0x0E01
  else if a % align ≠ 0 then some 0x0E02
  else if !s.g6Has a then some 0x0E03
  else none

/-- The least of some reasons. -/
def leastReason : List Nat → Option Nat
  | [] => none
  | r :: rs => some (rs.foldl min r)

/-- Whether the reserved parts of a packet are zero (R325, R333). -/
def Opcode.reserved (k : Opcode) (c : HostCmd) : Bool :=
  bits c.word1 15 10 == 0 && bits c.word1 7 0 == 0 && (k.target || c.target == 0) && k.zero c

/-- Whether the device answers a command otherwise than ERROR 0x0D02 at its boot stage (14 R375, R376, R379); an ENABLE, whose write of RUN_EN would be ignored, is answered so before READY
(DESIGN CHOICE, log entry 29). -/
def State.answers (s : State) (c : HostCmd) : Bool :=
  let early := c.op == 1 || c.op == 2
  if s.boot.stage ≤ 2 then
    early || (s.boot.waiting && (c.op == 0x0B || c.op == 0x3C))
  else if s.boot.stopped then
    early || c.op == 0x3F || c.op == 0x20 || (c.op == 0x08 && c.target / 2 ^ 24 == 0x200)
  else (c.op != 0x10 && c.op != 0x18) || decide (8 ≤ s.boot.stage)

/-- The first reason for which a command is not performed, in the order of R328. -/
def Opcode.reason (k : Opcode) (s : State) (c : HostCmd) : Option Nat :=
  if !c.crcOk then some 0x0D01
  else if !s.answers c then some 0x0D02
  else if c.bytes.length ≠ 20 + c.plen ∨ c.plen > 232 ∨ c.plen % 4 ≠ 0 ∨ !k.plen c then some 0x0D03
  else if !k.range s c then some 0x0D04
  else if !k.reserved c then some 0x0D05
  else if c.major ≠ 1 then some 0x0B01
  else if (match k.feature with | some f => !s.agreed f | none => false) || (c.path == .inband && k.op != 1 && !s.agreed 0)
    then some 0x0B02
  else match k.address s c with
    | some r => some r
    | none => leastReason (k.refused s c ++ (if k.deferred && s.outstanding k.op then [0x0F04] else []))

/-- The stamp of a waiting command. -/
def State.stampOf (s : State) (q : QCmd) : Nat := if q.fresh then s.grain else q.stamp

/-- A time-set command (02 R50): STEP, or a REG_WRITE to TIME_GRAIN, TIME_ORIGIN, TIME_SYNC_LOAD or TIME_STEP_GRANT. -/
def timeSet (c : HostCmd) : Bool :=
  c.op == 0x1C || (c.op == 0x09 && [Reg.TIME_GRAIN, .TIME_ORIGIN, .TIME_SYNC_LOAD, .TIME_STEP_GRANT].any (fun r =>
    let a := 0x0200000000 + r.info.off
    decide (c.target < a + (if r.info.wide then 8 else 4)) && decide (a < c.target + c.plen)))

/-- The command whose turn it is at Collier (R323, R329, 02 R49): ascending stamp; of equal stamps a time-set command, which
is of class 0, then I3C before in-band; the command FIFO rests while the reply FIFO is full. -/
def State.turn (s : State) : Option QCmd :=
  let a := if s.cmd.replies.length ≥ 4 then none else s.cmd.fifo.head?
  match a, s.cmd.inband.head? with
  | some x, some y =>
    if s.stampOf x = s.stampOf y ∧ timeSet y.cmd ∧ !timeSet x.cmd then some y
    else if reached (s.stampOf y) (s.stampOf x) then some x else some y
  | some x, none => some x
  | none, y => y

/-- The logical cores that a swap moves. -/
def State.moving (s : State) (w : Swap) : List Nat :=
  if w.columns = [] then [w.core]
  else w.columns.flatMap (fun c => (List.range 128).filterMap (fun j =>
    let n := 128 * c.1 + j
    let x := tileX (s.tileOf n) % 17
    if s.on F.SPARE_MAP_VALID c.1 n && c.2 ≤ x then some n else none))

/-- Whether Collier holds a command: a host access to a core that an open window moves (14 R393). -/
def State.swapHolds (s : State) (c : HostCmd) : Bool :=
  match s.spare.window with
  | some (w, _) => decide (8 ≤ c.op) && decide (c.op ≤ 11) && (s.moving w).contains (c.target / 0x100000)
  | none => false

/-- Collier takes a command: the one whose turn it is, or, where none waits, one that has just come (DESIGN CHOICE, log
entry 18); none while a MEM_WRITE waits for words that its target holds (R329), none in DEEP (16 R440), and no host access to a core
that is being moved.  The answer holds its stamp and whether it had waited; none where another command's turn it is. -/
def State.takeCmd (s : State) (c : HostCmd) : Option (Nat × Bool × State) :=
  if !s.boot.up || s.rd F.KILN_STAT_STATE == 3 || s.outstanding 0x0B || s.swapHolds c then none
  else match s.turn with
  | some q =>
    if q.cmd ≠ c then none
    else if s.cmd.fifo.head? = some q then
      some (s.stampOf q, true, { s with cmd := { s.cmd with fifo := s.cmd.fifo.drop 1 } })
    else some (s.stampOf q, true, { s with cmd := { s.cmd with inband := s.cmd.inband.drop 1 } })
  | none =>
    if s.cmd.fifo = [] ∧ (c.path = .inband ∨ s.cmd.replies.length < 4) then some (s.grain, false, s) else none

/-- Whether a command is answered in SLEEP without leaving it (16 R440). -/
def sleepOk (c : HostCmd) : Bool :=
  [0x01, 0x02, 0x3F, 0x20, 0x21, 0x28].contains c.op || ((c.op == 0x08 || c.op == 0x09) && c.target / 2 ^ 24 == 0x200)

/-- In SLEEP any other command first returns the device to RUN (16 R440). -/
def State.wakeFor (s : State) (c : HostCmd) : State :=
  if s.rd F.KILN_STAT_STATE = 2 ∧ c.crcOk ∧ !sleepOk c then s.toRun else s

/-- A command is served: taken, checked, and performed by `body`, which is given its stamp and whether it had waited
(R328, R329).  A packet whose opcode is not the row's changes nothing. -/
def State.serve (s : State) (k : Opcode) (c : HostCmd) (body : Nat → Bool → State → State × Result) : State :=
  if c.op ≠ k.op then s
  else match s.takeCmd c with
    | none => s
    | some (stamp, waited, t) =>
      let t1 := (t.inc F.CMD_CNT_CMDS).wakeFor c
      match k.reason t1 c with
      | some r => (if r = 0x0D01 then t1.inc F.CMD_CNT_CRC_ERR else t1).answer c r []
      | none =>
        let y := body stamp waited t1
        match y.2 with
        | .done r d => y.1.answer c r d
        | .later arg => { y.1 with cmd := { y.1.cmd with
            deferred := y.1.cmd.deferred ++ [⟨k.op, c.word0, c.ackReq, c.path, arg⟩] } }
        | .edit => y.1

/-- A deferred command of an opcode is complete (R329). -/
def State.finish (s : State) (op reason : Nat) (data : List Byte) : State :=
  match s.cmd.deferred.find? (fun d => d.op == op) with
  | none => s
  | some d =>
    ({ s with cmd := { s.cmd with deferred := dropFirst (fun x => x == d) s.cmd.deferred } }).sendReply d.path d.word0
      d.ack reason data

/-- The Quench tree fires (12 R344): injection stops but for the exceptions that `mayInject` makes, ACT lines fall, ARM
bits clear, RUN_EN falls, TX ports hold back what is no reply and no relay, and QUENCHED is set. -/
def State.quenchFire (s : State) : State :=
  let t := (s.runFall.txQuenches.wr F.ACT_ARM_ARM 0).wr F.CHIP_CTRL_QUENCHED 1
  { t with ash := { t.ash with armNext := none }, net := { t.net with stopped := true } }

/-- The Quench tree fires (12 R344); a DISABLE that waits for its boundary is thereby done, and a QUIESCE finds RUN_EN
fallen (DESIGN CHOICE, log entry 21). -/
def State.quench (s : State) : State :=
  let n := s.lastStep
  ((s.quenchFire).finish 0x19 0 (toBytes 8 n)).finish 0x1A 0x0F02 []

/-- The number that a deferred command of an opcode keeps. -/
def State.deferredArg (s : State) (op : Nat) : Option Nat :=
  (s.cmd.deferred.find? (fun d => d.op == op)).map (·.arg)

/-- Whether the model runs, or the check is under way, which counts as running for every command and locked register
(R336). -/
def State.busy (s : State) : Bool := s.running || s.on F.CHIP_CTRL_CHECK_BUSY

end Sys2Proof.Machine
end

