-- ==== Sys2Proof/Machine/Tinder.lean ====
section
/-!
DEFINITION. Tinder (06_encoders_decoders_and_actuation.md R154 to R168): the order in which it takes inputs
(02_time_and_ordering.md R46 to R49), the encoders, the hold buffer, metering and contact inputs.
-/
namespace Sys2Proof.Machine

/-- A channel's descriptor (R154). -/
structure Chan where
  tag : Nat
  enc : Nat
  en : Bool
  meter : Bool
  dest : Nat
  axon : Nat
  p1 : Nat
  p2 : Nat
  p3 : Nat
  p4 : Nat
  deriving DecidableEq, Repr

/-- The descriptor of tag `t`. -/
def State.chan (s : State) (t : Nat) : Chan :=
  let a := s.rd F.TND_CHAN_A_WORD 0 t
  let b := s.rd F.TND_CHAN_B_WORD 0 t
  ⟨t, bits a 63 60, bit a 59, bit a 58, bits a 57 45, bits a 44 29, bits b 63 48, bits b 47 32, bits b 31 16, bits b 15 0⟩

/-- What a channel's encoder keeps. -/
def State.chanSt (s : State) (t : Nat) : ChanSt := Sparse.get s.tinder.chans t ChanSt.fresh
def State.setChan (s : State) (t : Nat) (c : ChanSt) : State :=
  { s with tinder := { s.tinder with chans := Sparse.set natLt s.tinder.chans t ChanSt.fresh c } }

/-- One more clip of Tinder, or one more discarded input. -/
def State.tndClip (s : State) : State := s.inc F.TND_CNT_CLIP
def State.tndDisc (s : State) : State := s.inc F.TND_CNT_DISC

/-- The hold buffer's highest occupancy (R184, 02 R56). -/
def State.holdTop (s : State) : State := s.top F.TND_STAT_HOLD_MAX (min 8192 s.tinder.hold.length)

/-- Tinder emits an event for step `n` with `late` further steps of latency: ready for injection when its tag is at most
one step ahead of the current step, else held (R156, 02 R56).  Events that a burst holds beyond 8,192 stand for those that
its encoder has yet to emit: nothing else is encoded until there is room. -/
def State.tndEmit (s : State) (c : Chan) (n late axon pay : Nat) : State :=
  let tag := n + 1 + late
  let k : Packet := ⟨1, BitVec.ofNat 13 c.dest, BitVec.ofNat 13 agTinder, BitVec.ofNat 6 tag, BitVec.ofNat 16 axon,
    BitVec.ofNat 8 pay, 0, []⟩
  let t := s.inc F.TND_CNT_EVENTS
  if tag ≤ s.step + 1 then { t with tinder := { t.tinder with ready := t.tinder.ready ++ [TinEvent.mk tag k] } }
  else ({ t with tinder := { t.tinder with hold := t.tinder.hold ++ [TinEvent.mk tag k] } }).holdTop

/-- `k` events with payload 0x01. -/
def State.tndEmits (s : State) (c : Chan) (n axon : Nat) : Nat → State
  | 0 => s
  | k + 1 => (s.tndEmit c n 0 axon 1).tndEmits c n axon k

/-- The events whose step has come leave the hold buffer, oldest first (02 R56). -/
def State.promote (s : State) : State :=
  let due := s.tinder.hold.filter (fun e => decide (e.tag ≤ s.step + 1))
  let rest := s.tinder.hold.filter (fun e => decide (s.step + 1 < e.tag))
  { s with tinder := { s.tinder with ready := s.tinder.ready ++ due, hold := rest } }

/-- A payload that may have clipped. -/
def State.tndClipIf (s : State) (b : Bool) : State := if b then s.tndClip else s

/-- Send-on-delta's events upward or downward by `step`: how many of at most so many, and the reference after them
(R158). -/
def deltaRun (up : Bool) (step : Nat) (v : Int) : Nat → Int → Nat × Int
  | 0, ref => (0, ref)
  | k + 1, ref =>
    if (if up then v - ref else ref - v) ≥ step then
      let r := deltaRun up step v k (if up then ref + step else ref - step)
      (r.1 + 1, r.2)
    else (0, ref)

/-- Send-on-delta (R158). -/
def State.encDelta (s : State) (c : Chan) (n : Nat) (v : Int) : State :=
  let st := s.chanSt c.tag
  if !st.primed then s.setChan c.tag { st with primed := true, ref := v }
  else
    let maxev := bits c.p3 3 0
    let up := deltaRun true c.p1 v maxev st.ref
    let dn := deltaRun false c.p2 v (maxev - up.1) up.2
    let s1 := (s.tndEmits c n c.axon up.1).tndEmits c n (c.axon + 1) dn.1
    if v - dn.2 ≥ c.p1 ∨ dn.2 - v ≥ c.p2 then (s1.setChan c.tag { st with ref := v }).tndClip
    else s1.setChan c.tag { st with ref := dn.2 }

/-- The payload of direct graded coding for `u`, and whether it clipped (R161). -/
def gradedPay (c : Chan) (u : Int) : Nat × Bool :=
  let y := rsh (u - sgn 16 c.p1) (bits c.p3 3 0)
  let z := if bit c.p3 6 then satS 8 y else satU 8 y
  (uns 8 z, z != y)

/-- A graded event; a zero payload is not sent (R161). -/
def State.encGraded (s : State) (c : Chan) (n : Nat) (u : Int) : State :=
  let p := gradedPay c u
  let s1 := s.tndClipIf p.2
  if p.1 = 0 then s1 else s1.tndEmit c n 0 c.axon p.1

/-- The polarity after a sample (R162). -/
def polarity (hys : Nat) (v : Int) (old : Option Bool) : Option Bool :=
  let pos := decide (v ≥ hys)
  let neg := decide (v ≤ -(hys : Int))
  if pos && !neg then some true else if neg && !pos then some false else old

/-- Zero-crossing (R162). -/
def State.encZero (s : State) (c : Chan) (n : Nat) (v : Int) : State :=
  let st := s.chanSt c.tag
  let new := polarity c.p1 v st.pol
  let s1 := s.setChan c.tag { st with pol := new, primed := new.isSome }
  match st.pol, new with
  | some false, some true => s1.tndEmit c n 0 c.axon 1
  | some true, some false => s1.tndEmit c n 0 (c.axon + 1) 1
  | _, _ => s1

/-- Phase-slot (R163); its counts are 16 bits wide and saturate (log entry 16). -/
def State.encPhase (s : State) (c : Chan) (n : Nat) (v : Int) : State :=
  let st := s.chanSt c.tag
  let new := polarity c.p1 v st.pol
  let up := st.pol == some false && new == some true
  let per := if up then (match st.cnt with | some k => min 65535 (k + 1) | none => st.per) else st.per
  let cnt := if up then some 0 else st.cnt.map (fun k => min 65535 (k + 1))
  let s1 := s.setChan c.tag { st with pol := new, primed := new.isSome, per := per, cnt := cnt }
  match cnt with
  | some k =>
    if per ≠ 0 ∧ v.natAbs ≥ c.p2 then
      let ns := bits c.p3 5 0
      let r := rsh v.natAbs (bits c.p3 11 8)
      (s1.tndClipIf (satU 8 r != r)).tndEmit c n 0 (c.axon + min (ns - 1) (k * ns / per)) (satU 8 r).toNat
    else s1
  | none => s1

/-- The reference store's entry `e` (R164). -/
def State.refOf (s : State) (e : Nat) : Int :=
  sgn 16 (s.rd (if e % 2 = 1 then F.TND_REFSTORE_HI else F.TND_REFSTORE_LO) 0 (e / 2))
def State.setRef (s : State) (e : Nat) (v : Int) : State :=
  s.wr (if e % 2 = 1 then F.TND_REFSTORE_HI else F.TND_REFSTORE_LO) (uns 16 v) 0 (e / 2)

/-- Frame differencing of pixel `p` (R164). -/
def State.encDiff (s : State) (c : Chan) (n : Nat) (v : Int) (p : Nat) : State :=
  if p ≥ c.p3 then s.tndDisc
  else
    let e := (c.p2 + p) % 65536
    let d := v - s.refOf e
    let r := rsh d.natAbs (bits c.p4 3 0)
    if d ≥ c.p1 then
      ((s.setRef e v).tndClipIf (satU 8 r != r)).tndEmit c n 0 (c.axon + 2 * p) (satU 8 r).toNat
    else if d ≤ -(c.p1 : Int) then
      ((s.setRef e v).tndClipIf (satU 8 r != r)).tndEmit c n 0 (c.axon + 2 * p + 1) (satU 8 r).toNat
    else s

/-- Event pass-through (R165). -/
def State.encEvent (s : State) (c : Chan) (n x y pol : Nat) : State :=
  if x ≥ c.p1 ∨ y ≥ c.p2 then s.tndDisc
  else
    let k := bits c.p3 3 0
    s.tndEmit c n 0 (c.axon + 2 * ((y / 2 ^ k) * ceilDiv c.p1 (2 ^ k) + x / 2 ^ k) + pol) 1

/-- A sample on a channel whose encoder acts once per step, or at once with SEL 0 (R157, R161). -/
def State.encHeld (s : State) (c : Chan) (n : Nat) (v : Int) : State :=
  let st := s.chanSt c.tag
  let s1 := s.setChan c.tag { st with primed := true, held := v, sum := st.sum + v, n := st.n + 1 }
  if c.enc = 4 ∧ bits c.p3 5 4 = 0 then s1.encGraded c n v else s1

/-- The encoder of an input's channel (R156, R157). -/
def State.encode (s : State) (e : Input) : State :=
  let c := s.chan e.tag
  if !c.en then s.tndDisc
  else match c.enc, e.kind with
    | 1, 0 => s.encDelta c e.step e.v
    | 2, 0 => s.encHeld c e.step e.v
    | 3, 0 => s.encHeld c e.step e.v
    | 4, 0 => s.encHeld c e.step e.v
    | 5, 0 => s.encZero c e.step e.v
    | 6, 0 => s.encPhase c e.step e.v
    | 7, 3 => s.encDiff c e.step e.v e.x
    | 8, 2 => s.encEvent c e.step e.x e.y (e.v.toNat % 2)
    | 9, 1 => s.tndEmit c e.step 0 (if e.v = 0 then c.axon + 1 else c.axon) 1
    | _, _ => s.tndDisc

/-- The rate encoder at the close of step `n`'s window (R159). -/
def State.encRate (s : State) (c : Chan) (n : Nat) : State :=
  let st := s.chanSt c.tag
  let r := min (15 * 65536) ((max 0 (st.held - sgn 16 c.p1)).toNat * c.p2)
  if bit c.p3 0 then
    let p := min 65535 (r / 16)
    let d := (List.range 16).foldl (fun (acc : Nat × BitVec 32) _ =>
      let l := lfsrStep acc.2
      (if l.toNat % 65536 < p then acc.1 + 1 else acc.1, l)) (0, BitVec.ofNat 32 (s.rd F.TND_SEED_STATE))
    (s.wr F.TND_SEED_STATE d.2.toNat).tndEmits c n c.axon d.1
  else
    let a := (st.acc + r) % 2 ^ 32
    (s.setChan c.tag { st with acc := a % 65536 }).tndEmits c n c.axon (a / 65536)

/-- The latency encoder at the close of step `n`'s window (R160). -/
def State.encLatency (s : State) (c : Chan) (n : Nat) : State :=
  let v := (s.chanSt c.tag).held
  if n % max 1 s.frameSteps ≠ 0 ∨ v < sgn 16 c.p1 then s
  else s.tndEmit c n (min (bits c.p3 3 0) ((max 0 (sgn 16 c.p2 - v)).toNat / 2 ^ bits c.p3 7 4)) c.axon 1

/-- The direct graded encoder at the close of step `n`'s window, SEL 1 or 2 (R161); without a sample in the step the
held value stands for both. -/
def State.encClose (s : State) (c : Chan) (n : Nat) : State :=
  let st := s.chanSt c.tag
  match bits c.p3 5 4 with
  | 1 => s.encGraded c n st.held
  | 2 => s.encGraded c n (if st.n = 0 then st.held else (st.sum + (st.n / 2 : Nat)) / (st.n : Int))
  | _ => s

/-- A channel at the close of step `n`'s window (R157). -/
def State.closeChan (s : State) (n t : Nat) : State :=
  let c := s.chan t
  let s1 := if c.en && (s.chanSt t).primed then
      (match c.enc with
      | 2 => s.encRate c n
      | 3 => s.encLatency c n
      | 4 => s.encClose c n
      | _ => s)
    else s
  let st := s1.chanSt t
  s1.setChan t { st with sum := 0, n := 0 }

/-- The hold buffer is full: Tinder encodes nothing (02 R56). -/
def State.holdFull (s : State) : Bool := decide (8192 ≤ s.tinder.hold.length)

/-- The encoders that act once per step of some channels, in ascending tag order (R157), and the channels that wait because
the hold buffer has become full (02 R56). -/
def State.runCloses (s : State) (n : Nat) : List Nat → State × List Nat
  | [] => (s, [])
  | t :: ts => if s.holdFull then (s, t :: ts) else (s.closeChan n t).runCloses n ts

/-- Whether inputs of step `n` are discarded after a QUIESCE (12 R333). -/
def State.stoppedAt (s : State) (n : Nat) : Bool := s.tinder.stopStep.any (fun k => decide (k ≤ n))

/-- Whether an input is a stamped one: late only once its step has closed (02 R48). -/
def Input.stamped (e : Input) : Bool := !e.set

/-- Closed windows none of whose inputs is still to come get their per-step encoders run, in order (R157). -/
def State.settle (s : State) : Nat → State
  | 0 => s
  | k + 1 =>
    match s.tinder.closes with
    | [] => s
    | n :: rest =>
      if s.tinder.inputs.any (fun e => e.stamped && decide (e.step ≤ n)) ||
        (s.mirroring && s.standby && !s.freeRun && !s.pair.aligned.contains n) then s
      else
        let tags := s.tinder.closing.getD (if s.stoppedAt n then [] else s.tinder.chans.map (·.1))
        let r := s.runCloses n tags
        if r.2 = [] then
          ({ r.1 with tinder := { r.1.tinder with closes := rest, closing := none } }).settle k
        else { r.1 with tinder := { r.1.tinder with closing := some r.2 } }

/-- Run what can be run of the closed windows. -/
def State.settled (s : State) : State := s.settle s.tinder.closes.length

/-- The input window of the current step closes (02 R47, R481). -/
def State.closeWindow (s : State) : State :=
  let n := s.time.winClosed
  let wins := s.tinder.wins.map (fun w => if w.1 = n ∧ w.2.2 = none then (n, w.2.1, some s.grain) else w)
  ({ s with time := { s.time with winClosed := n + 1 },
            tinder := { s.tinder with closes := s.tinder.closes ++ [n], winOpen := false, wins := wins } }).settled

/-- INPUT_WINDOW_CLOSE (02 R47): in locked mode the window closes IN_GUARD grains before the next nominal start; a standby
that copies takes no window (13 R363). -/
def State.inputWindowClose (s : State) : State :=
  if !s.running || s.time.phase == .off || s.rd F.PAIR_STAT_PHASE == 1 then s
  else if s.freeRun then (if s.tinder.winOpen && (!s.on F.TND_CTRL_REPLAY_EN || s.on F.TND_STAT_REPLAY_DONE) &&
      s.rd F.PAIR_STAT_PHASE != 2 then s.closeWindow else s)
  else (s.advance (s.winStart (s.time.winClosed + 1))).closeWindow

/-- The place of an input in the order of 02 R49: stamp, class, order within the class, tag. -/
def Input.before (a b : Input) : Bool :=
  if a.stamp ≠ b.stamp then !reached a.stamp b.stamp
  else if a.cls ≠ b.cls then decide (a.cls < b.cls)
  else if a.ord ≠ b.ord then decide (a.ord < b.ord)
  else decide (a.tag < b.tag)

/-- The first of a list of inputs in the order of R49; among equals the one that arrived first. -/
def firstInput : List Input → Option Input
  | [] => none
  | e :: t => match firstInput t with
    | none => some e
    | some f => if f.before e then some f else some e

/-- Whether a standby with mirroring still waits for the primary's assignment of an input (13 R355). -/
def State.awaitsAlign (s : State) (e : Input) : Bool :=
  s.mirroring && s.standby && !s.freeRun && e.stamped && (e.cls == 3 || e.cls == 4) && !s.pair.aligned.contains e.step

/-- Whether a command writes a channel's parameters, TND_CHAN_B (R155). -/
def chanWrite (c : HostCmd) : Bool :=
  c.op == 0x09 && (List.range (ceilDiv (c.target % 8 + c.plen) 8)).any (fun k =>
    let a := c.target / 8 * 8 + 8 * k
    decide (0x0301110000 ≤ a) && decide (a < 0x0301120000) && a % 16 == 8)

/-- Whether an input of class 3 or 4 waits for a write of TND_CHAN_B that 02 R49 puts before it: a host command of the same
or an earlier stamp, or a mirrored edit of an earlier window (13 R357). -/
def State.awaitsWrite (s : State) (e : Input) : Bool :=
  decide (2 < e.cls) &&
    ((s.cmd.fifo ++ s.cmd.inband).any (fun q => !q.fresh && reached e.stamp q.stamp && chanWrite q.cmd) ||
      s.pair.edits.any (fun d => decide (d.step + 2 ≤ e.step) && chanWrite ⟨d.path, d.bytes⟩))

/-- The inputs that Tinder may take now: their step's window has opened, no assignment is awaited, and no command that goes
first. -/
def State.takeable (s : State) : List Input :=
  s.tinder.inputs.filter (fun e => decide (e.step ≤ s.time.winClosed) && !s.awaitsAlign e && !s.awaitsWrite e)

/-- The metering record of a tag and frame (R168). -/
def State.meterOf (s : State) (t f : Nat) : Meter :=
  (s.tinder.meters.find? (fun m => m.tag == t && m.frame == f)).getD ⟨t, f, 0, 0, 0, 0, 0x7FFF, -0x8000⟩

/-- A metering record replaced. -/
def State.setMeter (s : State) (m : Meter) : State :=
  { s with tinder := { s.tinder with
      meters := s.tinder.meters.filter (fun x => !(x.tag == m.tag && x.frame == m.frame)) ++ [m] } }

/-- Metering of an input (R168): samples and pixel values in full, other kinds by COUNT. -/
def State.meter (s : State) (e : Input) : State :=
  if !(s.chan e.tag).meter || e.kind > 3 then s
  else
    let m := s.meterOf e.tag (e.step / max 1 s.frameSteps)
    let cnt := min (2 ^ 32 - 1) (m.count + 1)
    if e.kind = 0 ∨ e.kind = 3 then
      let st := s.chanSt e.tag
      let pos := decide (e.v ≥ 0)
      let zc := match st.sign with | some b => if b == pos then m.zc else min 65535 (m.zc + 1) | none => m.zc
      (s.setChan e.tag { st with sign := some pos }).setMeter { m with
        zc := zc, count := cnt, sum := m.sum + e.v, sumsq := min (2 ^ 64 - 1) (m.sumsq + e.v.natAbs * e.v.natAbs)
        lo := min m.lo e.v, hi := max m.hi e.v }
    else s.setMeter { m with count := cnt }

/-- An input of a known step is encoded: metered, journalled, and given to its encoder. -/
def State.admitInput (s : State) (e : Input) : State :=
  ((if s.on F.PAIR_STAT_PHASE then s else s.journalPut (.taken e)).meter e).encode e

/-- An input whose step's window closed before Tinder could take it: a set's sample once the window is closed, a stamped
input once its step has closed (02 R48, 11 R302). -/
def State.lateInput (s : State) (e : Input) : Bool :=
  if e.set then decide (e.step < s.time.winClosed) else decide (e.step < s.step)

/-- The counts of a late input: a context's late set with its first sample (11 R302, 13 R362), and TIME_LATE_IN_CNT, which
counts a late set once and otherwise each pixel, sensor event and edge (DESIGN CHOICE, log entry 49). -/
def State.lateCounts (s : State) (e : Input) : State :=
  if e.set then
    (if e.first then
      ((s.inc F.CSIRX_CTX_CNT1_LATE 1 e.ord).inc F.TIME_LATE_IN_CNT_CNT).overload
        ⟨7, s.on F.TIME_CTRL_POLICY, e.ord, 0, 0, 0, 0, e.param.toNat % 2 ^ 32⟩ 0
     else s)
  else s.inc F.TIME_LATE_IN_CNT_CNT

/-- TINDER_TAKE_INPUT (R156, 02 R48, R49): the first input in order is encoded, carried into the open step, or
discarded; the hold buffer's being full stops it. -/
def State.takeInput (s : State) : State :=
  if !s.running || s.holdFull || s.tinder.closing.isSome then s
  else match firstInput s.takeable with
    | none => s
    | some e =>
      let s0 := if e.set && !s.freeRun then s.advance (s.winStart e.step) else s
      let s1 := { s0 with tinder := { s0.tinder with inputs := dropFirst (fun x => x == e) s0.tinder.inputs } }
      let s2 :=
        if e.kind = 4 then s1.wr F.TND_CHAN_B_WORD e.param.toNat 0 e.tag
        else if s1.stoppedAt e.step then s1.tndDisc
        else if s1.lateInput e then
          (if s1.on F.TIME_CTRL_POLICY then s1.lateCounts e
           else (s1.lateCounts e).admitInput { e with step := s1.time.winClosed })
        else s1.admitInput e
      s2.settled

/-- TINDER_INJECT (R156): the oldest ready event enters the edge ring, or waits. -/
def State.tinderInject (s : State) : State :=
  let s0 := s.promote
  match s0.tinder.ready with
  | [] => s
  | e :: rest =>
    let t := ({ s0 with tinder := { s0.tinder with ready := rest } }).inject e.pkt
    if t = { s0 with tinder := { s0.tinder with ready := rest } } then s else t

/-- Tinder is done with step `st` (02 R57): its window has closed, its inputs are encoded and injected, and no operation
of the next step's parity is in flight; a standby has also applied the alignment (13 R355). -/
def State.tinderDone (s : State) (st : Nat) : Bool :=
  decide (st < s.time.winClosed) && s.tinder.closes.all (fun n => decide (st < n)) &&
    s.tinder.inputs.all (fun e => e.set || decide (st < e.step)) &&
    s.tinder.ready.all (fun e => decide (st + 1 < e.tag)) && s.tinder.hold.all (fun e => decide (st + 1 < e.tag)) &&
    s.rd (inflightFld agTinder (st + 1)) == 0 &&
    (!(s.mirroring && s.standby && !s.freeRun) || s.pair.aligned.contains st)

/-- An input joins the waiting ones. -/
def State.addInput (s : State) (e : Input) : State :=
  { s with tinder := { s.tinder with inputs := s.tinder.inputs ++ [e] } }

/-- A live input joins the waiting ones, or the journal of a standby that copies or catches up, whose input stage goes on
journalling live inputs (13 R364). -/
def State.addLive (s : State) (e : Input) : State :=
  if s.on F.PAIR_STAT_PHASE then
    let t := s.journalPut (.taken e)
    { t with pair := { t.pair with replay := t.pair.replay ++ [JEntry.taken e] } }
  else s.addInput e

/-- The step whose input window contains the stamp of a live input: a catch-up replay leaves the grid of live inputs as
it is (02 R47, R481, 13 R364). -/
def State.liveStep (s : State) (stamp : Nat) : Int :=
  if s.on F.TIME_CTRL_MODE then s.windowAt stamp else s.gridStep stamp

/-- The source of an input in an ALIGN record: DIN i as 0x100 + i, a context by its number (13 R353). -/
def Input.source (e : Input) : Nat := if e.cls = 3 then 0x100 + e.ord else e.ord

/-- The first `cnt` inputs of a source that have no aligned step become inputs of step `n`, its others inputs of a later
step; an input's further entries follow its first (13 R355). -/
def assignInputs (n src : Nat) (aligned : List Nat) : Nat → Bool → List Input → List Input
  | _, _, [] => []
  | cnt, inside, e :: t =>
    if !e.stamped || e.cls < 3 || e.source ≠ src ||
        ((aligned.contains e.step || decide (e.step + 64 < n)) && decide (e.step < n)) then
      e :: assignInputs n src aligned cnt inside t
    else if e.first then
      (if cnt > 0 then { e with step := n } else { e with step := max (n + 1) e.step }) ::
        assignInputs n src aligned (cnt - 1) (decide (0 < cnt)) t
    else (if inside then { e with step := n } else { e with step := max (n + 1) e.step }) ::
        assignInputs n src aligned cnt inside t

/-- Inputs of a source that wait for an alignment. -/
def State.heldOf (s : State) (src : Nat) : Nat :=
  s.tinder.inputs.countP (fun e => e.stamped && decide (3 ≤ e.cls) && e.source == src && e.first &&
    !s.pair.aligned.contains e.step)

/-- The sources whose inputs ALIGN records count: the DIN lines, and the contexts of kind 1 and 2 (13 R355). -/
def State.alignSources (s : State) : List Nat :=
  (List.range 16).map (0x100 + ·) ++
    (List.range 48).filter (fun c => s.rd F.CSIRX_CTX_CFG_KIND c == 1 || s.rd F.CSIRX_CTX_CFG_KIND c == 2)

/-- Step `n` is aligned: its record has been applied, or the wait for it has ended (13 R355). -/
def State.setAligned (s : State) (n : Nat) : State :=
  { s with pair := { s.pair with
      aligned := s.pair.aligned.filter (fun m => decide (s.step ≤ m + 64)) ++ [n]
      align := s.pair.align.filter (fun x => x.1 != n) } }

/-- The inputs of a list that come from some sources, assigned by the counts of the ALIGN record of step `n`. -/
def State.assignAll (s : State) (n : Nat) (cnts : List (Nat × Nat)) (srcs : List Nat) (l : List Input) : List Input :=
  srcs.foldl (fun l src => assignInputs n src s.pair.aligned ((cnts.lookup src).getD 0) false l) l

/-- The same for the inputs of a journal. -/
def State.assignJournal (s : State) (n : Nat) (cnts : List (Nat × Nat)) (l : List JEntry) : List JEntry :=
  l.filter (fun j => match j with | .taken _ => false | _ => true) ++
    (s.assignAll n cnts s.alignSources (l.filterMap (fun j => match j with | .taken e => some e | _ => none))).map JEntry.taken

/-- The ALIGN record of step `n` is applied to the inputs of some sources that wait, or, on a standby that is away, to its
replay and its journal (13 R355, R362). -/
def State.applyAlign (s : State) (n : Nat) (cnts : List (Nat × Nat)) (srcs : List Nat) : State :=
  let t := if s.on F.PAIR_STAT_PHASE then
      { s with pair := { s.pair with
          replay := s.assignJournal n cnts s.pair.replay, journal := s.assignJournal n cnts s.pair.journal } }
    else { s with tinder := { s.tinder with inputs := s.assignAll n cnts srcs s.tinder.inputs } }
  t.setAligned n

/-- Whether the standby can meet a source's count (13 R355). -/
def State.meets (s : State) (cnts : List (Nat × Nat)) (src : Nat) : Bool := decide ((cnts.lookup src).getD 0 ≤ s.heldOf src)

/-- The record of the next step to align, once the inputs that it counts have all arrived (13 R355). -/
def State.tryAlign (s : State) : State :=
  if !(s.mirroring && s.standby && s.running) then s
  else match s.pair.align.find? (fun x => !s.pair.aligned.contains x.1 &&
      (s.pair.align.all (fun y => decide (x.1 ≤ y.1)))) with
    | none => s
    | some (n, cnts) =>
      if s.on F.PAIR_STAT_PHASE || s.alignSources.all (s.meets cnts) then (s.applyAlign n cnts s.alignSources).settled
      else s

/-- The first step from `n` on that a standby has not aligned. -/
def State.freeStep (s : State) (n : Nat) : Nat → Nat
  | 0 => n
  | k + 1 => if s.mirroring && s.standby && s.pair.aligned.contains n then s.freeStep (n + 1) k else n

/-- The primary counts an input of a source for the ALIGN record of its step (13 R355). -/
def State.countInput (s : State) (n src : Nat) : State :=
  if !s.mirroring || s.standby then s
  else
    let w := (s.pair.windows.lookup n).getD []
    let c := (w.lookup src).getD 0
    let w1 := w.filter (fun x => x.1 != src) ++ [(src, c + 1)]
    { s with pair := { s.pair with windows := s.pair.windows.filter (fun x => x.1 != n) ++ [(n, w1)] } }

/-- One stamped live input of a source, of one or more entries: before step 0's window it is discarded and counted (02
R48). -/
def State.addStamped (s : State) (stamp src pre : Nat) (es : List Input) : State :=
  let n := s.liveStep stamp
  if n < 0 then s.inc F.TIME_PRE_IN_CNT_CNT pre
  else
    let m := s.freeStep n.toNat 64
    ((es.zipIdx.foldl (fun s x => s.addLive { x.1 with step := m, first := x.2 == 0 }) s).countInput m src).tryAlign

/-- DIN_DEBOUNCE_EXPIRED (R166): the level of DIN `d` behind its synchroniser, and the grains for which it has held.  The
filter's output changes only once it has held for DEBOUNCE grains. -/
def State.dinEdge (s : State) (d : Nat) (level : Bool) (held : Nat) : State :=
  if d ≥ 16 then s
  else
    let seen := (s.pins.din &&& ~~~ (1 <<< d : BitVec 16)) ||| (if level then (1 <<< d : BitVec 16) else 0)
    let s0 := { s with pins := { s.pins with din := seen } }
    if s.on F.TND_DIN_CFG_LEVEL 0 d = level ∨ held < s.rd F.TND_DIN_CFG_DEBOUNCE 0 d then s0
    else
    let t := s0.wrB F.TND_DIN_CFG_LEVEL level 0 d
    if !t.running || !t.on F.TND_DIN_CFG_EN 0 d then t
    else t.addStamped t.grain (0x100 + d) 1
      [⟨t.grain, 3, d, t.rd F.TND_DIN_CFG_TAG 0 d, 1, b2n level, 0, 0, 0, false, true, 0⟩]

/-- TND_CHAN_B_WRITE (R155): while the model runs, an input of class 2 that takes its place among the others. -/
def State.chanBAt (s : State) (stamp tag : Nat) (value : BitVec 64) : State :=
  if tag ≥ 4096 then s
  else if !s.running then s.wr F.TND_CHAN_B_WORD value.toNat 0 tag
  else s.addInput ⟨stamp, 2, 0, tag, 4, 0, 0, 0, (max 0 (s.stepOf stamp)).toNat, false, false, value⟩
def State.chanBWrite (s : State) (tag : Nat) (value : BitVec 64) : State := s.chanBAt s.grain tag value

/-- DIN_DEBOUNCE_EXPIRED. -/
def execDinDebounceExpired (din : Nat) (level : DinLevel) (s : State) : Host.Outcome State Fault Refusal :=
  .next (s.dinEdge din level.level level.held)

/-- TINDER_TAKE_INPUT. -/
def execTinderTakeInput (s : State) : Host.Outcome State Fault Refusal := .next s.takeInput

/-- TINDER_INJECT. -/
def execTinderInject (s : State) : Host.Outcome State Fault Refusal := .next s.tinderInject

/-- TND_CHAN_B_WRITE. -/
def execTndChanBWrite (tag : Nat) (value : BitVec 64) (s : State) : Host.Outcome State Fault Refusal :=
  .next (s.chanBWrite tag value)

end Sys2Proof.Machine
end

