-- ==== Sys2Proof/Machine/Csi.lean ====
section
/-!
DEFINITION. The CSI-2 RX ports: headers and payloads, relays, in-band commands, the stream contexts and their assignment
of inputs to steps, load blocks, stream loss and lane training (11_csi2_ports.md R290 to R308, R311, R312).
-/
namespace Sys2Proof.Machine

/-- An RX port's and a context's own records, and the state with one changed. -/
def State.rxp (s : State) (p : Nat) : RxSt := Sparse.get s.rx p RxSt.fresh
def State.onRx (s : State) (p : Nat) (f : RxSt → RxSt) : State :=
  { s with rx := Sparse.set natLt s.rx p RxSt.fresh (f (s.rxp p)) }
def State.ctxt (s : State) (c : Nat) : CtxSt := Sparse.get s.ctx c CtxSt.fresh
def State.onCtx (s : State) (c : Nat) (f : CtxSt → CtxSt) : State :=
  { s with ctx := Sparse.set natLt s.ctx c CtxSt.fresh (f (s.ctxt c)) }

/-- Fault source of an RX port (R291). -/
def srcRx (p : Nat) : Nat := 0x720 + p

/-- Whether an RX port receives (R295). -/
def State.rxReady (s : State) (p : Nat) : Bool := s.rxOn p && s.on F.CSIRX_PORT_CFG_EN p

/-- The enabled contexts of a port and VC, and the one that takes a data type (R296). -/
def State.ctxOf (s : State) (p vc : Nat) : List Nat :=
  (List.range 48).filter (fun c => s.on F.CSIRX_CTX_CFG_EN c && s.rd F.CSIRX_CTX_CFG_PORT c == p &&
    s.rd F.CSIRX_CTX_CFG_VC c == vc)
def State.taker (s : State) (p vc dt : Nat) : Option Nat :=
  (s.ctxOf p vc).find? (fun c => s.rd F.CSIRX_CTX_CFG_DT c == dt)

/-- The relays that copy the packets of a port and VC (R311). -/
def State.relaysOf (s : State) (p vc : Nat) : List Nat :=
  (List.range 16).filter (fun r => s.on F.CSITX_RELAY_CFG_EN 0 r && s.rd F.CSITX_RELAY_CFG_RX_PORT 0 r == p &&
    s.rd F.CSITX_RELAY_CFG_RX_VC 0 r == vc && s.txOn (s.rd F.CSITX_RELAY_CFG_TX_PORT 0 r))

/-- Whether a port and VC are the in-band command VC (R308). -/
def State.inbandVc (s : State) (p vc : Nat) : Bool :=
  s.on F.CMD_INBAND_CFG_EN && s.rd F.CMD_INBAND_CFG_RX_PORT == p && s.rd F.CMD_INBAND_CFG_RX_VC == vc

/-- The mirror link's ports: the highest enabled RX and TX ports (13 R347). -/
def State.mirrorRx (s : State) : Nat := (((List.range 6).filter s.rxOn).getLast?).getD 0
def State.mirrorTx (s : State) : Nat := (((List.range 4).filter s.txOn).getLast?).getD 0

/-- Whether a packet is a mirror block, which MIRROR_BLOCK_RECEIVE takes. -/
def State.mirrorVc (s : State) (p vc dt : Nat) : Bool :=
  s.mirroring && p == s.mirrorRx && vc == s.rd F.PAIR_CFG_MIR_VC && dt == 0x34

/-- Bytes that a TX port's relay buffer holds, with the packet that it is forwarding (R312). -/
def TxSt.relayUsed (t : TxSt) : Nat :=
  (t.relay.map (·.wc)).sum + (match t.cur with | some (.relayed _ _ _ wc _ _ _) => wc | _ => 0)

/-- A packet enters the relay buffer of relay `r`'s TX port, or is discarded whole (R312). -/
def State.relayIn (s : State) (r p dt wc : Nat) : State :=
  let q := s.rd F.CSITX_RELAY_CFG_TX_PORT 0 r
  let n := if dt < 16 then 0 else wc
  if !s.txReady q then s
  else if (s.txp q).relayUsed + n > 16384 then s.inc F.CSITX_DROP_CNT_RELAY_DROP 1 q
  else
    let k : RelayPkt := ⟨p, s.rd F.CSITX_RELAY_CFG_TX_VC 0 r, dt, wc, [], dt < 16, true⟩
    let t := s.onTx q (fun x => { x with relay := x.relay ++ [k] })
    t.top F.CSITX_STAT_RELAY_MAX (ceilDiv (t.txp q).relayUsed 16) q

/-- A Frame Start sets the line count of the raw-frame contexts of its VC to 0 (R305). -/
def State.frameStart (s : State) (p vc : Nat) : State :=
  ((s.ctxOf p vc).filter (fun c => s.rd F.CSIRX_CTX_CFG_KIND c == 2)).foldl
    (fun s c => s.onCtx c (fun x => { x with lines := 0 })) s

/-- RX_PACKET_HEADER with a header that can be trusted (R294 to R296, R311). -/
def State.rxGood (s : State) (p vc dt wc : Nat) : State :=
  let s1 := s.inc F.CSIRX_PORT_CNT_PKTS 1 p
  let relays := s.relaysOf p vc
  let relay (s : State) : State := relays.foldl (fun s r => s.relayIn r p dt wc) s
  if dt < 16 then relay (if dt = 0 then s1.frameStart p vc else s1)
  else
    let kept := (s.taker p vc dt).isSome || s.inbandVc p vc || s.mirrorVc p vc dt
    let s2 := s1.onRx p (fun x => { x with cur := some ⟨vc, dt, wc, s.grain, kept && decide (wc ≤ 16384), s.inbandVc p vc⟩ })
    if !kept && relays == [] then s2.inc F.CSIRX_PORT_CNT_NOCTX 1 p
    else if wc > 16384 then s2.inc F.CSIRX_PORT_CNT_ING_DROP 1 p
    else relay s2

/-- RX_PACKET_HEADER (R294). -/
def State.rxHeader (s : State) (p : Nat) (ecc : EccResult) (vc dt wc : Nat) : State :=
  if !s.rxReady p || (s.rxp p).discarding then s
  else match ecc with
    | .good => s.rxGood p vc dt wc
    | .corrected => (s.inc F.CSIRX_ERR_CNT_ECC_CORR 1 p).rxGood p vc dt wc
    | .bad => (s.inc F.CSIRX_ERR_CNT_HDR_ERR 1 p).onRx p (fun x => { x with discarding := true, cur := none })

/-- The relayed packet of a port that is being received is whole; with a bad CRC it is dropped unless it is already being
forwarded (R294, R312). -/
def State.relayWhole (s : State) (p : Nat) (payload : List Byte) (crcOk : Bool) : State :=
  s.txPorts.foldl (fun s q =>
    s.onTx q (fun t => { t with
      relay := (t.relay.filter (fun r => crcOk || r.rxPort != p || r.whole)).map (fun (r : RelayPkt) =>
        if r.rxPort == p && !r.whole then { r with payload := payload, whole := true } else r)
      cur := match t.cur with
        | some (.relayed rp vc dt wc _ false _) =>
          if rp = p then some (.relayed rp vc dt wc payload true crcOk) else t.cur
        | _ => t.cur })) s

/-- A payload CRC has failed: counted, and reported at the threshold once per frame (R294). -/
def State.crcError (s : State) (p : Nat) : State :=
  let t := (s.inc F.CSIRX_ERR_CNT_CRC_ERR 1 p).onRx p (fun x => { x with crcFrame := x.crcFrame + 1 })
  let thr := s.rd F.CSIRX_PORT_CFG_CRC_THR p
  if thr ≠ 0 ∧ thr ≤ (t.rxp p).crcFrame ∧ !(t.rxp p).crcReported then
    (t.onRx p (fun x => { x with crcReported := true })).report (srcRx p) 0x42 1 0
  else t

/-- QUENCH as an opcode (12 R333). -/
def quenchOp : Opcode := Opcode.plain 0x1B

/-- Whether a packet is a QUENCH command whose CRC checks (12 R344). -/
def isQuench (c : HostCmd) : Bool := c.op == 0x1B && c.crcOk

/-- A QUENCH command fires the Quench tree where it arrives, even where it finds no room (12 R344). -/
def State.quenchArrives (s : State) (c : HostCmd) : State := if isQuench c then s.quench else s

/-- A command block (R308). -/
def State.inbandCmd (s : State) (p stamp : Nat) (payload : List Byte) : State :=
  let c : HostCmd := ⟨.inband, payload⟩
  let s1 := s.quenchArrives c
  if s.cmd.inband.length ≥ 8 then
    let t := s1.inc F.CSIRX_CMD_CNT_BUSY 1 p
    if isQuench c then t else t.sendReply .inband c.word0 true 0x0F05 []
  else
    let t := s1.inc F.CSIRX_CMD_CNT_CMD 1 p
    { t with cmd := { t.cmd with inband := t.cmd.inband ++ [⟨stamp, c, false⟩] } }

/-- Entries of a context's buffer in use, and of the pool (R297). -/
def State.ctxOcc (s : State) (c : Nat) : Nat :=
  s.tinder.inputs.countP (fun e => e.cls == 4 && e.ord == c) +
    s.pair.replay.countP (fun j => match j with | .taken e => e.cls == 4 && e.ord == c | _ => false)
def State.poolOcc (s : State) : Nat :=
  s.tinder.inputs.countP (fun e => e.cls == 4) +
    s.pair.replay.countP (fun j => match j with | .taken e => e.cls == 4 | _ => false)

/-- A packet is accepted by its context: `n` inputs have entered (R297, R298). -/
def State.accept (s : State) (c stamp : Nat) : State :=
  let t := (s.inc F.CSIRX_CTX_CNT0_PKTS 1 c).onCtx c (fun x => { x with lossStanding := false, lastAccept := stamp })
  (t.top F.CSIRX_CTX_STAT_BUF_MAX (t.ctxOcc c) c).top F.CSIRX_POOL_STAT_MAX_OCC t.poolOcc

/-- A block or a sample that breaks the layout (R299, R300). -/
def State.fmtErr (s : State) (c : Nat) (n : Nat := 1) : State := s.inc F.CSIRX_CTX_CNT1_FMT_ERR n c

/-- A tagged sample block's header (R301). -/
structure SampleBlock where
  seq : Nat
  nch : Nat
  nset : Nat
  ch0 : Nat
  wide : Bool
  deriving DecidableEq, Repr

/-- The header of a block whose layout keeps R300 and R301. -/
def sampleBlock (b : List Byte) : Option SampleBlock :=
  let k : SampleBlock := ⟨byteField b 0 4, byteField b 4 2, byteField b 6 2, byteField b 8 2, byteField b 10 1 = 1⟩
  if 16 ≤ b.length ∧ 1 ≤ k.nch ∧ k.nch ≤ 256 ∧ 1 ≤ k.nset ∧ k.nset ≤ 256 ∧ byteField b 10 1 ≤ 1 ∧ byteField b 11 5 = 0 ∧
      b.length = 16 + k.nset * k.nch * (if k.wide then 4 else 2) then some k else none

/-- What a block's sets have come to so far (R302): the extended sequence, the counts, and the samples kept. -/
structure SetRun where
  last : Option (Int × Nat)
  gap : Nat
  rep : Nat
  pre : Nat
  ahead : Nat
  tags : Nat
  sat : Nat
  kept : List Input
  deriving DecidableEq, Repr

/-- The value of sample `x` of a block, and whether it clips (R301). -/
def sampleValue (wide : Bool) (pshift : Nat) (x : Nat) : Int × Bool :=
  if wide then
    let y := sgn 32 x / (2 ^ pshift : Nat)
    (satS 16 y, satS 16 y != y)
  else (sgn 16 x, false)

/-- The samples of set `i`, of extended sequence `e`, that the context's tags take, as inputs of step `n` (R301). -/
def State.setSamples (s : State) (c stamp : Nat) (k : SampleBlock) (b : List Byte) (i n e : Nat) : List (Input × Bool) :=
  let w := if k.wide then 4 else 2
  let ins := (List.range k.nch).filterMap (fun j =>
    if k.ch0 + j < s.rd F.CSIRX_CTX_CFG_TAG_COUNT c then
      let v := sampleValue k.wide (s.rd F.CSIRX_CTX_CFG_PSHIFT c) (byteField b (16 + (i * k.nch + j) * w) w)
      some (Input.mk stamp 4 c (s.rd F.CSIRX_CTX_CFG_TAG_BASE c + k.ch0 + j) 0 v.1 0 0 n true false (BitVec.ofNat 64 e), v.2)
    else none)
  match ins with
  | [] => []
  | e :: t => ({ e.1 with first := true }, e.2) :: t

/-- Set `i` of a block stamped in the window of step `now` (R302): its extended sequence, and its step or its discard. -/
def State.takeSet (s : State) (c origin stamp : Nat) (now : Int) (k : SampleBlock) (b : List Byte) (r : SetRun) (i : Nat) :
    SetRun :=
  let q := (k.seq + i) % 2 ^ 32
  let d : Int := match r.last with | none => 1 | some x => sgn 32 (q + 2 ^ 32 - x.2)
  let e : Int := match r.last with | none => sgn 32 (q + 2 ^ 32 - origin) | some x => x.1 + d
  if d ≤ 0 then { r with rep := r.rep + 1 }
  else
    let r1 := { r with last := some (e, q), gap := r.gap + (d - 1).toNat }
    if e < 0 then { r1 with pre := r1.pre + 1 }
    else
      let n := (e.toNat * 1000000) / (s.rd F.CSIRX_CTX_SEQ_RATE c * s.stepLen) + s.rd F.CSIRX_CTX_CFG_LAG c
      if (n : Int) > max now 0 + s.rd F.CSIRX_CTX_CFG_AHEAD c then { r1 with ahead := r1.ahead + 1 }
      else
        let ins := s.setSamples c stamp k b i n e.toNat
        { r1 with
          tags := r1.tags + (k.nch - ins.length)
          sat := r1.sat + ins.countP (·.2)
          kept := r1.kept ++ ins.map (·.1) }

/-- The sets of a block under an origin (R302): an overflow discards the packet whole and changes nothing else (R297). -/
def State.takeSets (s : State) (c origin : Nat) (stamp : Nat) (k : SampleBlock) (b : List Byte) : State × Bool :=
  let r := (List.range k.nset).foldl (s.takeSet c origin stamp (s.liveStep stamp) k b)
    ⟨(s.ctxt c).eLast, 0, 0, 0, 0, 0, 0, []⟩
  if s.ctxOcc c + r.kept.length > s.rd F.CSIRX_CTX_BUF_SIZE c then (s.inc F.CSIRX_CTX_CNT0_OVF 1 c, false)
  else
    let t := ((((((s.inc F.CSIRX_CTX_CNT0_GAP r.gap c).fmtErr c (r.rep + r.tags)).inc F.TIME_PRE_IN_CNT_CNT r.pre).inc
      F.CSIRX_CTX_CNT1_AHEAD_DROP r.ahead c).inc F.CSIRX_CTX_CNT1_SAT r.sat c).onCtx c
        (fun x => { x with eLast := r.last }))
    ((r.kept.foldl State.addLive t).accept c stamp, true)

/-- The origin that a first block anchors when it is stamped in the window of step `n` (R303). -/
def State.anchorOf (s : State) (c n seq : Nat) : Nat :=
  uns 32 ((seq : Int) - (n * s.rd F.CSIRX_CTX_SEQ_RATE c * s.stepLen / 1000000 : Nat))

/-- A context's origin becomes known (R303, 13 R356). -/
def State.anchorAt (s : State) (c origin : Nat) : State :=
  (s.wr F.CSIRX_CTX_SEQ_SEQ_ORIGIN origin c).wr F.CSIRX_CTX_STAT_ANCHORED 1 c

/-- A tagged sample block at a context of kind 0 (R301 to R303): while RUN_EN = 0 it is discarded (02 R48); a standby with mirroring holds a block that would
anchor (13 R356); the primary tells the standby of its anchor. -/
def State.sampleIn (s : State) (c stamp : Nat) (b : List Byte) : State :=
  match sampleBlock b with
  | none => s.fmtErr c
  | some k =>
    if !s.running then s
    else if !s.on F.CSIRX_CTX_SEQ_ANCHOR c || s.on F.CSIRX_CTX_STAT_ANCHORED c then
      (s.takeSets c (s.rd F.CSIRX_CTX_SEQ_SEQ_ORIGIN c) stamp k b).1
    else if s.mirroring && s.standby then s.onCtx c (fun x => { x with waiting := x.waiting ++ [(stamp, b)] })
    else
      let n := s.liveStep stamp
      if n < 0 then s.inc F.TIME_PRE_IN_CNT_CNT
      else
        let origin := s.anchorOf c n.toNat k.seq
        let t := s.takeSets c origin stamp k b
        if t.2 then
          let u := t.1.anchorAt c origin
          if u.mirroring then { u with pair := { u.pair with anchors := u.pair.anchors ++ [(c, origin)] } } else u
        else t.1

/-- The blocks that waited for the primary's anchor are taken under it (13 R356). -/
def State.takeAnchor (s : State) (c origin : Nat) : State :=
  let w := (s.ctxt c).waiting
  let t := (s.anchorAt c origin).onCtx c (fun x => { x with waiting := [] })
  w.foldl (fun s x => match sampleBlock x.2 with | none => s.fmtErr c | some k => (s.takeSets c origin x.1 k x.2).1) t

/-- Stamped inputs of a packet enter their context, or are discarded: with the packet where they do not fit, and counted
once for each input where the packet precedes the window of step 0 (R297, 02 R48). -/
def State.stampedIn (s : State) (c stamp : Nat) (pre : Nat) (es : List Input) : State × Bool :=
  if s.ctxOcc c + es.length > s.rd F.CSIRX_CTX_BUF_SIZE c then (s.inc F.CSIRX_CTX_CNT0_OVF 1 c, false)
  else
    ((s.addStamped stamp c pre es).accept c stamp, true)

/-- An event block at a context of kind 1 (R304). -/
def State.eventIn (s : State) (c stamp : Nat) (b : List Byte) : State :=
  let seq := byteField b 0 4
  let nev := byteField b 4 2
  let sensor := byteField b 6 1
  if b.length < 16 ∨ nev = 0 ∨ nev > 16379 ∨ byteField b 7 9 ≠ 0 ∨ b.length ≠ 16 + 4 * nev ∨
      sensor ≥ s.rd F.CSIRX_CTX_CFG_TAG_COUNT c then s.fmtErr c
  else if !s.running then s
  else
    let d : Int := match (s.ctxt c).evLast with | none => 1 | some x => sgn 32 (seq + 2 ^ 32 - x)
    if d ≤ 0 then s.fmtErr c
    else
      let es := (List.range nev).map (fun k =>
        let w := byteField b (16 + 4 * k) 4
        Input.mk stamp 4 c (s.rd F.CSIRX_CTX_CFG_TAG_BASE c + sensor) 2 (w / 2 ^ 31 : Nat) (bits w 15 0) (bits w 30 16) 0
          false false 0)
      let t := s.stampedIn c stamp nev es
      if t.2 then (t.1.inc F.CSIRX_CTX_CNT0_GAP (d - 1).toNat c).onCtx c (fun x => { x with evLast := some seq })
      else t.1

/-- The values of a line of a data type, before clipping (R305).  RAW10, RAW12 and RAW16 are packed as MIPI CSI-2 packs
them (PRESUMED, log entry 19). -/
def pixelsOf (dt : Nat) (b : List Byte) : List Nat :=
  match dt with
  | 0x2B => (List.range (b.length / 5 * 4)).map (fun j =>
      4 * byteField b (5 * (j / 4) + j % 4) 1 + byteField b (5 * (j / 4) + 4) 1 / 4 ^ (j % 4) % 4)
  | 0x2C => (List.range (b.length / 3 * 2)).map (fun j =>
      16 * byteField b (3 * (j / 2) + j % 2) 1 + byteField b (3 * (j / 2) + 2) 1 / 16 ^ (j % 2) % 16)
  | 0x2E => (List.range (b.length / 2)).map (fun j => 256 * byteField b (2 * j) 1 + byteField b (2 * j + 1) 1)
  | _ => b.map (·.toNat)

/-- A line at a raw-frame context (R305). -/
def State.lineIn (s : State) (c dt stamp : Nat) (b : List Byte) : State :=
  let vs := pixelsOf dt b
  let p0 := (s.ctxt c).lines * s.rd F.CSIRX_CTX_PARAM_WIDTH c
  let es := vs.zipIdx.map (fun x =>
    Input.mk stamp 4 c (s.rd F.CSIRX_CTX_CFG_TAG_BASE c) 3 (min 32767 x.1 / 2 ^ s.rd F.CSIRX_CTX_CFG_PSHIFT c : Nat)
      (p0 + x.2) 0 0 false false 0)
  let t := (s.onCtx c (fun x => { x with lines := x.lines + 1 })).stampedIn c stamp 1 es
  if t.2 then t.1.inc F.CSIRX_CTX_CNT1_SAT (vs.countP (fun v => decide (32767 < v))) c else t.1

/-- The RWRs by which an RX agent writes words from an address on, each within one 128-byte block (R306, 10 R279). -/
def State.stageWrites (s : State) (agent addr : Nat) (ws : List Word) : Nat → State
  | 0 => s
  | fuel + 1 =>
    if ws = [] then s
    else
      let n := min 14 ((128 - addr % 128) / 8)
      let k := mkPacket 2 (agGroup (s.g6Group addr)) agent s.step 0 0 (BitVec.ofNat 64 addr :: ws.take n)
      (s.stage agent k).stageWrites agent (addr + 8 * n) (ws.drop n) fuel

/-- A load block at a context of kind 3 (R306, 14 R390). -/
def State.loadIn (s : State) (c stamp : Nat) (b : List Byte) : State :=
  let addr := byteField b 0 8
  let nwords := byteField b 10 2
  let idx := byteField b 12 4
  let cnt := byteField b 16 4
  let a := addr / 8 * 8
  let base := s.rd F.BOOT_LOAD_WIN_BASE
  if b.length < 24 ∨ addr / 2 ^ 48 ≠ 0 ∨ nwords = 0 ∨ nwords > 8188 ∨ byteField b 20 4 ≠ 0 ∨ b.length ≠ 24 + 8 * nwords ∨
      !s.on F.BOOT_LOAD_STAT_OPEN ∨ byteField b 8 2 ≠ s.rd F.BOOT_LOAD_WIN_XFER ∨ a < base ∨
      base + s.boot.windowLen < a + 8 * nwords ∨ cnt ≤ idx ∨ 1048576 < cnt ∨
      (s.boot.seen ≠ [] ∧ cnt ≠ s.rd F.BOOT_LOAD_CNT_CNT) then s.fmtErr c
  else
    let s1 := if s.boot.seen.contains idx then s
      else
        let t := { s with boot := { s.boot with seen := idx :: s.boot.seen } }
        (t.wr F.BOOT_LOAD_CNT_CNT cnt).wr F.BOOT_LOAD_CNT_COUNTED t.boot.seen.length
    (s1.stageWrites (agRx (s.rd F.CSIRX_CTX_CFG_PORT c)) a (wordsOf (b.drop 24)) (nwords + 1)).accept c stamp

/-- A long packet at its context (R296); while RUN_EN = 0 live content is discarded uncounted (02 R48), though a line counts
as a line (R305). -/
def State.ctxIn (s : State) (c dt stamp : Nat) (b : List Byte) : State :=
  match s.rd F.CSIRX_CTX_CFG_KIND c with
  | 3 => s.loadIn c stamp b
  | 0 => s.sampleIn c stamp b
  | 1 => s.eventIn c stamp b
  | 2 => if s.running then s.lineIn c dt stamp b else s.onCtx c (fun x => { x with lines := x.lines + 1 })
  | _ => s

/-- The packet under way at a port is cut off: it is received no further, and what a relay holds of it is as after a failed
CRC (R294, R295). -/
def State.rxCut (s : State) (p : Nat) : State :=
  (if (s.rxp p).cur.isSome then s.relayWhole p [] false else s).onRx p (fun x => { x with cur := none })

/-- RX_PACKET_END (R294 to R297, R308): the packet whose header came last has been received whole.  A port that has been
disabled since receives it no further (R295). -/
def State.rxEnd (s : State) (p : Nat) (payload : List Byte) (crcOk : Bool) : State :=
  match (s.rxp p).cur with
  | none => s
  | some k =>
    if !s.rxReady p then s.rxCut p
    else
      let s1 := ((s.onRx p (fun x => { x with cur := none })).inc F.CSIRX_BYTE_CNT_BYTES payload.length p).act 8 1
        payload.length
      let s2 := s1.relayWhole p payload crcOk
      if !crcOk then s2.crcError p
      else if !k.kept then s2
      else if k.inband && k.dt == 0x33 then s2.inbandCmd p k.stamp payload
      else match s2.taker p k.vc k.dt with
        | some c => s2.ctxIn c k.dt k.stamp payload
        | none => s2

/-- HS_BURST_END (R294): what is being discarded or received ends with the burst; an enabled port counts a failed start of
transmission (R295). -/
def State.burstEnd (s : State) (p : Nat) (sotErr : Bool) : State :=
  let t := if sotErr && s.rxReady p then s.inc F.CSIRX_ERR_CNT_SOT_ERR 1 p else s
  (t.rxCut p).onRx p (fun x => { x with discarding := false })

/-- STREAM_LOSS_TIMEOUT (R298): at the first grain edge at which the context has been silent so long. -/
def State.streamLoss (s : State) (c : Nat) : State :=
  if !s.running || !s.on F.CSIRX_CTX_CFG_EN c || !s.on F.CSIRX_CTX_CFG_LOSS_FR c || (s.ctxt c).lossStanding then s
  else
    let since := if reached (s.ctxt c).lastAccept s.time.rise then (s.ctxt c).lastAccept else s.time.rise
    let t := (s.advance (since + s.rd F.CSIRX_CTX_CFG_LOSS_FR c * s.frameLen)).wr F.CSIRX_CTX_STAT_LOSS 1 c
    (t.onCtx c (fun x => { x with lossStanding := true })).report (srcRx (s.rd F.CSIRX_CTX_CFG_PORT c)) 0x41 2 c

/-- Whether the cause of kind 0x41 persists at a port (R298). -/
def State.lossStands (s : State) (p : Nat) : Bool :=
  s.ctx.any (fun x => x.2.lossStanding && s.rd F.CSIRX_CTX_CFG_PORT x.1 == p)

/-- The lanes that calibrate give LANES_ACT (R292). -/
def lanesAct (ok : BitVec 4) : Nat :=
  if ok = 15 then 4 else if ok.getLsbD 0 && ok.getLsbD 1 then 2 else if ok.getLsbD 0 then 1 else 0

/-- An RX port calibrates its lanes (R292). -/
def State.rxTrain (s : State) (p : Nat) (ok : BitVec 4) : State :=
  let t := ((s.wr F.CSIRX_STAT_TRAINED 1 p).wr F.CSIRX_STAT_LANES_ACT (lanesAct ok) p).wr F.CSIRX_STAT_LANE_OK ok.toNat p
  if lanesAct ok < lanesOf (s.rd F.CSIRX_PORT_CFG_LANES p) then t.report (srcRx p) 0x40 2 (15 - ok.toNat) else t

/-- CSIRX_RETRAIN (R292): taken only while RUN_EN = 0. -/
def State.retrain (s : State) (p : Nat) (ok : BitVec 4) : State :=
  if s.running || !s.rxOn p then s else s.rxTrain p ok

/-- A write of RETRAIN through the port's registers (R292): the lanes that calibrate are a free value, since the write says
nothing of them (log entry 38). -/
def State.retrainFree (s : State) (p : Nat) : State :=
  if s.running || !s.rxOn p then s
  else State.rxTrain { s with free := s.free + 1 } p (BitVec.ofNat 4 (Config.freeNat s.free))

/-- RX_PACKET_HEADER. -/
def execRxPacketHeader (port : Nat) (ecc : EccResult) (vc dt wc : Nat) (s : State) : Host.Outcome State Fault Refusal :=
  .next (s.rxHeader port ecc vc dt wc)

/-- RX_PACKET_END. -/
def execRxPacketEnd (port : Nat) (payload : List Byte) (crcOk : Bool) (s : State) : Host.Outcome State Fault Refusal :=
  .next (s.rxEnd port payload crcOk)

/-- HS_BURST_END. -/
def execHsBurstEnd (port : Nat) (sotErr : Bool) (s : State) : Host.Outcome State Fault Refusal :=
  .next (s.burstEnd port sotErr)

/-- STREAM_LOSS_TIMEOUT. -/
def execStreamLossTimeout (ctx : Nat) (s : State) : Host.Outcome State Fault Refusal := .next (s.streamLoss ctx)

/-- CSIRX_RETRAIN. -/
def execCsirxRetrain (port : Nat) (lanes : BitVec 4) (s : State) : Host.Outcome State Fault Refusal :=
  .next (s.retrain port lanes)

end Sys2Proof.Machine
end

