-- ==== Sys2Proof/Machine/Kiln.lean ====
section
/-!
DEFINITION. Kiln: power windows and estimates, the cap loop, boost, recalibration, droop, thermal thresholds, power
domains and the device fence (16_power_clocks_thermal.md R421 to R446, 15_faults.md R412).
-/
namespace Sys2Proof.Machine

/-- Fault source of Kiln. -/
def srcKiln : Nat := 0x741

/-- The device fence (15 R412, 13 R368): the device behaves as a standby until it is reset. -/
def State.deviceFence (s : State) : State :=
  let t := (((s.wr F.PAIR_STAT_FENCED 1).wr F.OWL_STAT_DEV_FENCED 1).wr F.PAIR_STAT_SB_STATE 5).actLow
  { t with pins := { t.pins with fenceOut := true } }

/-- Events of an activity class of engine `e` in the window (R429). -/
def State.activity (s : State) (e cls : Nat) : Nat := Sparse.get s.kiln.acts (8 * e + cls) 0

/-- The six dynamic coefficients of KILN_COEF, in the order of the classes, in units of 0.5 pJ (R446). -/
def FuseSt.classCoef (f : FuseSt) (cls : Nat) : Nat := bits f.coef.toNat (63 - 8 * cls) (56 - 8 * cls)

/-- Units of the estimate: 200,000 · 2^128 make one mW before CORR; half a picojoule per 100 µs is 1/200,000 mW. -/
def powerUnit : Nat := 200000 * 2 ^ 128

/-- The dynamic part of an engine's estimate without CORR, in those units (R429). -/
def State.engineDyn (s : State) (e : Nat) : Nat :=
  2 ^ 128 * ((List.range 6).map (fun c => s.fuse.classCoef c * s.activity e c)).sum

/-- The hottest sensor of an engine, in 1/16 °C (R435). -/
def State.engineTemp (s : State) (e : Nat) : Int :=
  max (s.rdS F.KILN_TEMP_TEMP 0 (3 * e)) (max (s.rdS F.KILN_TEMP_TEMP 0 (3 * e + 1)) (s.rdS F.KILN_TEMP_TEMP 0 (3 * e + 2)))

/-- LEAK × 2^((θ − 85) / 20) in the units of the estimate, θ being the hottest sensor rounded down to a multiple of 5 °C
(R429): the fourth root of LEAK⁴ × 2^((θ − 85) / 5), which is what the power of two comes to. -/
def State.engineLeak (s : State) (e : Nat) : Nat :=
  let q : Int := s.engineTemp e / 80 - 17
  Nat.sqrt (Nat.sqrt ((bits s.fuse.coef.toNat 15 0 * 200000) ^ 4 * 2 ^ (512 + q).toNat))

/-- The estimate of engine `e`, and of the uncore, without CORR (R429). -/
def State.engineRaw (s : State) (e : Nat) : Nat := s.engineLeak e + s.engineDyn e
def State.uncoreRaw (s : State) : Nat :=
  2 ^ 128 * (200000 * bits s.fuse.coefUnc.toNat 63 48 + 16 * bits s.fuse.coefUnc.toNat 47 36 * s.activity 8 0 +
    2 * bits s.fuse.coefUnc.toNat 35 28 * s.activity 8 1)

/-- The same with CORR, in 1/4,096 of the units. -/
def State.engineEst (s : State) (e : Nat) : Nat := s.rd F.KILN_ENG_CORR_CORR 0 e * s.engineRaw e
def State.uncoreEst (s : State) : Nat := s.rd F.KILN_UNC_CORR_CORR * s.uncoreRaw

/-- An estimate in mW. -/
def milliwatts (x : Nat) : Nat :=
  x / (4096 * powerUnit) + (if x % (4096 * powerUnit) = 0 then 0 else b2n (Config.powerUp x))

/-- OVER_LIMIT: 110 % of the variant's maximum power (R430). -/
def State.overLimit (s : State) : Nat := s.fuse.maxPower * 11 / 10

/-- The hottest sensor's reading is at or above a threshold in °C. -/
def State.hotterThan (s : State) (c : Nat) : Bool := decide ((16 * c : Nat) ≤ s.rdS F.KILN_THERM_HOT_TEMP)

/-- P of R430: what Kiln caps on. -/
def State.controlPower (s : State) : Nat := if s.on F.KILN_STAT_DIVERGED then max s.kiln.pe s.kiln.pm else s.kiln.pe

/-- HOT and its count at a boundary (R436). -/
def State.hotLoop (s : State) (boundary : Bool) : State :=
  let thr := s.rd F.KILN_THERM_CFG_THROT
  if s.hotterThan thr then (if boundary then s.inc F.KILN_CNT_HOT_STEPS else s).wr F.KILN_STAT_HOT 1
  else if s.rdS F.KILN_THERM_HOT_TEMP < 16 * ((thr : Int) - 2) then s.wr F.KILN_STAT_HOT 0
  else s

/-- The capping loop (R430, R436). -/
def State.capLoop (s0 : State) (boundary : Bool) : State :=
  let s := s0.hotLoop boundary
  let t0 := s.rd F.KILN_STAT_T
  let top := min s.binTerm t0
  let p := s.controlPower
  let cap := s.rd F.KILN_CAP_CAP
  let hot := s.hotterThan (s.rd F.KILN_THERM_CFG_THROT)
  let over' := decide (s.overLimit < s.kiln.pm)
  let t :=
    if over' then 2
    else if cap < p || hot then max (s.rd F.KILN_CTRL_T_MIN) (top - 1)
    else if 16 * p < 15 * cap ∧ t0 < 8 ∧ !s.on F.KILN_STAT_HOT then t0 + 1
    else t0
  let s1 := if over' then s.inc F.KILN_CNT_OVER_WIN else s
  let s2 := if t < top then s1.inc F.KILN_CNT_THR_STEPS else s1
  let s3 := s2.wr F.KILN_STAT_T t
  if over' || cap < p || t < t0 || hot || !s.on F.KILN_CTRL_MODE then s3.wr F.KILN_STAT_BOOST 0 else s3

/-- Whether engine `e` may be boosted (R427). -/
def State.mayBoost (s : State) (e : Nat) : Bool :=
  s.engineOn e && !s.boosted e && s.rd F.KILN_STAT_T == 8 &&
    decide (4 * (4 * s.controlPower * (4096 * powerUnit) + s.kiln.dyn.getD e 0) ≤ 15 * s.rd F.KILN_CAP_CAP * (4096 * powerUnit)) &&
    decide (s.engineTemp e < (16 * s.rd F.KILN_THERM_CFG_WARN : Nat))

/-- Boost at a step boundary: engines at the warning threshold lose it, and one more may gain it (R422, R427). -/
def State.boostLoop (s : State) : State :=
  let keep := (List.range 8).filter (fun e => s.boosted e && !s.kiln.unboost.contains e)
  let t := s.wr F.KILN_STAT_BOOST ((keep.map (fun e => 2 ^ e)).sum)
  let u := { t with kiln := { t.kiln with unboost := [] } }
  if !s.on F.KILN_CTRL_MODE then u
  else match (List.range 8).find? u.mayBoost with
    | some e => u.wr F.KILN_STAT_BOOST (u.rd F.KILN_STAT_BOOST + 2 ^ e)
    | none => u

/-- New correction factors come into force (R433). -/
def State.takeCorr (s : State) : State :=
  match s.kiln.corrNext with
  | none => s
  | some cs =>
    let t := (List.range 8).foldl (fun s e => s.wr F.KILN_ENG_CORR_CORR (cs.getD e 4096) 0 e) s
    let u := t.wr F.KILN_UNC_CORR_CORR (cs.getD 8 4096)
    { u with kiln := { u.kiln with corrNext := none } }

/-- A cap in force (R431). -/
def State.setCap (s : State) (mw : Nat) : State := (s.wr F.KILN_CAP_CAP mw).wr F.KILN_CAP_APPLIED mw

/-- What Kiln does at the boundary that begins step `n` (R426, R427, R430, R431, R433). -/
def State.kilnBoundary (s : State) (n : Nat) : State :=
  let due (x : Nat × Nat) : Bool := decide (x.1 ≤ n)
  let s1 := (s.kiln.capNext.filter due).foldl (fun s x => s.setCap x.2) s
  let s2 := (s.kiln.modeNext.filter due).foldl (fun s x => s.wr F.KILN_CTRL_MODE x.2) s1
  let s3 := { s2 with kiln := { s2.kiln with
    capNext := s.kiln.capNext.filter (fun x => !due x), modeNext := s.kiln.modeNext.filter (fun x => !due x) } }
  ((s3.takeCorr).capLoop true).boostLoop

/-- The measured and estimated power of a window in their registers (R428). -/
def State.showPower (s : State) (engines : List Nat) (uncore : Nat) : State :=
  let sat (x : Nat) : Nat := min 65535 x
  let s1 := s.engines.foldl (fun s e =>
    (s.wr F.KILN_ENG_POWER_MEAS (sat (engines.getD e 0)) 0 e).wr F.KILN_ENG_POWER_EST (sat (milliwatts (s.engineEst e))) 0 e) s
  let s2 := (s1.wr F.KILN_UNC_POWER_MEAS (sat uncore)).wr F.KILN_UNC_POWER_EST (sat (milliwatts s.uncoreEst))
  let pm := uncore + (s.engines.map (fun e => engines.getD e 0)).sum
  let pe := milliwatts (s.uncoreEst + (s.engines.map s.engineEst).sum)
  let s3 := (s2.wr F.KILN_POWER_MEAS (sat pm)).wr F.KILN_POWER_EST (sat pe)
  let s4 := ((s3.top F.KILN_POWER_MAX_MEAS pm).top F.KILN_POWER_MAX_EST pe).wrB F.KILN_STAT_OVER_LIMIT
    (decide (s.overLimit < pm))
  { s4 with kiln := { s4.kiln with
      pm := pm, pe := pe, dyn := (List.range 8).map (fun e => s.rd F.KILN_ENG_CORR_CORR 0 e * s.engineDyn e) } }

/-- The divergence test of a window, and the report of the sixteenth divergent one in a row (R432). -/
def State.diverge (s : State) : State :=
  let pm := s.kiln.pm
  let pe := s.kiln.pe
  let d := decide (15 * s.rd F.KILN_CAP_CAP < 100 * (max pm pe - min pm pe))
  let n := if d then min 17 (s.kiln.divRun + 1) else 0
  let t := { s with kiln := { s.kiln with divRun := n, lastDiv := d } }
  let u := if d then t.inc F.KILN_CNT_DIV_WIN else t
  if n = 16 then (u.wr F.KILN_STAT_DIVERGED 1).report srcKiln 0x31 2 (min 65535 pm * 65536 + min 65535 pe) else u

/-- A window's share of a recalibration (R433). -/
def Recal.add (r : Recal) (pm pe : List Nat) : Recal :=
  ⟨r.left - 1, (r.pm.zip pm).map (fun x => x.1 + x.2), (r.pe.zip pe).map (fun x => x.1 + x.2)⟩

/-- POWER_WINDOW_END (R428 to R433): the window ends at the next grain that is a multiple of 100. -/
def State.windowEnd (s : State) (engines : List Nat) (uncore : Nat) : State :=
  let g := ceilDiv s.grain 100 * 100
  let s0 := s.advance (if g = s.kiln.windowAt ∧ g = s.grain ∧ g ≠ 0 then g + 100 else g)
  let s1 := (s0.showPower engines uncore).diverge
  let raws := (List.range 8).map (fun e => if s.engineOn e then s.engineRaw e else 0)
  let s2 := { s1 with kiln := { s1.kiln with
    windowAt := s0.grain, acts := []
    recal := s1.kiln.recal.map (fun r => if r.left = 0 then r else r.add (engines.take 8 ++ [uncore]) (raws ++ [s.uncoreRaw])) } }
  if s.running then s2 else (s2.takeCorr).capLoop false

/-- RECAL_START (R433): one recalibration at a time. -/
def State.recalStart (s : State) : State :=
  if s.on F.KILN_STAT_RECAL_BUSY then s
  else
    let t := s.wr F.KILN_STAT_RECAL_BUSY 1
    { t with kiln := { t.kiln with recal := some ⟨64, List.replicate 9 0, List.replicate 9 0⟩ } }

/-- A correction factor (R433); where no activity was estimated the quotient is free within the limits. -/
def corrOf (free pm pe : Nat) : Nat := min 8191 (max 2048 (if pe = 0 then free else 4096 * (pm * powerUnit) / pe))

/-- RECAL_DONE (R433), once 64 windows have been summed. -/
def State.recalDone (s : State) : State :=
  match s.kiln.recal with
  | none => s
  | some r =>
    if r.left ≠ 0 then s
    else
      let x := s.draw
      let cs := (r.pm.zip r.pe).map (fun p => corrOf (Config.freeNat x.1) p.1 p.2)
      let t := (x.2.wr F.KILN_STAT_RECAL_BUSY 0).wr F.KILN_STAT_DIVERGED 0
      { t with kiln := { t.kiln with recal := none, corrNext := some cs, divRun := 0 } }

/-- DROOP_DETECT and DROOP_HOLD_EXPIRED (R434). -/
def State.droopStart (s : State) (e : Nat) : State :=
  if !s.engineOn e || s.kiln.droop.contains e then s
  else
    let t := s.inc F.KILN_DROOP_CNT 1 0 e
    { t with kiln := { t.kiln with droop := t.kiln.droop ++ [e] } }
def State.droopEnd (s : State) (e us : Nat) : State :=
  if !s.kiln.droop.contains e then s
  else
    let t := s.top F.KILN_DROOP_MAX_US us 0 e
    { t with kiln := { t.kiln with droop := t.kiln.droop.filter (fun x => x != e) } }

/-- One sensor's reading (R435). -/
def State.sensor (s : State) (i : Nat) (v : Int) : State :=
  let t := s.wr F.KILN_TEMP_TEMP (uns 16 v) 0 i
  if s.rdS F.KILN_TEMP_MAX 0 i < v then t.wr F.KILN_TEMP_MAX (uns 16 v) 0 i else t

/-- The first sensor that reads highest. -/
def hottestOf (rs : List Int) : Nat × Int :=
  rs.zipIdx.foldl (fun b x => if b.2 < x.1 then (x.2, x.1) else b) (0, rs.headD 0)

/-- The trip sequence of R437 up to the fall to OFF. -/
def State.trip (s : State) (i : Nat) : State :=
  if s.kiln.tripped then s
  else
    let t := (((s.report srcKiln 0x33 4 i).deviceFence.quench).wr F.KILN_OFF_CAUSE_TRIP 1).wr F.KILN_OFF_CAUSE_SENSOR i
    { t with kiln := { t.kiln with tripped := true } }

/-- THERMAL_REPORT (R435, R436). -/
def State.thermal (s : State) (rs : List Int) : State :=
  let s1 := rs.zipIdx.foldl (fun s x => s.sensor x.2 x.1) s
  let hot := hottestOf rs
  let s2 := (s1.wr F.KILN_THERM_HOT_IDX hot.1).wr F.KILN_THERM_HOT_TEMP (uns 16 hot.2)
  let ge (c : Nat) (x : Int × Nat) : Bool := decide ((16 * c : Nat) ≤ x.1)
  let warm := (rs.zipIdx.filter (ge (s.rd F.KILN_THERM_CFG_WARN))).map (·.2)
  let s3 := warm.foldl (fun s i => s.report srcKiln 0x32 2 i) s2
  let s4 := { s3 with kiln := { s3.kiln with
    unboost := s3.kiln.unboost ++ (warm.filter (fun i => decide (i < 24))).map (fun i => i / 3) } }
  let trips := (rs.zipIdx.filter (ge (s.rd F.KILN_THERM_CFG_TRIP))).map (·.2)
  let s5 := { s4 with kiln := { s4.kiln with tripSeen := trips } }
  match trips.filter (fun i => s.kiln.tripSeen.contains i) with
  | [] => s5
  | i :: _ => s5.trip i

/-- Whether the cause of kind 0x32 persists: some sensor reads at or above WARN (R436). -/
def State.warm (s : State) : Bool :=
  (List.range 28).any (fun i => decide ((16 * s.rd F.KILN_THERM_CFG_WARN : Nat) ≤ s.rdS F.KILN_TEMP_TEMP 0 i))

/-- CORE_SUBDOMAIN_GATE (R442). -/
def State.gateCore (s : State) (n : Nat) : State :=
  if !s.coreOn n || s.on F.CORE_STAT_LOADED n || s.kiln.gated.contains n then s
  else { s with kiln := { s.kiln with gated := n :: s.kiln.gated } }

/-- Every enabled engine is awake (R442). -/
def State.wakeEngines (s : State) : State :=
  let t := s.engines.foldl (fun s e => s.woken (.engine e)) s
  t.wr F.KILN_GATE_ENG 0

/-- Kiln's floor bin as KILN_STAT shows it: the computed floor or a lower override (R425). -/
def State.showFloor (s : State) : State :=
  let o := s.rd F.KILN_CTRL_FLOOR_OVR
  s.wr F.KILN_STAT_FLOOR (if 5 ≤ o ∧ o ≤ 8 then min o s.kiln.floor else s.kiln.floor)

/-- POWER_WINDOW_END. -/
def execPowerWindowEnd (engines : List Nat) (uncore : Nat) (s : State) : Host.Outcome State Fault Refusal :=
  .next (s.windowEnd engines uncore)

/-- RECAL_START. -/
def execRecalStart (s : State) : Host.Outcome State Fault Refusal := .next s.recalStart

/-- RECAL_DONE. -/
def execRecalDone (s : State) : Host.Outcome State Fault Refusal := .next s.recalDone

/-- DROOP_DETECT. -/
def execDroopDetect (engine : Nat) (s : State) : Host.Outcome State Fault Refusal := .next (s.droopStart engine)

/-- DROOP_HOLD_EXPIRED. -/
def execDroopHoldExpired (engine us : Nat) (s : State) : Host.Outcome State Fault Refusal := .next (s.droopEnd engine us)

/-- THERMAL_REPORT. -/
def execThermalReport (readings : List Int) (s : State) : Host.Outcome State Fault Refusal := .next (s.thermal readings)

/-- DOMAIN_WAKE. -/
def execDomainWake (dom : Domain) (s : State) : Host.Outcome State Fault Refusal := .next (s.wakeStart dom)

/-- DOMAIN_WAKE_DONE. -/
def execDomainWakeDone (dom : Domain) (s : State) : Host.Outcome State Fault Refusal := .next (s.wakeDone dom)

/-- CORE_SUBDOMAIN_GATE. -/
def execCoreSubdomainGate (core : Nat) (s : State) : Host.Outcome State Fault Refusal := .next (s.gateCore core)

end Sys2Proof.Machine
end

