-- ==== Sys2Proof/Machine/Spare.lean ====
section
/-!
DEFINITION. Spare tiles: the core map, swaps of single cores, column retirement, the chip floor bin, ageing, and what a
reset of a core returns to its reset value (14_bringup_loading_spares.md R384 to R401, 16_power_clocks_thermal.md R424,
R425).
-/
namespace Sys2Proof.Machine

/-- Index of a tile within its engine, 17·row + column (07 R221). -/
def tileIndex (p : Nat) : Nat := 17 * (tileY p % 8) + tileX p % 17

/-- Whether the engine marks a tile's compute part, or its router, defective (14 R401). -/
def State.coreDefect (s : State) (p : Nat) : Bool :=
  bit (s.rd F.SPARE_DEFECT_CORE_DEFECT (tileEngine p) (tileIndex p / 32)) (tileIndex p % 32)
def State.routerDefect (s : State) (p : Nat) : Bool :=
  bit (s.rd F.SPARE_DEFECT_RTR_DEFECT (tileEngine p) (tileIndex p / 32)) (tileIndex p % 32)

/-- The state with a tile's compute part marked defective. -/
def State.markDefect (s : State) (p : Nat) : State :=
  let k := tileIndex p
  s.wr F.SPARE_DEFECT_CORE_DEFECT (s.rd F.SPARE_DEFECT_CORE_DEFECT (tileEngine p) (k / 32) ||| 2 ^ (k % 32)) (tileEngine p)
    (k / 32)

/-- The tiles of engine `e`. -/
def tilesOf (e : Nat) : List Nat := (List.range 136).map (engineTile e)

/-- The retired column of an engine. -/
def State.retiredCol (s : State) (e : Nat) : Option Nat :=
  if s.on F.SPARE_STAT_COL_RETIRED 0 e then some (s.rd F.SPARE_STAT_COLUMN 0 e) else none

/-- The free spare tiles of an engine: they hold no logical core, have no defect and lie outside a retired column
(R394). -/
def State.freeSpares (s : State) (e : Nat) : List Nat :=
  (tilesOf e).filter (fun p => (s.coreAt p).isNone && !s.coreDefect p && !s.routerDefect p && !s.retired p)

/-- The home tile of logical core `n`, its column shifted past a retired one (R385, 01 R13, 08 R239). -/
def State.homeTile (s : State) (n : Nat) : Nat :=
  let e := n / 128
  let c := n % 16
  let x := match s.retiredCol e with | some r => if r ≤ c then c + 1 else c | none => c
  engineTile e (17 * (n % 128 / 16) + x)

/-- SPARE_STAT of an engine, from its map (R401). -/
def State.spareStat (s : State) (e : Nat) : State :=
  let used := (List.range 8).map (fun r =>
    if (s.coreAt (engineTile e (17 * r + 16))).isSome && !s.on F.SPARE_STAT_COL_RETIRED 0 e then 2 ^ r else 0)
  (s.wr F.SPARE_STAT_SPARE_USED used.sum 0 e).wr F.SPARE_STAT_SPARES_FREE (s.freeSpares e).length 0 e

/-- One map entry of one engine agent: the shadow's, and the active table's. -/
def State.mapShadow (s : State) (e n t : Nat) : State :=
  (s.wr F.SPARE_SHADOW_TILE t e n).wr F.SPARE_SHADOW_VALID 1 e n

/-- The flip: the shadow table of engine `e` becomes its active table (R384). -/
def State.mapFlip (s : State) (e : Nat) : State :=
  let map := Reg.num .SPARE_MAP
  let keep := s.regs.filter (fun x => !(x.1.r == map && x.1.u == e))
  let new := s.regs.filter (fun x => x.1.r == Reg.num .SPARE_SHADOW && x.1.u == e)
  { s with regs := new.foldl (fun m x => Sparse.put Key.lt m { x.1 with r := map } x.2) keep }

/-- MAP_SET of core `n` to tile `t` in every enabled engine, then MAP_FLIP (R394). -/
def State.moveMap (s : State) (ms : List (Nat × Nat)) : State :=
  s.engines.foldl (fun s e => (ms.foldl (fun s m => s.mapShadow e m.1 m.2) s).mapFlip e) s

/-- The registers of a tile that move with the core that it holds (R394): routing LFSR, Den, compute port. -/
def coreTileRegs : List Nat :=
  [Reg.FOX_SEED, Reg.FOX_RT_CFG, Reg.FOX_DEN_STAT, Reg.CORD_SEND_CFG, Reg.CORD_PORT_STAT, Reg.CORD_CNT].map Reg.num

/-- The slot table and its counts, which move with the column (R397). -/
def slotTileRegs : List Nat := [Reg.CORD_TABLE, Reg.CORD_PORT_CNT].map Reg.num

/-- Registers `rs` of tile `a` copied to tile `b`. -/
def State.copyTile (s : State) (rs : List Nat) (a b : Nat) : State :=
  let old := s.regs.filter (fun e => rs.contains e.1.r && e.1.u == a)
  let keep := s.regs.filter (fun e => !(rs.contains e.1.r && e.1.u == b))
  { s with regs := old.foldl (fun m e => Sparse.put Key.lt m { e.1 with u := b } e.2) keep }

/-- Registers `rs` of unit `u` back at reset. -/
def State.dropRegs (s : State) (rs : List Nat) (u : Nat) : State :=
  { s with regs := s.regs.filter (fun e => !(rs.contains e.1.r && e.1.u == u)) }

/-- The registers of a scope. -/
def Scope.regs (k : Scope) : List Nat := (Reg.all.filter (fun r => r.info.scope == k)).map Reg.num

/-- A core's registers return to their reset values and its buffers empty; its SRAM keeps its contents (15 R412,
14 R391). -/
def State.resetCore (s : State) (n : Nat) : State := (s.dropRegs (Scope.regs .core) n).setCore n CoreSt.fresh

/-- The registers of the core's window that belong to its tile, but for what the tile's links and fuses give. -/
def tileReset : List Nat :=
  (Scope.regs .tile).filter (fun r => r != Reg.num .FOX_RT_STAT && r != Reg.num .KILN_CORE_BIN)

/-- Whether the compute port of core `n`'s router supplies or receives words (08 R240). -/
def State.usesPort (s : State) (n : Nat) : Bool := s.supplies (s.tileOf n) || s.receives (s.tileOf n)

/-- Whether a router of engine `e` drives a lane across the row boundary to engine `f` (R399). -/
def State.drivesAcross (s : State) (e f : Nat) : Bool :=
  s.cordTable.any (fun x => tileEngine x.1 == e && (List.range 4).any (fun l =>
    [1, 3].any (fun d => (laneField x.2.2 l).drives d &&
      (match s.cordNeighbour x.1 d with | some q => tileEngine q == f | none => false))))

/-- The engines of one side that are joined to engine `e` by crossings in use (R399). -/
def State.joined (s : State) (e : Nat) : List Nat :=
  let grow (es : List Nat) : List Nat :=
    (List.range 8).filter (fun f => es.contains f || es.any (fun g =>
      (f == g + 2 || g == f + 2) && (s.drivesAcross f g || s.drivesAcross g f)))
  grow (grow (grow [e]))

/-- Whether column `c` of engine `e` can be retired (R397). -/
def State.mayRetire (s : State) (e c : Nat) : Bool :=
  s.engineOn e && !s.on F.SPARE_STAT_COL_RETIRED 0 e && decide (c < 17) &&
    (List.range 8).all (fun r => match s.coreAt (engineTile e (17 * r + 16)) with | some n => n % 16 == c | none => true)

/-- The columns that one window retires for column `c` of engine `e` (R399). -/
def State.columnSet (s : State) (e c : Nat) : List (Nat × Nat) := (s.joined e).map (fun f => (f, c))

/-- The columns that replace a swap of core `n` (08 R240), none where a copy swap will do. -/
def State.swapColumns (s : State) (n : Nat) : List (Nat × Nat) :=
  if s.usesPort n then s.columnSet (n / 128) (tileX (s.tileOf n) % 17) else []

/-- Rows between two tiles. -/
def rowGap (a b : Nat) : Nat := max (tileY a) (tileY b) - min (tileY a) (tileY b)

/-- The spare tile for core `n`: the nearest row, the lower-numbered one on a tie (R394). -/
def State.spareFor (s : State) (n : Nat) : Option Nat :=
  let a := s.tileOf n
  (s.freeSpares (n / 128)).foldl (fun best p => match best with
    | none => some p
    | some q => if rowGap a p < rowGap a q then some p else some q) none

/-- Whether a swap or retirement can be carried out (R397, R400). -/
def State.swapPossible (s : State) (w : Swap) : Bool :=
  if w.columns = [] then s.coreOn w.core && (s.spareFor w.core).isSome else w.columns.all (fun c => s.mayRetire c.1 c.2)

/-- Whether buffer `b` is one into which a packet at tile `p` may move next. -/
def State.nextTo (s : State) (p : Nat) (b : Buf) : Bool :=
  let x := if b.ring = 0 then (tileY p, tileX p) else (tileX p, tileY p)
  decide (2 ≤ b.ring) || (s.bufRun (s.bufNext { b with idx := x.1, pos := x.2 }) 1 40).head? == some b

/-- A packet that was on its way to a moved core, gateway port or engine-agent port, or whose route turns or changes phase in
a column that is retired, goes on as a phase-2 packet from the active map (R398, 07 R208). -/
def State.redirect (s : State) (cols : List (Nat × Nat)) (f : Flight) : State :=
  let hit (p : Nat) : Bool := cols.any (fun c => tileEngine p == c.1 && tileX p % 17 == c.2)
  let here : Option Nat := match f.occ with
    | b :: _ => if b.ring = 2 ∨ (b.ring = 3 ∧ b.dir = 1) then none else some (s.bufTile b)
    | [] => if inArray f.agent then some (s.agentTile f.agent) else none
  let turns := (f.path.zip f.path.tail).any (fun x => decide (x.1.ring < 2) && x.2 != s.bufNext x.1 && hit x.1.tile)
  match f.bcast, here with
  | none, some p =>
    if !(hit f.side.dest || turns || (f.injects && f.path.head?.any (fun b => !s.nextTo p b))) then s
    else
      let tail := f.path.dropWhile (fun b => decide (b.ring < 2))
      let q := match tail with
        | b :: _ => s.gatewayTile b.idx
        | [] => s.destTile (tileEngine p) f.pkt.dest.toNat
      s.sendOn f p q tail
  | _, _ => s

/-- A flight whose flits waited for a link that a retirement has replaced goes on (07 R219, 14 R399). -/
def State.unblock (s : State) (f : Flight) : State :=
  match f.path with
  | b :: _ => if f.replay == [] || s.linkDown b then s else s.setFlight { f with replay := [] }
  | [] => s

/-- The single swap of core `n` to tile `b` (R394): the core's state, which is kept by its logical number, stays as it
is; the registers of its tile move, the maps flip, and the old tile is marked defective. -/
def State.swapCore (s : State) (n b window : Nat) (ageing : Bool) : State :=
  let a := s.tileOf n
  let s1 := (((s.copyTile coreTileRegs a b).moveMap [(n, b)]).markDefect a).spareStat (n / 128)
  let s2 := (s1.wr F.CORE_STAT_FENCED 0 n).inc F.SPARE_CNT_SWAPS
  let s3 := if ageing then s2.inc F.SPARE_CNT_AGE_SWAPS else s2
  (((s3.wr F.SPARE_LAST_LOGICAL n).wr F.SPARE_LAST_OLD_TILE a).wr F.SPARE_LAST_NEW_TILE b).wr F.SPARE_LAST_WINDOW
    (min 65535 window)

/-- Where a retirement of column `c` of engine `e` moves the engine's cores (R397): a core in columns `c` to 15 one column
east, a core on a spare tile to its new home. -/
def State.retireMoves (s : State) (e c : Nat) : List (Nat × Nat) :=
  (List.range 128).filterMap (fun j =>
    let n := 128 * e + j
    let p := s.tileOf n
    let x := tileX p % 17
    if !s.on F.SPARE_MAP_VALID e n || c = 16 then none
    else if x = 16 then some (n, engineTile e (17 * (j / 16) + j % 16 + 1))
    else if c ≤ x then some (n, p + 1) else none)

/-- Column `c` of engine `e` goes into bypass, and its spare column carries words (R397, R398). -/
def State.bypassColumn (s : State) (e c : Nat) : State :=
  let t := s.wr F.CORD_BYPASS_BYPASS (if c = 16 then 2 ^ 16 else 2 ^ c) e
  (t.wr F.SPARE_STAT_COL_RETIRED 1 0 e).wr F.SPARE_STAT_COLUMN c 0 e

/-- One column retired, with the registers and slot tables of the tiles that move (R397). -/
def State.retireColumn (s : State) (e c : Nat) : State :=
  let ms := s.retireMoves e c
  let rows := List.range 8
  let spare := rows.foldl (fun s r => match s.coreAt (engineTile e (17 * r + 16)) with
    | some n => s.copyTile coreTileRegs (engineTile e (17 * r + 16)) (engineTile e (17 * (n % 128 / 16) + c))
    | none => s) s
  let cols := ((List.range 16).filter (fun x => decide (c ≤ x))).reverse
  let moved := cols.foldl (fun s x => rows.foldl (fun s r =>
    s.copyTile (coreTileRegs ++ slotTileRegs) (engineTile e (17 * r + x)) (engineTile e (17 * r + x + 1))) s) spare
  (((moved.moveMap ms).bypassColumn e c).inc F.SPARE_CNT_RETIRES).spareStat e

/-- Every column of a retirement, and the packets that it turns (R397, R398). -/
def State.retireColumns (s : State) (cols : List (Nat × Nat)) : State :=
  let t := cols.foldl (fun s c => s.retireColumn c.1 c.2) s
  let u := t.net.flights.foldl (fun s f => s.redirect cols f) t
  u.net.flights.foldl (fun s f => s.unblock f) u

/-- The chip floor bin (16 R425): the lowest live bin among the tiles that hold logical cores and the free spares. -/
def State.computeFloor (s : State) : State :=
  let tiles := s.engines.flatMap (fun e => (tilesOf e).filter (fun p => (s.coreAt p).isSome || (s.freeSpares e).contains p))
  let t := { s with kiln := { s.kiln with floor := (tiles.map s.liveBin).foldl min 8 } }
  t.showFloor

/-- Collier marks a swap or retirement, if it has not marked the same one yet (R393). -/
def State.markSwap (s : State) (w : Swap) : State :=
  if s.spare.queue.any (fun x => x.columns == w.columns && (w.columns != [] || x.core == w.core) && x.slot == w.slot &&
      !w.reply) then s
  else { s with spare := { s.spare with queue := s.spare.queue ++ [w] } }

/-- A swap or retirement that cannot be carried out: Collier reports it, and the device is fenced as by Owl's FAILOVER
(R400). -/
def State.swapFailed (s : State) (e p : Nat) : State :=
  (((s.inc F.SPARE_CNT_FAILED).report (0x500 + e) 0x11 4 p).deviceFence)

/-- A swap of core `n` for ageing (R396). -/
def State.ageSwap (s : State) (n : Nat) : State :=
  let w : Swap := ⟨n, s.swapColumns n, 0, true, none, false⟩
  if s.spare.queue.any (fun x => x.core == n && x.ageing) then s
  else if s.swapPossible w then s.markSwap w
  else s.swapFailed (n / 128) (s.tileOf n)

/-- AGEING_MEASURE (16 R424, R396): a negative margin lowers the tile's live bin. -/
def State.age (s : State) (p : Nat) (negative : Bool) : State :=
  if !s.tileOn p || !negative || s.liveBin p ≤ 1 then s
  else
    let bin := s.liveBin p - 1
    let t := { s with kiln := { s.kiln with live := Sparse.set natLt s.kiln.live p 0 bin } }
    match s.coreAt p with
    | none => t
    | some n =>
      if bin < s.rd F.KILN_STAT_FLOOR then
        let u := t.report srcKiln 0x11 2 p
        if s.on F.SPARE_CTRL_AGE_EN then u.ageSwap n else u
      else t

/-- AGEING_MEASURE. -/
def execAgeingMeasure (tile : Nat) (negative : Bool) (s : State) : Host.Outcome State Fault Refusal :=
  .next (s.age tile negative)

end Sys2Proof.Machine
end

