-- ==== Sys2Proof/Machine/Owl.lean ====
section
/-!
DEFINITION. Owl: the fault chain's offers, the FIFO, the status table, the log, reactions and their slots, forced
messages, FAULT_N and the watchdog's kick (15_faults.md R402 to R420).
-/
namespace Sys2Proof.Machine

/-- Whether R404 gives a source and the variant has it. -/
def State.sourceOn (s : State) (src : Nat) : Bool :=
  (decide (src < 1088) && s.engineOn (tileEngine src)) ||
  (decide (0x500 ≤ src) && decide (src < 0x508) && s.engineOn (src - 0x500)) ||
  (decide (0x600 ≤ src) && decide (src < 0x610) && s.engineOn ((src - 0x600) / 2)) || src == 0x700 ||
  (decide (0x710 ≤ src) && decide (src < 0x712) && s.groupOn (src - 0x710)) ||
  (decide (0x720 ≤ src) && decide (src < 0x726) && s.rxOn (src - 0x720)) ||
  (decide (0x728 ≤ src) && decide (src < 0x72C) && s.txOn (src - 0x728)) ||
  src == 0x730 || (decide (0x740 ≤ src) && decide (src < 0x744)) || src == 0x750 || src == 0x760 || src == 0x7F0

/-- The kinds that R406 lists. -/
def faultKinds : List Nat := [0x01, 0x02, 0x03, 0x04, 0x05, 0x06, 0x07, 0x10, 0x11, 0x12, 0x20, 0x21, 0x22, 0x30, 0x31, 0x32,
  0x33, 0x40, 0x41, 0x42, 0x50, 0x51, 0x60, 0x61]

/-- Whether a message comes before another in the order of the fault chain (R403). -/
def Msg.before (a b : Msg) : Bool := if a.src ≠ b.src then decide (a.src < b.src) else decide (a.kind < b.kind)

/-- The staged message that is offered next. -/
def State.offered (s : State) : Option Msg :=
  (s.owl.staged.filter (fun m => s.sourceOn m.src)).foldl (fun best m => match best with
    | none => some m
    | some b => if m.before b then some m else some b) none

/-- A core masked under 02 R59 is unmasked. -/
def State.unmask (s : State) (m : Msg) : State := if m.kind = 0x10 then s.wr F.CORE_STAT_DONE_MASKED 0 m.addr else s

/-- A message is lost (R408). -/
def State.lostMsg (s : State) (m : Msg) (f : Fld) : State := ((s.inc f).wr F.OWL_STAT_LOST 1).unmask m

/-- A message that the fault chain offers enters the FIFO, or is lost (R408). -/
def State.offer (s : State) (m : Msg) : State :=
  if s.owl.fifo.length ≥ 64 then s.lostMsg m F.OWL_CNT_LOST_FULL
  else if s.owl.active.any (fun r => r.msg.src == m.src) then s.lostMsg m F.OWL_CNT_LOST_BUSY
  else
    let t := { s with owl := { s.owl with fifo := s.owl.fifo ++ [m] } }
    (t.inc F.OWL_CNT_ACCEPTED).top F.OWL_STAT_FIFO_MAX t.owl.fifo.length

/-- FAULT_OFFER (R403). -/
def State.faultOffer (s : State) : State :=
  match s.offered with
  | none => s
  | some m => ({ s with owl := { s.owl with staged := dropFirst (fun x => x == m) s.owl.staged } }).offer m

/-- The status entry of a key, and the first entry that is free (R414). -/
def State.entryOf (s : State) (src kind : Nat) : Option Nat :=
  (List.range 256).find? (fun i => s.on F.OWL_ST_KEY_VALID 0 i && s.rd F.OWL_ST_KEY_SOURCE 0 i == src &&
    s.rd F.OWL_ST_KEY_KIND 0 i == kind)
def State.freeEntry (s : State) : Option Nat := (List.range 256).find? (fun i => !s.on F.OWL_ST_KEY_VALID 0 i)

/-- The status table takes a message (R414). -/
def State.status (s : State) (m : Msg) : State :=
  match s.entryOf m.src m.kind with
  | some i =>
    let t := (((s.inc F.OWL_ST_KEY_COUNT (1 + m.rep) 0 i).top F.OWL_ST_KEY_CLASS m.cls 0 i).wr F.OWL_ST_ADDR_LAST_ADDR m.addr 0 i)
    if m.forced then t else t.wr F.OWL_ST_KEY_FORCED 0 0 i
  | none => match s.freeEntry with
    | some i =>
      let t := (((s.wr F.OWL_ST_KEY_VALID 1 0 i).wr F.OWL_ST_KEY_SOURCE m.src 0 i).wr F.OWL_ST_KEY_KIND m.kind 0 i).wr
        F.OWL_ST_KEY_CLASS m.cls 0 i
      (((t.wrB F.OWL_ST_KEY_FORCED m.forced 0 i).wr F.OWL_ST_KEY_COUNT (1 + m.rep) 0 i).wr F.OWL_ST_ADDR_LAST_ADDR m.addr 0
        i).wr F.OWL_ST_ADDR_FIRST_ADDR m.addr 0 i
    | none => s.inc F.OWL_CNT2_ST_FULL

/-- The cause column of R406 for a key whose latest address is `addr`. -/
def State.causeHolds (s : State) (src kind addr : Nat) : Bool :=
  match kind with
  | 0x04 => decide (0x710 ≤ src) && decide (src < 0x712) && s.g6Failed (src - 0x710)
  | 0x06 => if src < 1088 then s.on F.FOX_RT_STAT_LINK_DOWN src && !s.retired src else decide (0x600 ≤ src) && decide (src < 0x610)
  | 0x10 => s.on F.CORE_STAT_DONE_MASKED addr
  | 0x11 => (s.coreAt addr).isSome && decide (s.liveBin addr < s.rd F.KILN_STAT_FLOOR)
  | 0x31 => s.kiln.lastDiv
  | 0x32 => s.warm
  | 0x40 => decide (0x720 ≤ src) && decide (s.rd F.CSIRX_STAT_LANES_ACT (src - 0x720) <
      lanesOf (s.rd F.CSIRX_PORT_CFG_LANES (src - 0x720)))
  | 0x41 => decide (0x720 ≤ src) && s.lossStands (src - 0x720)
  | 0x50 => match addr with
    | 2 => s.engines.any (fun e => !bit (s.rd F.PAIR_STAT_ENG_READY) e)
    | 3 => s.pair.unreplayable
    | 4 => s.on F.PAIR_STAT_JOURNAL_FULL
    | _ => false
  | 0x51 => s.rd F.PAIR_STAT_SB_STATE == 3
  | _ => false

/-- CAUSE of a status entry: a forced one has none (R414). -/
def State.cause (s : State) (i : Nat) : Bool :=
  s.on F.OWL_ST_KEY_VALID 0 i && !s.on F.OWL_ST_KEY_FORCED 0 i &&
    s.causeHolds (s.rd F.OWL_ST_KEY_SOURCE 0 i) (s.rd F.OWL_ST_KEY_KIND 0 i) (s.rd F.OWL_ST_ADDR_LAST_ADDR 0 i)

/-- FAULT_N follows what R417 lists. -/
def State.faultLow (s : State) : Bool :=
  (List.range 256).any (fun i => s.on F.OWL_ST_KEY_VALID 0 i &&
    decide (s.rd F.OWL_CTRL_FAULTN_CLASS ≤ s.rd F.OWL_ST_KEY_CLASS 0 i) &&
    !s.on F.OWL_REACT_MASK_FAULTN 0 (s.rd F.OWL_ST_KEY_KIND 0 i)) || s.on F.OWL_STAT_HALTED || s.boot.stopped
def State.faultPin (s : State) : State := { s with pins := { s.pins with faultN := !s.faultLow } }

/-- The tile that a message's reaction is about: for kind 0x11 the one named in ADDRESS (R411). -/
def Msg.tile (m : Msg) : Nat := if m.kind = 0x11 then m.addr else m.src

/-- The reaction that a class selects (R410); code 7 acts as LOG (R409). -/
def State.selected (s : State) (m : Msg) : Nat :=
  let c := if m.cls = 4 then s.rd F.OWL_REACT_FATAL 0 m.kind
    else if s.rd F.OWL_REACT_MIN_CLASS 0 m.kind ≤ m.cls then s.rd F.OWL_REACT_REACT 0 m.kind else 0
  if c = 7 then 0 else c

/-- Whether a SWAP on a message retires the tile's column for its routers' sake (R411), whether or not the tile holds a core
(DEDUCED, log entry 120). -/
def Msg.retires (m : Msg) : Bool := m.kind == 5 || m.kind == 6

/-- The reaction that runs, after the targets of R411: only where the target is the tile's core does a tile without one make
it NOTIFY. -/
def State.reactionOf (s : State) (m : Msg) : Nat :=
  let c := s.selected m
  if c ≠ 2 ∧ c ≠ 3 ∧ c ≠ 5 then c
  else if m.tile < 1088 then (if c = 5 ∨ (c = 3 ∧ m.retires) ∨ (s.coreAt m.tile).isSome then c else 1)
  else if 0x500 ≤ m.tile ∧ m.tile < 0x508 then (if c = 3 then 1 else c)
  else if 0x600 ≤ m.tile ∧ m.tile < 0x610 then (if c = 5 then c else 1)
  else 1

/-- Whether a reaction takes a slot (R412). -/
def takesSlot (code : Nat) : Bool := decide (2 ≤ code)

/-- The lowest free reaction slot. -/
def State.freeSlot (s : State) : Option Nat :=
  (List.range 16).find? (fun k => !s.owl.active.any (fun r => r.slot == k))

/-- Set REACT_FAIL in the log record of a reaction slot (R411): a core that its kind 0x10 masked is unmasked (02 R59). -/
def State.reactFail (s : State) (slot : Nat) : State :=
  let s0 := (s.owl.active.filter (fun r => r.slot == slot)).foldl (fun s r => s.unmask r.msg) s
  let t := s0.inc F.OWL_CNT2_REACT_FAIL
  { t with owl := { t.owl with
      log := t.owl.log.map (fun (r : LogRec) => if r.slot = some slot then { r with fail := true } else r) } }

/-- A new log record; the 257th oldest is overwritten (R415). -/
def State.logMsg (s : State) (m : Msg) (code : Nat) (slot : Option Nat) : State :=
  let r : LogRec := ⟨m, code, false, s.grain, true, slot⟩
  let old := s.owl.log.map (fun (x : LogRec) => if x.slot.isSome && x.slot == slot then { x with slot := none } else x)
  let t := if old.length ≥ 256 ∧ (old.head?.map (·.unread)).getD false then s.inc F.OWL_CNT2_LOG_OVW else s
  { t with owl := { t.owl with log := (if old.length ≥ 256 then old.drop 1 else old) ++ [r] } }

/-- Collier stages CTL FENCE from the engine agent to a core for a reaction slot (07 R195). -/
def State.fenceFor (s : State) (slot n : Nat) : State :=
  s.stage (agEngine (n / 128)) (mkPacket 15 n (agEngine (n / 128)) s.step 0 1 []) (.reaction slot)

/-- The engine that RESET_ENGINE targets (R411). -/
def Msg.engine (m : Msg) : Nat :=
  if m.tile < 1088 then tileEngine m.tile else if m.tile < 0x600 then m.tile - 0x500 else (m.tile - 0x600) / 2

/-- The columns that a SWAP on a router fault retires (R399): for a Fox column link the column in every enabled engine of
the side, else the tile's own column. -/
def State.faultColumns (s : State) (m : Msg) : List (Nat × Nat) :=
  let e := tileEngine m.tile
  let c := tileX m.tile % 17
  if bits m.addr 4 0 = 0 ∨ bits m.addr 4 0 = 2 then (s.engines.filter (fun f => f % 2 = e % 2)).map (fun f => (f, c))
  else s.columnSet e c

/-- SWAP on a tile (R396, R399 to R401, R411). -/
def State.reactSwap (s : State) (slot : Nat) (m : Msg) : State :=
  let n := (s.coreAt m.tile).getD (128 * tileEngine m.tile)
  let w : Swap := ⟨n, if m.retires then s.faultColumns m else s.swapColumns n, 0, false, some slot, false⟩
  if s.swapPossible w then s.markSwap w else (s.swapFailed (n / 128) m.tile).reactFail slot

/-- A core of a reset engine is fenced at once (R412). -/
def State.fenceEngine (s : State) (e : Nat) : State :=
  (List.range 128).foldl (fun s j => s.wr F.CORE_STAT_FENCED 1 (128 * e + j)) s

/-- The effect with which a reaction starts (R409 to R412). -/
def State.startReaction (s : State) (slot : Nat) (m : Msg) (code : Nat) : State :=
  match code with
  | 2 =>
    if m.tile < 1088 then (match s.coreAt m.tile with | some n => s.fenceFor slot n | none => s)
    else (List.range 128).foldl (fun s j => s.fenceFor slot (128 * m.engine + j)) s
  | 3 => s.reactSwap slot m
  | 4 => s.deviceFence
  | 5 => s.fenceEngine m.engine
  | 6 => s.quench.wr F.OWL_STAT_HALTED 1
  | _ => s

/-- A reaction other than LOG raises IBI 0xA1 (R409, 12 R320, R324). -/
def State.faultEvent (s : State) (code : Nat) : State :=
  if code = 0 then s else { s with cmd := { s.cmd with ibiFault := true } }

/-- OWL_TAKE_MESSAGE (R407): status, log, reaction; a message whose reaction finds no slot stays. -/
def State.owlTake (s : State) : State :=
  match s.owl.fifo with
  | [] => s
  | m :: rest =>
    let code := s.reactionOf m
    let s1 := { s with owl := { s.owl with fifo := rest } }
    let s2 := (if m.forced then s1.inc F.OWL_CNT2_FORCED else s1).status m
    if takesSlot code then
      match s.freeSlot with
      | none => s
      | some k =>
        let s3 := (s2.logMsg m code (some k)).faultEvent code
        let s4 := { s3 with owl := { s3.owl with active := s3.owl.active ++ [Reaction.mk k m code] } }
        (s4.startReaction k m code).faultPin
    else (((s2.logMsg m code none).faultEvent code).unmask m).faultPin

/-- Whether a reaction has done its work: its requests are answered, its swap has ended (R412). -/
def State.reacted (s : State) (r : Reaction) : Bool :=
  match r.code with
  | 2 => !s.net.staging.any (fun e => e.why == .reaction r.slot) && !s.net.tids.any (fun t => t.why == .reaction r.slot)
  | 3 => !s.spare.queue.any (fun w => w.slot == some r.slot) &&
      (match s.spare.window with | some w => w.1.slot != some r.slot | none => true)
  | _ => true

/-- The reset of an engine's core subdomains (R412). -/
def State.resetEngine (s : State) (e : Nat) : State := (List.range 128).foldl (fun s j => s.resetCore (128 * e + j)) s

/-- REACTION_COMPLETE (R412). The fence of a reset engine stands on after the reset (07 R218). -/
def State.reactionDone (s : State) (slot : Nat) : State :=
  match s.owl.active.find? (fun r => r.slot == slot) with
  | none => s
  | some r =>
    if !s.reacted r then s
    else
      let t := { s with owl := { s.owl with active := s.owl.active.filter (fun x => x.slot != slot) } }
      (if r.code = 5 then (t.resetEngine r.msg.engine).fenceEngine r.msg.engine else t).unmask r.msg

/-- Whether FAULT_FORCE takes a source, kind and class (R416). -/
def State.mayForce (s : State) (src kind : Nat) : Bool := s.sourceOn src && faultKinds.contains kind

/-- A forced message is staged at its source (R403, R416). -/
def State.force (s : State) (src kind cls addr : Nat) : State :=
  { s with owl := { s.owl with staged := mergeMsg ⟨src, kind, cls, addr % 2 ^ 32, true, 0⟩ s.owl.staged } }

/-- A write of OWL_FORCE (R416, R420). -/
def State.owlForce (s : State) (v : Nat) : State :=
  let t := (((s.wr F.OWL_FORCE_SOURCE (bits v 63 52)).wr F.OWL_FORCE_KIND (bits v 51 44)).wr F.OWL_FORCE_CLASS
    (bits v 43 41)).wr F.OWL_FORCE_ADDRESS (bits v 31 0)
  if !bit v 40 then t
  else if s.mayForce (bits v 63 52) (bits v 51 44) && decide (bits v 43 41 ≤ 4) then
    t.force (bits v 63 52) (bits v 51 44) (bits v 43 41) (bits v 31 0)
  else t.wr F.OWL_STAT_FORCE_REJ 1

/-- A write of OWL_WDOG (R419, R420). -/
def State.wdogWrite (s : State) (v : Nat) : State :=
  let t := (s.wr F.OWL_WDOG_EN (bits v 31 31)).wr F.OWL_WDOG_TIMEOUT (bits v 15 0)
  if bit v 30 then { t with owl := { t.owl with barked := false } } else t

/-- FAULT_OFFER. -/
def execFaultOffer (s : State) : Host.Outcome State Fault Refusal := .next s.faultOffer

/-- OWL_TAKE_MESSAGE. -/
def execOwlTakeMessage (s : State) : Host.Outcome State Fault Refusal := .next s.owlTake

/-- REACTION_COMPLETE. -/
def execReactionComplete (slot : Nat) (s : State) : Host.Outcome State Fault Refusal := .next (s.reactionDone slot)

/-- WATCHDOG_KICK. -/
def execWatchdogKick (value : BitVec 32) (s : State) : Host.Outcome State Fault Refusal := .next (s.wdogWrite value.toNat)

/-- OWL_FORCE_GO. -/
def execOwlForceGo (value : BitVec 64) (s : State) : Host.Outcome State Fault Refusal := .next (s.owlForce value.toNat)

end Sys2Proof.Machine
end

