-- ==== Sys2Proof/Machine/Sec.lean ====
section
/-!
DEFINITION. The security block: fuse programming, verification of firmware and model images, attestation reports, and the
JTAG debug lock (17_security.md R447 to R460).
-/
namespace Sys2Proof.Machine

/-- Word `i` of a multi-word register's bytes. -/
def wordAt (bs : List Byte) (i : Nat) : Nat := byteField bs (8 * i) 8

/-- The firmware that an image's header describes (R450). -/
def fwOf (img : List Byte) : Firmware where
  major := byteField img 6 2
  minor := byteField img 8 2
  build := byteField img 12 4
  svn := byteField img 16 1
  board := (img.drop 32).take 16
  meas := sha512 (img.take 160)

/-- The firmware version (R450). -/
def Firmware.version (f : Firmware) : Nat := f.major * 65536 + f.minor

/-- Whether bytes `a` to `a + n - 1` are zero. -/
def zeroAt (bs : List Byte) (a n : Nat) : Bool := decide (byteField bs a n = 0)

/-- Whether a firmware header is well formed (R451 check 1). -/
def fwForm (img : List Byte) : Bool :=
  decide (256 ≤ img.length) && byteField img 0 4 == 0x5746584A && byteField img 4 2 == 1 && zeroAt img 10 2 &&
    zeroAt img 17 7 && zeroAt img 28 4 && zeroAt img 48 16 && zeroAt img 224 32 &&
    decide (byteField img 24 4 ≤ 2031360) && decide (256 + byteField img 24 4 ≤ img.length)

/-- The first check of R451 that an image fails, as its reason. -/
def State.fwReason (s : State) (img : List Byte) : Option Nat :=
  let pub := (img.drop 128).take 32
  if !fwForm img then some 0x0A11
  else if ofBytes s.fuse.rootHash = 0 ∨ sha512 pub ≠ s.fuse.rootHash then some 0x0A11
  else if !Ed.verify pub (img.take 160) ((img.drop 160).take 64) then some 0x0A11
  else if (fwOf img).svn < s.fuse.rollback then some 0x0A12
  else if sha512 ((img.drop 256).take (byteField img 24 4)) ≠ (img.drop 64).take 64 then some 0x0A11
  else none

/-- Firmware begins to run (R450, R460). -/
def State.startFw (s : State) (img : List Byte) : State :=
  let f := fwOf img
  let t := (List.range 8).foldl (fun s i => s.wr F.SEC_FW_MEAS_MEAS (wordAt f.meas i) 0 i) s
  let u := t.wr F.SEC_STAT_SVN f.svn
  { u with boot := { u.boot with fw := some f } }

/-- ID_PUB as derived at stage 1 (R447). -/
def State.idPub (s : State) : List Byte := Ed.pub s.fuse.idSeed
def State.deriveId (s : State) : State :=
  let k := s.idPub
  (List.range 4).foldl (fun s i => s.wr F.SEC_ID_PUB_KEY (wordAt k i) 0 i) s

/-- Whether slot `k` accepts a key for model images: VALID and not REVOKED (R454). -/
def State.slotLive (s : State) (k : Nat) : Bool := s.fuse.slotValid.getLsbD k && !s.fuse.slotRevoked.getLsbD k

/-- Whether one entry of a signature block signs a digest (R453, R454). -/
def State.entrySigns (s : State) (e digest : List Byte) : Bool :=
  let k := byteField e 0 1
  let pub := (e.drop 8).take 32
  decide (k < 4) && s.slotLive k && s.fuse.slotHash.getD k [] == sha512 pub && Ed.verify pub digest ((e.drop 40).take 64)

/-- Whether an image with this digest and these signature entries is accepted (R454). -/
def State.signed (s : State) (digest : List Byte) (entries : List (List Byte)) : Bool :=
  s.fuse.slotValid == 0 || entries.any (fun e => s.entrySigns e digest)

/-- Whether a fuse action is refused for its value (R449). -/
def State.fuseRefused (s : State) (action slot value : Nat) : Bool :=
  match action with
  | 1 => !(decide (s.fuse.rollback < value) && decide (value ≤ s.rd F.SEC_STAT_SVN))
  | 2 => !(!s.fuse.slotValid.getLsbD slot && ofBytes (s.fuse.slotHash.getD slot []) == 0)
  | 3 => !s.fuse.slotValid.getLsbD slot
  | 4 => !s.slotLive slot
  | _ => false

/-- A write of SEC_PROG whose ARM is right (R449, R460); actions 0, 6 and 7, which name no action, start nothing. -/
def State.secProg (s : State) (action slot value : Nat) : State :=
  let t := ((s.wr F.SEC_PROG_ACTION action).wr F.SEC_PROG_SLOT slot).wr F.SEC_PROG_VALUE value
  if action = 0 ∨ 6 ≤ action then t
  else if s.running || s.on F.SEC_PROG_BUSY then t.wr F.SEC_PROG_STATUS 1
  else if s.fuseRefused action slot value then t.wr F.SEC_PROG_STATUS 2
  else
    let u := t.wr F.SEC_PROG_BUSY 1
    { u with sec := { u.sec with prog := some (action, slot, value) } }

/-- The hash in SEC_PROG_DATA. -/
def State.progData (s : State) : List Byte := (List.range 8).flatMap (fun i => toBytes 8 (s.rd F.SEC_PROG_DATA_DATA 0 i))

/-- A fuse action blows its fuses (R449). -/
def State.blow (s : State) (action slot value : Nat) : FuseSt :=
  let f := s.fuse
  let b : BitVec 4 := 1#4 <<< slot
  match action with
  | 1 => { f with rollback := value }
  | 2 => { f with slotHash := listSet f.slotHash slot s.progData, slotValid := f.slotValid ||| b }
  | 3 => { f with slotRevoked := f.slotRevoked ||| b }
  | 4 => { f with slotDebug := f.slotDebug ||| b }
  | _ => { f with debugLock := true }

/-- A fuse action some of whose fuses do not read back blown: which ones did is not stated, so a hash keeps a free part of
its bits and the counter a free part of its steps; a bit of its own stays as it was. -/
def State.blowPart (s : State) (action slot value : Nat) : FuseSt :=
  let f := s.fuse
  match action with
  | 1 => { f with rollback := f.rollback + Config.freeNat s.free % (value - f.rollback) }
  | 2 => { f with slotHash := listSet f.slotHash slot ((s.progData.zipIdx).map (fun x => x.1 &&& Config.freeByte (64 * s.free + x.2))) }
  | _ => f

/-- SEC_PROG_DONE (R449): an action completes after a signature check that runs. -/
def State.secDone (s : State) (readsBack : Bool) : State :=
  match s.sec.prog with
  | none => s
  | some (a, k, v) =>
    if s.on F.CHIP_CTRL_CHECK_BUSY then s
    else
      let t := (s.wr F.SEC_PROG_BUSY 0).wr F.SEC_PROG_STATUS (if readsBack then 0 else 3)
      { t with sec := { t.sec with prog := none }, fuse := if readsBack then s.blow a k v else s.blowPart a k v,
               free := if readsBack then t.free else t.free + 1 }

/-- The fuses as a reset that cuts an action off leaves them (R449): a slot's hash partly blown, with VALID not blown. -/
def State.fuseCut (s : State) : FuseSt :=
  match s.sec.prog with
  | some (a, k, v) => s.blowPart a k v
  | none => s.fuse

/-- IDCODE (R458). -/
def State.idcode (s : State) : Nat := bits s.fuse.dieRev 3 0 * 2 ^ 28 + 0x4A08 * 2 ^ 12 + 0x6A5 * 2 + 1

/-- UNLOCK_CHAL (R459): a fresh challenge is captured and shifted out. -/
def State.challenge (s : State) (scope : Byte) : State :=
  if s.sec.fails ≥ 8 then s
  else
    let c := toBytes 8 s.fuse.serial.toNat ++ (List.range 32).map (fun k => Config.freeByte (64 * s.free + k)) ++ [scope] ++
      List.replicate 7 0
    { s with free := s.free + 1, sec := { s.sec with chal := some c }, cmd := { s.cmd with jtagOut := c } }

/-- Whether a public key may unlock (R459). -/
def State.debugKey (s : State) (pub : List Byte) : Bool :=
  let h := sha512 pub
  h == s.fuse.rootHash || (List.range 4).any (fun k => s.slotLive k && s.fuse.slotDebug.getLsbD k && s.fuse.slotHash.getD k [] == h)

/-- UNLOCK_RESP (R459): the challenge is used once, whatever the outcome; with DEBUG_LOCK blown it fails (R458).
A scope never narrows the one that is open (DEDUCED, log entry 119). -/
def State.unlock (s : State) (bs : List Byte) : State :=
  let t := { s with sec := { s.sec with chal := none } }
  let pub := bs.take 32
  let ok := match s.sec.chal with
    | none => false
    | some c => !s.fuse.debugLock && bs.length == 96 && s.debugKey pub && Ed.verify pub c (bs.drop 32)
  if ok then
    let scope := byteField (s.sec.chal.getD []) 40 1
    let u := t.wr F.SEC_STAT_DBG_UNLOCKED 1
    if scope = 1 ∨ scope = 2 then u.top F.SEC_STAT_DBG_SCOPE scope else u
  else
    let u := t.inc F.SEC_CNT_UNLOCK_FAIL
    { u with sec := { u.sec with fails := u.sec.fails + 1 } }

/-- CHIP_ID as the fuse set gives it (01 R32). -/
def State.chipId (s : State) : Nat :=
  2 ^ 40 + s.fuse.dieRev % 256 * 2 ^ 32 + s.fuse.capLimit % 4 * 2 ^ 28 + b2n s.fuse.boostDis * 2 ^ 27 +
    s.fuse.g6En % 4 * 2 ^ 24 + s.fuse.txEn % 16 * 2 ^ 20 + s.fuse.rxEn % 64 * 2 ^ 12 + s.fuse.engineEn % 256 * 2 ^ 4 +
    s.fuse.variant % 16


/-- SEC_PROG with action ROLLBACK. -/
def execSecProgRollback (value : BitVec 7) (s : State) : Host.Outcome State Fault Refusal := .next (s.secProg 1 0 value.toNat)

/-- SEC_PROG with action SLOT. -/
def execSecProgSlot (slot : BitVec 2) (s : State) : Host.Outcome State Fault Refusal := .next (s.secProg 2 slot.toNat 0)

/-- SEC_PROG with action REVOKE. -/
def execSecProgRevoke (slot : BitVec 2) (s : State) : Host.Outcome State Fault Refusal := .next (s.secProg 3 slot.toNat 0)

/-- SEC_PROG with action SLOT_DEBUG. -/
def execSecProgSlotDebug (slot : BitVec 2) (s : State) : Host.Outcome State Fault Refusal := .next (s.secProg 4 slot.toNat 0)

/-- SEC_PROG with action DEBUG_LOCK. -/
def execSecProgDebugLock (s : State) : Host.Outcome State Fault Refusal := .next (s.secProg 5 0 0)

/-- SEC_PROG_DONE. -/
def execSecProgDone (readsBack : Bool) (s : State) : Host.Outcome State Fault Refusal := .next (s.secDone readsBack)

/-- IDCODE. -/
def execIdcode (s : State) : Host.Outcome State Fault Refusal :=
  .next { s with cmd := { s.cmd with jtagOut := toBytes 4 s.idcode } }

/-- UNLOCK_CHAL. -/
def execUnlockChal (scope : Byte) (s : State) : Host.Outcome State Fault Refusal := .next (s.challenge scope)

/-- UNLOCK_RESP. -/
def execUnlockResp (bytes : List Byte) (s : State) : Host.Outcome State Fault Refusal := .next (s.unlock bytes)

end Sys2Proof.Machine
end

