-- ==== Sys2Proof/Machine/Access.lean ====
section
/-!
DEFINITION. Register accesses: where each chip address leads (01_architecture.md R28, R29, 10_memory_system.md R286,
07_event_network.md R221), what a read returns and what a write does, by the access codes of 00_scope.md R4 and R5 and
by the chapters' own rules for registers whose write starts something.
-/
namespace Sys2Proof.Machine

/-- One copy of a register. -/
structure Place where
  reg : Reg
  u : Nat
  i : Nat
  deriving DecidableEq, Repr

/-- The register of a window at a byte offset that is a multiple of 4, and its copy. -/
def regAt (k : Scope) (off : Nat) : Option (Reg × Nat) :=
  Reg.all.findSome? (fun r =>
    let x := r.info
    let w := if x.wide then 8 else 4
    let d := off - x.off
    if x.scope ≠ k ∨ off < x.off then none
    else if x.stride = 0 then (if d < w then some (r, 0) else none)
    else if d / x.stride < x.count ∧ d % x.stride < w then some (r, d / x.stride) else none)

/-- A register of a window that has unit number `u`. -/
def placeIn (k : Scope) (u off : Nat) : Option Place := (regAt k off).map (fun x => ⟨x.1, u, x.2⟩)

/-- The register in a core's window: the core's own, or its tile's (07 R221).  A core of a fused-off engine has no tile
(00 R2), nor one that the engine's map does not name yet. -/
def State.placeCore (s : State) (n off : Nat) : Option Place :=
  match placeIn .core n off with
  | some p => some p
  | none => if s.coreOn n && s.on F.SPARE_MAP_VALID (n / 128) n then placeIn .tile (s.tileOf n) off else none

/-- The register in an engine's window, with the aperture onto one tile of the engine (07 R221). -/
def State.placeEngine (s : State) (e off : Nat) : Option Place :=
  let k := s.rd F.FOX_PHYS_SEL_TILE e
  if 0x8000 ≤ off ∧ off < 0x84C0 then (if k < 136 then placeIn .tile (engineTile e k) (off - 0x8000 + 0x42000) else none)
  else if off = 0x8F00 then (if k < 136 then some ⟨.FOX_DEN_STAT, engineTile e k, 0⟩ else none)
  else placeIn .engine e off

/-- The register in chip control: stream contexts and edge-ring stops have blocks of their own there (07 R221,
11 R314). -/
def placeChip (off : Nat) : Option Place :=
  if 0x5000 ≤ off ∧ off < 0x5C00 then placeIn .ctx ((off - 0x5000) / 0x40) (off % 0x40)
  else if 0x10000 ≤ off ∧ off < 0x10000 + 35 * 0x400 then
    let t := (off - 0x10000) / 0x400
    match placeIn .stop t (off % 0x400) with
    | some p => if (p.reg = .FOX_GW_SEED ∨ p.reg = .FOX_GW_CFG) ∧ stopGateway t = none then none else some p
    | none => none
  else placeIn .chip 0 off

/-- The register in the window of I/O agent `a`. -/
def placeAgent (a off : Nat) : Option Place :=
  if a = agTinder then placeIn .tinder 0 off
  else if a = agAsh then placeIn .ash 0 off
  else if a = agDrey then placeIn .drey 0 off
  else if isGroupAgent a then placeIn .group (a - 0x1F11) off
  else if a = agOwl then placeIn .owl 0 off
  else if 0x1F30 ≤ a ∧ a < 0x1F36 then placeIn .rx (a - 0x1F30) off
  else if 0x1F38 ≤ a ∧ a < 0x1F3C then placeIn .tx (a - 0x1F38) off
  else if a = agGwynell then placeIn .gwynell 0 off
  else if a = agSecurity then placeIn .security 0 off
  else none

/-- The register at a chip address, if one occupies it. -/
def State.place (s : State) (a : Nat) : Option Place :=
  if a < 0x40000000 then s.placeCore (a / 0x100000) (a % 0x100000)
  else if 0x0100000000 ≤ a ∧ a < 0x0100080000 then s.placeEngine ((a - 0x0100000000) / 0x10000) (a % 0x10000)
  else if 0x0200000000 ≤ a ∧ a < 0x0201000000 then placeChip (a - 0x0200000000)
  else if 0x0300000000 ≤ a ∧ a < 0x0308000000 then
    placeAgent (0x1F00 + (a - 0x0300000000) / 0x80000) (a % 0x80000)
  else none

/-- Whether the variant has the unit that a register belongs to (00 R2). -/
def State.unitOn (s : State) (p : Place) : Bool :=
  (match p.reg.info.scope with
    | .core => s.coreOn p.u
    | .tile => s.engineOn (tileEngine p.u)
    | .engine => s.engineOn p.u
    | .group => s.groupOn p.u
    | .rx => s.rxOn p.u
    | .tx => s.txOn p.u
    | _ => true) && (!p.reg.info.perEngine || s.engineOn p.i)

/-- Flits that a Den holds (03 R93). -/
def State.denFlits (s : State) (n : Nat) : Nat := ((s.core n).den.map (fun o => o.pkt.flits)).sum

/-- A number of the core that a tile holds; 0 for an empty tile. -/
def State.ofTile (s : State) (p : Nat) (f : Nat → Nat) : Nat := match s.coreAt p with | some n => f n | none => 0

/-- The device is in the apply that began with this step's tick (05 R139). -/
def State.applying (s : State) (n : Nat) : Bool :=
  (s.core n).applyEnd != 0 && decide (640 * (span s.grain s.time.begun).toNat < s.coreFabric (s.tileOf n) (s.core n).applyEnd)

/-- Fields of the fuse set (00 R6). -/
def State.fuseField (s : State) (f : Fld) (u i : Nat) : Nat :=
  let w (v : Nat) : Nat := bits v f.hi f.lo
  match f.reg with
  | .CHIP_ID => w s.chipId
  | .FOX_RT_STAT => if f.lo = 5 then b2n ((List.range 16).any (fun g => s.gatewayTile g == u)) else u
  | .KILN_COEF => w s.fuse.coef.toNat
  | .KILN_COEF_UNC => w s.fuse.coefUnc.toNat
  | .KILN_VID => s.fuse.vid
  | .KILN_CORE_BIN => s.fusedBin u
  | .SEC_STAT =>
    if f.lo = 28 then b2n s.fuse.debugLock else if f.lo = 20 then s.fuse.rollback
    else if f.lo = 8 then s.fuse.slotValid.toNat else if f.lo = 4 then s.fuse.slotRevoked.toNat else s.fuse.slotDebug.toNat
  | .SEC_ROOT_HASH => wordAt s.fuse.rootHash i
  | .SEC_SLOT_HASH => wordAt (s.fuse.slotHash.getD (i / 8) []) (i % 8)
  | _ => s.rd f u i

/-- Fields that show what another part of the state holds; none for a field that stands in the register store. -/
def State.shown (s : State) (f : Fld) (u i : Nat) : Option Nat :=
  if f = F.FOX_DEN_STAT_OCC then some (s.ofTile u s.denFlits)
  else if f = F.LRN_STAT_STATE then some (s.regionState u)
  else if f = F.LRN_STAT_APPLY_BUSY then some (b2n (s.applying u))
  else if f = F.LRN_STAT_SNAP_BUSY then
    some (match s.learn.snap with | some x => b2n (x.copying && x.ranges.any (fun r => r.1 == u)) | none => 0)
  else if f = F.TND_STAT_HOLD_FULL then some (b2n (decide (8192 ≤ s.tinder.hold.length)))
  else if f = F.TND_CHAN_STATE_PRIMED then some (b2n (s.chanSt i).primed)
  else if f = F.TND_CHAN_STATE_REF then
    (let c := s.chanSt i
     some (match (s.chan i).enc with
       | 1 => uns 16 c.ref
       | 2 | 3 | 4 => uns 16 c.held
       | 5 | 6 => b2n (c.pol == some true)
       | _ => 0))
  else if f = F.TND_CHAN_STATE_PER then some (if (s.chan i).enc = 6 then (s.chanSt i).per % 65536 else 0)
  else if f = F.TND_CHAN_STATE_ACC then
    (let c := s.chanSt i
     some (match (s.chan i).enc with | 2 => c.acc % 65536 | 6 => (c.cnt.getD 0) % 65536 | _ => 0))
  else if f = F.ACT_STAT_PERMIT then some (b2n s.pins.permit)
  else if f = F.FOX_RT_CNT_TOK_OCC then some (s.mergeOcc u)
  else if f = F.FOX_ES_CNT_TOK_OCC then some (s.mergeOcc (2000 + u))
  else if f = F.FOX_PV_OCC_OCC then some (min 255 (s.portOcc u i))
  else if f = F.FOX_ES_PV_OCC_OCC then some (min 255 (s.stopOcc u i))
  else if f = F.CORD_PORT_STAT_READY then
    some (b2n (s.cordReady u (640 * (span s.grain s.time.begun)) (s.ofTile u (fun n => (s.core n).recv.length) != 0)))
  else if f = F.CORD_PORT_STAT_SEND_WORDS then
    some (s.ofTile u (fun n => (s.core n).sendBuf.length))
  else if f = F.CORD_PORT_STAT_RX_OCC then some (s.ofTile u (fun n => (s.core n).recv.length))
  else if f = F.DREY_STAT_REASM_ACT then some (min 2047 (s.drey.reasm.countP (fun r => r.st == .filling)))
  else if f = F.DREY_STAT_MISS_OCC then some (min 511 s.drey.miss.length)
  else if f = F.CSIRX_CTX_STAT_BUF_OCC then some (min 65535 (s.ctxOcc u))
  else if f = F.CSIRX_POOL_STAT_OCC then some (min 65535 s.poolOcc)
  else if f = F.CSITX_STAT_BUSY then some (b2n (s.txp u).cur.isSome)
  else if f = F.I3C_STAT_CMD_FREE then some (4 - s.cmd.fifo.length)
  else if f = F.I3C_STAT_RPL_USED then some (min 7 s.cmd.replies.length)
  else if f = F.PAIR_STAT_FENCE_IN then some (b2n s.pins.fenceIn)
  else if f = F.OWL_STAT_FIFO_OCC then some s.owl.fifo.length
  else if f = F.OWL_STAT_ACTIVE then some s.owl.active.length
  else if f = F.OWL_ST_KEY_CAUSE then some (b2n (s.cause i))
  else if f = F.KILN_CORE_BIN_RATIO then some (s.coreRatio u)
  else if f.reg = .OWL_REACT ∧ !faultKinds.contains i then some 0
  else if f = F.KILN_CORE_BIN_LIVE then some (s.liveBin u)
  else none

/-- What a field reads as (00 R4). -/
def State.fieldRead (s : State) (f : Fld) (u i : Nat) : Nat :=
  if f.acc = .wo then 0
  else if f.fused then s.fuseField f u i % 2 ^ f.width
  else ((s.shown f u i).getD (s.rd f u i)) % 2 ^ f.width

/-- The value of a register as a read returns it; a unit that is fused off reads as zero (00 R2). -/
def State.regRead (s : State) (p : Place) : Nat :=
  if !s.unitOn p then 0
  else ((Reg.fields p.reg).map (fun f => s.fieldRead f p.u p.i * 2 ^ f.lo)).sum

/-- The 64-bit word at an 8-byte-aligned address of a register window; addresses that no register occupies read as zero
(00 R10). -/
def State.busWord (s : State) (a : Nat) : Nat :=
  match s.place a with
  | some p => if p.reg.info.wide then s.regRead p
    else s.regRead p + 2 ^ 32 * (match s.place (a + 4) with | some q => s.regRead q | none => 0)
  | none => 2 ^ 32 * (match s.place (a + 4) with | some q => s.regRead q | none => 0)

/-- Whether RUN_EN = 1 locks a field of a register. -/
def Reg.locked (r : Reg) : Bool := (Reg.fields r).any (·.lock)

/-- The locked registers of a window at `base` that has unit number `u`, ascending. -/
def lockedIn (k : Scope) (u base : Nat) : List (Nat × Place) :=
  let rs := Reg.all.filter (fun r => r.info.scope == k && r.locked)
  (rs.flatMap (fun r => (List.range r.info.count).map (fun i => (base + r.info.off + i * r.info.stride, Place.mk r u i)))).mergeSort
    (fun a b => decide (a.1 ≤ b.1))

/-- The locked registers of the units that the variant has, by ascending address (17_security.md R457). -/
def State.lockedPlaces (s : State) : List (Nat × Place) :=
  let cores := ((List.range 1024).filter s.coreOn).flatMap (fun n => (lockedIn .core n (n * 0x100000) ++
    lockedIn .tile (s.tileOf n) (n * 0x100000)).mergeSort (fun a b => decide (a.1 ≤ b.1)))
  let agent (k : Scope) (u a : Nat) : List (Nat × Place) := lockedIn k u (0x0300000000 + (a - 0x1F00) * 0x80000)
  let stops := (List.range 35).flatMap (fun t => (lockedIn .stop t (0x0200010000 + t * 0x400)).filter (fun x =>
    (stopGateway t).isSome || !(x.2.reg == .FOX_GW_SEED || x.2.reg == .FOX_GW_CFG)))
  let ctxs := (List.range 48).flatMap (fun c => lockedIn .ctx c (0x0200005000 + c * 0x40))
  let chip := (lockedIn .chip 0 0x0200000000 ++ ctxs ++ stops).mergeSort (fun a b => decide (a.1 ≤ b.1))
  let agents := agent .drey 0 agDrey ++ (s.groups.flatMap (fun g => agent .group g (agGroup g))) ++ agent .owl 0 agOwl ++
    agent .tinder 0 agTinder ++ agent .ash 0 agAsh ++
    (((List.range 6).filter s.rxOn).flatMap (fun p => agent .rx p (agRx p))) ++
    (((List.range 4).filter s.txOn).flatMap (fun p => agent .tx p (agTx p))) ++ agent .gwynell 0 agGwynell ++
    agent .security 0 agSecurity
  cores ++ (s.engines.flatMap (fun e => lockedIn .engine e (0x0100000000 + e * 0x10000))) ++ chip ++ agents

/-- A field after a write of `v` in the bits of `m` (00 R4, R5).  A highest-value field marked W1C is treated as a counter
field, which only a write of all ones clears (DESIGN CHOICE, log entry 37). -/
def Fld.after (f : Fld) (old v m : Nat) : Nat :=
  let w := bits v f.hi f.lo
  let k := bits m f.hi f.lo
  match f.acc with
  | .rw => Nat.lor (Nat.land w k) (old - Nat.land old k)
  | .w1c => old - Nat.land old (Nat.land w k)
  | .w1cc => if Nat.land w k = 2 ^ f.width - 1 then 0 else old
  | .w1s => Nat.lor old (Nat.land w k)
  | _ => old

/-- A register's fields after a write, locked ones left alone while the model runs (12 R336). -/
def State.store (s : State) (p : Place) (v m : Nat) : State :=
  (Reg.fields p.reg).foldl (fun t f =>
    if f.acc = .ro ∨ f.acc = .wo ∨ (f.lock && s.busy) then t
    else t.wr f (f.after (t.rd f p.u p.i) v m) p.u p.i) s

/-- The whole value that a register has once the bits of `m` take those of `v`. -/
def State.merged (s : State) (p : Place) (v m : Nat) : Nat :=
  Nat.lor (Nat.land v m) (s.regRead p - Nat.land (s.regRead p) m)

/-- DISABLE: RUN_EN falls at the next step boundary (12 R333). -/
def State.disable (s : State) : State := { s with time := { s.time with stop := .disable } }

/-- The configuration check starts (12 R336); only agreement records that come from now on count (12 R340). -/
def State.checkStart (s : State) : State :=
  let t := s.wr F.CHIP_CTRL_CHECK_BUSY 1
  { t with time := { t.time with checkAt := s.grain }, pair := { t.pair with agree := none } }

/-- A write of CHIP_CTRL: a 1 in RUN_EN starts the check, a 0 while the model runs acts as DISABLE without a reply; before
READY the bit is ignored (12 R336, 14 R376), and QUENCHED is not cleared while QUENCH_N is low (12 R346). -/
def State.runWrite (s : State) (v : Bool) : State :=
  if s.boot.stage < 8 ∨ s.on F.CHIP_CTRL_CHECK_BUSY then s
  else if v then (if s.running then s else s.checkStart)
  else if s.running then s.disable
  else s
def State.ctrlWrite (s : State) (v m : Nat) : State :=
  let t := if bit v 2 && bit m 2 && s.pins.quenchN then s.wr F.CHIP_CTRL_QUENCHED 0 else s
  if bit m 0 then t.runWrite (bit v 0) else t

/-- A write of a group descriptor word while the model runs: it acts from the update of the step after that of its stamp
(03 R75). -/
def State.editGroup (s : State) (p : Place) (v stamp : Nat) : State :=
  if s.running then
    s.onCore p.u (fun c => { c with edits := c.edits ++ [GroupEdit.mk p.reg p.i v ((max 0 (s.stepOf stamp)).toNat + 1)] })
  else s.store p v (2 ^ 64 - 1)

/-- THROT and WARN can be lowered but not raised above their reset values (16 R436, R446). -/
def State.thermCfg (s : State) (v m : Nat) : State :=
  let one (s : State) (f : Fld) : State :=
    let x := f.after (s.rd f) v m
    if x ≤ f.rst then s.wr f x else s
  one (one s F.KILN_THERM_CFG_THROT) F.KILN_THERM_CFG_WARN

/-- A write of CMD_INBAND_CFG that names a fused-off port is ignored (11 R308). -/
def State.inbandCfg (s : State) (p : Place) (v m : Nat) : State :=
  let x := s.merged p v m
  if s.rxOn (bits x 30 28) && s.txOn (bits x 22 21) then s.store p v m else s

/-- A write of `v` in the bits of `m` to a register, stamped `stamp`, with what the register's chapter says it starts. -/
def State.regWrite (s : State) (p : Place) (v m stamp : Nat) : State :=
  if !s.unitOn p then s
  else match p.reg with
  | .CHIP_CTRL => s.ctrlWrite v m
  | .TIME_CTRL => (s.store p v m).syncSelected (s.rd F.TIME_CTRL_SYNC_MODE)
  | .CORE_GRP_MODE | .CORE_GRP_LEVEL | .CORE_GRP_COEF | .CORE_GRP_CLAMP => s.editGroup p (s.merged p v m) stamp
  | .TND_CHAN_B => s.chanBAt stamp p.i (BitVec.ofNat 64 (s.merged p v m))
  | .ACT_ARM => { s with ash := { s.ash with armNext := some (s.merged p v m) } }
  | .CORD_LOAD_MASK => s.loadMask p.u p.i v
  | .CORD_TABLE => if s.busy then s else s.writeSlot p.u p.i (s.merged p v m)
  | .CORD_TABLE_BC => s.loadSlot p.u p.i v
  | .DREY_QCMD => if bit m 16 then s.qcmdWrite (bits v 19 16) else s
  | .CSIRX_CTRL => if bit v 0 && bit m 0 then s.retrainFree p.u else s
  | .CMD_INBAND_CFG => s.inbandCfg p v m
  | .OWL_CTRL | .OWL_STAT => (s.store p v m).faultPin
  | .OWL_REACT => if faultKinds.contains p.i then (s.store p v m).faultPin else s
  | .OWL_FORCE => s.owlForce (Nat.lor (Nat.land v m) (s.regRead p - Nat.land (s.regRead p) m))
  | .OWL_WDOG => s.wdogWrite (s.merged p v m)
  | .PAIR_CFG =>
    let t := s.store p v m
    let b := t.mirroring
    (t.wrB F.PAIR_CFG_MIRROR_EN s.mirroring).mirrorSet b
  | .KILN_CTRL =>
    let t := (s.store p v m).showFloor
    if bit v 3 && bit m 3 then t.recalStart else t
  | .KILN_CAP => if s.busy then s else s.setCap (bits (s.merged p v m) 15 0)
  | .KILN_THERM_CFG => s.thermCfg v m
  | .SEC_PROG => if bits v 15 0 = 0x4A58 ∧ bit m 0 then s.secProg (bits v 30 28) (bits v 27 26) (bits v 25 19) else s
  | _ => s.store p v m

/-- A write of a 64-bit word at an 8-byte-aligned address of a register window, in the halves named; addresses that no
register occupies ignore it (00 R10). -/
def State.busWrite (s : State) (a v : Nat) (lo hi : Bool) (stamp : Nat) : State :=
  let high (t : State) : State :=
    if hi then (match t.place (a + 4) with | some q => t.regWrite q (v / 2 ^ 32) (2 ^ 32 - 1) stamp | none => t) else t
  match s.place a with
  | some p =>
    if p.reg.info.wide then
      s.regWrite p v ((if lo then 2 ^ 32 - 1 else 0) + (if hi then 2 ^ 64 - 2 ^ 32 else 0)) stamp
    else high (if lo then s.regWrite p (v % 2 ^ 32) (2 ^ 32 - 1) stamp else s)
  | none => high s

/-- A host access wakes the domain that it reaches (16 R442). -/
def State.wokenAt (s : State) (a : Nat) : State :=
  if a < 0x40000000 then (s.woken (.engine (a / 0x100000 / 128))).woken (.core (a / 0x100000))
  else if 0x0100000000 ≤ a ∧ a < 0x0100080000 then s.woken (.engine ((a - 0x0100000000) / 0x10000))
  else s

/-- REGISTER_WRITE (00 R4): a write as the register's own agent performs it. -/
def execRegisterWrite (addr : Nat) (half : WriteWidth) (value : BitVec 64) (s : State) : Host.Outcome State Fault Refusal :=
  .next (s.busWrite (addr / 8 * 8) value.toNat (half != .high) (half != .low) s.grain)

/-- RUN_EN_WRITE (12 R336). -/
def execRunEnWrite (value : Bool) (s : State) : Host.Outcome State Fault Refusal := .next (s.runWrite value)

end Sys2Proof.Machine
end

