-- ==== Sys2Proof/Machine/Ash.lean ====
section
/-!
DEFINITION. Ash (06_encoders_decoders_and_actuation.md R169 to R182): lines and windows, decoders, membrane readouts,
result records, and the actuation lines.
-/
namespace Sys2Proof.Machine

/-- A decoder's configuration (R183, R184). -/
structure Decoder where
  d : Nat
  kind : Nat
  base : Nat
  count : Nat
  pay : Nat
  txEn : Bool
  port : Nat
  vc : Nat
  qEn : Bool
  qid : Nat
  thr : Int
  core : Nat
  word : Nat
  stride : Nat
  deriving DecidableEq, Repr

/-- Decoder `d`. -/
def State.decoder (s : State) (d : Nat) : Decoder where
  d := d
  kind := s.rd F.ASH_DEC_CFG_KIND 0 d
  base := s.rd F.ASH_DEC_CFG_LINE_BASE 0 d
  count := s.rd F.ASH_LINE_CNT_LINE_COUNT 0 d
  pay := s.rd F.ASH_DEC_CFG_PAY 0 d
  txEn := s.on F.ASH_DEC_CFG_TX_EN 0 d
  port := s.rd F.ASH_DEC_CFG_TX_PORT 0 d
  vc := s.rd F.ASH_DEC_CFG_TX_VC 0 d
  qEn := s.on F.ASH_DEC_CFG_Q_EN 0 d
  qid := s.rd F.ASH_DEC_CFG_QID 0 d
  thr := s.rdS F.ASH_DEC_PAR_THR 0 d
  core := s.rd F.ASH_DEC_PAR_CORE 0 d
  word := s.rd F.ASH_DEC_PAR_WORD 0 d
  stride := match s.rd F.ASH_DEC_PAR_STRIDE 0 d with | 0 => 1 | 1 => 2 | _ => 4

/-- The decoders in use, ascending. -/
def State.decoders (s : State) : List Decoder :=
  ((List.range 256).filter (fun d => s.on F.ASH_DEC_CFG_KIND 0 d)).map s.decoder

/-- The decoder that covers a line (R170, R173). -/
def State.lineDecoder (s : State) (line : Nat) : Option Decoder :=
  s.decoders.find? (fun d => decide (d.base ≤ line) && decide (line < d.base + d.count))

/-- One bank's line, and the bank with a line replaced; bank 0 serves even windows. -/
def State.ashLine (s : State) (b line : Nat) : AshLine :=
  Sparse.get (if b = 0 then s.ash.bank0 else s.ash.bank1) line AshLine.fresh
def State.setLine (s : State) (b line : Nat) (l : AshLine) : State :=
  if b = 0 then { s with ash := { s.ash with bank0 := Sparse.set natLt s.ash.bank0 line AshLine.fresh l } }
  else { s with ash := { s.ash with bank1 := Sparse.set natLt s.ash.bank1 line AshLine.fresh l } }

/-- A spike on a line of the window that contains the current step (R170, R171). -/
def State.ashAdd (s : State) (dec : Decoder) (k : Packet) : State :=
  let fs := max 1 s.frameSteps
  let b := s.step / fs % 2
  let l := s.ashLine b k.arg.toNat
  let o := s.step % fs
  s.setLine b k.arg.toNat ⟨min 65535 (l.cnt + 1), l.sum + BitVec.ofInt 32 (activation dec.pay k.pay.toNat),
    some (match l.first with | some f => min f o | none => o)⟩

/-- A late spike is carried into the current window, whose records carry LATE (R171). -/
def State.ashLate (s : State) : State :=
  let b := s.step / max 1 s.frameSteps % 2
  let t := s.inc F.ASH_CNT_LATE
  if b = 0 then { t with ash := { t.ash with late0 := true } } else { t with ash := { t.ash with late1 := true } }

/-- The token of an RACC that reached Ash (R171). -/
def State.ashToken (s : State) (k : Packet) : State := s.tokenFor (s.placeOf agAsh) k

/-- ASH_RACC_ARRIVE (R170, R171, 07 R191); a replay counts a late spike as the primary did (13 R364). -/
def State.ashRacc (s : State) (k : Packet) : State :=
  let t := (s.taken agAsh k).ashToken k
  if k.op ≠ 1 ∨ k.len ≠ 0 then (s.dropArrived agAsh k).taken agAsh k |>.ashToken k
  else match s.lineDecoder k.arg.toNat with
    | none => t.inc F.ASH_CNT_NOLINE
    | some dec =>
      let d := (k.tag.toNat + 64 - s.step % 64) % 64
      match s.replayed agAsh k with
      | some e =>
        let u := t.replayUsed agAsh k
        if e.discarded then u.inc F.ASH_CNT_SHED
        else if e.step = s.step % 2 ^ 32 then u.ashLate.ashAdd dec k
        else { u with pair := { u.pair with lateSpikes := u.pair.lateSpikes ++ [(e.step, k)] } }
      | none =>
      if d = 1 then t.ashAdd dec k
      else
        let late := (s.step + 1 + 64 - k.tag.toNat) % 64
        if s.on F.TIME_CTRL_POLICY then
          (t.inc F.ASH_CNT_SHED).overload (overloadOf 6 true agAsh s.step k) late
        else (t.ashLate.ashAdd dec k).overload (overloadOf 6 false agAsh s.step k) late

/-- The vector average of R173: value and T. -/
def vectorAverage (ls : List (Int × Int)) : Int × Int :=
  let t := (ls.map (·.1)).sum
  (if t ≤ 0 then 0 else ((ls.map (fun x => x.1 * x.2)).sum + t / 2) / t, t)

/-- The line's int16 code (R173). -/
def State.lineCode (s : State) (line : Nat) : Int :=
  sgn 16 (s.rd (if line % 2 = 1 then F.ASH_LINE_CODE_HI else F.ASH_LINE_CODE_LO) 0 (line / 2))

/-- Values and decision of a decoder over a bank's lines (R173); values are int32 numbers modulo 2^32. -/
def State.evaluate (s : State) (b : Nat) (dec : Decoder) : List Nat × Bool :=
  let ls := (List.range dec.count).map (fun i => s.ashLine b (dec.base + i))
  match dec.kind with
  | 1 => (ls.map (fun l => l.sum.toNat), ls.any (fun l => decide (l.sum.toInt ≥ dec.thr)))
  | 3 => (ls.map (fun l => match l.first with | some f => f | none => 0xFFFFFFFF),
      ls.any (fun l => match l.first with | some f => decide ((f : Int) ≤ dec.thr) | none => false))
  | 4 =>
    let hit := (ls.zipIdx).filter (fun x => x.1.first.isSome)
    match hit with
    | [] => ([0xFFFFFFFF, 0], false)
    | h :: t =>
      let best := t.foldl (fun m x => if x.1.sum.toInt > m.1.sum.toInt then x else m) h
      ([best.2, best.1.sum.toNat], decide (best.1.sum.toInt ≥ dec.thr))
  | 5 =>
    let v := vectorAverage ((ls.zipIdx).map (fun x => (x.1.sum.toInt, s.lineCode (dec.base + x.2))))
    ([uns 32 v.1, uns 32 v.2], decide (v.2 ≥ dec.thr))
  | _ => ([], false)

/-- The RRDs of a membrane readout: first neuron and neurons of each, at most 15 words (R174). -/
def readChunks (count stride : Nat) : List (Nat × Nat) :=
  let per := 1 + 14 / stride
  (List.range (ceilDiv count per)).map (fun i => (i * per, min per (count - i * per)))

/-- The membrane readouts of the window whose last step `st` begins (R174). -/
def State.issueReads (s : State) (st : Nat) : State :=
  let frame := st / max 1 s.frameSteps
  ((s.decoders.filter (fun d => d.kind == 2))).foldl (fun s d =>
    let n := min 1024 d.count
    let r : AshRec := ⟨d.d, frame, 0, false, 0, List.replicate n none, false, false, false, ⟨false, false, false⟩⟩
    (readChunks n d.stride).foldl (fun s c =>
      s.stage agAsh (mkPacket 3 d.core agAsh (st % 64) (d.word + c.1 * d.stride) ((c.2 - 1) * d.stride + 1) [])
        (.ashRead d.d frame c.1 c.2 d.stride))
      { s with ash := { s.ash with recs := s.ash.recs ++ [r] } }) s

/-- A decision becomes known (R175); those of frames long past are forgotten. -/
def State.decided (s : State) (d frame : Nat) (v : Bool) : State :=
  let keep := s.ash.decisions.filter (fun x => decide (frame ≤ x.frame + 2) && !(x.dec == d && x.frame == frame))
  { s with ash := { s.ash with decisions := keep ++ [Decision.mk d frame true v] } }

/-- The value of a failed or late membrane read (R174). -/
def failedRead : Nat := 0x80000000

/-- A record changed. -/
def State.onRec (s : State) (d frame : Nat) (f : AshRec → AshRec) : State :=
  { s with ash := { s.ash with recs := s.ash.recs.map (fun r => if r.dec = d ∧ r.frame = frame then f r else r) } }

/-- A membrane record whose window has closed and whose values are all known gets its decision (R173). -/
def State.decideRead (s : State) (d frame : Nat) : State :=
  match s.ash.recs.find? (fun r => r.dec == d && r.frame == frame) with
  | none => s
  | some r =>
    if r.closed && r.vals.all (·.isSome) && (s.rd F.ASH_DEC_CFG_KIND 0 d == 2) &&
        !s.ash.decisions.any (fun x => x.dec == d && x.frame == frame) then
      let dec := r.vals.any (fun v => decide (sgn 32 (v.getD 0) ≥ r.thr))
      (s.onRec d frame (fun r => { r with decision := dec })).decided d frame dec
    else s

/-- Values of a membrane read set from neuron `base` on, where none stands yet. -/
def fillVals (vals : List (Option Nat)) (base : Nat) (vs : List Nat) : List (Option Nat) :=
  (vals.zipIdx).map (fun x => match x.1 with
    | some v => some v
    | none => if base ≤ x.2 ∧ x.2 < base + vs.length then vs[x.2 - base]? else none)

/-- The words of a membrane read (R174): V of each neuron, sign-extended. -/
def State.readData (s : State) (d frame base count stride : Nat) (ws : List Word) : State :=
  let vs := (List.range count).map (fun j => uns 32 (sgn 24 (wbits (ws.getD (j * stride) 0) 63 40)))
  (s.onRec d frame (fun r => { r with vals := fillVals r.vals base vs })).decideRead d frame

/-- A membrane read that failed (R174). -/
def State.readFailed (s : State) (d frame base count : Nat) : State :=
  match s.ash.recs.find? (fun r => r.dec == d && r.frame == frame && ((r.vals.drop base).take count).any (·.isNone)) with
  | none => s
  | some _ =>
    ((s.inc F.ASH_CNT_RD_ERR).onRec d frame (fun r =>
      { r with vals := fillVals r.vals base (List.replicate count failedRead), part := true })).decideRead d frame

/-- MEMBRANE_READ_TIMEOUT (R174): reads outstanding 15 grains after the boundary fail. -/
def State.readTimeout (s : State) : State :=
  match s.ash.recs.find? (fun r => r.closed && r.vals.any (·.isNone)) with
  | none => s
  | some r0 =>
    let s1 := s.advance (r0.grain + 15)
    (s1.ash.recs.filter (fun r => r.closed && r.frame == r0.frame && r.vals.any (·.isNone))).foldl (fun s r =>
      let dec := s.decoder r.dec
      (readChunks r.vals.length dec.stride).foldl (fun s c => s.readFailed r.dec r.frame c.1 c.2) s) s1

/-- The boundary at grain `g` that ends frame `k` closes its window (R172, R173, R177, R179). -/
def State.ashClose (s : State) (k g : Nat) (flags : CloseFlags) : State :=
  let b := k % 2
  let late := if b = 0 then s.ash.late0 else s.ash.late1
  let s1 := s.decoders.foldl (fun t d =>
    if d.kind = 2 then
      let n := min 1024 d.count
      let t1 := if t.ash.recs.any (fun r => r.dec == d.d && r.frame == k) then t
        else { t with ash := { t.ash with recs := t.ash.recs ++
            [AshRec.mk d.d k 0 false 0 (List.replicate n (some failedRead)) false false true ⟨false, false, false⟩] } }
      (t1.onRec d.d k (fun r => { r with
        grain := g, closed := true, thr := d.thr, late := late, flags := flags })).decideRead d.d k
    else
      let v := s.evaluate b d
      ({ t with ash := { t.ash with recs := t.ash.recs ++
          [AshRec.mk d.d k g true d.thr (v.1.map some) v.2 late false flags] } }).decided d.d k v.2) s
  let due := ((List.range 16).filter (fun a => s.on F.ACT_CFG_EN 0 a)).map
    (fun a => ActDue.mk a ((g + s.rd F.ACT_CFG_OFFSET 0 a) % 2 ^ 64) k)
  let ash := { s1.ash with actDue := s1.ash.actDue ++ due }
  { s1 with ash := if b = 0 then { ash with bank0 := [], late0 := false } else { ash with bank1 := [], late1 := false } }

/-- The bytes of a result record (R176). -/
def recordBytes (source kind flags frame grain seq : Nat) (vals : List Nat) : List Byte :=
  let h := toBytes 2 source ++ toBytes 1 kind ++ toBytes 1 flags ++ toBytes 2 vals.length ++ toBytes 2 0 ++
    toBytes 8 frame ++ toBytes 8 grain ++ toBytes 4 seq
  let v := vals.flatMap (toBytes 4)
  h ++ toBytes 4 (crc32c (h ++ v)).toNat ++ v

/-- FLAGS of a record (R176). -/
def recordFlags (decision : Bool) (f : CloseFlags) (late part : Bool) : Nat :=
  b2n decision + 2 * b2n f.stretched + 4 * b2n f.forced + 8 * b2n f.overrun + 16 * b2n late + 32 * b2n part

/-- Where records go (R178). -/
structure Outlet where
  txEn : Bool
  port : Nat
  vc : Nat
  qEn : Bool
  qid : Nat
  deriving DecidableEq, Repr

/-- A record leaves Ash (R178): pushed whole into its queue, and emitted in a result block; it counts once. -/
def State.emitRecord (s : State) (o : Outlet) (mk : Nat → List Byte) : State :=
  let bs := mk s.ash.seq
  let s1 := { s with ash := { s.ash with seq := (s.ash.seq + 1) % 2 ^ 32 } }
  let placed := o.txEn && s1.txTakes o.port bs.length
  let s2 := if o.txEn then s1.emitBlock o.port o.vc 0x35 bs .result else s1
  let s3 := if o.qEn then (appendPackets agAsh o.qid (s.step % 64) bs).foldl (fun s k => s.stage agAsh k) s2 else s2
  if placed || o.qEn then s3.inc F.ASH_REC_CNT_CNT else s3

/-- The outlet of a decoder. -/
def Decoder.outlet (d : Decoder) : Outlet := ⟨d.txEn, d.port, d.vc, d.qEn, d.qid⟩

/-- A decoder's record is emitted (R176, R178). -/
def State.emitRec (s : State) (r : AshRec) : State :=
  let d := s.decoder r.dec
  s.emitRecord d.outlet (fun seq => recordBytes r.dec d.kind (recordFlags r.decision r.flags r.late r.part) r.frame
    r.grain seq (r.vals.map (·.getD 0)))

/-- A record that a standby computes is kept for a takeover, of the last three windows (13 R349). -/
def State.keepRec (s : State) (r : AshRec) : State :=
  let old := s.pair.kept
  let k := match old.find? (fun (x : Kept) => x.frame == r.frame) with
    | some _ => old.map (fun (x : Kept) => if x.frame = r.frame then { x with decoders := x.decoders ++ [r] } else x)
    | none => old ++ [Kept.mk r.frame [r]]
  { s with pair := { s.pair with kept := k.drop (k.length - 3) } }

/-- The record that RESULT_RECORD_EMIT takes: the oldest complete one of the decoder. -/
def State.readyRec (s : State) (d : Nat) : Option AshRec :=
  s.ash.recs.find? (fun r => r.dec == d && r.closed && r.vals.all (·.isSome))

/-- RESULT_RECORD_EMIT (R176, R178): the record leaves, or a standby keeps it. -/
def State.recordOut (s : State) (d : Nat) : State :=
  match s.readyRec d with
  | none => s
  | some r =>
    let s1 := { s with ash := { s.ash with recs := dropFirst (fun x => x == r) s.ash.recs } }
    if s.standby then s1.keepRec r else s1.emitRec r

/-- Channels with METER = 1, ascending (R168). -/
def State.metered (s : State) : List Nat :=
  (s.regs.filter (fun e => e.1.r == (Reg.num .TND_CHAN_A) && bit e.2 58)).map (fun e => e.1.i)

/-- The 32 bytes of a channel's metering record, as eight values (R168). -/
def Meter.vals (m : Meter) : List Nat :=
  let bs := toBytes 2 m.tag ++ toBytes 2 m.zc ++ toBytes 4 m.count ++ toBytes 8 (uns 64 m.sum) ++ toBytes 8 m.sumsq ++
    toBytes 2 (uns 16 m.lo) ++ toBytes 2 (uns 16 m.hi) ++ toBytes 4 0
  (List.range 8).map (fun k => byteField bs (4 * k) 4)

/-- A list cut into pieces of at most `n`. -/
def pieces {α : Type} (n : Nat) (l : List α) : List (List α) :=
  (List.range (ceilDiv l.length (max 1 n))).map (fun k => (l.drop (max 1 n * k)).take (max 1 n))

/-- QUIESCE is answered once Ash has emitted the last frame's records, its metering records among them (12 R333). -/
def State.quiesceDone (s : State) : State :=
  match s.deferredArg 0x1A with
  | some k =>
    if !s.running ∧ !s.ash.recs.any (fun r => r.frame == k) ∧ !s.tinder.meterDue.any (fun d => d.frame == k) then
      s.finish 0x1A 0 (toBytes 8 k)
    else s
  | none => s

/-- METER_HANDOFF (R169): the metering records of the ended frame, up to 128 channels each; a standby emits none. -/
def State.meterHandoff (s : State) : State :=
  match s.tinder.meterDue with
  | [] => s
  | d :: rest =>
    let ms := s.metered.map (fun t => s.meterOf t d.frame)
    let s1 := { s with tinder := { s.tinder with
        meterDue := rest, meters := s.tinder.meters.filter (fun m => m.frame != d.frame) } }
    if s.standby then s1
    else
      let o : Outlet := ⟨s.on F.ASH_METER_CFG_TX_EN, s.rd F.ASH_METER_CFG_TX_PORT, s.rd F.ASH_METER_CFG_TX_VC,
        s.on F.ASH_METER_CFG_Q_EN, s.rd F.ASH_METER_CFG_QID⟩
      (pieces 128 ms).foldl (fun s p => s.emitRecord o (fun seq =>
        recordBytes 0xFFFF 0x10 (recordFlags false d.flags false false) d.frame d.grain seq (p.flatMap Meter.vals))) s1

/-- ACT line `a` driven to a level. -/
def State.drive (s : State) (a : Nat) (v : Bool) : State :=
  s.wr F.ACT_STAT_LEVEL (putBits (s.rd F.ACT_STAT_LEVEL) a a (b2n v))

/-- The line's pulse end is forgotten. -/
def State.noPulse (s : State) (a : Nat) : State :=
  { s with ash := { s.ash with pulseEnd := s.ash.pulseEnd.filter (fun x => x.1 != a) } }

/-- ARM, permissive and role let line `a` be high (R179, R180). -/
def State.actMay (s : State) (a : Nat) : Bool :=
  bit (s.rd F.ACT_ARM_ARM) a && (!s.on F.ACT_CFG_PERMIT_EN 0 a || s.pins.permit) && !s.standby && s.running

/-- The level of PAIR_PERMIT_IN behind its synchroniser (R179). -/
def State.permitAt (s : State) (level : Bool) : State := { s with pins := { s.pins with permit := level } }

/-- ACT_ASSERT_GRAIN (R179, R181). -/
def State.actAssert (s : State) (a : Nat) : State :=
  match s.ash.actDue.find? (fun x => x.line == a) with
  | none => s
  | some x =>
    let s0 := s.advance x.grain
    let s1 := ({ s0 with ash := { s0.ash with actDue := dropFirst (fun y => y == x) s0.ash.actDue } }).noPulse a
    match s1.ash.decisions.find? (fun y => y.dec == s.rd F.ACT_CFG_DEC 0 a && y.frame == x.frame) with
    | none => (s1.drive a false).inc F.ACT_MISS_CNT_CNT
    | some y =>
      if y.value && s1.actMay a then
        let s2 := s1.drive a true
        if s.on F.ACT_CFG_HOLD 0 a then s2
        else { s2 with ash := { s2.ash with
            pulseEnd := s2.ash.pulseEnd ++ [(a, (s2.grain + s.rd F.ACT_CFG_WIDTH 0 a) % 2 ^ 64)] } }
      else s1.drive a false

/-- ACT_PULSE_END (R179). -/
def State.actPulseEnd (s : State) (a : Nat) : State :=
  match s.ash.pulseEnd.find? (fun x => x.1 == a) with
  | none => s
  | some x => ((s.advance x.2).noPulse a).drive a false

/-- ACT_RECHECK (R180): at the grain edge at which a condition fails, a high line falls. -/
def State.actRecheck (s : State) (a : Nat) : State :=
  let s0 := if s.ash.armNext.isSome then s.toGrain ((s.grain + 1) % 2 ^ 64) else s
  if bit (s0.rd F.ACT_STAT_LEVEL) a && !s0.actMay a then (s0.noPulse a).drive a false else s0

/-- ASH_RACC_ARRIVE. -/
def execAshRaccArrive (pkt : Packet) (s : State) : Host.Outcome State Fault Refusal := .next (s.ashRacc pkt)

/-- MEMBRANE_READ_TIMEOUT. -/
def execMembraneReadTimeout (s : State) : Host.Outcome State Fault Refusal := .next s.readTimeout

/-- METER_HANDOFF. -/
def execMeterHandoff (s : State) : Host.Outcome State Fault Refusal := .next s.meterHandoff.quiesceDone

/-- ACT_ASSERT_GRAIN. -/
def execActAssertGrain (line : ActLine) (s : State) : Host.Outcome State Fault Refusal :=
  .next ((s.permitAt line.permit).actAssert line.line)

/-- ACT_PULSE_END. -/
def execActPulseEnd (line : Nat) (s : State) : Host.Outcome State Fault Refusal := .next (s.actPulseEnd line)

/-- ACT_RECHECK. -/
def execActRecheck (line : ActLine) (s : State) : Host.Outcome State Fault Refusal :=
  .next ((s.permitAt line.permit).actRecheck line.line)

/-- ACT_ARM_WRITE (R180): the value takes effect at the next grain edge. -/
def execActArmWrite (value : BitVec 16) (s : State) : Host.Outcome State Fault Refusal :=
  .next { s with ash := { s.ash with armNext := some value.toNat } }

end Sys2Proof.Machine
end

