-- ==== Sys2Proof/Machine/Attest.lean ====
section
/-!
DEFINITION. Attestation (17_security.md R455 to R457): the report, its configuration digest, and ATTEST.
-/
namespace Sys2Proof.Machine

/-- The configuration digest (R457): the registers any field of which RUN_EN = 1 locks, of the units that the variant has,
as the last check that passed left them (DEDUCED, log entry 33). -/
def State.cfgDigest (s : State) : List Byte :=
  match s.sec.cfgRegs with
  | none => List.replicate 64 0
  | some rs =>
    let t := { s with regs := rs }
    sha512 (t.lockedPlaces.flatMap (fun x => toBytes (if x.2.reg.info.wide then 8 else 4) (t.regRead x.2)))

/-- Bytes 0 to 307 of an attestation report (R456). -/
def State.reportBody (s : State) (nonce : List Byte) (seq : Nat) : List Byte :=
  toBytes 4 0x5441584A ++ toBytes 2 1 ++ toBytes 2 372 ++ toBytes 8 s.chipId ++ toBytes 8 s.fuse.serial.toNat ++
  (List.range 4).flatMap (fun i => toBytes 8 (s.rd F.SEC_ID_PUB_KEY 0 i)) ++
  (List.range 8).flatMap (fun i => toBytes 8 (s.rd F.SEC_FW_MEAS_MEAS 0 i)) ++
  (List.range 8).flatMap (fun i => toBytes 8 (s.rd F.BOOT_IMAGE_MEAS_WORD 0 i)) ++ s.cfgDigest ++ padTo 32 nonce ++
  toBytes 8 s.grain ++ toBytes 8 s.step ++ toBytes 4 seq ++ toBytes 1 s.fuse.rollback ++ toBytes 1 (s.rd F.SEC_STAT_SVN) ++
  toBytes 1 (s.fuse.slotValid.toNat + 16 * s.fuse.slotRevoked.toNat) ++
  toBytes 1 (b2n s.running + 2 * s.rd F.SEC_STAT_DBG_UNLOCKED + 4 * s.rd F.PAIR_STAT_ROLE + 8 * b2n s.mirroring +
    16 * s.rd F.BOOT_FW_STAT_PUSHED) ++ toBytes 4 0

/-- ATTEST_DONE (R456): the report is signed and written, and ATTEST replies. -/
def State.attestDone (s : State) : State :=
  match s.sec.attest with
  | none => s
  | some j =>
    let seq := (s.sec.seq + 1) % 2 ^ 32
    let body := s.reportBody j.nonce seq
    let report := body ++ Ed.sign s.fuse.idSeed body
    let t := { s with sec := { s.sec with attest := none, seq := seq } }
    if s.g6Failed (s.g6Group j.buf) ∨ s.g6Failed (s.g6Group (j.buf + 128)) then
      t.finish 0x03 0x0E04 (toBytes 2 rsnDataError)
    else
      ((t.inc F.SEC_CNT_ATTESTS).g6Write j.buf (wordsOf (report ++ s.bytes (j.buf + 372) 4))).finish 0x03 0 (toBytes 4 372)

/-- ATTEST as an opcode (12 R333). -/
def attestOp : Opcode :=
  { Opcode.plain 0x03 with
    plen := fun c => c.plen == 40
    deferred := true
    feature := some 3
    address := fun s c => s.bufferReason (c.par 32 8) 372 256 }

/-- ATTEST. -/
def execAttest (cmd : HostCmd) (s : State) : Host.Outcome State Fault Refusal :=
  .next (s.serve attestOp cmd (fun _ _ t =>
    ({ t with sec := { t.sec with attest := some ⟨cmd.params.take 32, cmd.par 32 8⟩ } }, .later 0)))

/-- ATTEST_DONE. -/
def execAttestDone (s : State) : Host.Outcome State Fault Refusal := .next s.attestDone

end Sys2Proof.Machine
end

