-- ==== Sys2Proof/Machine/Copy.lean ====
section
/-!
DEFINITION. The copy of a snapshot: the words that learning units carry into the snapshot buffer, and a copy that its hold
count ends before it is whole (05_on_chip_learning.md R149, R150).
-/
namespace Sys2Proof.Machine

/-- A word that a learning unit copies; of an uncorrectable one the data is not stated and is free. -/
def State.copyWord (s : State) (n w : Nat) : Word × State :=
  let x := s.sramRead n w
  match x.1 with
  | some v => (v, x.2)
  | none => (BitVec.ofNat 64 (Config.freeNat x.2.free), { x.2 with free := x.2.free + 1 })

/-- `k` words of core `n` from word `w` on are copied to address `a` on (R149). -/
def State.copyWords (s : State) (n w a : Nat) : Nat → State
  | 0 => s
  | k + 1 =>
    let x := s.copyWord n w
    (x.2.g6Write a [x.1]).copyWords n (w + 1) (a + 8) k

/-- The ranges go into the buffer from address `a` on, `ks` words of each (R150). -/
def State.copyRanges (s : State) (a : Nat) : List (Nat × Nat × Nat) → List Nat → State
  | r :: rs, k :: ks =>
    ((s.g6Write a [BitVec.ofNat 64 (r.1 + 2 ^ 16 * r.2.1 + 2 ^ 32 * r.2.2)]).copyWords r.1 r.2.1 (a + 8) k).copyRanges
      (a + 8 + 8 * r.2.2) rs ks
  | _, _ => s

/-- How many words of each range a copy that stops had reached: how far it came is free, but it was not whole. -/
def partWords (free : Nat) (rs : List (Nat × Nat × Nat)) : List Nat :=
  let ks := rs.zipIdx.map (fun r => Config.freeNat (free + r.2) % (r.1.2.2 + 1))
  if ks = rs.map (·.2.2) then ks.dropLast ++ [ks.getLastD 0 - 1] else ks

/-- The copy stops where it is (R149): what it had reached is in the buffer. -/
def State.snapHalt (s : State) (x : Snap) : State :=
  let ks := partWords s.free x.ranges
  let t := State.copyRanges { s with free := s.free + x.ranges.length } (x.buf + 64) x.ranges ks
  { t with learn := { t.learn with snap := some { x with got := some ks } } }

end Sys2Proof.Machine
end

