-- ==== Sys2Proof/Machine/Landing.lean ====
section
/-!
DEFINITION. Counted operations at a core: landing, Den, carry and shed, and the synapse engine's turn
(02_time_and_ordering.md R52 to R55, R61, 03_neuron_cores.md R93, 04_synapses_and_arithmetic.md R111 to R114,
07_event_network.md R191, R192, R218).
-/
namespace Sys2Proof.Machine

/-- What R54 does with a counted operation: it lands, is held, lands early because the Den is full, lands late, or is
dropped. -/
inductive Fate where
  | land | den | full | late | shed
  deriving DecidableEq, Repr

/-- Whether deliveries reach core `n`: its subdomain and engine are awake (16 R442). -/
def State.awake (s : State) (n : Nat) : Bool := s.coreOn n && !s.gated (.core n) && !s.gated (.engine (n / 128))

/-- The steps from the target's current step to a tag (02 R54). -/
def State.ahead (s : State) (tag : Nat) : Nat := (tag + 64 - s.step % 64) % 64

/-- The fate of an operation of `flits` flits with a tag at core `n` (02 R54, R61). -/
def State.fate (s : State) (n tag flits : Nat) : Fate :=
  let d := s.ahead tag
  if d = 1 then .land
  else if 2 ≤ d ∧ d ≤ 16 then (if s.denFlits n + flits ≤ 256 then .den else .full)
  else if s.on F.TIME_CTRL_POLICY then .shed
  else .late

/-- The tag by which an operation is handled, its fate, and the state: a replay reproduces the primary's overload
(13 R364). -/
def State.judge (s : State) (n : Nat) (k : Packet) : Nat × Fate × State :=
  match s.replayed n k with
  | some e =>
    if e.discarded then (k.tag.toNat, .shed, s.replayUsed n k)
    else (e.step % 64, s.fate n (e.step % 64) k.flits, s.replayUsed n k)
  | none => (k.tag.toNat, s.fate n k.tag.toNat k.flits, s)

/-- Steps by which an operation is late. -/
def State.lateBy (s : State) (k : Packet) : Nat := (s.step + 1 + 64 - k.tag.toNat) % 64

/-- The counts and the log of an operation that is not landed in its own step (02 R61, R62, R64, 03 R93, 13 R362). -/
def State.misplaced (s : State) (n : Nat) (k : Packet) : Fate → State
  | .full => ((s.lateAt n).inc F.FOX_DEN_STAT_OVF_CNT 1 (s.tileOf n)).overload (overloadOf 3 false n (s.step + 1) k) 0
  | .late => (s.lateAt n).overload (overloadOf 1 false n (s.step + 1) k) (s.lateBy k)
  | .shed => (s.shedAt n).overload (overloadOf 2 true n (s.step + 1) k) (s.lateBy k)
  | _ => s

/-- An operation enters the Den; its token goes back at once (02 R54, 03 R93). -/
def State.denPut (s : State) (n : Nat) (k : Packet) (tag : Nat) (came : Nat × Nat) : State :=
  let t := s.onCore n (fun c => { c with den := c.den ++ [⟨{ k with tag := BitVec.ofNat 6 tag }, false, came.1, came.2⟩] })
  (t.top F.FOX_DEN_STAT_MAX_OCC (t.denFlits n) (s.tileOf n)).tokenFor (s.tileOf n) k

/-- A posted operation that its agent's router drops: counted, its token returned (07 R191, R218). -/
def State.dropPosted (s : State) (n : Nat) (k : Packet) : State := ((s.dropArrived n k).taken n k).tokenFor (s.placeOf n) k

/-- A non-posted operation that the router of a fenced core refuses (07 R218, R220). -/
def State.refuseFenced (s : State) (n : Nat) (k : Packet) (tok : Bool := false) : State :=
  ((s.dropArrived n k).taken n k).sendNack n k rsnFenced tok

/-- RACC_ARRIVE (07 R191, R218, 02 R54): at a core that cannot be reached it waits in the network; at an agent other than a
core or Ash it is dropped. -/
def State.raccArrive (s : State) (n : Nat) (k : Packet) : State :=
  if !isCoreAgent n then (if s.agentOn n && n != agAsh then s.dropPosted n k else s)
  else if !s.awake n then s
  else if s.on F.CORE_STAT_FENCED n || k.op != 1 || k.len != 0 then s.dropPosted n k
  else
    let j := s.judge n k
    let came := s.cameIn n k
    let t := (j.2.2.taken n k).misplaced n k j.2.1
    let lands := fun (carried : Bool) =>
      t.onCore n (fun c => { c with landing := c.landing ++ [⟨k, carried, came.1, came.2⟩] })
    match j.2.1 with
    | .land => lands (j.1 != k.tag.toNat)
    | .den => t.denPut n k j.1 came
    | .shed => t.tokenFor (s.tileOf n) k
    | _ => lands true

/-- An addend into one half of an SRAM word of core `n`, or into the modulator bank of a word of the modulator table
(07 R192, 05 R132); none where the word is uncorrectable. -/
def State.addSram (s : State) (n w : Nat) (d : Word) : Option State :=
  let h := if s.modulatorWord n w then s.passBank n else b2n (bit d.toNat 32)
  match s.sramRead n w with
  | (some v, t) => some ((t.sramWrite n w (setHalf v h ((half v h + half d 0) % 2 ^ 32))).act (n / 128) 3 2)
  | (none, _) => none

/-- An addend into a register word (07 R192). -/
def State.addReg (s : State) (a : Nat) (d : Word) : State :=
  let v := BitVec.ofNat 64 (s.busWord a)
  let h := b2n (bit d.toNat 32)
  s.busWrite a (setHalf v h ((half v h + half d 0) % 2 ^ 32)).toNat (h == 0) (h == 1) s.grain

/-- An RADD performed at core `n` and answered (07 R192). -/
def State.addAt (s : State) (n : Nat) (k : Packet) (tok : Bool) : State :=
  let w := k.arg.toNat
  let d := k.data.getD 0 0
  if w ≥ 32768 then (s.addReg (n * 0x100000 + 8 * w) d).sendAck n k tok
  else match s.addSram n w d with
    | some t => t.sendAck n k tok
    | none => (s.sramRead n w).2.sendNack n k rsnDataError tok

/-- An RADD at a core (07 R191, R192, R218, 02 R54). -/
def State.raddCore (s : State) (n : Nat) (k : Packet) : State :=
  if !s.awake n then s
  else
    let t := s.taken n k
    if s.on F.CORE_STAT_FENCED n && !k.onCtl then s.refuseFenced n k true
    else if k.data.length ≠ 1 then t.sendNack n k rsnBadLength true
    else
      let j := t.judge n k
      let u := j.2.2.misplaced n k j.2.1
      match j.2.1 with
      | .den => u.denPut n k j.1 (s.cameIn n k)
      | .shed => u.sendNack n k rsnShed true
      | _ => u.addAt n k true

/-- The first operation of a Den that it may release now: one that is due, or, at a fenced core, any (02 R55, 07 R218). -/
def State.denDue (s : State) (n : Nat) : Option Waiting :=
  (s.core n).den.find? (fun o => s.on F.CORE_STAT_FENCED n ||
    !(decide (2 ≤ s.ahead o.pkt.tag.toNat) && decide (s.ahead o.pkt.tag.toNat ≤ 16)))

/-- An operation leaves the Den of a fenced core: dropped, or refused without a token (07 R218). -/
def State.denDrop (s : State) (n : Nat) (o : Waiting) : State :=
  let t := s.dropAt (s.tileOf n) o.port o.vc
  if o.pkt.op = 1 then t else t.sendNack n o.pkt rsnFenced false

/-- DEN_RELEASE (02 R55, 03 R93): the operation is counted again in the core's own in-flight counter until it lands; an
RADD is done at once. -/
def State.denRelease (s : State) (n : Nat) : State :=
  if !s.coreOn n then s
  else match s.denDue n with
    | none => s
    | some o =>
      let t := s.onCore n (fun c => { c with den := dropFirst (fun x => x == o) c.den })
      if s.on F.CORE_STAT_FENCED n then t.denDrop n o
      else if o.pkt.op = 1 then
        (t.addInflight n o.pkt.tag.toNat 1).onCore n (fun c => { c with denOut := c.denOut ++ [o] })
      else t.addAt n o.pkt false

/-- A landed RACC goes through the synapse engine (04 R111, R112). -/
def State.synapse (s : State) (n : Nat) (k : Packet) : State :=
  (s.act (n / 128) 0 (s.opCycles n k.arg.toNat (fun f => activation f k.pay.toNat))).accumulate n s.step k.arg.toNat k.pay.toNat

/-- An operation's turn at the synapse engine: one whose step has been closed by force meanwhile is late (02 R61); its
token returns (02 R52, R55). -/
def State.synTurn (s : State) (n : Nat) (o : Waiting) (fromDen : Bool) : State :=
  let k := o.pkt
  let t := if o.carried || s.ahead k.tag.toNat == 1 then s.synapse n k
    else if s.on F.TIME_CTRL_POLICY then s.misplaced n k .shed
    else (s.misplaced n k .late).synapse n k
  if fromDen then t.subInflight n k.tag.toNat 1 else t.tokenFor (s.tileOf n) k

/-- SYN_ACCUMULATE (04 R112, 05 R142): a Cordwood word first, those that an apply held among them, then a Den release, then an
arrival. -/
def State.synAccumulate (s : State) (n : Nat) : State :=
  let c := s.core n
  match c.recv, c.denOut, c.landing with
  | w :: r, _, _ => (s.onCore n (fun c => { c with recv := r })).cordTurn n w
  | [], o :: r, _ => (s.onCore n (fun c => { c with denOut := r })).synTurn n o true
  | [], [], o :: r => (s.onCore n (fun c => { c with landing := r })).synTurn n o false
  | [], [], [] => s

/-- RACC_ARRIVE. -/
def execRaccArrive (core : Nat) (pkt : Packet) (s : State) : Host.Outcome State Fault Refusal := .next (s.raccArrive core pkt)

/-- DEN_RELEASE. -/
def execDenRelease (core : Nat) (s : State) : Host.Outcome State Fault Refusal := .next (s.denRelease core)

/-- SYN_ACCUMULATE. -/
def execSynAccumulate (core : Nat) (s : State) : Host.Outcome State Fault Refusal := .next (s.synAccumulate core)

end Sys2Proof.Machine
end

