-- ==== Sys2Proof/Machine/Update.lean ====
section
/-!
DEFINITION. The fan-out of a core's spikes, the end of its update, and the SRAM scrubber (03_neuron_cores.md R85, R88 to
R90, 10_memory_system.md R273).
-/
namespace Sys2Proof.Machine

/-- The packet of a valid fan-out entry for a spike (03 R88). -/
def fanPacket (n : Nat) (x : Spike) (w : Word) : Packet :=
  { mkPacket 1 (wbits w 63 51) n ((x.step + 1 + wbits w 34 31) % 64) (wbits w 50 35) 0 [] with pay := x.pay }

/-- One fan-out entry of a spike of core `n`: read, and its packet brought to the core's injecting interface. -/
def State.fanEntry (s : State) (n : Nat) (x : Spike) (w : Nat) : State :=
  match s.sramRead n w with
  | (some v, t) => if bit v.toNat 30 then t.stage n (fanPacket n x v) else t
  | (none, t) => t

/-- FANOUT_INJECT (03 R88, R90): the oldest entry of the spike FIFO; a fenced core injects nothing (07 R218). -/
def State.fanout (s : State) (n : Nat) : State :=
  if !s.coreOn n || s.on F.CORE_STAT_FENCED n then s
  else match (s.core n).spikes with
    | [] => s
    | x :: r =>
      let g := s.group n x.group
      let base := s.rd F.CORE_PART_OUT_BASE n + g.outOfs + (x.slot - g.base) * g.fanPer
      ((List.range g.fanPer).map (fun k => base + k)).foldl (fun s w => s.fanEntry n x w)
        (s.onCore n (fun c => { c with spikes := r }))

/-- Whether a core has fanned out every spike and the last packet has been injected (03 R90). -/
def State.fanDone (s : State) (n : Nat) : Bool :=
  (s.core n).spikes == [] && !s.net.staging.any (fun e => e.agent == n && e.pkt.op == 1) &&
    !s.net.flights.any (fun f => f.agent == n && f.pkt.op == 1 && f.inStage != 0)

/-- CORE_UPDATE_DONE (03 R85, R90): the pass of the step, which starts after the update, has then ended too where one was
due; `wait` is what stalls and fan-out added in core cycles. -/
def State.updateDone (s : State) (n wait : Nat) : State :=
  if !s.coreOn n || !s.on F.CORE_STAT_UPD_BUSY n || !s.fanDone n then s
  else
    let cyc := (s.core n).updCycles + wait
    (((s.wr F.CORE_STAT_UPD_BUSY 0 n).wr F.CORE_UPD_STAT_LAST_UPD (min cyc 65535) n).top F.CORE_UPD_STAT_MAX_UPD cyc n).wr
      F.LRN_STAT_PASS_BUSY 0 n

/-- SRAM_PATROL_READ, while MEM_SRAM_SCRUB.EN has the scrubbers on (10 R289): one SRAM access (16 R429). -/
def State.patrol (s : State) (n : Nat) : State :=
  if s.awake n && s.on F.MEM_SRAM_SCRUB_EN then (s.act (n / 128) 3 1).patrolRead n else s

/-- SRAM_CORRECTED_WRITEBACK. -/
def State.correctedBack (s : State) (n : Nat) : State := if s.awake n then s.writeBack n else s

/-- FANOUT_INJECT. -/
def execFanoutInject (core : Nat) (s : State) : Host.Outcome State Fault Refusal := .next (s.fanout core)

/-- CORE_UPDATE_DONE. -/
def execCoreUpdateDone (core : Nat) (waitCycles : Nat) (s : State) : Host.Outcome State Fault Refusal :=
  .next (s.updateDone core waitCycles)

/-- SRAM_PATROL_READ. -/
def execSramPatrolRead (core : Nat) (s : State) : Host.Outcome State Fault Refusal := .next (s.patrol core)

/-- SRAM_CORRECTED_WRITEBACK. -/
def execSramCorrectedWriteback (core : Nat) (s : State) : Host.Outcome State Fault Refusal :=
  .next (s.correctedBack core)

end Sys2Proof.Machine
end

