-- ==== Sys2Proof/Machine/Boundary.lean ====
section
/-!
DEFINITION. The step sequencer: when a step closes, what its boundary does, and how the next step begins
(02_time_and_ordering.md R42 to R64 and R481, 14_bringup_loading_spares.md R393 to R397, 12_command_interface.md R333,
13_redundant_pair.md R350 and R359 to R363).
-/
namespace Sys2Proof.Machine

/-- Fault source of Collier and its sequencer. -/
def srcCollier : Nat := 0x740

/-- The cores whose update of the current step is unfinished, Cordwood runs and words included, but for masked ones (02 R58,
08 R232). -/
def State.unfinished (s : State) : List Nat :=
  s.liveCores.filter (fun n => (s.on F.CORE_STAT_UPD_BUSY n || !s.cordDone n) && !s.on F.CORE_STAT_DONE_MASKED n)

/-- Whether core `n` is done with the current step (02 R57, 08 R232). -/
def State.coreDone (s : State) (n : Nat) : Bool :=
  s.on F.CORE_STAT_DONE_MASKED n ||
    (!s.on F.CORE_STAT_UPD_BUSY n && s.rd (inflightFld n (s.step + 1)) (inflightUnit n) == 0 && s.cordDone n)

/-- Every done tree and Tinder show done with the current step (02 R57, R58). -/
def State.allDone (s : State) : Bool := s.liveCores.all s.coreDone && s.tinderDone s.step

/-- How many grains after its deadline a boundary falls now: the next nominal start, or in free-run mode the step's own start
(02 R58). -/
def State.lateness (s : State) : Nat :=
  (max 0 (span s.grain (if s.freeRun then s.time.begun else s.startOf (s.step + 1)))).toNat

/-- LAST_CLOSE's code. -/
def Close.code : Close → Nat
  | .clean => 0
  | .stretched => 1
  | .forced => 2

/-- What a boundary records of how it fell (02 R58, R63). -/
def State.countClose (s : State) (how : Close) : State :=
  let late := s.lateness
  let s1 := ((s.wr F.TIME_OVL_STAT_LAST_CLOSE how.code).wr F.TIME_OVL_STAT_LAST_STRETCH (min late 0x1FFF)).top
    F.TIME_OVL_STAT_MAX_STRETCH late
  let s2 := if how = .clean then s1 else s1.inc F.TIME_STRETCH_CNT_CNT
  let s3 := if how = .forced then (s2.inc F.TIME_FORCED_CNT_CNT).report srcCollier 0x21 2 s.step else s2
  { s3 with time := { s3.time with frameFlags := { s3.time.frameFlags with
      stretched := s3.time.frameFlags.stretched || how == .stretched
      forced := s3.time.frameFlags.forced || how == .forced } } }

/-- What engine controller `e` reports of frame `k` (02 R62). -/
def State.engineFrame (s : State) (k e : Nat) : State :=
  let cs := s.cores.filter (fun c => c.1 / 128 == e)
  let late := (cs.map (fun c => c.2.lateFrame)).sum
  let shed := (cs.map (fun c => c.2.shedFrame)).sum
  let t := (s.inc F.TIME_LATE_CNT_CNT late).inc F.TIME_SHED_CNT_CNT shed
  if shed > 0 then t.report (0x500 + e) 0x22 2 k else t

/-- The digest of engine `e` over a frame (13 R359). -/
def State.engineDigest (s : State) (e : Nat) : BitVec 64 :=
  ((s.liveCores.filter (fun n => n / 128 == e)).map (fun n => (s.core n).frameCrc)).foldl (· + ·) 0

/-- The digests of frame `k` are ready to be compared and sent (13 R351, R359). -/
def State.frameDigests (s : State) (k : Nat) : State :=
  let ds := (List.range 8).map s.engineDigest
  let t : State := (s.cores.map (·.1)).foldl (fun s n => s.onCore n (fun c =>
    { c with frameCrc := 0, lateFrame := 0, shedFrame := 0 })) s
  if s.mirroring then
    { t with pair := { t.pair with digs := t.pair.digs ++ [(k, ds)], frames := t.pair.frames ++ [(k, ds)] } }
  else t

/-- A mask with the bits of some engines. -/
def engineMask (es : List Nat) : Nat := (es.dedup.map (2 ^ ·)).sum

/-- A digest differs for some engines (13 R361): on a standby the bits clear, the difference is counted and reported, and a
resynchronisation is asked for; a primary only shows it (DESIGN CHOICE, log entry 22). -/
def State.digestMiss (s : State) (es : List Nat) : State :=
  let t := s.wr F.PAIR_STAT_ENG_READY (s.rd F.PAIR_STAT_ENG_READY &&& (255 - engineMask es))
  if !s.standby then t
  else
    let u := (t.inc F.PAIR_CNT0_DIG_MISS).report srcGwynell 0x50 1 2
    { u with pair := { u.pair with verified := false, resync := true } }

/-- Engines whose digests are equal are verified (13 R361, R370), but on a standby that resynchronises (R364). -/
def State.digestMatch (s : State) (es : List Nat) : State :=
  if s.pair.resync || s.pair.restoring then s
  else s.wr F.PAIR_STAT_ENG_READY (s.rd F.PAIR_STAT_ENG_READY ||| engineMask es)

/-- The digests of frame `k`, own and the partner's, are compared (13 R361). -/
def State.compareFrame (s : State) (k : Nat) (own peer : List (BitVec 64)) : State :=
  let s0 := { s with pair := { s.pair with
      digs := s.pair.digs.filter (fun x => x.1 != k), peerDigs := s.pair.peerDigs.filter (fun x => x.1 != k)
      journal := s.pair.journal.filter (fun j => match j with | .digest f _ => f != k | _ => true) } }
  let s1 := (List.range 8).foldl (fun s e =>
    (s.wr F.PAIR_DIG_LOCAL_DIGEST (own.getD e 0).toNat 0 e).wr F.PAIR_DIG_PEER_DIGEST (peer.getD e 0).toNat 0 e) s0
  let bad := s.engines.filter (fun e => own.getD e 0 != peer.getD e 0)
  let s2 := s1.digestMatch (s.engines.filter (fun e => !bad.contains e))
  if bad = [] then s2 else s2.digestMiss bad

/-- The apply digests of one boundary and region, own and the partner's, are compared (13 R360, R361). -/
def State.compareApply (s : State) (a b : ApplyDig) : State :=
  let s0 := { s with pair := { s.pair with
      ownApplies := dropFirst (fun x => x == a) s.pair.ownApplies
      peerApplies := dropFirst (fun x => x == b) s.pair.peerApplies
      journal := s.pair.journal.filter (fun j => j != .apply b) } }
  if a.dig = b.dig then s0 else s0.digestMiss ((s.regionCores a.region).map (· / 128))

/-- Every digest that both members have is compared. -/
def State.compareAll (s : State) : State :=
  let s1 := s.pair.digs.foldl (fun s x => match s.pair.peerDigs.lookup x.1 with
    | some d => s.compareFrame x.1 x.2 d
    | none => s) s
  s1.pair.ownApplies.foldl (fun s a =>
    match s.pair.peerApplies.find? (fun b => b.step == a.step && b.region == a.region) with
    | some b => s.compareApply a b
    | none => s) s1

/-- What the boundary that closes step `st` does when it ends the frame (02 R58, R62 to R64, 06 R169, R172, 11 R310). -/
def State.frameEnd (s : State) : State :=
  let k := s.frame
  let late := !s.freeRun && decide (0 < s.lateness)
  let s1 := s.wrB F.TIME_OVL_STAT_OVR_FRAME late
  let s2 := if late then (s1.inc F.TIME_OVERRUN_CNT_CNT).report srcCollier 0x20 2 k else s1
  let f : CloseFlags := { s2.time.frameFlags with overrun := late }
  let p := s2.time.prevFlags
  let both : CloseFlags := ⟨f.stretched || p.stretched, f.forced || p.forced, f.overrun || p.overrun⟩
  let s3 := (s.engines.foldl (fun s e => s.engineFrame k e) s2).ashClose k s.grain both
  let s4 := if s.metered = [] then s3
    else { s3 with tinder := { s3.tinder with meterDue := s3.tinder.meterDue ++ [MeterDue.mk k s.grain f] } }
  let s5 := (s4.frameDigests k).wr F.TIME_FRAME_FRAME (k + 1)
  let s6 : State := { s5 with
    time := { s5.time with prevFlags := f, frameFlags := ⟨false, false, false⟩ }
    rx := s5.rx.map (fun x => (x.1, { x.2 with crcFrame := 0, crcReported := false })) }
  s6.compareAll

/-- The roles are exchanged at the boundary that begins step `n` (13 R350). -/
def State.exchangeRoles (s : State) (n : Nat) : State :=
  match s.pair.roleAt with
  | some m =>
    if m = n then
      let t := s.wrB F.PAIR_STAT_ROLE (!s.on F.PAIR_STAT_ROLE)
      let u := if t.standby then t.actLow else t
      { u with pair := { u.pair with roleAt := none } }
    else s
  | none => s

/-- The close of the current step (02 R58): everything that a boundary does but the step tick. -/
def State.closeStep (s : State) (how : Close) : State :=
  let st := s.step
  let frame := (st + 1) % max 1 s.frameSteps == 0
  let s1 := (s.exchangeRoles (st + 1)).countClose how
  let s2 := if how = .forced then s1.cordForced else s1
  let s3 := s2.cordBoundary.combBoundary st s.frame frame
  let s4 := if frame then s3.frameEnd else s3
  s4.wr F.TIME_STEP_STEP (st + 1)

/-- The epochs that the boundary that begins step `n` ends are counted (05 R124). -/
def State.countEpochs (s : State) (n : Nat) : State :=
  (List.range 8).foldl (fun s r => if s.epochBoundary r n then s.inc F.LRN_EPOCH_EPOCH 1 0 r else s) s

/-- The apply digests of the boundary that begins step `n` (13 R360); `ran` tells whether region `r` applies there. -/
def State.applyDigests (s : State) (n : Nat) (ran : Nat → Bool) : State :=
  if !s.mirroring then s
  else (List.range 8).foldl (fun s r =>
    let cs := s.liveCores.filter (fun m => s.on F.LRN_CFG_EN m && s.regionOf m == r)
    if ran r ∧ cs ≠ [] then
      let d : ApplyDig := ⟨n, r, (cs.map (fun m => (s.core m).applyCrc)).foldl (· + ·) 0⟩
      { s with pair := { s.pair with applies := s.pair.applies ++ [d], ownApplies := s.pair.ownApplies ++ [d] } }
    else s) s

/-- The learning actions whose boundary begins step `n` (05 R147). -/
def State.learnActs (s : State) (n : Nat) : State :=
  let due (a : LearnAct) : Bool := s.epochBoundary a.region n && decide (a.since ≤ n)
  let t := (s.learn.acts.filter due).foldl (fun s a => s.learnAction a.region a.action) s
  { t with learn := { t.learn with acts := s.learn.acts.filter (fun a => !due a) } }

/-- A snapshot's capture (05 R149): its region's applies are withheld from here on. -/
def State.capture (s : State) (x : Snap) (n : Nat) : State :=
  let t := s.wr F.LRN_REGION_SNAP_HOLD x.hold 0 x.region
  { t with learn := { t.learn with snap := some { x with capture := n, epoch := s.rd F.LRN_EPOCH_EPOCH 0 x.region, copying := true } } }

/-- The snapshot at the boundary that begins step `n`: its capture, or one epoch less to withhold, with whose last one the
copy stops (05 R149). -/
def State.snapBoundary (s : State) (n : Nat) : State :=
  match s.learn.snap with
  | none => s
  | some x =>
    if !s.epochBoundary x.region n then s
    else if x.copying then
      let h := s.rd F.LRN_REGION_SNAP_HOLD 0 x.region
      let t := s.wr F.LRN_REGION_SNAP_HOLD (h - 1) 0 x.region
      if h = 1 then t.snapHalt x else t
    else if x.capture ≤ n then s.capture x n
    else s

/-- The map flips that wait for a step boundary (07 R195, 14 R384). -/
def State.mapFlips (s : State) : State :=
  s.net.flips.foldl (fun s f => (s.mapFlip f.1).sendAck (agEngine f.1) f.2) { s with net := { s.net with flips := [] } }

/-- The pins at the first grain of a frame (02 R38, 13 R347). -/
def State.framePins (s : State) : State :=
  { s with pins := { s.pins with
      syncOut := s.on F.TIME_CTRL_SYNC_OUT_EN
      hbOut := if s.on F.PAIR_STAT_FENCED then s.pins.hbOut else !s.pins.hbOut } }

/-- In free-run mode the window of a step opens with it and, without replay, closes in the same grain (02 R481). -/
def State.openWindow (s : State) : State :=
  if !s.freeRun then s
  else
    let old := if s.cmd.fifo = [] ∧ s.cmd.inband = [] then [] else s.tinder.wins
    let t := { s with tinder := { s.tinder with winOpen := true, wins := old ++ [(s.time.winClosed, s.grain, none)] } }
    if s.rd F.PAIR_STAT_PHASE ≠ 2 ∧ (!s.on F.TND_CTRL_REPLAY_EN ∨ s.on F.TND_STAT_REPLAY_DONE) then t.closeWindow else t

/-- Ash counts the late spikes of a replay whose landing step the current step is (13 R364). -/
def State.spikesLand (s : State) : State :=
  let due (x : Nat × Packet) : Bool := decide (x.1 = s.step % 2 ^ 32)
  let t := { s with pair := { s.pair with lateSpikes := s.pair.lateSpikes.filter (fun x => !due x) } }
  (s.pair.lateSpikes.filter due).foldl (fun s x => match s.lineDecoder x.2.arg.toNat with
    | some dec => s.ashLate.ashAdd dec x.2
    | none => s) t

/-- The step tick that begins step `n` (02 R58): the core clocks run again (16 R439). -/
def State.tick (s : State) (n : Nat) : State :=
  let frame := n % max 1 s.frameSteps == 0
  let s0 := if s.rd F.KILN_STAT_STATE = 1 then s.wr F.KILN_STAT_STATE 0 else s
  let s1 := s0.countEpochs n
  let ran (r : Nat) : Bool := s1.epochBoundary r n && s1.rd F.LRN_REGION_STATE 0 r == 1 && s1.rd F.LRN_REGION_SNAP_HOLD 0 r == 0
  let s2 := (s.liveCores.foldl (fun s c => s.coreApply c n) s1).applyDigests n ran
  let s3 := ((s2.learnActs n).snapBoundary n).mapFlips.kilnBoundary n
  let s4 := s.liveCores.foldl (fun s c => s.coreTick c n frame) s3
  let s5 := if (n + 1) % max 1 s.frameSteps = 0 then s4.issueReads n else s4
  let s6 := if frame then (if n = 0 then s5.framePins else s5.txFrames.framePins) else s5
  let s7 := { s6 with time := { s6.time with phase := .opened, begun := s.grain, hangFrom := 0 } }
  (if s7.pair.lateSpikes = [] then s7 else s7.spikesLand).promote.settled.openWindow

/-- Collier's stop of the model at a boundary (12 R333): pending learning actions and a snapshot's capture, for which
RUN_EN = 0 leaves no boundary, take effect (05 R147); a window that no frame end closed is discarded.  A QUIESCE that a
DISABLE overtakes finds RUN_EN fallen (DESIGN CHOICE, log entry 21). -/
def State.stopRun (s : State) (last : Nat) (frame : Bool) : State :=
  let s1 := s.runFall.txRunFalls
  let s2 := s.learn.acts.foldl (fun s a => s.learnAction a.region a.action) s1
  let s3 := { s2 with learn := { s2.learn with acts := [] } }
  let s4 := match s3.learn.snap with
    | some x => if x.copying then s3 else s3.capture x (2 ^ 64 - 1)
    | none => s3
  let s5 := if frame then s4 else { s4 with ash := { s4.ash with
      bank0 := [], bank1 := [], late0 := false, late1 := false, recs := s4.ash.recs.filter (·.closed) } }
  let s6 := { s5 with tinder := { s5.tinder with stopStep := none } }
  let s7 := s6.finish 0x19 0 (toBytes 8 last)
  if s.time.stop = .disable then s7.finish 0x1A 0x0F02 [] else s7

/-- Whether the boundary that begins step `n` is one at which RUN_EN falls (12 R333). -/
def State.stopsAt (s : State) (n : Nat) : Bool :=
  match s.time.stop with
  | .none => false
  | .disable => true
  | .quiesce => match s.tinder.stopStep with
    | some k => decide (k + s.frameSteps ≤ n)
    | none => false

/-- The standby's state as a checkpoint (13 R363). -/
def State.snapshotCkpt (s : State) : Ckpt := ⟨s.step, s.frame, s.regs, s.mem, s.flips, s.cores, s.tinder, s.ash, s.drey⟩

/-- Whether a standby takes a checkpoint at the boundary that begins step `n` (13 R363): every frame but the one just
ended has been compared, since its digest cannot have come (DEDUCED, log entry 23). -/
def State.ckptDue (s : State) (n : Nat) : Bool :=
  s.mirroring && s.standby && !s.on F.PAIR_STAT_FENCED && s.rd F.PAIR_STAT_PHASE == 0 && !s.on F.PAIR_STAT_JOURNAL_FULL &&
    n % max 1 s.frameSteps == 0 && s.on F.PAIR_CFG_CKPT_PERIOD && s.pair.verified && !s.pair.unreplayable &&
    !s.pair.resync && s.pair.digs.all (fun x => decide (s.frame ≤ x.1 + 1)) &&
    decide (s.pair.ckptFrame + s.rd F.PAIR_CFG_CKPT_PERIOD ≤ s.frame)

/-- Whether a standby starts the resynchronisation that has been asked for (13 R361, R364, R365): also one asked for while it
catches up, at the next boundary of the replay. -/
def State.resyncDue (s : State) : Bool :=
  s.mirroring && s.standby && s.pair.resync && s.rd F.PAIR_STAT_PHASE != 1 && s.pair.ckpt.isSome &&
    !s.pair.unreplayable && !s.on F.PAIR_STAT_JOURNAL_FULL

/-- The inputs that wait become entries of the replay, so that a standby that is away encodes from its journal alone; those of
a standby that was away already are in its journal. -/
def State.inputsToReplay (s : State) : State :=
  let es := if s.on F.PAIR_STAT_PHASE then [] else (s.tinder.inputs.filter (fun e => e.kind != 4)).map JEntry.taken
  { s with
    tinder := { s.tinder with inputs := s.tinder.inputs.filter (fun e => e.kind == 4) }
    pair := { s.pair with journal := s.pair.journal ++ es, replay := s.pair.replay ++ es } }

/-- The standby begins no further step (13 R363, R364): to take a checkpoint, or to restore one. -/
def State.goAway (s : State) (c : Option Ckpt) (restore : Bool) : State :=
  let t := s.inputsToReplay.wr F.PAIR_STAT_PHASE 1
  { t with
    time := { t.time with phase := .away }
    pair := { t.pair with copying := c, restoring := restore, resync := t.pair.resync && !restore } }

/-- Whether a journal entry stays when a checkpoint is taken: the inputs that the model has taken are in the checkpoint. -/
def JEntry.stays : JEntry → Bool
  | .taken _ => false
  | _ => true

/-- The journal when a checkpoint is taken: the inputs that the model has taken are kept aside until the copy is whole. -/
def State.journalAside (s : State) : State :=
  { s with pair := { s.pair with
      journal := s.pair.journal.filter JEntry.stays, journalOld := s.pair.journal.filter (fun j => !j.stays) } }

/-- What follows the close of step n − 1, TIME_STEP having taken `n`: a stop, a standby's leave, a wait for a grant, or the
next step tick (02 R44, 12 R333, 13 R363). -/
def State.begin (s : State) : State :=
  let n := s.step
  if s.stopsAt n then (s.stopRun ((n + 2 ^ 64 - 1) % 2 ^ 64) (n % max 1 s.frameSteps == 0)).quiesceDone
  else if s.ckptDue n then
    s.journalAside.goAway (some s.snapshotCkpt) false
  else if s.resyncDue then s.goAway s.pair.ckpt true
  else if s.on F.TIME_CTRL_MODE && s.on F.TIME_CTRL_FREE_GATED then
    (if s.on F.TIME_STEP_GRANT_GRANT then
      (s.wr F.TIME_STEP_GRANT_GRANT (s.rd F.TIME_STEP_GRANT_GRANT - 1)).tick n
    else { s with time := { s.time with phase := .between } })
  else s.tick n

/-- A region that holds a core that a swap moves begins an apply with step `n` (14 R393). -/
def State.deferred (s : State) (w : Swap) (n : Nat) : Bool :=
  (s.moving w).any (fun c => s.on F.LRN_CFG_EN c && s.epochBoundary (s.regionOf c) n &&
    s.rd F.LRN_REGION_STATE 0 (s.regionOf c) == 1 && s.rd F.LRN_REGION_SNAP_HOLD 0 (s.regionOf c) == 0)

/-- The closure condition of the current step holds, or the step is to be forced: its boundary, unless a swap window
opens (02 R58, 14 R393). -/
def State.boundary (s : State) (how : Close) : State :=
  match s.spare.queue with
  | w :: _ =>
    if s.deferred w (s.step + 1) then (s.closeStep how).begin
    else { s with
      time := { s.time with phase := .swap }
      spare := { s.spare with window := some (w, s.grain), forced := how == .forced } }
  | [] => (s.closeStep how).begin

/-- A forced boundary: the done inputs of unfinished cores are masked (02 R58, R59). -/
def State.forceClose (s : State) : State :=
  (s.unfinished.foldl (fun s n => (s.wr F.CORE_STAT_DONE_MASKED 1 n).report (s.tileOf n) 0x10 3 n) s).boundary .forced

/-- STEP_DEADLINE (02 R58). -/
def State.stepDeadline (s : State) : State :=
  if s.freeRun || s.time.phase != .opened then s
  else
    let t := s.advance (s.startOf (s.step + 1))
    if t.allDone then t.boundary (if t.lateness = 0 then .clean else .stretched)
    else { t with time := { t.time with phase := .stretch } }

/-- The grain from which a free-run step is closed by force, unless FREE_LIMIT is 0 or a standby replays (02 R45, 13 R364). -/
def State.freeEnd (s : State) : Option Nat :=
  if s.rd F.TIME_CTRL_FREE_LIMIT = 0 ∨ s.rd F.PAIR_STAT_PHASE = 2 then none
  else some ((s.time.begun + 1000 * s.rd F.TIME_CTRL_FREE_LIMIT) % 2 ^ 64)

/-- ALL_DONE (02 R43, R58): the sequencer sees it at the next grain edge.  A free-run step whose closure condition holds
within FREE_LIMIT closes clean, however long after its start (DESIGN CHOICE, log entry 50); later, it is forced (R45). -/
def State.stepDone (s : State) : State :=
  if !s.allDone then s
  else
    let t := s.advance ((s.grain + 1) % 2 ^ 64)
    if s.freeRun && s.time.phase == .opened then
      (if s.freeEnd.all (fun g => reached g t.grain) then t.boundary .clean else t.forceClose)
    else if s.time.phase == .stretch then t.boundary .stretched
    else s

/-- STRETCH_BUDGET_EXPIRED (02 R58). -/
def State.budgetOut (s : State) : State :=
  if s.time.phase != .stretch then s
  else
    let t := s.advance ((s.startOf (s.step + 1) + s.budget) % 2 ^ 64)
    if t.allDone then t.boundary .stretched
    else { t with time := { t.time with phase := .hang, hangFrom := t.grain } }

/-- HANG_LIMIT_EXPIRED (02 R45, R58): at once where every update has finished, else once the limit has run out. -/
def State.hangOut (s : State) : State :=
  if s.time.phase != .hang then s
  else if s.unfinished = [] then
    (if s.grain = s.time.hangFrom then s else s.advance ((s.grain + 1) % 2 ^ 64)).forceClose
  else (s.advance ((s.time.hangFrom + s.rd F.TIME_CTRL_HANG_LIMIT) % 2 ^ 64)).forceClose

/-- FREE_LIMIT_EXPIRED (02 R45): a step that is done by then closes clean; one whose updates have finished is forced; else
the sequencer waits for them, or for HANG_LIMIT grains. -/
def State.freeLimit (s : State) : State :=
  if !s.freeRun || s.time.phase != .opened then s
  else match s.freeEnd with
    | none => s
    | some g =>
      let t := s.advance g
      if t.allDone && t.grain == g then t.boundary .clean
      else if t.unfinished = [] then t.forceClose
      else { t with time := { t.time with phase := .hang, hangFrom := g } }

/-- The start of step 0 at its grain (02 R42), a stop at the start of a step that waits for a grant, and a step for which a
grant has come (02 R44). -/
def State.edge (s : State) : State :=
  match s.time.phase with
  | .armed =>
    if reached s.grain s.time.startAt || s.time.stop == .disable then s.begin else s
  | .between => s.begin
  | _ => s

/-- A command that needs step 0 to have begun finds it begun once the grain has been reached. -/
def State.begun0 (s : State) : State :=
  if s.time.phase == .armed then (s.advance s.time.startAt).edge else s

/-- IDLE_ENTRY (16 R439): the next step tick is at least four grains away. -/
def State.idleEnter (s : State) : State :=
  if s.running && s.on F.KILN_CTRL_AUTO_IDLE && s.rd F.KILN_STAT_STATE == 0 && s.time.phase == .opened && !s.freeRun &&
      s.allDone && decide (4 ≤ span (s.startOf (s.step + 1)) s.grain) then s.wr F.KILN_STAT_STATE 1 else s

/-- IDLE_EXIT (16 R439). -/
def State.idleExit (s : State) : State := if s.rd F.KILN_STAT_STATE = 1 then s.wr F.KILN_STAT_STATE 0 else s

/-- The swap or retirement that may be carried out now: the one whose window is open or, while the model stands still, the
first of the queue (14 R393). -/
def State.swapNow (s : State) : Option (Swap × Nat) :=
  match s.spare.window with
  | some w => some w
  | none => if s.running then none else s.spare.queue.head?.map (fun w => (w, s.grain))

/-- The window ends: Owl's reaction slot and SPARE_SWAP learn of it, and the boundary follows (14 R393, R395). -/
def State.swapEnd (s : State) (w : Swap) (ok : Bool) : State :=
  let s1 := match w.slot with
    | some k => if ok then s else s.reactFail k
    | none => s
  let s2 := if w.reply then
      (if ok then s1.finish 0x3A 0 (toBytes 2 (s1.tileOf w.core)) else s1.finish 0x3A 0x0F09 [])
    else s1
  let forced := s2.spare.forced
  let s3 := { s2 with spare := { s2.spare with queue := dropFirst (fun x => x == w) s2.spare.queue, window := none, forced := false } }
  if s.time.phase = .swap then
    ((s3.advance ((s3.grain + 1) % 2 ^ 64)).closeStep (if forced then .forced else .stretched)).begin
  else s3

/-- With SOURCE 1 or 2 only the map moves, and the standby, no longer ready in the core's engine, resynchronises
(14 R395). -/
def State.swapSource (s : State) (w : Swap) : State :=
  if w.source = 0 then s
  else
    let t := s.wr F.PAIR_STAT_ENG_READY (s.rd F.PAIR_STAT_ENG_READY &&& (255 - 2 ^ (w.core / 128)))
    { t with pair := { t.pair with resync := true } }

/-- Whether the moving cores' outstanding requests are complete; a fenced core's responses have been dropped, and it is not
waited for (14 R394, R397; log entry 45). -/
def State.swapSettled (s : State) (w : Swap) : Bool :=
  (s.moving w).all (fun n => s.on F.CORE_STAT_FENCED n || s.net.tids.all (fun x => x.agent != n))

/-- SPARE_COPY_DONE (14 R394, R395). -/
def State.spareDone (s : State) : State :=
  match s.swapNow with
  | some (w, g) =>
    if w.columns ≠ [] ∨ !s.swapSettled w then s
    else
      let ok := s.swapPossible w
      let t := match ok, s.spareFor w.core with
        | true, some b => (s.swapCore w.core b (span s.grain g).toNat w.ageing).swapSource w
        | _, _ => s.swapFailed (w.core / 128) (s.tileOf w.core)
      t.swapEnd w ok
  | none => s

/-- COLUMN_COPY_DONE (14 R397). -/
def State.columnDone (s : State) : State :=
  match s.swapNow with
  | some (w, _) =>
    match w.columns with
    | [] => s
    | c :: _ =>
      if !s.swapSettled w then s
      else
        let ok := s.swapPossible w
        let t := if ok then
            (let u := (s.retireColumns w.columns).swapSource w
             if w.ageing then u.inc F.SPARE_CNT_AGE_SWAPS else u)
          else s.swapFailed c.1 (engineTile c.1 c.2)
        t.swapEnd w ok
  | none => s

/-- RESULT_RECORD_EMIT (06 R176, R178). -/
def State.emitResult (s : State) (d : Nat) : State := (s.recordOut d).quiesceDone

/-- STEP_DEADLINE. -/
def execStepDeadline (s : State) : Host.Outcome State Fault Refusal := .next s.begun0.stepDeadline

/-- ALL_DONE. -/
def execAllDone (s : State) : Host.Outcome State Fault Refusal := .next s.stepDone

/-- STRETCH_BUDGET_EXPIRED. -/
def execStretchBudgetExpired (s : State) : Host.Outcome State Fault Refusal := .next s.budgetOut

/-- HANG_LIMIT_EXPIRED. -/
def execHangLimitExpired (s : State) : Host.Outcome State Fault Refusal := .next s.hangOut

/-- FREE_LIMIT_EXPIRED. -/
def execFreeLimitExpired (s : State) : Host.Outcome State Fault Refusal := .next s.freeLimit

/-- INPUT_WINDOW_CLOSE: no window closes before step 0 has begun. -/
def execInputWindowClose (s : State) : Host.Outcome State Fault Refusal := .next s.begun0.inputWindowClose

/-- RESULT_RECORD_EMIT. -/
def execResultRecordEmit (decoder : Nat) (s : State) : Host.Outcome State Fault Refusal := .next (s.emitResult decoder)

/-- SPARE_COPY_DONE. -/
def execSpareCopyDone (s : State) : Host.Outcome State Fault Refusal := .next s.spareDone

/-- COLUMN_COPY_DONE. -/
def execColumnCopyDone (s : State) : Host.Outcome State Fault Refusal := .next s.columnDone

/-- IDLE_ENTRY. -/
def execIdleEntry (s : State) : Host.Outcome State Fault Refusal := .next s.idleEnter

/-- IDLE_EXIT. -/
def execIdleExit (s : State) : Host.Outcome State Fault Refusal := .next s.idleExit

end Sys2Proof.Machine
end

