-- ==== Sys2Proof/Machine/Pair.lean ====
section
/-!
DEFINITION. Gwynell: mirror blocks, alignment, digests, checkpoints and replay, and the loss of the partner
(13_redundant_pair.md).
-/
namespace Sys2Proof.Machine

/-- A record of a mirror block: KIND, zero, LEN and the body, zero-filled to a multiple of 4 (R352). -/
def mirrorRecord (r : Nat × List Byte) : List Byte :=
  toBytes 2 r.1 ++ toBytes 2 r.2.length ++ padTo (4 * ceilDiv r.2.length 4) r.2

/-- Records packed into blocks of at most 8,192 payload bytes (R351). -/
def packRecords : List (Nat × List Byte) → List (List (Nat × List Byte))
  | [] => []
  | r :: rs => match packRecords rs with
    | [] => [[r]]
    | b :: bs =>
      if 16 + (mirrorRecord r).length + ((b.map mirrorRecord).map List.length).sum ≤ 8192 then (r :: b) :: bs
      else [r] :: b :: bs

/-- One mirror block goes to the mirror port (R351, R352). -/
def State.sendBlock (s : State) (rs : List (Nat × List Byte)) : State :=
  let flags := b2n (!s.standby) + 2 * b2n s.running + 4 * b2n (s.on F.PAIR_STAT_FENCED)
  let b := toBytes 8 s.frame ++ toBytes 4 s.pair.bseqTx ++ toBytes 2 rs.length ++ [BitVec.ofNat 8 flags, 0] ++
    rs.flatMap mirrorRecord
  let t := s.emitBlock s.mirrorTx (s.rd F.PAIR_CFG_MIR_VC) 0x34 b .mirror
  { t with pair := { t.pair with bseqTx := (t.pair.bseqTx + 1) % 2 ^ 32 } }

/-- Records are sent, in as many blocks as they need. -/
def State.sendRecords (s : State) (rs : List (Nat × List Byte)) : State := (packRecords rs).foldl (fun s b => s.sendBlock b) s

/-- Whether Gwynell sends and takes mirror blocks: a fenced member sends none (R368). -/
def State.mirrorSends (s : State) : Bool := s.mirroring && !s.on F.PAIR_STAT_FENCED

/-- An OVERLOAD entry's 16 bytes (R362). -/
def Overload.bytes (e : Overload) : List Byte :=
  toBytes 1 e.kind ++ toBytes 1 (b2n e.discarded) ++ toBytes 2 e.target ++ toBytes 2 e.source ++ toBytes 2 e.axon ++
    toBytes 1 e.tag ++ toBytes 1 e.pay ++ toBytes 2 0 ++ toBytes 4 e.step

/-- The overload entry that 16 bytes spell. -/
def overloadOfBytes (b : List Byte) : Overload where
  kind := byteField b 0 1
  discarded := bit (byteField b 1 1) 0
  target := byteField b 2 2
  source := byteField b 4 2
  axon := byteField b 6 2
  tag := byteField b 8 1
  pay := byteField b 9 1
  step := byteField b 12 4

/-- STEP_BLOCK_SEND (R351, R355 to R358, R362): the block of the next closed window. -/
def State.stepBlock (s : State) : State :=
  let n := s.pair.blockNext
  if !s.mirrorSends || n ≥ s.time.winClosed then s
  else
    let edits := s.pair.editsOut.map (fun e => (5, toBytes 8 e.step ++ e.bytes))
    let t := { s with pair := { s.pair with
        blockNext := n + 1, windows := s.pair.windows.filter (fun x => decide (n < x.1)), anchors := [], editsOut := []
        overload := [], roleOut := none } }
    if s.standby then (if edits = [] then t else t.sendRecords edits)
    else
      let cnts := ((s.pair.windows.lookup n).getD []).mergeSort (fun a b => a.1 ≤ b.1)
      let align := (3, toBytes 8 n ++ cnts.flatMap (fun x => toBytes 2 x.1 ++ toBytes 2 x.2))
      let anchors := s.pair.anchors.map (fun a => (4, toBytes 2 a.1 ++ toBytes 2 0 ++ toBytes 4 a.2))
      let over' := (pieces 510 s.pair.overload).map (fun es => (8, toBytes 8 n ++ es.flatMap Overload.bytes))
      let role := match s.pair.roleOut with | some b => [(9, toBytes 8 b)] | none => []
      t.sendRecords (align :: anchors ++ edits ++ over' ++ role)

/-- FRAME_BLOCK_SEND (R351, R353): once Ash has emitted or computed the records of the closed window, after the last boundary
of a run too. -/
def State.frameBlock (s : State) : State :=
  match s.pair.frames with
  | [] => s
  | (k, ds) :: rest =>
    if !s.mirrorSends || s.ash.recs.any (fun r => r.closed && r.frame == k) then s
    else
      let t := { s with pair := { s.pair with frames := rest, lastWin := k, applies := [] } }
      t.sendRecords ((1, toBytes 8 s.step ++ toBytes 8 k) :: (6, toBytes 8 k ++ ds.flatMap (fun d => toBytes 8 d.toNat)) ::
        s.pair.applies.map (fun a => (7, toBytes 8 a.step ++ toBytes 1 a.region ++ toBytes 7 0 ++ toBytes 8 a.dig.toNat)))

/-- The body of the AGREE record (R353). -/
def State.agreeBody (s : State) : List Byte :=
  [1, BitVec.ofNat 8 (match s.boot.fw with | some f => f.major | none => 0), BitVec.ofNat 8 (s.rd F.PAIR_STAT_ROLE),
    BitVec.ofNat 8 (s.rd F.TIME_CTRL_MODE + 2 * s.rd F.TIME_CTRL_POLICY)] ++
  toBytes 4 (s.rd F.TIME_STEP_CFG_IN_GUARD * 2 ^ 28 + s.rd F.TIME_STEP_CFG_STRETCH_PCT * 2 ^ 22 +
    s.frameSteps * 2 ^ 15 + s.stepLen) ++ toBytes 8 (s.rd F.TIME_ORIGIN_ORIGIN) ++
  (List.range 8).flatMap (fun i => toBytes 8 (s.rd F.BOOT_IMAGE_MEAS_WORD 0 i))

/-- AGREE_BLOCK_SEND (R351): while RUN_EN = 0, and at the start of every check. -/
def State.agreeBlock (s : State) : State :=
  if s.mirrorSends && !s.running then s.sendRecords [(2, s.agreeBody)] else s

/-- A body cut into records of one kind with byte offsets (R353). -/
def chunkRecords (kind : Nat) (b : List Byte) : List (Nat × List Byte) :=
  ((pieces 8160 b).zipIdx).map (fun x => (kind, toBytes 8 (8160 * x.2) ++ x.1))

/-- The records that carry a checkpoint of a step (R353, R363). -/
def ckptRecords (c : Nat × List Byte) : List (Nat × List Byte) :=
  chunkRecords 10 c.2 ++ [(11, toBytes 8 c.1 ++ toBytes 8 c.2.length ++ toBytes 4 (crc32c c.2).toNat)]

/-- BACKGROUND_BLOCK_SEND (R351): the next record of the background stream, when no other mirror block waits. -/
def State.backgroundBlock (s : State) : State :=
  match s.pair.streamOut with
  | [] => s
  | r :: rest =>
    let t := s.txp s.mirrorTx
    if !s.mirrorSends || s.rd F.PAIR_CKPT_CFG_STREAM_MBPS == 0 || (t.blocks ++ t.wait).any (fun b => b.cls == .mirror) then s
    else ({ s with pair := { s.pair with streamOut := rest } }).sendRecords [r]

/-- The heartbeat timer restarts, as from grain `g` (R367, R368): the frames that had passed are counted. -/
def State.beat (s : State) (g : Nat) : State :=
  let gone := (max 0 (span s.grain s.pair.timer)).toNat / max 1 s.frameLen
  let t := s.inc F.PAIR_CNT0_HB_GAP (gone - s.pair.gaps)
  let u := { t with pair := { t.pair with timer := g, gaps := 0 } }
  if s.rd F.PAIR_STAT_SB_STATE = 2 ∨ s.rd F.PAIR_STAT_SB_STATE = 3 then u.wr F.PAIR_STAT_SB_STATE 1 else u

/-- Every enabled engine is ready. -/
def State.allReady (s : State) : Bool := s.engines.all (fun e => bit (s.rd F.PAIR_STAT_ENG_READY) e)

/-- The first frame whose records this member emits in time after a takeover (R369). -/
def State.firstFrame (s : State) : Nat := (s.ash.recs.map (·.frame)).foldl min s.frame

/-- A takeover (R368, R369): the kept records of every window after the old primary's last are emitted in window order; a
standby that is away takes over when it rejoins.  Whether the partner ever returns is not known in that grain: the state is
PAIRED, and the timer then counts the partner's silence (DEDUCED from the timeline of R369, log entry 54). -/
def State.takeover (s : State) : State :=
  if s.rd F.PAIR_STAT_PHASE ≠ 0 then s.wr F.PAIR_STAT_SB_STATE 4
  else
    let t := ((s.wr F.PAIR_STAT_ROLE 0).wr F.PAIR_STAT_SB_STATE 1).inc F.PAIR_CNT1_TAKEOVERS
    let due := s.pair.kept.filter (fun k => match s.pair.lastWinPeer with | some w => decide (w < k.frame) | none => true)
    let u := (due.flatMap (·.decoders)).foldl (fun s r => s.emitRec r) t
    ({ u with pair := { u.pair with kept := [], timer := s.grain, gaps := 0 } }).finish 0x39 0 (toBytes 8 s.firstFrame)

/-- HB_IN_CHANGE (R367): a partner that changes its heartbeat is powered, out of reset and not fenced, so it drives
PAIR_FENCE_IN low (R347, DEDUCED, log entry 25). -/
def State.hbChange (s : State) (level : Bool) : State :=
  if level = s.pins.hbIn then s
  else
    let t := (s.wr F.PAIR_STAT_FENCE_IN 0).beat s.grain
    { t with pins := { t.pins with hbIn := level, fenceIn := false } }

/-- HEARTBEAT_TIMEOUT (R367, R368). -/
def State.hbTimeout (s : State) : State :=
  if !s.mirroring || s.rd F.PAIR_STAT_SB_STATE != 1 then s
  else
    let t := ((s.advance ((s.pair.timer + s.frameLen) % 2 ^ 64)).wr F.PAIR_STAT_SB_STATE 2).inc F.PAIR_CNT0_HB_GAP
    { t with pair := { t.pair with gaps := 1 } }

/-- PARTNER_LOST_TIMEOUT (R368). -/
def State.partnerLost (s : State) : State :=
  if !s.mirroring || s.rd F.PAIR_STAT_SB_STATE != 2 then s
  else
    let t := (s.advance ((s.pair.timer + 2 * s.frameLen) % 2 ^ 64)).inc F.PAIR_CNT0_HB_GAP
    let u := { t with pair := { t.pair with gaps := 2 } }
    if u.on F.PAIR_STAT_FENCE_IN && u.on F.PAIR_STAT_ROLE && u.allReady then u.takeover
    else (u.wr F.PAIR_STAT_SB_STATE 3).report srcGwynell 0x51 2 0

/-- FENCE_IN_RISE (R347, R368). -/
def State.fenceRise (s : State) : State :=
  let t := s.wr F.PAIR_STAT_FENCE_IN 1
  let u := { t with pins := { t.pins with fenceIn := true } }
  if s.rd F.PAIR_STAT_SB_STATE = 3 && s.on F.PAIR_STAT_ROLE && s.allReady then u.takeover else u

/-- A source's count, or the whole record, could not be met (R355). -/
def State.alignMiss (s : State) : State := (s.inc F.PAIR_CNT0_ALIGN_MISS).report srcGwynell 0x50 1 1

/-- The wait for the ALIGN record of step `n` has ended (R355): a record that has not come leaves the standby's own assignment
in force, and of one that has come each source whose count cannot be met. -/
def State.alignEnd (s : State) (n : Nat) : State :=
  match s.pair.align.find? (fun (x : Nat × List (Nat × Nat)) => x.1 == n) with
  | none => (s.setAligned n).alignMiss
  | some x =>
    (s.alignSources.filter (fun src => !s.meets x.2 src)).foldl (fun s _ => s.alignMiss)
      (s.applyAlign n x.2 (s.alignSources.filter (s.meets x.2)))

/-- ALIGN_WAIT_EXPIRED (R355), for the oldest unaligned window. -/
def State.alignExpired (s : State) : State :=
  match (List.range 64).find? (fun i => !s.pair.aligned.contains (s.step + i)) with
  | none => s
  | some i =>
    let n := s.step + i
    if !(s.mirroring && s.standby && s.running) || s.on F.PAIR_STAT_PHASE || n ≥ s.time.winClosed then s
    else
      let t := (s.advance ((s.winStart (n + 1) + s.rd F.PAIR_CFG_ALIGN_WAIT) % 2 ^ 64)).tryAlign
      if t.pair.aligned.contains n then t else (t.alignEnd n).settled

/-- Bytes placed at an offset of what has come so far. -/
def placeAt (old : List Byte) (off : Nat) (b : List Byte) : List Byte := padTo off old ++ b ++ old.drop (off + b.length)

/-- An ALIGN record (R355, R362): one that comes too late still corrects the journal. -/
def State.takeAlign (s : State) (n : Nat) (cnts : List (Nat × Nat)) : State :=
  if !s.standby then s
  else if s.pair.aligned.contains n then
    { s with pair := { s.pair with journal := s.assignJournal n cnts s.pair.journal } }
  else if s.pair.align.any (fun (x : Nat × List (Nat × Nat)) => x.1 == n) then s
  else ({ s with pair := { s.pair with align := s.pair.align ++ [(n, cnts)] } }).tryAlign

/-- A mirrored command's parameters take effect at the boundary that begins step `n` (R358). -/
def State.capAt (s : State) (c : HostCmd) (n : Nat) : State :=
  if c.op = 0x29 then { s with kiln := { s.kiln with capNext := s.kiln.capNext ++ [(n, c.par 0 4)] } }
  else if c.op = 0x2A then { s with kiln := { s.kiln with modeNext := s.kiln.modeNext ++ [(n, c.par 0 1)] } }
  else s

/-- Whether an edit is a CAP_SET or a FREQ_MODE (R358). -/
def Edit.setting (e : Edit) : Bool := let c : HostCmd := ⟨e.path, e.bytes⟩; c.op == 0x29 || c.op == 0x2A

/-- An EDIT record (R357, R358, R362). -/
def State.takeEdit (s : State) (n : Nat) (b : List Byte) : State :=
  let e : Edit := ⟨n, b, .i3cSdr, false⟩
  let t := s.journalPut (.edit e)
  if e.setting then t.capAt ⟨e.path, b⟩ (n + 2) else { t with pair := { t.pair with edits := t.pair.edits ++ [e] } }

/-- A checkpoint that has come whole (R353, R363). -/
def State.takeCkpt (s : State) (c bytes crc : Nat) : State :=
  let b := s.pair.ckptIn
  let t := { s with pair := { s.pair with ckptIn := [] } }
  if b.length ≠ bytes ∨ (crc32c b).toNat ≠ crc then t
  else
    let u := (t.wr F.PAIR_STAT_CKPT_VALID 1).wr F.PAIR_CKPT_STEP_STEP c
    let old (j : JEntry) : Bool := match j with
      | .taken e => decide (e.step < c)
      | .edit e => decide (e.step < c)
      | .digest f _ => decide ((f + 1) * s.frameSteps ≤ c)
      | .apply a => decide (a.step ≤ c)
      | .overload n _ => decide (n < c)
    { u with pair := { u.pair with
        ckpt := Config.ckptOf b, ckptRaw := some (c, b), journal := u.pair.journal.filter (fun j => !old j), unreplayable := false } }

/-- A running primary answers a partner that is about to join (R366), which shows by its agreement records that it stands
still, with its own agreement record, its checkpoint and its journal (DESIGN CHOICE, log entry 26). -/
def State.feedJoiner (s : State) : State :=
  if s.running && !s.standby && !s.pair.peerRun && s.mirrorSends then
    let t := s.sendRecords [(2, s.agreeBody)]
    if t.pair.streamOut != [] then t
    else { t with pair := { t.pair with streamOut :=
        (match t.pair.ckptRaw with | some c => ckptRecords c | none => []) ++ chunkRecords 12 (Config.journalBytes t.pair.journal) } }
  else s

/-- An OVERLOAD record's entries of step `n` (R362, R364): they are journalled, and a standby that is away has them to
reproduce.  A step whose entries show that it is unreplayable, by one that landed more than 15 steps late or by a log that is
full, lets it take no checkpoint (R363; DEDUCED, log entry 55). -/
def State.takeOverload (s : State) (n : Nat) (es : List Overload) : State :=
  let js := es.map (JEntry.overload n)
  let t := js.foldl (fun s e => s.journalPut e) s
  let u := if s.on F.PAIR_STAT_PHASE then { t with pair := { t.pair with replay := t.pair.replay ++ js } } else t
  let logged := u.pair.journal.countP (fun j => match j with | .overload m _ => m == n | _ => false)
  if es.any (fun e => decide (15 < e.lateBy)) ∨ 4096 ≤ logged then { u with pair := { u.pair with unreplayable := true } } else u

/-- One record of a received block (R353). -/
def State.takeRecord (s : State) (r : Nat × List Byte) : State :=
  let b := r.2
  let n := byteField b 0 8
  match r.1 with
  | 1 =>
    let t := { s with pair := { s.pair with lastWinPeer := some (byteField b 8 8) } }
    t.beat (s.startOf (n / max 1 s.frameSteps * s.frameSteps))
  | 2 =>
    let first := if s.on F.CHIP_CTRL_CHECK_BUSY then (s.pair.agree.map (·.2)).getD s.grain else s.grain
    ({ s with pair := { s.pair with agree := some (b, first) } }).feedJoiner
  | 3 => s.takeAlign n ((List.range ((b.length - 8) / 4)).map (fun k => (byteField b (8 + 4 * k) 2, byteField b (10 + 4 * k) 2)))
  | 4 => if s.standby && s.on F.CSIRX_CTX_SEQ_ANCHOR (byteField b 0 2) && !s.on F.CSIRX_CTX_STAT_ANCHORED (byteField b 0 2)
      then s.takeAnchor (byteField b 0 2) (byteField b 4 4) else s
  | 5 => s.takeEdit n (b.drop 8)
  | 6 =>
    let ds := (List.range 8).map (fun e => BitVec.ofNat 64 (byteField b (8 + 8 * e) 8))
    let t := if s.standby then s.journalPut (.digest n ds) else s
    ({ t with pair := { t.pair with peerDigs := t.pair.peerDigs.filter (fun (x : Nat × List (BitVec 64)) => x.1 != n) ++ [(n, ds)] } }).compareAll
  | 7 =>
    let a : ApplyDig := ⟨n, byteField b 8 1, BitVec.ofNat 64 (byteField b 16 8)⟩
    let t := if s.standby then s.journalPut (.apply a) else s
    ({ t with pair := { t.pair with peerApplies := t.pair.peerApplies ++ [a] } }).compareAll
  | 8 => s.takeOverload n ((List.range ((b.length - 8) / 16)).map (fun k => overloadOfBytes ((b.drop (8 + 16 * k)).take 16)))
  | 9 => { s with pair := { s.pair with roleAt := some n } }
  | 10 => { s with pair := { s.pair with ckptIn := placeAt s.pair.ckptIn n (b.drop 8) } }
  | 11 => s.takeCkpt n (byteField b 8 8) (byteField b 16 4)
  | 12 => { s with pair := { s.pair with journalIn := placeAt s.pair.journalIn n (b.drop 8) } }
  | _ => s.inc F.PAIR_CNT1_BLK_ERR

/-- The records of a block; none where they overrun its length, leave bytes behind or break R352's layout (R352, R354, 11
R299). -/
def parseRecords (b : List Byte) : Nat → Nat → Option (List (Nat × List Byte))
  | pos, 0 => if pos = b.length then some [] else none
  | pos, n + 1 =>
    let len := byteField b (pos + 2) 2
    let fill := 4 * ceilDiv len 4 - len
    if pos + 4 + 4 * ceilDiv len 4 > b.length ∨ byteField b (pos + 1) 1 ≠ 0 ∨ byteField b (pos + 4 + len) fill ≠ 0 then none
    else (parseRecords b (pos + 4 + 4 * ceilDiv len 4) n).map (fun rs => (byteField b pos 1, (b.drop (pos + 4)).take len) :: rs)

/-- MIRROR_BLOCK_RECEIVE (R352, R354): a block of a received packet whose checks held at its port. -/
def State.blockIn (s : State) (b : List Byte) : State :=
  if !s.mirroring || !s.rxReady s.mirrorRx then s
  else if b.length < 16 then s.inc F.PAIR_CNT1_BLK_ERR
  else
    let seq := byteField b 8 4
    let gap := match s.pair.bseqRx with | some e => (seq + 2 ^ 32 - e) % 2 ^ 32 | none => 0
    let t := { s with pair := { s.pair with bseqRx := some ((seq + 1) % 2 ^ 32) } }
    let u := if gap < 2 ^ 31 then t.inc F.PAIR_CNT1_BLK_ERR gap else t
    match if 8 ≤ byteField b 14 1 ∨ byteField b 15 1 ≠ 0 then none else parseRecords b 16 (byteField b 12 2) with
    | none => u.inc F.PAIR_CNT1_BLK_ERR
    | some rs => rs.foldl (fun s r => s.takeRecord r)
        { u with pair := { u.pair with peerRun := bit (byteField b 14 1) 1 } }

/-- The register fields that a checkpoint holds (R363): group descriptors, the learning state, the context anchors, the
reference store, the encoder LFSR and ACT_ARM. -/
def ckptFields : List Fld :=
  Reg.fields .CORE_GRP_MODE ++ Reg.fields .CORE_GRP_LEVEL ++ Reg.fields .CORE_GRP_COEF ++ Reg.fields .CORE_GRP_CLAMP ++
    Reg.fields .CORE_GRP_OUT ++ Reg.fields .LRN_EPOCH ++ Reg.fields .TND_REFSTORE ++
    [F.LRN_SEED_STATE, F.LRN_REGION_STATE, F.TND_SEED_STATE, F.CSIRX_CTX_SEQ_SEQ_ORIGIN, F.CSIRX_CTX_STAT_ANCHORED,
      F.ACT_ARM_ARM, F.TIME_STEP_STEP, F.TIME_FRAME_FRAME]

/-- The memory that a checkpoint holds (R363): the loaded cores' SRAM but for Scratch, the queue descriptors, and the
rings whose sender or reader is a core, Tinder or Ash. -/
def State.ckptHolds (s : State) (a : Nat) : Bool :=
  if a < 0x40000000 then
    let n := a / 0x100000
    let w := a % 0x100000 / 8
    let b := s.rd F.CORE_PART_SCR_BASE n
    s.on F.CORE_STAT_LOADED n && !(decide (b ≤ w) && decide (w < b + s.rd F.CORE_PART_SCR_SIZE n))
  else
    let inner (x : Nat) : Bool := decide (x < 1024) || x == agTinder || x == agAsh
    (decide (s.rd F.DREY_DESC_BASE_ADDR ≤ a) && decide (a < s.rd F.DREY_DESC_BASE_ADDR + 0x200000)) ||
      s.boundQids.any (fun q => match s.descOf q with
        | some d => (inner d.sender || inner d.reader) && decide (d.ring ≤ a) && decide (a < d.ring + d.size)
        | none => false)

/-- A restore of a checkpoint (R363, R364). -/
def State.restore (s : State) (c : Ckpt) : State :=
  let inCkpt (k : Key) : Bool := ckptFields.any (fun f => f.reg.num == k.r && f.lo == k.lo)
  let keep : List (Key × Nat) := s.regs.filter (fun e => !inCkpt e.1)
  let regs := (c.regs.filter (fun e => inCkpt e.1)).foldl (fun m e => Sparse.put Key.lt m e.1 e.2) keep
  let mem := (c.mem.filter (fun e => s.ckptHolds e.1)).foldl (fun m e => Sparse.put natLt m e.1 e.2)
    (s.mem.filter (fun e => !s.ckptHolds e.1))
  let flips := (c.flips.filter (fun e => s.ckptHolds e.1)).foldl (fun m e => Sparse.put natLt m e.1 e.2)
    (s.flips.filter (fun e => !s.ckptHolds e.1))
  { s with
    regs := regs, mem := mem, flips := flips, cores := c.cores, drey := c.drey
    tinder := { c.tinder with inputs := c.tinder.inputs.filter (fun e => e.kind == 4), winOpen := false, meters := s.tinder.meters, meterDue := s.tinder.meterDue }
    ash := { s.ash with bank0 := c.ash.bank0, bank1 := c.ash.bank1, late0 := c.ash.late0, late1 := c.ash.late1, recs := [] }
    time := { s.time with winClosed := c.step }
    pair := { s.pair with
      kept := s.pair.kept.filter (fun k => decide (k.frame < c.frame)), digs := [], verified := true, lateSpikes := [] } }

/-- The copy of a checkpoint is complete (R363): it is held, sent, and the journal starts anew from it. -/
def State.ckptTaken (s : State) (c : Ckpt) : State :=
  let t := ((s.wr F.PAIR_STAT_CKPT_VALID 1).wr F.PAIR_CKPT_STEP_STEP c.step)
  let raw := (c.step, Config.ckptBytes c)
  { t with pair := { t.pair with
      ckpt := some c, ckptRaw := some raw, copying := none, ckptFrame := c.frame, verified := true, journalOld := []
      streamOut := t.pair.streamOut ++ ckptRecords raw
      journal := t.pair.journal.filter (fun j => match j with
        | .taken _ => true | .edit e => decide (c.step ≤ e.step + 2) | .digest _ _ => true
        | .apply a => decide (c.step ≤ a.step) | .overload n _ => decide (c.step ≤ n)) } }

/-- The entries that the replay of a restored checkpoint starts with (R364, R366): its own journal, or the partner's. -/
def State.replayFrom (s : State) (c : Nat) : State :=
  let js := if s.pair.joining then Config.journalOf s.pair.journalIn else s.pair.journal
  let live (j : JEntry) : Bool := match j with | .edit _ => false | .digest _ _ => false | .apply _ => false | _ => true
  let es := js.filterMap (fun j => match j with | .edit e => if c ≤ e.step + 2 then some e else none | _ => none)
  let t := if s.pair.joining then
      (es.filter Edit.setting).foldl (fun s e => s.capAt ⟨e.path, e.bytes⟩ (e.step + 2)) s
    else s
  { t with pair := { t.pair with
      replay := if s.pair.joining then js.filter live ++ s.pair.replay else js.filter live
      edits := es.filter (fun e => !e.setting) } }

/-- CHECKPOINT_COPY_DONE (R363, R364, R366): the catch-up replay starts with the checkpoint's step, at the next grain
edge.  A copy during which a digest proved to differ is no checkpoint, since not every frame before it is verified. -/
def State.copyDone (s : State) : State :=
  if s.time.phase != .away || s.rd F.PAIR_STAT_PHASE != 1 then s
  else
    let s1 := if s.pair.restoring then
        (match (if s.pair.joining then s.pair.ckpt else s.pair.copying) with
          | some c => (s.restore c).replayFrom c.step
          | none => s.replayFrom s.step)
      else if s.pair.resync then
        { s with pair := { s.pair with journal := s.pair.journalOld ++ s.pair.journal, journalOld := [] } }
      else match s.pair.copying with
        | some c => s.ckptTaken c
        | none => s
    let s2 := (s1.wr F.PAIR_STAT_PHASE 2).advance ((s.grain + 1) % 2 ^ 64)
    ({ s2 with pair := { s2.pair with copying := none } }).tick s2.step

/-- REPLAY_REJOIN (R364): every step before n − 1 is closed and every entry of step n − 1 encoded, at the opening of window
n. -/
def State.rejoin (s : State) : State :=
  let n := s.step + 1
  if s.rd F.PAIR_STAT_PHASE != 2 || s.time.phase != .opened || s.time.winClosed != n ||
    !s.tinder.closes.isEmpty || s.tinder.inputs.any (fun e => decide (e.step < n)) ||
    s.pair.replay.any (s.dueBy (n - 1)) ||
    reached s.grain (s.winStart (n + 1)) then s
  else
    let s1 := (s.advance (s.winStart n)).wr F.PAIR_STAT_PHASE 0
    let rest := s.pair.replay.filterMap s.replayInput
    let s2 := { s1 with
      tinder := { s1.tinder with inputs := s1.tinder.inputs ++ rest, winOpen := false }
      pair := { s1.pair with
        replay := [], digs := []
        journal := s1.pair.journal.filter (fun j => match j with | .taken e => decide (e.step < n) | _ => true) } }
    let s3 := if s.pair.aligned.contains (n - 1) then s2 else s2.setAligned (n - 1)
    let s4 := if s.pair.restoring then
        (let ready := if s.pair.resync then s.rd F.PAIR_STAT_ENG_READY else engineMask s.engines
         let t := (s3.wr F.PAIR_STAT_ENG_READY ready).inc F.PAIR_CNT0_RESYNCS
         { t with pair := { t.pair with restoring := false, joining := false } })
      else s3
    if s.rd F.PAIR_STAT_SB_STATE = 4 then s4.takeover else s4

/-- STEP_BLOCK_SEND. -/
def execStepBlockSend (s : State) : Host.Outcome State Fault Refusal := .next s.stepBlock

/-- FRAME_BLOCK_SEND. -/
def execFrameBlockSend (s : State) : Host.Outcome State Fault Refusal := .next s.frameBlock

/-- AGREE_BLOCK_SEND. -/
def execAgreeBlockSend (s : State) : Host.Outcome State Fault Refusal := .next s.agreeBlock

/-- BACKGROUND_BLOCK_SEND. -/
def execBackgroundBlockSend (s : State) : Host.Outcome State Fault Refusal := .next s.backgroundBlock

/-- MIRROR_BLOCK_RECEIVE. -/
def execMirrorBlockReceive (bytes : List Byte) (s : State) : Host.Outcome State Fault Refusal := .next (s.blockIn bytes)

/-- ALIGN_WAIT_EXPIRED. -/
def execAlignWaitExpired (s : State) : Host.Outcome State Fault Refusal := .next s.alignExpired

/-- HB_IN_CHANGE. -/
def execHbInChange (level : Bool) (s : State) : Host.Outcome State Fault Refusal := .next (s.hbChange level)

/-- HEARTBEAT_TIMEOUT. -/
def execHeartbeatTimeout (s : State) : Host.Outcome State Fault Refusal := .next s.hbTimeout

/-- PARTNER_LOST_TIMEOUT. -/
def execPartnerLostTimeout (s : State) : Host.Outcome State Fault Refusal := .next s.partnerLost

/-- FENCE_IN_RISE. -/
def execFenceInRise (s : State) : Host.Outcome State Fault Refusal := .next s.fenceRise

/-- CHECKPOINT_COPY_DONE. -/
def execCheckpointCopyDone (s : State) : Host.Outcome State Fault Refusal := .next s.copyDone

/-- REPLAY_REJOIN. -/
def execReplayRejoin (s : State) : Host.Outcome State Fault Refusal := .next s.rejoin

end Sys2Proof.Machine
end

