-- ==== Sys2Proof/Machine/Remote.lean ====
section
/-!
DEFINITION. Remote writes, reads and adds at every agent, the writes and reads that a core holds, the responses at their
requester, and the CTL actions (07_event_network.md R191 to R197, R218, 03_neuron_cores.md R97,
05_on_chip_learning.md R143, 06_encoders_decoders_and_actuation.md R174, 15_faults.md R413).
-/
namespace Sys2Proof.Machine

/-- Why a target refuses an RWR or an RRD (07 R191, R193), at a target whose window has `size` words. -/
def badRwr (k : Packet) : Bool :=
  k.data == [] || k.hi % 4 == 3 || (decide (k.hi % 4 ≠ 0) && decide (k.data.length ≠ 1))
def badRrd (k : Packet) : Bool := k.hi == 0 || k.data != []

/-- Words of an agent's window (01 R28, R29). -/
def windowWords (a : Nat) : Nat :=
  if isCoreAgent a then 131072 else if isEngineAgent a then 8192 else if a = agCollier then 2097152 else 65536

/-- Whether SRAM word `w` lies in a partition of core `n`. -/
def State.inPart (s : State) (n w : Nat) (base size : Fld) (k : Nat := 1) : Bool :=
  decide (s.rd base n ≤ w) && decide (w < s.rd base n + k * s.rd size n)

/-- Whether SRAM word `w` belongs to a plastic row or to the axon table (05 R143). -/
def State.plasticWord (s : State) (n w : Nat) : Bool :=
  let base := s.rd F.LRN_PLASTIC_PL_AXON_BASE n
  let axon0 := s.axonWord n 0
  (decide (axon0 ≤ w) && decide (w < axon0 + s.rd F.SYN_AXON_CFG_AXON_COUNT n)) ||
    (List.range (s.rd F.LRN_PLASTIC_PL_AXON_COUNT n)).any (fun j =>
      match s.sramPeek n (s.axonWord n (base + j)) with
      | some v =>
        let d := RowDesc.ofWord v
        d.usable && d.plastic && decide (s.rowWord n d 0 ≤ w) && decide (w < s.rowWord n d 0 + d.words)
      | none => false)

/-- Whether a write of SRAM word `w` waits for the end of core `n`'s update (03 R97), pass or apply (05 R143). -/
def State.holds (s : State) (n w : Nat) : Bool :=
  s.running && s.on F.CORE_STAT_UPD_BUSY n &&
    (s.inPart n w F.CORE_PART_STATE_BASE F.CORE_PART_STATE_SIZE || s.inPart n w F.CORE_PART_LAND_BASE F.CORE_PART_LAND_SIZE 2 ||
      s.inPart n w F.CORE_PART_SMD_BASE F.CORE_PART_SMD_SIZE ||
      ((s.on F.LRN_STAT_PASS_BUSY n || s.applying n) &&
        (s.inPart n w F.CORE_PART_LRN_BASE F.CORE_PART_LRN_SIZE || s.plasticWord n w)))

/-- Data words in the write hold buffer of 16 words (03 R97), the word of a MEM_WRITE that the core holds among them. -/
def State.heldWords (s : State) (n : Nat) : Nat :=
  min 16 (((s.core n).held.map (fun k => k.data.length)).sum + (s.cmd.memHeld.take 1).countP (fun x => x.1 == n))

/-- One word of an RWR at core `n`. -/
def State.storeWord (s : State) (n w : Nat) (v : Word) : State :=
  if w < 32768 then (s.sramWrite n w v).act (n / 128) 3 1
  else s.busWrite (n * 0x100000 + 8 * w) v.toNat true true s.grain

/-- A half write at core `n`; none where the word is uncorrectable (07 R193). -/
def State.storeHalf (s : State) (n w h : Nat) (v : Word) : Option State :=
  if w ≥ 32768 then some (s.busWrite (n * 0x100000 + 8 * w) v.toNat (h == 0) (h == 1) s.grain)
  else match s.sramRead n w with
    | (some x, t) => some ((t.sramWrite n w (setHalf x h (half v h))).act (n / 128) 3 2)
    | (none, _) => none

/-- An RWR performed at core `n` and answered. -/
def State.rwrDo (s : State) (n : Nat) (k : Packet) : State :=
  let w := k.arg.toNat
  match k.hi % 4 with
  | 0 => ((k.data.zipIdx).foldl (fun s x => s.storeWord n (w + x.2) x.1) s).sendAck n k
  | h => match s.storeHalf n w (h - 1) (k.data.getD 0 0) with
    | some t => t.sendAck n k
    | none => (s.sramRead n w).2.sendNack n k rsnDataError

/-- An RWR at a core: refused, held, or performed on arrival; it waits while the hold buffer is full. -/
def State.rwrCore (s : State) (n : Nat) (k : Packet) : State :=
  if !s.awake n then s
  else
    let t := s.taken n k
    if s.on F.CORE_STAT_FENCED n && !k.onCtl then s.refuseFenced n k
    else if badRwr k then t.sendNack n k rsnBadLength
    else if k.arg.toNat + k.data.length > windowWords n then t.sendNack n k rsnAddrError
    else if (List.range k.data.length).any (fun j => s.holds n (k.arg.toNat + j)) then
      (if s.heldWords n + k.data.length > 16 then s else t.onCore n (fun c => { c with held := c.held ++ [k] }))
    else t.rwrDo n k

/-- HELD_WRITE_APPLY (03 R97): a held write is applied and answered once nothing holds it any more. -/
def State.heldApply (s : State) (n : Nat) : State :=
  match (s.core n).held with
  | [] => s
  | k :: r =>
    if (List.range k.data.length).any (fun j => s.holds n (k.arg.toNat + j)) then s
    else (s.onCore n (fun c => { c with held := r })).rwrDo n k

/-- The words of an RRD at core `n`; none where one of them is uncorrectable (07 R191). -/
def State.readWords (s : State) (n w : Nat) : Nat → Option (List Word) × State
  | 0 => (some [], s)
  | m + 1 =>
    let r := if w < 32768 then s.sramRead n w else (some (BitVec.ofNat 64 (s.busWord (n * 0x100000 + 8 * w))), s)
    let t := if w < 32768 then r.2.act (n / 128) 3 1 else r.2
    match r.1, t.readWords n (w + 1) m with
    | some v, (some vs, u) => (some (v :: vs), u)
    | _, (_, u) => (none, u)

/-- An RRD performed at core `n` and answered. -/
def State.rrdDo (s : State) (n : Nat) (k : Packet) : State :=
  match s.readWords n k.arg.toNat k.hi with
  | (some ws, t) => t.sendData n k ws
  | (none, t) => t.sendNack n k rsnDataError

/-- Whether an RRD of Ash waits for the update of its step (06 R174). -/
def State.readHeld (s : State) (n : Nat) (k : Packet) : Bool :=
  k.src.toNat == agAsh && s.on F.CORE_STAT_UPD_BUSY n && k.tag.toNat == s.step % 64

/-- An RRD at a core. -/
def State.rrdCore (s : State) (n : Nat) (k : Packet) : State :=
  if !s.awake n then s
  else
    let t := s.taken n k
    if s.on F.CORE_STAT_FENCED n && !k.onCtl then s.refuseFenced n k
    else if badRrd k then t.sendNack n k rsnBadLength
    else if k.arg.toNat + k.hi > windowWords n then t.sendNack n k rsnAddrError
    else if s.readHeld n k then t.onCore n (fun c => { c with heldReads := c.heldReads ++ [k] })
    else t.rrdDo n k

/-- ASH_READ_SERVE (06 R174). -/
def State.readServe (s : State) (n : Nat) : State :=
  match (s.core n).heldReads with
  | [] => s
  | k :: r => if s.readHeld n k then s else (s.onCore n (fun c => { c with heldReads := r })).rrdDo n k

/-- Why an agent other than a core or a group refuses a request (01 R26, 07 R191). -/
def agentRefusal (a : Nat) (k : Packet) : Option Nat :=
  if k.src.toNat ≠ agCollier then some rsnNotPermitted
  else if (k.op = 2 ∧ badRwr k) ∨ (k.op = 3 ∧ badRrd k) ∨ (k.op = 4 ∧ k.data.length ≠ 1) then some rsnBadLength
  else if k.arg.toNat + (if k.op = 3 then k.hi else k.data.length) > windowWords a then some rsnAddrError
  else none

/-- The registers of agent `a` take an RWR, an RRD or an RADD. -/
def State.agentDo (s : State) (a : Nat) (k : Packet) (base : Nat) : State :=
  if k.op = 2 then
    ((if k.hi % 4 = 0 then (k.data.zipIdx).foldl (fun s x => s.busWrite (base + 8 * x.2) x.1.toNat true true s.grain) s
      else s.busWrite base (k.data.getD 0 0).toNat (k.hi % 4 == 1) (k.hi % 4 == 2) s.grain)).sendAck a k
  else if k.op = 3 then
    s.sendData a k ((List.range k.hi).map (fun j => BitVec.ofNat 64 (s.busWord (base + 8 * j))))
  else (s.addReg base (k.data.getD 0 0)).sendAck a k true

/-- A request for words at agent `a`: a core, a group agent's data or registers, or another agent's registers. -/
def State.remote (s : State) (a : Nat) (k : Packet) : State :=
  if isCoreAgent a then
    (if k.op = 2 then s.rwrCore a k else if k.op = 3 then s.rrdCore a k else s.raddCore a k)
  else if !s.agentOn a then s
  else if isGroupAgent a then
    (if agentBase a ≤ k.chipAddr ∧ k.chipAddr < agentBase a + 0x80000 then
      (let t := s.taken a k
       let body : Packet := { k with data := k.data.drop 1 }
       if k.src.toNat ≠ agCollier then t.sendNack a k rsnNotPermitted k.counted
       else if (k.op = 2 ∧ badRwr body) ∨ (k.op = 3 ∧ badRrd body) ∨ (k.op = 4 ∧ body.data.length ≠ 1) then
         t.sendNack a k rsnBadLength k.counted
       else if agentBase a + 0x80000 < k.chipAddr + 8 * (if k.op = 3 then k.hi else body.data.length) then
         t.sendNack a k rsnAddrError k.counted
       else t.agentDo a body k.chipAddr)
    else s.g6Accept (a - 0x1F11) k)
  else
    let t := s.taken a k
    match agentRefusal a k with
    | some r => t.sendNack a k r k.counted
    | none => t.agentDo a k (agentBase a + 8 * k.arg.toNat)

/-- The outstanding request that a response belongs to (07 R197). -/
def State.tidOf (s : State) (k : Packet) : Option Tid :=
  s.net.tids.find? (fun t => t.agent == k.dest.toNat && t.tid == k.tid)

/-- One response is counted against a request, which completes with its last one. -/
def State.tidTake (s : State) (t : Tid) : State :=
  { s with net := { s.net with tids := s.net.tids.flatMap (fun x =>
      if x = t then (if x.left ≤ 1 then [] else [{ x with left := x.left - 1 }]) else [x]) } }

/-- A logical core reports the DATA_ERROR of its own request (15 R413). -/
def State.dataErrorAt (s : State) (t : Tid) (k : Packet) : State :=
  if k.op = 10 ∧ k.arg.toNat = rsnDataError ∧ isCoreAgent t.agent then
    s.report (s.tileOf t.agent) (if isGroupAgent t.dest then 0x04 else 0x02) 3 (t.addr / 8)
  else s

/-- What a response does for what its request was for (06 R174, 15 R411). -/
def State.responded (s : State) (t : Tid) (k : Packet) : State :=
  match t.why with
  | .plain => s
  | .reaction slot => if k.op = 10 then s.reactFail slot else s
  | .ashRead dec frame base count stride =>
    if k.op = 9 then s.readData dec frame base count stride k.data else s.readFailed dec frame base count

/-- The landing token that a response returns with TOK = 1 (02 R52). -/
def State.tokTake (s : State) (k : Packet) : State :=
  if k.tok && k.op != 9 && countsInflight k.dest.toNat then s.subInflight k.dest.toNat k.tag.toNat 1 else s

/-- A response at its requester: counted, its token taken, or dropped (07 R197, 02 R52).  The router of a fenced core drops
it, its token returned, and its TID stays outstanding (R218; DESIGN CHOICE for the TID, log entry 45). -/
def State.response (s : State) (k : Packet) : State :=
  let a := k.dest.toNat
  match s.tidOf k with
  | none => (s.dropArrived a k).taken a k
  | some t =>
    if isCoreAgent a && s.on F.CORE_STAT_FENCED a then ((s.dropArrived a k).taken a k).tokTake k
    else ((((s.taken a k).tidTake t).tokTake k).dataErrorAt t k).responded t k

/-- The core that a CTL packet is for, where it is an action on a core and the packet may carry it (07 R194, R195). -/
def State.ctlOk (s : State) (k : Packet) (onCore : Bool) (words : Nat) : Bool :=
  let a := k.dest.toNat
  originatesCtl k.src.toNat && k.data.length == words && (if onCore then s.coreOn a else isEngineAgent a)

/-- A CTL packet is answered with ACK, or with NACK CTL_REFUSED. -/
def State.ctlDone (s : State) (k : Packet) (t : State) (ok : Bool) : State :=
  let a := k.dest.toNat
  if !s.agentOn a then s
  else if ok then (t.taken a k).sendAck a k else (s.taken a k).sendNack a k rsnCtlRefused

/-- PING (07 R195). -/
def State.ctlPing (s : State) (k : Packet) : State := s.ctlDone k s (originatesCtl k.src.toNat && k.data == [])

/-- FENCE (07 R195, R218): what the core has not yet taken is dropped or refused, counted on the port on which it came; of
a held write or read, whose port the core no longer has, on the local port (DESIGN CHOICE, log entry 46). -/
def State.fenceCore (s : State) (n : Nat) : State :=
  let c := s.core n
  let p := s.tileOf n
  let t := (s.wr F.CORE_STAT_FENCED 1 n).onCore n (fun c => { c with landing := [], denOut := [], held := [], heldReads := [] })
  let t1 := c.landing.foldl (fun s o => (s.dropAt p o.port o.vc).tokenFor p o.pkt) t
  let t2 := c.denOut.foldl (fun s o => (s.dropAt p o.port o.vc).subInflight n o.pkt.tag.toNat 1) t1
  (c.held ++ c.heldReads).foldl (fun s k =>
    if k.onCtl then s.rwrDo n k else (s.dropAt p 4 (k.vc2 false)).sendNack n k rsnFenced) t2
def State.ctlFence (s : State) (k : Packet) : State := s.ctlDone k (s.fenceCore k.dest.toNat) (s.ctlOk k true 0)

/-- UNFENCE (07 R195). -/
def State.ctlUnfence (s : State) (k : Packet) : State :=
  s.ctlDone k (s.wr F.CORE_STAT_FENCED 0 k.dest.toNat) (s.ctlOk k true 0)

/-- MAP_SET (07 R195). -/
def State.ctlMapSet (s : State) (k : Packet) : State :=
  s.ctlDone k (s.mapShadow (k.dest.toNat - 0x1F00) (k.arg.toNat % 1024) (wbits (k.data.getD 0 0) 10 0))
    (s.ctlOk k false 1)

/-- MAP_FLIP (07 R195): acknowledged after the flip, at the next step boundary. -/
def State.ctlMapFlip (s : State) (k : Packet) : State :=
  let a := k.dest.toNat
  if !s.agentOn a then s
  else if s.ctlOk k false 0 then
    let t := s.taken a k
    { t with net := { t.net with flips := t.net.flips ++ [(a - 0x1F00, k)] } }
  else (s.taken a k).sendNack a k rsnCtlRefused

/-- SEED (07 R195). -/
def State.ctlSeed (s : State) (k : Packet) : State :=
  s.ctlDone k (s.wr F.FOX_SEED_STATE (wbits (k.data.getD 0 0) 31 0) (s.tileOf k.dest.toNat)) (s.ctlOk k true 1)

/-- Whether a core is at rest: both in-flight counters zero and nothing staged for injection (07 R195). -/
def State.atRest (s : State) (n : Nat) : Bool :=
  s.rd F.CORE_INFLIGHT_IF_EVEN n == 0 && s.rd F.CORE_INFLIGHT_IF_ODD n == 0 &&
    !s.net.staging.any (fun e => e.agent == n) && !s.net.flights.any (fun f => f.agent == n && f.inStage != 0)

/-- DRAIN (07 R195): answered by CTL_DRAIN_DONE. -/
def State.ctlDrain (s : State) (k : Packet) : State :=
  let n := k.dest.toNat
  if !s.agentOn n then s
  else if s.ctlOk k true 0 then (s.taken n k).onCore n (fun c => { c with drain := c.drain ++ [k] })
  else (s.taken n k).sendNack n k rsnCtlRefused

/-- CTL_DRAIN_DONE (07 R195): every DRAIN that waits is answered. -/
def State.drainDone (s : State) (n : Nat) : State :=
  if (s.core n).drain = [] ∨ !s.atRest n then s
  else (s.core n).drain.foldl (fun s k => s.sendAck n k) (s.onCore n (fun c => { c with drain := [] }))

/-- A CTL with a reserved action (07 R194). -/
def State.ctlReserved (s : State) (k : Packet) : State := s.ctlDone k s false

/-- RWR_ARRIVE. -/
def execRwrArrive (agent : BitVec 13) (pkt : Packet) (s : State) : Host.Outcome State Fault Refusal :=
  .next (if pkt.op = 2 then s.remote agent.toNat pkt else s)

/-- RRD_ARRIVE. -/
def execRrdArrive (agent : BitVec 13) (pkt : Packet) (s : State) : Host.Outcome State Fault Refusal :=
  .next (if pkt.op = 3 then s.remote agent.toNat pkt else s)

/-- RADD_ARRIVE. -/
def execRaddArrive (agent : BitVec 13) (pkt : Packet) (s : State) : Host.Outcome State Fault Refusal :=
  .next (if pkt.op = 4 then s.remote agent.toNat pkt else s)

/-- Words of a MEM_WRITE are written in order, up to one that its core holds; the words left over. -/
def State.memHeldRun (s : State) : List (Nat × Nat × Word) → State × List (Nat × Nat × Word)
  | [] => (s, [])
  | x :: xs => if s.holds x.1 x.2.1 then (s, x :: xs) else (s.storeWord x.1 x.2.1 x.2.2).memHeldRun xs

/-- The word of a MEM_WRITE that core `n` holds no longer is written, and those that waited for it; the command is answered
once none is left (12 R329). -/
def State.memHeldApply (s : State) (n : Nat) : State :=
  match s.cmd.memHeld with
  | [] => s
  | x :: xs =>
    if x.1 ≠ n ∨ s.holds n x.2.1 then s
    else
      let r := s.memHeldRun (x :: xs)
      let u := { r.1 with cmd := { r.1.cmd with memHeld := r.2 } }
      if r.2 = [] then u.finish 0x0B 0 [] else u

/-- HELD_WRITE_APPLY: the packets that the core holds before a MEM_WRITE's words. -/
def execHeldWriteApply (core : Nat) (s : State) : Host.Outcome State Fault Refusal :=
  .next (if (s.core core).held = [] then s.memHeldApply core else s.heldApply core)

/-- ASH_READ_SERVE. -/
def execAshReadServe (core : Nat) (s : State) : Host.Outcome State Fault Refusal := .next (s.readServe core)

/-- ACK_ARRIVE. -/
def execAckArrive (pkt : Packet) (s : State) : Host.Outcome State Fault Refusal :=
  .next (if pkt.op = 8 then s.response pkt else s)

/-- DATA_ARRIVE. -/
def execDataArrive (pkt : Packet) (s : State) : Host.Outcome State Fault Refusal :=
  .next (if pkt.op = 9 then s.response pkt else s)

/-- NACK_ARRIVE. -/
def execNackArrive (pkt : Packet) (s : State) : Host.Outcome State Fault Refusal :=
  .next (if pkt.op = 10 then s.response pkt else s)

/-- CTL_PING. -/
def execCtlPing (pkt : Packet) (s : State) : Host.Outcome State Fault Refusal :=
  .next (if pkt.op = 15 ∧ pkt.hi = 0 then s.ctlPing pkt else s)

/-- CTL_FENCE. -/
def execCtlFence (pkt : Packet) (s : State) : Host.Outcome State Fault Refusal :=
  .next (if pkt.op = 15 ∧ pkt.hi = 1 then s.ctlFence pkt else s)

/-- CTL_UNFENCE. -/
def execCtlUnfence (pkt : Packet) (s : State) : Host.Outcome State Fault Refusal :=
  .next (if pkt.op = 15 ∧ pkt.hi = 2 then s.ctlUnfence pkt else s)

/-- CTL_MAP_SET. -/
def execCtlMapSet (pkt : Packet) (s : State) : Host.Outcome State Fault Refusal :=
  .next (if pkt.op = 15 ∧ pkt.hi = 3 then s.ctlMapSet pkt else s)

/-- CTL_MAP_FLIP. -/
def execCtlMapFlip (pkt : Packet) (s : State) : Host.Outcome State Fault Refusal :=
  .next (if pkt.op = 15 ∧ pkt.hi = 4 then s.ctlMapFlip pkt else s)

/-- CTL_SEED. -/
def execCtlSeed (pkt : Packet) (s : State) : Host.Outcome State Fault Refusal :=
  .next (if pkt.op = 15 ∧ pkt.hi = 5 then s.ctlSeed pkt else s)

/-- CTL_DRAIN. -/
def execCtlDrain (pkt : Packet) (s : State) : Host.Outcome State Fault Refusal :=
  .next (if pkt.op = 15 ∧ pkt.hi = 6 then s.ctlDrain pkt else s)

/-- CTL_DRAIN_DONE. -/
def execCtlDrainDone (core : Nat) (s : State) : Host.Outcome State Fault Refusal := .next (s.drainDone core)

/-- CTL_RESERVED_ACTION. -/
def execCtlReservedAction (pkt : Packet) (s : State) : Host.Outcome State Fault Refusal :=
  .next (if pkt.op = 15 ∧ 7 ≤ pkt.hi then s.ctlReserved pkt else s)

end Sys2Proof.Machine
end

