-- ==== Sys2Proof/Machine/Collier.lean ====
section
/-!
DEFINITION. The commands that Collier answers from its own registers, and its register and memory accesses
(12_command_interface.md R328 to R335), with the mirrored edits of 13_redundant_pair.md R357.
-/
namespace Sys2Proof.Machine

/-- HELLO (12 R331, R333). -/
def helloOp : Opcode :=
  { Opcode.plain 0x01 with
    plen := fun c => c.plen == 8
    zero := fun c => c.par 2 2 == 0
    refused := fun _ c => if c.par 0 1 = 1 then [] else [0x0B01] }

/-- The agreement of HELLO: the lower minor, and the features of both sides. -/
def State.hello (s : State) (c : HostCmd) : State × Result :=
  let minor := min (c.par 1 1) 0
  let feats := (c.par 4 4).land 0x3F
  let t := s.wr F.CMD_FEAT_FEATURES feats
  ({ t with cmd := { t.cmd with minor := minor } },
    .done 0 ([1, BitVec.ofNat 8 minor, 0, 0] ++ toBytes 4 feats ++ toBytes 4 0x3F))

/-- IDENT's data (12 R333). -/
def State.identData (s : State) : List Byte :=
  let v := match s.boot.fw with | some f => [toBytes 2 f.major, toBytes 2 f.minor, toBytes 4 f.build].flatten | none => toBytes 8 0
  toBytes 8 s.chipId ++ v ++ toBytes 4 Config.romVersion ++ [1, BitVec.ofNat 8 s.cmd.minor,
    BitVec.ofNat 8 (s.rd F.PAIR_STAT_ROLE), BitVec.ofNat 8 (min 8 s.boot.stage)] ++ toBytes 8 (s.busWord 0x0200007000) ++
    toBytes 8 s.fuse.serial.toNat

/-- Whether any of the words from `a` on, `n` bytes, has a property. -/
def anyWord (a n : Nat) (f : Nat → Bool) : Bool := (List.range (ceilDiv (a % 8 + n) 8)).any (fun k => f (a / 8 * 8 + 8 * k))

/-- Whether a word address lies in core SRAM, or in the GDDR6 region (R286). -/
def inSram (a : Nat) : Bool := decide (a < 0x40000000) && decide (a % 0x100000 < 0x40000)
def inG6 (a : Nat) : Bool := decide (g6Base ≤ a) && decide (a < 0x1200000000)

/-- Whether an address lies in the boot buffer (14 R379). -/
def inBootBuffer (a : Nat) : Bool := decide (0x0200800000 ≤ a) && decide (a < 0x0200A00000)

/-- The address conditions of REG_READ and REG_WRITE on `n` bytes (12 R328, R333). -/
def State.regAddress (s : State) (a n : Nat) : Option Nat :=
  if anyWord a n (fun w => !s.decoded w) then some 0x0E01
  else if a % 4 ≠ 0 then some 0x0E02
  else if anyWord a n (fun w => inSram w || inG6 w) then some 0x0E03
  else none

/-- The address conditions of MEM_READ and MEM_WRITE: while the ROM waits for a push, the boot buffer; afterwards core
SRAM and GDDR6 (12 R333, 14 R379). -/
def State.memAddress (s : State) (a n : Nat) : Option Nat :=
  if anyWord a n (fun w => !s.decoded w) then some 0x0E01
  else if a % 8 ≠ 0 then some 0x0E02
  else if anyWord a n (fun w => if s.boot.waiting then !inBootBuffer w else !(inSram w || inG6 w)) then some 0x0E03
  else none

/-- Whether an address lies in a mirrored target (13 R357). -/
def mirroredWord (a : Nat) : Bool :=
  decide (a < 0x40000000) || (decide (0x0301110000 ≤ a) && decide (a < 0x0301120000) && a % 16 == 8) ||
    (decide (0x0301190000 ≤ a) && decide (a < 0x0301191000) && a % 16 == 8) || a == 0x03011B0000

/-- Whether a write is a mirrored edit now (13 R357). -/
def State.isEdit (s : State) (c : HostCmd) : Bool :=
  s.mirroring && s.running && anyWord c.target c.plen mirroredWord

/-- Its refusal on a standby (13 R349). -/
def State.editRefusal (s : State) (c : HostCmd) : List Nat :=
  if s.isEdit c && s.standby then [0x0F08] else []

/-- A mirrored edit is put aside for its step and for the partner (13 R357). -/
def State.putEdit (s : State) (c : HostCmd) (stamp : Nat) : State :=
  let e : Edit := ⟨(max 0 (s.stepOf stamp)).toNat, c.bytes, c.path, true⟩
  let t := (s.inc F.PAIR_CNT1_EDITS).journalPut (.edit e)
  { t with pair := { t.pair with edits := t.pair.edits ++ [e], editsOut := t.pair.editsOut ++ [e] } }

/-- The host has read the source of an event, which is then no longer pending (R320): CHIP_CFG_REASON or BOOT_REPORT. -/
def State.sourceRead (s : State) (a : Nat) : State :=
  if a = 0x0200000014 then { s with cmd := { s.cmd with ibiCfg := false } }
  else if a / 8 * 8 = 0x0200007000 then { s with cmd := { s.cmd with ibiBoot := false } }
  else s

/-- REG_READ's bytes from address `a` on (R8, R330): a low half of a 64-bit register latches its high half, which the next
read of the high half returns, within the same command too, so that both halves are of one access. -/
def State.readRegs (s : State) (a : Nat) : Nat → List Byte × State
  | 0 => ([], s)
  | k + 1 =>
    let s0 := (s.wokenAt a).sourceRead a
    let w := s0.busWord (a / 8 * 8)
    let wide := match s0.place (a / 8 * 8) with | some p => p.reg.info.wide | none => false
    if a % 8 = 0 then
      let t := if wide then { s0 with cmd := { s0.cmd with readLatch := some (a + 4, w / 2 ^ 32) } } else s0
      let r := t.readRegs (a + 4) k
      (toBytes 4 w ++ r.1, r.2)
    else
      let v := match s0.cmd.readLatch with | some (b, x) => if b = a then x else w / 2 ^ 32 | none => w / 2 ^ 32
      let t := match s0.cmd.readLatch with
        | some (b, _) => if b = a then { s0 with cmd := { s0.cmd with readLatch := none } } else s0
        | none => s0
      let r := t.readRegs (a + 4) k
      (toBytes 4 v ++ r.1, r.2)

/-- One 4-byte write (R8, R330): of a 32-bit register, or of half of a 64-bit register, which is held until the other half
comes. -/
def State.writeReg4 (s : State) (a v stamp : Nat) : State :=
  let b := a / 8 * 8
  let high := decide (a % 8 = 4)
  match s.place b with
  | some p =>
    if !p.reg.info.wide then s.busWrite b (if high then v * 2 ^ 32 else v) (!high) high stamp
    else
      let rest := s.cmd.halves.filter (fun x => x.1 != b)
      match s.cmd.halves.find? (fun x => x.1 == b && x.2.1 != high) with
      | some x => ({ s with cmd := { s.cmd with halves := rest } }).busWrite b
          (if high then v * 2 ^ 32 + x.2.2 else x.2.2 * 2 ^ 32 + v) true true stamp
      | none => { s with cmd := { s.cmd with halves := rest ++ [(b, high, v)] } }
  | none => s.busWrite b (if high then v * 2 ^ 32 else v) (!high) high stamp

/-- REG_WRITE's data from address `a` on (R330). -/
def State.writeRegs (s : State) (a stamp : Nat) : List Nat → State
  | [] => s
  | [v] => (s.wokenAt a).writeReg4 a v stamp
  | v :: w :: rest =>
    let s0 := s.wokenAt a
    let wide := match s0.place a with | some p => p.reg.info.wide | none => false
    if a % 8 == 0 && wide then
      (({ s0 with cmd := { s0.cmd with halves := s0.cmd.halves.filter (fun x => x.1 != a) } }).busWrite a (w * 2 ^ 32 + v)
        true true stamp).writeRegs (a + 8) stamp rest
    else (s0.writeReg4 a v stamp).writeRegs (a + 4) stamp (w :: rest)

/-- The data of a write as 32-bit numbers. -/
def words32 (c : HostCmd) : List Nat := (List.range (c.plen / 4)).map (fun k => c.par (4 * k) 4)

/-- MEM_READ's words from address `a` on, or the reason of a refusal (R330). -/
def State.memRead (s : State) (a : Nat) : Nat → (List Byte ⊕ Nat) × State
  | 0 => (.inl [], s)
  | k + 1 =>
    let n := a / 0x100000
    let r : Option Word × State :=
      if inSram a then
        (if s.coreOn n then ((s.wokenAt a).act (n / 128) 3 1).sramRead n (a % 0x100000 / 8) else (some 0, s))
      else match s.g6Read a 1 with
        | (some [w], t) => (some w, t)
        | (_, t) => (none, t)
    match r.1 with
    | none => (.inr rsnDataError, r.2)
    | some w => match r.2.memRead (a + 8) k with
      | (.inl bs, t) => (.inl (toBytes 8 w.toNat ++ bs), t)
      | e => e

/-- One word of MEM_WRITE that no core holds; none where the target answers NACK (R330). -/
def State.memWrite1 (s : State) (a : Nat) (v : Word) : Option State :=
  let n := a / 0x100000
  let w := a % 0x100000 / 8
  if inBootBuffer a then some (s.setWord a v)
  else if inSram a then some (if s.coreOn n then (s.wokenAt a).storeWord n w v else s)
  else if s.g6Failed (s.g6Group a) then none
  else some (s.g6Write a [v])

/-- Whether the word at address `a` belongs to a core that holds a write of it (03 R97, 05 R143). -/
def State.heldAt (s : State) (a : Nat) : Bool :=
  inSram a && s.coreOn (a / 0x100000) && s.holds (a / 0x100000) (a % 0x100000 / 8)

/-- MEM_WRITE's words from address `a` on, and whether every one was taken: Collier has one request outstanding at a target
(07 R197), so a word that its core holds keeps the words after it waiting. -/
def State.memWrite (s : State) (a : Nat) : List Word → State × Bool
  | [] => (s, true)
  | v :: vs =>
    if (s.wokenAt a).heldAt a then
      let t := s.wokenAt a
      let ws := (v :: vs).zipIdx.map (fun x => (a / 0x100000, a % 0x100000 / 8 + x.2, x.1))
      ({ t with cmd := { t.cmd with memHeld := t.cmd.memHeld ++ ws } }, true)
    else match s.memWrite1 a v with
      | none => (s, false)
      | some t => t.memWrite (a + 8) vs

/-- The effect of a MEM_WRITE: answered once no word is held. -/
def State.memWriteCmd (s : State) (c : HostCmd) : State × Result :=
  let y := s.memWrite c.target (wordsOf c.params)
  if !y.2 then (y.1, .done 0x0E04 (toBytes 2 rsnDataError))
  else if y.1.cmd.memHeld = [] then (y.1, .done 0 [])
  else (y.1, .later 0)

/-- The length parameter of a read. -/
def lenOk (unit n : Nat) : Bool := decide (unit ≤ n) && decide (n ≤ 232) && n % unit == 0

def identOp : Opcode := Opcode.plain 0x02
def regReadOp : Opcode :=
  { Opcode.plain 0x08 with
    plen := fun c => c.plen == 4
    target := true
    range := fun _ c => lenOk 4 (c.par 0 2)
    zero := fun c => c.par 2 2 == 0
    address := fun s c => s.regAddress c.target (c.par 0 2) }
def regWriteOp : Opcode :=
  { Opcode.plain 0x09 with
    plen := fun c => lenOk 4 c.plen
    target := true
    address := fun s c => s.regAddress c.target c.plen
    refused := fun s c => s.editRefusal c }
def memReadOp : Opcode :=
  { Opcode.plain 0x0A with
    plen := fun c => c.plen == 4
    target := true
    range := fun _ c => lenOk 8 (c.par 0 2)
    zero := fun c => c.par 2 2 == 0
    address := fun s c => s.memAddress c.target (c.par 0 2) }
def memWriteOp : Opcode :=
  { Opcode.plain 0x0B with
    plen := fun c => lenOk 8 c.plen
    target := true
    address := fun s c => s.memAddress c.target c.plen
    refused := fun s c => s.editRefusal c }

/-- EDIT_APPLY (13 R357): the first mirrored edit whose input window, that of step n + 2, is the open one is performed as an
input stamped at the window's first grain, once no earlier write waits at a core (R329); the member that owes the reply sends
it. -/
def State.editApply (s : State) : State :=
  match (if s.cmd.memHeld = [] then s.pair.edits.find? (fun e => decide (e.step + 2 ≤ s.time.winClosed)) else none) with
  | none => s
  | some e =>
    let c : HostCmd := ⟨e.path, e.bytes⟩
    let t := { s with pair := { s.pair with edits := dropFirst (fun x => x == e) s.pair.edits } }
    let y : State × Result :=
      if c.op = 0x09 then (t.writeRegs c.target (s.winStart (e.step + 2)) (words32 c), .done 0 [])
      else if c.op = 0x0B then t.memWriteCmd c
      else (t, .done 0 [])
    match y.2 with
    | .later _ =>
      if e.mine then { y.1 with cmd := { y.1.cmd with
        deferred := y.1.cmd.deferred ++ [Deferred.mk c.op c.word0 c.ackReq c.path 0] } } else y.1
    | .done r d => if e.mine then y.1.answer c r d else y.1
    | .edit => y.1

/-- TELEMETRY's data (12 R335). -/
def State.telemetry (s : State) (set : Nat) : List Byte :=
  if set = 0 then
    toBytes 8 s.grain ++ toBytes 8 s.step ++ toBytes 4 s.kiln.pm ++ toBytes 4 s.kiln.pe ++
      toBytes 2 (s.rd F.KILN_THERM_HOT_TEMP) ++ toBytes 2 0 ++ toBytes 4 (s.rd F.TIME_OVERRUN_CNT_CNT) ++
      toBytes 4 (s.rd F.TIME_FORCED_CNT_CNT)
  else (List.range 8).flatMap (fun e =>
    if !s.engineOn e then toBytes 8 0
    else
      let tiles := (tilesOf e).filter (fun p => (s.coreAt p).isSome || (s.freeSpares e).contains p)
      toBytes 2 (s.rd F.KILN_ENG_POWER_MEAS 0 e) ++ toBytes 2 (s.rd F.KILN_ENG_POWER_EST 0 e) ++
        toBytes 2 (uns 16 (s.engineTemp e)) ++ toBytes 1 ((tiles.map s.liveBin).foldl min 8) ++
        toBytes 1 (1 + 2 * b2n (s.boosted e)))

/-- TELEMETRY (12 R333, R335). -/
def telemetryOp : Opcode :=
  { Opcode.plain 0x3F with
    plen := fun c => c.plen == 4
    range := fun _ c => decide (c.par 0 1 ≤ 1)
    zero := fun c => c.par 1 3 == 0 }

/-- The opcodes of the table (12 R333). -/
def opcodes : List Nat := [0x01, 0x02, 0x03, 0x08, 0x09, 0x0A, 0x0B, 0x10, 0x11, 0x12, 0x18, 0x19, 0x1A, 0x1B, 0x1C, 0x20, 0x21,
  0x22, 0x28, 0x29, 0x2A, 0x30, 0x31, 0x38, 0x39, 0x3A, 0x3C, 0x3D, 0x3F]

/-- A vendor diagnostic opcode (12 R332). -/
def diagnosticOp (c : HostCmd) : Bool := decide (0x80 ≤ c.op) && decide (c.op < 0xC0)

/-- A reserved opcode is answered ERROR 0x0D02, once its CRC checks (12 R328, R332). -/
def State.reservedOpcode (s : State) (c : HostCmd) : State :=
  if opcodes.contains c.op || diagnosticOp c then s
  else match s.takeCmd c with
    | none => s
    | some (_, _, t) =>
      let u := t.inc F.CMD_CNT_CMDS
      if c.crcOk then u.answer c 0x0D02 [] else (u.inc F.CMD_CNT_CRC_ERR).answer c 0x0D01 []

/-- A vendor diagnostic opcode as an opcode: refused by 0x0A10 while debug scope 2 is closed (12 R332, 17 R459). -/
def vendorOp (c : HostCmd) : Opcode :=
  { Opcode.plain c.op with
    plen := fun _ => true
    target := true
    refused := fun s _ => if s.rd F.SEC_STAT_DBG_SCOPE = 2 then [] else [0x0A10] }

/-- HELLO. -/
def execHello (cmd : HostCmd) (s : State) : Host.Outcome State Fault Refusal :=
  .next (s.serve helloOp cmd (fun _ _ t => t.hello cmd))

/-- IDENT. -/
def execIdent (cmd : HostCmd) (s : State) : Host.Outcome State Fault Refusal :=
  .next (s.serve identOp cmd (fun _ _ t => (t, .done 0 t.identData)))

/-- REG_READ. -/
def execRegRead (cmd : HostCmd) (s : State) : Host.Outcome State Fault Refusal :=
  .next (s.serve regReadOp cmd (fun _ _ t =>
    let r := t.readRegs cmd.target (cmd.par 0 2 / 4)
    (r.2, .done 0 r.1)))

/-- REG_WRITE. -/
def execRegWrite (cmd : HostCmd) (s : State) : Host.Outcome State Fault Refusal :=
  .next (s.serve regWriteOp cmd (fun stamp _ t =>
    if t.isEdit cmd then (t.putEdit cmd stamp, .edit)
    else (t.writeRegs cmd.target stamp (words32 cmd), .done 0 [])))

/-- MEM_READ. -/
def execMemRead (cmd : HostCmd) (s : State) : Host.Outcome State Fault Refusal :=
  .next (s.serve memReadOp cmd (fun _ _ t =>
    match t.memRead cmd.target (cmd.par 0 2 / 8) with
    | (.inl bs, u) => (u, .done 0 bs)
    | (.inr r, u) => (u, .done 0x0E04 (toBytes 2 r))))

/-- MEM_WRITE. -/
def execMemWrite (cmd : HostCmd) (s : State) : Host.Outcome State Fault Refusal :=
  .next (s.serve memWriteOp cmd (fun stamp _ t =>
    if t.isEdit cmd then (t.putEdit cmd stamp, .edit) else t.memWriteCmd cmd))

/-- EDIT_APPLY. -/
def execEditApply (s : State) : Host.Outcome State Fault Refusal := .next s.editApply

/-- TELEMETRY. -/
def execTelemetry (cmd : HostCmd) (s : State) : Host.Outcome State Fault Refusal :=
  .next (s.serve telemetryOp cmd (fun _ _ t => (t, .done 0 (t.telemetry (cmd.par 0 1)))))

/-- DRULUM_RESERVED_OPCODE. -/
def execDrulumReservedOpcode (cmd : HostCmd) (s : State) : Host.Outcome State Fault Refusal := .next (s.reservedOpcode cmd)

/-- DIAGNOSTIC_OPCODE: refused while locked; with debug scope 2 open its effect is the vendor's own (12 R332). -/
def execDiagnosticOpcode (cmd : HostCmd) (s : State) : Host.Outcome State Fault Refusal :=
  if !diagnosticOp cmd then .next s
  else match s.takeCmd cmd with
    | none => .next s
    | some (_, _, t) =>
      match (vendorOp cmd).reason (t.inc F.CMD_CNT_CMDS) cmd with
      | some _ => .next (s.serve (vendorOp cmd) cmd (fun _ _ t => (t, .done 0 [])))
      | none => .fault .vendorDiagnostic

end Sys2Proof.Machine
end

