-- ==== Sys2Proof/Machine/I3c.lean ====
section
/-!
DEFINITION. The I3C target: private writes and reads, HDR-DDR, common commands and in-band interrupts
(12_command_interface.md R317 to R324).
-/
namespace Sys2Proof.Machine

/-- The target answers on the bus: the device is out of reset. -/
def State.onBus (s : State) : Bool := s.boot.up

/-- The target sees SDR traffic: it has not entered HDR-DDR (R319, R322). -/
def State.sdr (s : State) : Bool := s.onBus && !s.cmd.hdr

/-- The target is addressed at its dynamic address. -/
def State.addressed (s : State) : Bool := s.onBus && s.on F.I3C_STAT_DA_VALID

/-- What the target drives on the bus. -/
def State.busDrive (s : State) (bs : List Byte) : State := { s with cmd := { s.cmd with busOut := bs } }

/-- A command write is complete: stamped, and put into the command FIFO; a QUENCH fires the tree even where the FIFO is full
(R322, R344).  In DEEP it starts the wake, and its stamp is given when it is taken (16 R438, R440). -/
def State.writeDone (s : State) (hdr : Bool) (b : List Byte) : State :=
  let c : HostCmd := ⟨if hdr then .i3cHdr else .i3cSdr, b⟩
  let deep := s.rd F.KILN_STAT_STATE == 3
  let s0 := if deep then { s with kiln := { s.kiln with waking2Run := true } } else s
  if b.length < 20 then s0.inc F.I3C_CNT_RUNT
  else
    let s1 := s0.quenchArrives c
    if s.cmd.fifo.length ≥ 4 then s1.inc F.I3C_CNT_FULL_DROP
    else { s1 with cmd := { s1.cmd with fifo := s1.cmd.fifo ++ [QCmd.mk s.grain c deep] } }

/-- I3C_PRIVATE_WRITE (R322): an SDR write completes at its STOP, an HDR-DDR write at the HDR exit; an HDR-DDR transfer
without the feature is ignored (R331).  A parity or framing
error is counted and shown by GETSTATUS; the write is then left to its CRC (DEDUCED, log entry 28). -/
def State.privateWrite (s : State) (b : List Byte) (hdr parityOk : Bool) : State :=
  if !s.addressed || hdr != s.cmd.hdr || (hdr && !s.agreed 1) then s
  else
    let t := if parityOk then s
      else { s.inc F.I3C_CNT_PAR_ERR with cmd := { (s.inc F.I3C_CNT_PAR_ERR).cmd with protoErr := true } }
    if hdr then { t with cmd := { t.cmd with hdrWrites := t.cmd.hdrWrites ++ [b] } } else t.writeDone false b

/-- HDR_EXIT (R322). -/
def State.hdrEnd (s : State) : State :=
  if !s.onBus || !s.cmd.hdr then s
  else s.cmd.hdrWrites.foldl (fun s b => s.writeDone true b) { s with cmd := { s.cmd with hdr := false, hdrWrites := [] } }

/-- I3C_PRIVATE_READ (R323): the oldest reply goes out, and leaves the FIFO when it has been read whole; an IBI that was
still to be raised for it is not. -/
def State.privateRead (s : State) (hdr whole : Bool) : State :=
  if !s.addressed || hdr != s.cmd.hdr || (hdr && !s.agreed 1) then s
  else match s.cmd.replies with
    | [] => s.busDrive []
    | r :: rest =>
      let t := s.busDrive r
      if whole then { t with cmd := CmdSt.place { t.cmd with replies := rest, ibiReply := min t.cmd.ibiReply rest.length } } else t

/-- Whether events may be raised as IBIs (R324). -/
def State.mayRaise (s : State) : Bool := s.addressed && s.on F.I3C_STAT_IBI_EN

/-- Events pending while none could be raised: one IBI for each kind once they can (R324). -/
def State.oneEach (s t : State) : State :=
  if t.mayRaise && !s.mayRaise then { t with cmd := { t.cmd with ibiReply := min 1 t.cmd.ibiReply } } else t

/-- The event that is raised next, as its data byte (R324). -/
def CmdSt.event (c : CmdSt) : Option Byte :=
  if c.ibiFault then some 0xA1 else if c.ibiCfg then some 0xA3 else if c.ibiBoot then some 0xA2
  else if 0 < c.ibiReply then some 0xA0 else none

/-- An event has been acknowledged. -/
def CmdSt.noted (c : CmdSt) : CmdSt :=
  if c.ibiFault then { c with ibiFault := false } else if c.ibiCfg then { c with ibiCfg := false }
  else if c.ibiBoot then { c with ibiBoot := false } else { c with ibiReply := c.ibiReply - 1 }

/-- IBI_RAISE (R324). -/
def State.raiseIbi (s : State) (acked : Bool) : State :=
  if !s.mayRaise || s.cmd.hdr then s
  else match s.cmd.event with
    | none => s
    | some b =>
      let t := s.busDrive [b]
      if acked then { t with cmd := t.cmd.noted } else t.inc F.I3C_CNT_IBI_NACK

/-- The dynamic address is assigned, or cleared (R319). -/
def State.assign (s : State) (a : Nat) : State := s.oneEach ((s.wr F.I3C_STAT_DA_VALID 1).wr F.I3C_STAT_DYN_ADDR a)
def State.unassign (s : State) : State := (s.wr F.I3C_STAT_DA_VALID 0).wr F.I3C_STAT_DYN_ADDR 0

/-- The provisional ID (R318). -/
def State.pid (s : State) : Nat :=
  0x6A5 * 2 ^ 33 + 0x4A08 * 2 ^ 16 + b2n s.pins.roleStrap * 2 ^ 12 + s.fuse.dieRev % 2 ^ 12

/-- GETSTATUS's 16 bits (R320). -/
def State.busStatus (s : State) : Nat :=
  b2n s.cmd.ibiCfg * 2 ^ 11 + b2n s.cmd.ibiBoot * 2 ^ 10 + b2n s.cmd.ibiFault * 2 ^ 9 + b2n s.cmd.protoErr * 2 ^ 5 +
    s.cmd.replies.length % 16

/-- A direct common command that reads: it is answered at the dynamic address, least significant byte first (00 R3). -/
def State.getCcc (s : State) (bs : List Byte) : State := if s.sdr && s.addressed then s.busDrive bs else s

/-- The reset of the I3C target (R321): replies that waited for an entry of its reply FIFO find one. -/
def State.targetReset (s : State) : State :=
  let t := ((s.unassign).wr F.I3C_LEN_MRL 0x100).wr F.I3C_LEN_MWL 0x100
  { t with cmd := CmdSt.place { t.cmd with fifo := [], replies := [], ibiReply := 0 } }

/-- I3C_PRIVATE_WRITE. -/
def execI3cPrivateWrite (bytes : List Byte) (hdr parityOk : Bool) (s : State) : Host.Outcome State Fault Refusal :=
  .next (s.privateWrite bytes hdr parityOk)

/-- HDR_EXIT. -/
def execHdrExit (s : State) : Host.Outcome State Fault Refusal := .next s.hdrEnd

/-- I3C_PRIVATE_READ. -/
def execI3cPrivateRead (hdr whole : Bool) (s : State) : Host.Outcome State Fault Refusal := .next (s.privateRead hdr whole)

/-- IBI_RAISE. -/
def execIbiRaise (acked : Bool) (s : State) : Host.Outcome State Fault Refusal := .next (s.raiseIbi acked)

/-- ENEC (R319). -/
def execEnec (enint : Bool) (s : State) : Host.Outcome State Fault Refusal :=
  .next (if s.sdr && enint then s.oneEach (s.wr F.I3C_STAT_IBI_EN 1) else s)

/-- DISEC (R319). -/
def execDisec (disint : Bool) (s : State) : Host.Outcome State Fault Refusal :=
  .next (if s.sdr && disint then s.wr F.I3C_STAT_IBI_EN 0 else s)

/-- RSTDAA (R319). -/
def execRstdaa (s : State) : Host.Outcome State Fault Refusal := .next (if s.sdr then s.unassign else s)

/-- ENTDAA (R318, R319): the device offers its PID, BCR and DCR, and takes the address where it wins. -/
def execEntdaa (addr : BitVec 7) (won : Bool) (s : State) : Host.Outcome State Fault Refusal :=
  .next (if s.sdr then
    let t := s.busDrive (toBytes 6 s.pid ++ [0x27, 0x00])
    if won then t.assign addr.toNat else t
  else s)

/-- SETMWL (R319). -/
def execSetmwl (len : BitVec 16) (s : State) : Host.Outcome State Fault Refusal :=
  .next (if s.sdr && decide (20 ≤ len.toNat) && decide (len.toNat ≤ 256) then s.wr F.I3C_LEN_MWL len.toNat else s)

/-- SETMRL (R319). -/
def execSetmrl (len : BitVec 16) (ibiSize : Byte) (s : State) : Host.Outcome State Fault Refusal :=
  .next (if s.sdr && decide (12 ≤ len.toNat) && decide (len.toNat ≤ 256) && ibiSize == 1 then s.wr F.I3C_LEN_MRL len.toNat
    else s)

/-- ENTHDR0 (R319). -/
def execEnthdr0 (s : State) : Host.Outcome State Fault Refusal :=
  .next (if s.sdr then { s with cmd := { s.cmd with hdr := true } } else s)

/-- RSTACT (R321): other defining bytes are NACKed. -/
def execRstact (defining : Byte) (s : State) : Host.Outcome State Fault Refusal :=
  .next (if s.sdr && decide (defining.toNat ≤ 2) then { s with cmd := { s.cmd with rstact := defining.toNat } } else s)

/-- SETDASA at 0x4E (R319). -/
def execSetdasa (addr : BitVec 7) (s : State) : Host.Outcome State Fault Refusal :=
  .next (if s.sdr then s.assign addr.toNat else s)

/-- GETMWL (R319). -/
def execGetmwl (s : State) : Host.Outcome State Fault Refusal := .next (s.getCcc (toBytes 2 (s.rd F.I3C_LEN_MWL)))

/-- GETMRL (R319). -/
def execGetmrl (s : State) : Host.Outcome State Fault Refusal := .next (s.getCcc (toBytes 2 (s.rd F.I3C_LEN_MRL) ++ [1]))

/-- GETPID (R318). -/
def execGetpid (s : State) : Host.Outcome State Fault Refusal := .next (s.getCcc (toBytes 6 s.pid))

/-- GETBCR (R318, R319). -/
def execGetbcr (s : State) : Host.Outcome State Fault Refusal := .next (s.getCcc [0x27])

/-- GETDCR (R318, R319). -/
def execGetdcr (s : State) : Host.Outcome State Fault Refusal := .next (s.getCcc [0x00])

/-- GETSTATUS (R320): bit 5 clears. -/
def execGetstatus (s : State) : Host.Outcome State Fault Refusal :=
  let t := s.getCcc (toBytes 2 s.busStatus)
  .next (if s.sdr && s.addressed then { t with cmd := { t.cmd with protoErr := false } } else t)

/-- GETMXDS (R319). -/
def execGetmxds (s : State) : Host.Outcome State Fault Refusal := .next (s.getCcc [0x00, 0x00])

/-- CCC_UNSUPPORTED (R319): a direct command is NACKed, so nothing goes out; a broadcast one is ignored. -/
def execCccUnsupported (code : Byte) (s : State) : Host.Outcome State Fault Refusal :=
  .next (if s.sdr && code.getLsbD 7 then s.busDrive [] else s)

end Sys2Proof.Machine
end

