-- ==== Sys2Proof/Machine/Snap.lean ====
section
/-!
DEFINITION. LEARN_CTRL and SNAPSHOT: when an action or a capture takes effect, the snapshot buffer, and the end of a copy
(05_on_chip_learning.md R147 to R150, 12_command_interface.md R333, R334).
-/
namespace Sys2Proof.Machine

/-- The first boundary of region `r` that begins step `n` or a later one (05 R124). -/
def State.firstBoundary (s : State) (r n : Nat) : Nat :=
  let e := max 1 (s.rd F.LRN_REGION_EPOCH_STEPS 0 r)
  let m := max 1 n
  m + (((s.rd F.LRN_REGION_PHASE 0 r : Int) - m) % e).toNat

/-- The boundary at which a command on region `r` takes effect, by its stamp; none where it does so at once (05 R147). -/
def State.actionStep (s : State) (r stamp : Nat) : Option Nat :=
  if !s.running || !s.on F.LRN_REGION_EPOCH_STEPS 0 r then none
  else
    let m := (max 0 (s.stepOf stamp + 2)).toNat
    some (s.firstBoundary r (if s.time.phase = .armed then m else max m (s.step + 1)))

/-- LEARN_CTRL as an opcode (12 R333, 05 R147). -/
def learnOp : Opcode :=
  { Opcode.plain 0x30 with
    plen := fun c => c.plen == 4
    range := fun _ c => decide (c.par 0 1 ≤ 7) && decide (c.par 1 1 ≤ 3)
    zero := fun c => c.par 2 2 == 0
    feature := some 4 }

/-- A learning action is performed at once, or at its boundary (05 R147). -/
def State.learnCtrl (s : State) (r action stamp : Nat) : State × Result :=
  match s.actionStep r stamp with
  | none => (s.learnAction r action, .done 0 (toBytes 8 (2 ^ 64 - 1)))
  | some n => ({ s with learn := { s.learn with acts := s.learn.acts ++ [LearnAct.mk r action n] } }, .done 0 (toBytes 8 n))

/-- LEARN_CTRL with the row's action; a reserved code is answered alike by each. -/
def State.learnRow (s : State) (c : HostCmd) (action : Nat) : State :=
  if c.par 1 1 ≠ action ∧ c.par 1 1 ≤ 3 then s
  else s.serve learnOp c (fun stamp _ t => t.learnCtrl (c.par 0 1) action stamp)

/-- The ranges of SNAPSHOT (12 R334): logical core, first word, number of words. -/
def snapRanges (c : HostCmd) : List (Nat × Nat × Nat) :=
  (List.range (c.par 1 1)).map (fun i => (c.par (16 + 6 * i) 2, c.par (18 + 6 * i) 2, c.par (20 + 6 * i) 2))

/-- Bytes of a snapshot buffer after its header (05 R150). -/
def rangesLen (rs : List (Nat × Nat × Nat)) : Nat := (rs.map (fun r => 8 + 8 * r.2.2)).sum

/-- Whether a range lies in its core's Synapse partition (05 R149). -/
def State.rangeOk (s : State) (r : Nat × Nat × Nat) : Bool :=
  s.coreOn r.1 && decide (s.rd F.CORE_PART_SYN_BASE r.1 ≤ r.2.1) &&
    decide (r.2.1 + r.2.2 ≤ s.rd F.CORE_PART_SYN_BASE r.1 + s.rd F.CORE_PART_SYN_SIZE r.1)

/-- SNAPSHOT as an opcode (12 R328, R333, R334). -/
def snapshotOp : Opcode :=
  { Opcode.plain 0x31 with
    plen := fun c => decide (16 ≤ c.plen) &&
      (c.plen == 4 * ceilDiv (16 + 6 * c.par 1 1) 4 || !(decide (1 ≤ c.par 1 1) && decide (c.par 1 1 ≤ 32)))
    range := fun _ c => decide (c.par 0 1 ≤ 7) && decide (1 ≤ c.par 1 1) && decide (c.par 1 1 ≤ 32) &&
      decide (1 ≤ c.par 2 2) && decide (c.par 2 2 ≤ 1023) && decide (14 ≤ c.par 4 2) && decide (c.par 4 2 ≤ 4096) &&
      (snapRanges c).all (fun r => decide (1 ≤ r.2.2) && decide (r.2.2 ≤ 32768))
    zero := fun c => !bit (c.par 6 1) 6 && c.par 7 1 == 0 && byteField c.params (16 + 6 * c.par 1 1) 4 == 0
    feature := some 4
    deferred := true
    address := fun s c =>
      match s.bufferReason (c.par 8 8) (64 + rangesLen (snapRanges c)) 4096 with
      | some r => some r
      | none => if (snapRanges c).all s.rangeOk then none else some 0x0E05 }

/-- SNAPSHOT is taken: its capture comes at once, or at its boundary (05 R149). -/
def State.snapshot (s : State) (c : HostCmd) (stamp : Nat) : State × Result :=
  let r := c.par 0 1
  let x : Snap := ⟨r, c.par 2 2, c.par 4 2, c.par 6 1, c.par 8 8, snapRanges c, 2 ^ 64 - 1, 0, false, none⟩
  let t := ((s.wr F.LRN_SNAP_STAT_BUSY 1).wr F.LRN_SNAP_STAT_REGION r).wr F.LRN_SNAP_STAT_WORDS 0
  match s.actionStep r stamp with
  | none => (t.capture x (2 ^ 64 - 1), .later 0)
  | some n => ({ t with learn := { t.learn with snap := some { x with capture := n } } }, .later 0)

/-- The snapshot buffer's header (05 R150). -/
def snapHeader (x : Snap) (whole : Bool) (words crc : Nat) : List Byte :=
  toBytes 2 1 ++ toBytes 1 x.region ++ toBytes 1 (b2n whole) ++ toBytes 2 x.ranges.length ++ toBytes 2 0 ++ toBytes 8 x.capture ++
    toBytes 8 x.epoch ++ toBytes 4 words ++ toBytes 4 crc ++ toBytes 32 0

/-- The load blocks of one range's copied words (11_csi2_ports.md R306): source address, and address in the buffer. -/
def rangeBlocks (r : Nat × Nat × Nat) (a k : Nat) : List (Nat × Nat × Nat) :=
  (List.range (ceilDiv k 8188)).map (fun j => (sramAddr r.1 (r.2.1 + 8188 * j), a + 8 + 8 * 8188 * j, min 8188 (k - 8188 * j)))

/-- The load blocks of a buffer. -/
def snapBlocks (a : Nat) : List (Nat × Nat × Nat) → List Nat → List (Nat × Nat × Nat)
  | r :: rs, k :: ks => rangeBlocks r a k ++ snapBlocks (a + 8 + 8 * r.2.2) rs ks
  | _, _ => []

/-- Collier emits the buffer as load blocks (05 R149); no rule gives their transfer number, which is free. -/
def State.emitSnap (s : State) (x : Snap) (ks : List Nat) : State :=
  if !bit x.dest 7 then s
  else
    let bs := snapBlocks (x.buf + 64) x.ranges ks
    let xfer := Config.freeNat s.free
    bs.zipIdx.foldl (fun s b => s.emitBlock (bits x.dest 1 0) (bits x.dest 5 2) 0x32
      (toBytes 8 b.1.1 ++ toBytes 2 xfer ++ toBytes 2 b.1.2.2 ++ toBytes 4 b.2 ++ toBytes 4 bs.length ++ toBytes 4 0 ++
        s.bytes b.1.2.1 (8 * b.1.2.2)) .load) { s with free := s.free + 1 }

/-- A snapshot ends, `ks` words of its ranges being in the buffer (05 R149, R150). -/
def State.snapEnd (s : State) (x : Snap) (whole : Bool) (ks : List Nat) : State :=
  let crc := (crc32c (s.bytes (x.buf + 64) (rangesLen x.ranges))).toNat
  let u := s.g6Write x.buf (wordsOf (snapHeader x whole ks.sum crc))
  let v := ((((u.wr F.LRN_REGION_SNAP_HOLD 0 0 x.region).wr F.LRN_SNAP_STAT_BUSY 0).wrB F.LRN_SNAP_STAT_INCOMPLETE (!whole)).wr
    F.LRN_SNAP_STAT_WORDS (min ks.sum (2 ^ 27 - 1)))
  let w := { v with learn := { v.learn with snap := none } }
  let r := if whole then w.finish 0x31 0 (toBytes 4 ks.sum ++ toBytes 4 0 ++ toBytes 8 x.capture) else w.finish 0x31 0x0620 []
  r.emitSnap x ks

/-- A copy that its hold count has stopped ends incomplete, with what it had reached (05 R149). -/
def State.snapStopped (s : State) (x : Snap) : State :=
  match x.got with
  | some ks => s.snapEnd x false ks
  | none => (s.snapHalt x).snapEnd x false (partWords s.free x.ranges)

/-- SNAPSHOT_COPY_DONE (05 R149): the copy is whole, unless SNAP_HOLD has reached 0 before. -/
def State.snapDone (s : State) : State :=
  match s.learn.snap with
  | some x =>
    if !x.copying then s
    else if s.rd F.LRN_REGION_SNAP_HOLD 0 x.region = 0 then s.snapStopped x
    else (s.copyRanges (x.buf + 64) x.ranges (x.ranges.map (·.2.2))).snapEnd x true (x.ranges.map (·.2.2))
  | none => s

/-- SNAP_HOLD_EXPIRED (05 R149): SNAP_HOLD has reached 0 before the copy completed. -/
def State.snapExpired (s : State) : State :=
  match s.learn.snap with
  | some x => if x.copying && s.rd F.LRN_REGION_SNAP_HOLD 0 x.region == 0 then s.snapStopped x else s
  | none => s

/-- LEARN_CTRL with action OFF. -/
def execLearnCtrlOff (cmd : HostCmd) (s : State) : Host.Outcome State Fault Refusal := .next (s.learnRow cmd 0)

/-- LEARN_CTRL with action RUN. -/
def execLearnCtrlRun (cmd : HostCmd) (s : State) : Host.Outcome State Fault Refusal := .next (s.learnRow cmd 1)

/-- LEARN_CTRL with action ACCUM. -/
def execLearnCtrlAccum (cmd : HostCmd) (s : State) : Host.Outcome State Fault Refusal := .next (s.learnRow cmd 2)

/-- LEARN_CTRL with action CLEAR. -/
def execLearnCtrlClear (cmd : HostCmd) (s : State) : Host.Outcome State Fault Refusal := .next (s.learnRow cmd 3)

/-- SNAPSHOT. -/
def execSnapshot (cmd : HostCmd) (s : State) : Host.Outcome State Fault Refusal :=
  .next (s.serve snapshotOp cmd (fun stamp _ t => t.snapshot cmd stamp))

/-- SNAPSHOT_COPY_DONE. -/
def execSnapshotCopyDone (s : State) : Host.Outcome State Fault Refusal := .next s.snapDone

/-- SNAP_HOLD_EXPIRED. -/
def execSnapHoldExpired (s : State) : Host.Outcome State Fault Refusal := .next s.snapExpired

end Sys2Proof.Machine
end

