-- ==== Sys2Proof/Machine/Command.lean ====
section
/-!
DEFINITION. The commands that run and stop the model, read and clear faults, and set power, pair roles and spares
(12_command_interface.md R333, R336, R344, 13_redundant_pair.md R349, R350, R364, R368, 14_bringup_loading_spares.md R395,
15_faults.md R415 to R418, 16_power_clocks_thermal.md R426, R431, R438).
-/
namespace Sys2Proof.Machine

/-- ENABLE as an opcode: refused with 0x0F01 unless an earlier one is outstanding, and while QUENCH_N is low (R336,
R345). -/
def enableOp : Opcode :=
  { Opcode.plain 0x18 with
    deferred := true
    refused := fun s _ =>
      if s.outstanding 0x18 then []
      else (if s.busy then [0x0F01] else []) ++ (if s.pins.quenchN then [] else [0x0F06]) }

/-- DISABLE and QUIESCE as opcodes: they need RUN_EN = 1. -/
def stopOp (op : Nat) : Opcode :=
  { Opcode.plain op with
    deferred := true
    refused := fun s _ => if s.running then [] else [0x0F02] }

/-- The frame whose input windows are open at a stamp. -/
def State.frameOf (s : State) (stamp : Nat) : Nat := (max 0 (s.stepOf stamp)).toNat / max 1 s.frameSteps

/-- QUIESCE (R333): Tinder encodes nothing after frame `f`, and RUN_EN falls at the boundary that ends frame f + 1. -/
def State.quiesce (s : State) (f : Nat) : State :=
  { s with
    tinder := { s.tinder with stopStep := some ((f + 1) * s.frameSteps) }
    time := { s.time with stop := match s.time.stop with | .none => .quiesce | x => x } }

/-- QUENCH at Collier (R333, R344): one that waited in a FIFO has fired the tree where it came. -/
def State.quenchCmd (s : State) (stamp : Nat) (waited : Bool) : State × Result :=
  (if waited then s else s.quench, .done 0 (toBytes 8 stamp))

/-- QUENCH_N held low (R344). -/
def State.quenchLow (s : State) : State :=
  if !s.boot.up then s else { s.quench with pins := { s.quench.pins with quenchN := false } }

/-- STEP as an opcode (R333): COUNT is at least 1. -/
def stepOp : Opcode :=
  { Opcode.plain 0x1C with
    plen := fun c => c.plen == 4
    range := fun _ c => decide (1 ≤ c.par 0 4) }

/-- FAULT_READ as an opcode (R333). -/
def faultReadOp : Opcode :=
  { Opcode.plain 0x20 with
    plen := fun c => c.plen == 4
    range := fun _ c => decide (1 ≤ c.par 0 1) && decide (c.par 0 1 ≤ 14)
    zero := fun c => c.par 1 3 == 0 }

/-- A log record's 16 bytes (15 R415). -/
def LogRec.bytes (r : LogRec) : List Byte :=
  toBytes 2 (r.msg.src % 4096) ++ toBytes 1 r.msg.kind ++ toBytes 1 (r.msg.cls % 8 + 8 * b2n r.msg.forced) ++
    toBytes 1 r.msg.rep ++ toBytes 1 (r.code % 8 + 8 * b2n r.fail) ++ toBytes 2 (bits r.grain 47 32) ++ toBytes 4 r.msg.addr ++
    toBytes 4 (r.grain % 2 ^ 32)

/-- The first `n` unread records are marked read. -/
def markRead : Nat → List LogRec → List LogRec
  | 0, l => l
  | _ + 1, [] => []
  | n + 1, r :: l => if r.unread then { r with unread := false } :: markRead n l else r :: markRead (n + 1) l

/-- FAULT_READ (15 R415, 12 R320): a reply that shows LOST clears it. -/
def State.faultRead (s : State) (m : Nat) : State × Result :=
  let new := s.owl.log.filter (·.unread)
  let rs := new.take m
  let lost := s.on F.OWL_STAT_LOST
  let t := s.wr F.OWL_STAT_LOST 0
  ({ t with owl := { t.owl with log := markRead rs.length t.owl.log }, cmd := { t.cmd with ibiFault := false } },
    .done 0 (toBytes 1 rs.length ++ toBytes 1 (b2n lost + 2 * b2n (decide (m < new.length))) ++ toBytes 2 0 ++
      rs.flatMap LogRec.bytes))

/-- Whether R404 of 15_faults.md assigns a source, on some variant. -/
def sourceNamed (src : Nat) : Bool :=
  decide (src < 0x440) || (decide (0x500 ≤ src) && decide (src < 0x508)) || (decide (0x600 ≤ src) && decide (src < 0x610)) ||
    (decide (0x720 ≤ src) && decide (src < 0x726)) || (decide (0x728 ≤ src) && decide (src < 0x72C)) ||
    [0x700, 0x710, 0x711, 0x730, 0x740, 0x741, 0x742, 0x743, 0x750, 0x760, 0x7F0].contains src

/-- FAULT_CLEAR as an opcode (R333). -/
def faultClearOp : Opcode :=
  { Opcode.plain 0x21 with
    plen := fun c => c.plen == 4
    zero := fun c => c.par 3 1 == 0 }

/-- FAULT_CLEAR (15 R418). -/
def State.faultClear (s : State) (src kind : Nat) : State × Result :=
  if !sourceNamed src || !faultKinds.contains kind then (s, .done 0x0C02 [])
  else match s.entryOf src kind with
    | none => (s, .done 0 [])
    | some i => if s.cause i then (s, .done 0x0C01 []) else ((s.wr F.OWL_ST_KEY_VALID 0 0 i).faultPin, .done 0 [])

/-- FAULT_FORCE as an opcode (R333, 15 R416). -/
def faultForceOp : Opcode :=
  { Opcode.plain 0x22 with
    plen := fun c => c.plen == 8
    range := fun _ c => decide (c.par 3 1 % 8 ≤ 4)
    zero := fun c => c.par 3 1 / 8 == 0 }

/-- FAULT_FORCE (15 R416). -/
def State.faultForce (s : State) (c : HostCmd) : State × Result :=
  if s.mayForce (c.par 0 2) (c.par 2 1) then (s.force (c.par 0 2) (c.par 2 1) (c.par 3 1) (c.par 4 4), .done 0 [])
  else (s, .done 0x0C02 [])

/-- POWER_STATE as an opcode (R333): SLEEP and DEEP are refused while the model runs and on a pair standby. -/
def powerOp : Opcode :=
  { Opcode.plain 0x28 with
    plen := fun c => c.plen == 4
    range := fun _ c => decide (c.par 0 1 ≤ 3)
    zero := fun c => c.par 1 3 == 0
    deferred := true
    refused := fun s c =>
      if c.par 0 1 < 2 then []
      else (if s.busy then [0x0F01] else []) ++ (if s.standby then [0x0F08] else []) }

/-- SLEEP or DEEP is entered: every GDDR6 group goes into self-refresh (16 R438, R442). -/
def State.enterSleep (s : State) (v : Nat) : State :=
  let t := s.groups.foldl (fun s g => s.g6SelfRef g true) (s.wr F.KILN_STAT_STATE v)
  { t with kiln := { t.kiln with waking2Run := false } }

/-- POWER_STATE (16 R438, R439): while the model runs, 0 and 1 set AUTO_IDLE; out of SLEEP, 0 is answered once the device is
in RUN. -/
def State.powerState (s : State) (v : Nat) : State × Result :=
  let st := s.rd F.KILN_STAT_STATE
  if s.running then (s.wr F.KILN_CTRL_AUTO_IDLE v, .done 0 [])
  else if v = 0 ∧ 2 ≤ st then ({ s with kiln := { s.kiln with waking2Run := true } }, .later 0)
  else if v < 2 then (if st < 2 then s.wr F.KILN_STAT_STATE v else s, .done 0 [])
  else (s.enterSleep v, .done 0 [])

/-- POWER_STATE with the row's state; a value out of range is answered alike by each. -/
def State.powerRow (s : State) (c : HostCmd) (v : Nat) : State :=
  if c.par 0 1 ≠ v ∧ c.par 0 1 ≤ 3 then s else s.serve powerOp c (fun _ _ t => t.powerState v)

/-- WAKE_TO_RUN (16 R438): the wake is complete, and a POWER_STATE that waits is answered. -/
def State.wakeComplete (s : State) : State := if s.kiln.waking2Run then s.toRun.finish 0x28 0 [] else s

/-- CAP_SET as an opcode (16 R431). -/
def capOp : Opcode :=
  { Opcode.plain 0x29 with
    plen := fun c => c.plen == 4
    range := fun s c => decide (1000 ≤ c.par 0 4) && decide (c.par 0 4 ≤ s.fuse.maxPower) }

/-- FREQ_MODE as an opcode (16 R426). -/
def freqOp : Opcode :=
  { Opcode.plain 0x2A with
    plen := fun c => c.plen == 4
    range := fun _ c => decide (c.par 0 1 ≤ 1)
    zero := fun c => c.par 1 3 == 0
    refused := fun s c => if c.par 0 1 = 1 ∧ s.fuse.boostDis then [0x0F0A] else [] }

/-- CAP_SET or FREQ_MODE while the model runs: it takes effect at the boundary that begins step n + 2, and is mirrored (13
R358). -/
def State.mirroredSetting (s : State) (c : HostCmd) (stamp : Nat) : State × Result :=
  let n := (max 0 (s.stepOf stamp)).toNat
  let e : Edit := ⟨n, c.bytes, c.path, true⟩
  let t := s.capAt c (n + 2)
  let u := if s.mirroring then
      (let v := (t.inc F.PAIR_CNT1_EDITS).journalPut (.edit e)
       { v with pair := { v.pair with editsOut := v.pair.editsOut ++ [e] } })
    else t
  (u, .done 0 (toBytes 8 (n + 2)))

/-- The reply that a setting has taken effect at once. -/
def atOnce : Result := .done 0 (toBytes 8 (2 ^ 64 - 1))

/-- PAIR_CTRL as an opcode (R333, 13 R350, R364, R371). -/
def pairOp : Opcode :=
  { Opcode.plain 0x38 with
    plen := fun c => c.plen == 4
    range := fun _ c => decide (c.par 0 1 ≤ 2) && (decide (c.par 0 1 = 2) || decide (c.par 1 1 ≤ 1))
    zero := fun c => c.par 2 2 == 0
    feature := some 2
    refused := fun s c =>
      match c.par 0 1 with
      | 0 =>
        if !s.busy then []
        else if c.par 1 1 = 0 ∨ !s.running then [0x0F01]
        else if s.standby || !s.allReady || s.on F.PAIR_STAT_PHASE || s.pair.resync || s.pair.ckptIn != [] then [0x0F08]
        else []
      | 1 => if c.par 1 1 = 1 ∧ s.busy then [0x0F01] else []
      | _ => if s.standby then [] else [0x0F08] }

/-- PAIR_CTRL action 0 (13 R349, R350). -/
def State.setRole (s : State) (standby : Bool) (stamp : Nat) : State :=
  if !s.running then s.wrB F.PAIR_STAT_ROLE standby
  else
    let b := (s.frameOf stamp + 2) * s.frameSteps
    { s with pair := { s.pair with roleAt := some b, roleOut := some b } }

/-- PAIR_CTRL with the row's action; an action out of range is answered alike by each. -/
def State.pairRow (s : State) (c : HostCmd) (action : Nat) (f : Nat → State → State) : State :=
  if c.par 0 1 ≠ action ∧ c.par 0 1 ≤ 2 then s else s.serve pairOp c (fun stamp _ t => (f stamp t, .done 0 []))

/-- FAILOVER as an opcode: for a standby that has lost its partner (R333, 13 R368; in other states of a standby, for which
R368 has no transition, it is refused alike, DESIGN CHOICE, log entry 30). -/
def failoverOp : Opcode :=
  { Opcode.plain 0x39 with
    feature := some 2
    deferred := true
    refused := fun s _ =>
      if s.mirroring && s.on F.PAIR_STAT_ROLE && s.rd F.PAIR_STAT_SB_STATE == 3 then [] else [0x0F08] }

/-- FAILOVER (13 R368, R369): a standby that is away takes over, and answers, when it rejoins. -/
def State.failover (s : State) : State × Result :=
  (s.takeover, if s.rd F.PAIR_STAT_PHASE = 0 then .done 0 (toBytes 8 s.firstFrame) else .later 0)

/-- SPARE_SWAP as an opcode (R333, 14 R395). -/
def spareOp : Opcode :=
  { Opcode.plain 0x3A with
    plen := fun c => c.plen == 4
    range := fun s c => s.coreOn (c.par 0 2) && decide (c.par 2 1 ≤ 2)
    zero := fun c => c.par 3 1 == 0
    deferred := true
    refused := fun s c => if c.par 2 1 ≠ 0 ∧ !s.standby then [0x0F08] else [] }

/-- SPARE_SWAP (14 R393, R395). -/
def State.spareSwap (s : State) (n source : Nat) : State × Result :=
  let w : Swap := ⟨n, s.swapColumns n, source, false, none, true⟩
  if s.swapPossible w then (s.markSwap w, .later 0) else (s, .done 0x0F09 [])

/-- ENABLE (R336): the check starts. -/
def execEnable (cmd : HostCmd) (s : State) : Host.Outcome State Fault Refusal :=
  .next (s.serve enableOp cmd (fun _ _ t => (t.checkStart, .later 0)))

/-- DISABLE (R333). -/
def execDisable (cmd : HostCmd) (s : State) : Host.Outcome State Fault Refusal :=
  .next (s.serve (stopOp 0x19) cmd (fun _ _ t => (t.disable, .later 0)))

/-- QUIESCE (R333). -/
def execQuiesce (cmd : HostCmd) (s : State) : Host.Outcome State Fault Refusal :=
  .next (s.serve (stopOp 0x1A) cmd (fun stamp _ t => (t.quiesce (t.frameOf stamp), .later (t.frameOf stamp + 1))))

/-- QUENCH. -/
def execQuench (cmd : HostCmd) (s : State) : Host.Outcome State Fault Refusal :=
  .next (s.serve quenchOp cmd (fun stamp waited t => t.quenchCmd stamp waited))

/-- QUENCH_N_LOW. -/
def execQuenchNLow (s : State) : Host.Outcome State Fault Refusal := .next s.quenchLow

/-- STEP (R333): COUNT is added to the grants (02_time_and_ordering.md R44). -/
def execStep (cmd : HostCmd) (s : State) : Host.Outcome State Fault Refusal :=
  .next (s.serve stepOp cmd (fun _ _ t =>
    let u := t.inc F.TIME_STEP_GRANT_GRANT (cmd.par 0 4)
    (u, .done 0 (toBytes 4 (u.rd F.TIME_STEP_GRANT_GRANT)))))

/-- FAULT_READ. -/
def execFaultRead (cmd : HostCmd) (s : State) : Host.Outcome State Fault Refusal :=
  .next (s.serve faultReadOp cmd (fun _ _ t => t.faultRead (cmd.par 0 1)))

/-- FAULT_CLEAR. -/
def execFaultClear (cmd : HostCmd) (s : State) : Host.Outcome State Fault Refusal :=
  .next (s.serve faultClearOp cmd (fun _ _ t => t.faultClear (cmd.par 0 2) (cmd.par 2 1)))

/-- FAULT_FORCE. -/
def execFaultForce (cmd : HostCmd) (s : State) : Host.Outcome State Fault Refusal :=
  .next (s.serve faultForceOp cmd (fun _ _ t => t.faultForce cmd))

/-- POWER_STATE 0. -/
def execPowerStateRun (cmd : HostCmd) (s : State) : Host.Outcome State Fault Refusal := .next (s.powerRow cmd 0)

/-- POWER_STATE 1. -/
def execPowerStateIdle (cmd : HostCmd) (s : State) : Host.Outcome State Fault Refusal := .next (s.powerRow cmd 1)

/-- POWER_STATE 2. -/
def execPowerStateSleep (cmd : HostCmd) (s : State) : Host.Outcome State Fault Refusal := .next (s.powerRow cmd 2)

/-- POWER_STATE 3. -/
def execPowerStateDeep (cmd : HostCmd) (s : State) : Host.Outcome State Fault Refusal := .next (s.powerRow cmd 3)

/-- WAKE_TO_RUN. -/
def execWakeToRun (s : State) : Host.Outcome State Fault Refusal := .next s.wakeComplete

/-- CAP_SET. -/
def execCapSet (cmd : HostCmd) (s : State) : Host.Outcome State Fault Refusal :=
  .next (s.serve capOp cmd (fun stamp _ t => if t.running then t.mirroredSetting cmd stamp else (t.setCap (cmd.par 0 4), atOnce)))

/-- FREQ_MODE. -/
def execFreqMode (cmd : HostCmd) (s : State) : Host.Outcome State Fault Refusal :=
  .next (s.serve freqOp cmd (fun stamp _ t =>
    if t.running then t.mirroredSetting cmd stamp else (t.wr F.KILN_CTRL_MODE (cmd.par 0 1), atOnce)))

/-- PAIR_CTRL with action 0. -/
def execPairCtrlRole (cmd : HostCmd) (s : State) : Host.Outcome State Fault Refusal :=
  .next (s.pairRow cmd 0 (fun stamp t => t.setRole (cmd.par 1 1 == 1) stamp))

/-- PAIR_CTRL with action 1. -/
def execPairCtrlMirror (cmd : HostCmd) (s : State) : Host.Outcome State Fault Refusal :=
  .next (s.pairRow cmd 1 (fun _ t => t.mirrorSet (cmd.par 1 1 == 1)))

/-- PAIR_CTRL with action 2: the resynchronisation starts at the next boundary (13 R364). -/
def execPairCtrlResync (cmd : HostCmd) (s : State) : Host.Outcome State Fault Refusal :=
  .next (s.pairRow cmd 2 (fun _ t => { t with pair := { t.pair with resync := true } }))

/-- FAILOVER. -/
def execFailover (cmd : HostCmd) (s : State) : Host.Outcome State Fault Refusal :=
  .next (s.serve failoverOp cmd (fun _ _ t => t.failover))

/-- SPARE_SWAP. -/
def execSpareSwap (cmd : HostCmd) (s : State) : Host.Outcome State Fault Refusal :=
  .next (s.serve spareOp cmd (fun _ _ t => t.spareSwap (cmd.par 0 2) (cmd.par 2 1)))

end Sys2Proof.Machine
end

