-- ==== Sys2Proof/Machine/Load.lean ====
section
/-!
DEFINITION. Loading a model image, firmware updates, and the reset of one domain (14_bringup_loading_spares.md R380 and R386
to R392, 12_command_interface.md R333, 17_security.md R453, R454).
-/
namespace Sys2Proof.Machine

/-- LOAD_OPEN as an opcode (12 R333, R390). -/
def loadOpenOp : Opcode :=
  { Opcode.plain 0x10 with
    plen := fun c => c.plen == 16
    range := fun _ c => decide (0 < c.par 8 4) && c.par 8 4 % 4096 == 0
    zero := fun c => c.par 14 2 == 0
    address := fun s c => s.bufferReason (c.par 0 8) (c.par 8 4) 4096
    refused := fun s _ => if s.on F.BOOT_LOAD_STAT_OPEN then [0x0F0B] else [] }

/-- The staging window opens, with nothing counted (R390). -/
def State.loadOpen (s : State) (base size xfer : Nat) : State :=
  let t := ((((s.wr F.BOOT_LOAD_WIN_XFER xfer).wr F.BOOT_LOAD_WIN_BASE base).wr F.BOOT_LOAD_CNT_CNT 0).wr
    F.BOOT_LOAD_CNT_COUNTED 0).wr F.BOOT_LOAD_STAT_OPEN 1
  { t with boot := { t.boot with seen := [], windowLen := size } }

/-- The staging window closes, and the count is discarded (R391, R392). -/
def State.loadClose (s : State) : State :=
  let t := ((s.wr F.BOOT_LOAD_CNT_CNT 0).wr F.BOOT_LOAD_CNT_COUNTED 0).wr F.BOOT_LOAD_STAT_OPEN 0
  { t with boot := { t.boot with seen := [] } }

/-- Whether a transfer number is that of the open window (R391). -/
def State.isXfer (s : State) (x : Nat) : Bool := s.on F.BOOT_LOAD_STAT_OPEN && s.rd F.BOOT_LOAD_WIN_XFER == x

/-- LOAD_ABORT as an opcode. -/
def loadAbortOp : Opcode :=
  { Opcode.plain 0x12 with
    plen := fun c => c.plen == 4
    zero := fun c => c.par 2 2 == 0
    refused := fun s c => if s.isXfer (c.par 0 2) then [] else [0x0F03] }

/-- LOAD_COMMIT as an opcode: the first three checks of R391. -/
def loadCommitOp : Opcode :=
  { Opcode.plain 0x11 with
    plen := fun c => c.plen == 4
    zero := fun c => c.par 2 2 == 0
    deferred := true
    refused := fun s c =>
      (if s.busy then [0x0F01] else []) ++ (if s.isXfer (c.par 0 2) then [] else [0x0F03]) ++
      (if s.boot.seen ≠ [] ∧ s.rd F.BOOT_LOAD_CNT_COUNTED ≠ s.rd F.BOOT_LOAD_CNT_CNT then [0x0F07] else []) }

/-- `n` bytes at a GDDR6 address; none where a word of them is uncorrectable (10_memory_system.md R285). -/
def State.g6Bytes (s : State) (a n : Nat) : Option (List Byte) × State :=
  if n = 0 then (some [], s)
  else
    let r := s.g6Read (a / 8 * 8) ((a + n - 1) / 8 - a / 8 + 1)
    (r.1.map (fun ws => ((bytesOf ws).drop (a % 8)).take n), r.2)

/-- A section of an image (R388). -/
structure Section where
  kind : Nat
  /-- CORE or BCAST_MASK. -/
  sel : Nat
  target : Nat
  data : List Byte
  deriving DecidableEq, Repr

/-- Section table entry `i` of an image (R388). -/
def entryBytes (img : List Byte) (i : Nat) : List Byte := (img.drop (byteField img 16 8 + 32 * i)).take 32

/-- The sections of an image, in table order. -/
def sectionsOf (img : List Byte) : List Section :=
  (List.range (byteField img 12 4)).map (fun i =>
    let e := entryBytes img i
    ⟨byteField e 0 2, byteField e 4 2, byteField e 8 8, (img.drop (byteField e 16 8)).take (byteField e 24 8)⟩)

/-- Whether an image is laid out as R387, R388 and R391 ask: every section inside it, and it inside the window. -/
def imageForm (img : List Byte) (window : Nat) : Bool :=
  let len := byteField img 24 8
  let n := byteField img 12 4
  byteField img 0 4 == 0x4E5A4D45 && byteField img 4 2 == 1 && decide (1 ≤ n) && decide (n ≤ 4096) && decide (128 ≤ len) &&
    decide (len ≤ window) && byteField img 16 8 % 8 == 0 && decide (byteField img 16 8 + 32 * n ≤ len) &&
    decide (byteField img 112 4 ≤ 4) && decide (byteField img 104 8 + 104 * byteField img 112 4 ≤ len) &&
    (List.range n).all (fun i =>
      let e := entryBytes img i
      byteField e 16 8 % 8 == 0 && byteField e 24 8 % 8 == 0 && decide (byteField e 16 8 + byteField e 24 8 ≤ len) &&
        (byteField e 0 2 != 3 || byteField e 24 8 == 8320))

/-- Whether an image holds no reserved kind and no reserved byte that is not zero (R387, R388, R391). -/
def imageClean (img : List Byte) : Bool :=
  byteField img 116 12 == 0 &&
    (List.range (byteField img 12 4)).all (fun i =>
      let e := entryBytes img i
      let k := byteField e 0 2
      decide (1 ≤ k) && decide (k ≤ 7) && byteField e 2 2 == 0 && byteField e 6 2 == 0 &&
        (k == 2 || (k == 1 && decide (byteField e 4 2 < 256)) || byteField e 4 2 == 0))

/-- DIGEST as R389 computes it: bytes 32 to 95 taken as zero, and the signature block left out. -/
def imageDigest (img : List Byte) : List Byte :=
  let sig := byteField img 104 8
  let z := img.take 32 ++ List.replicate 64 0 ++ img.drop 96
  sha512 (if sig = 0 then z else z.take sig ++ z.drop (sig + 104 * byteField img 112 4))

/-- The entries of an image's signature block (17_security.md R453). -/
def signaturesOf (img : List Byte) : List (List Byte) :=
  if byteField img 104 8 = 0 then []
  else (List.range (byteField img 112 4)).map (fun i => (img.drop (byteField img 104 8 + 104 * i)).take 104)

/-- Whether DIGEST matches and the signatures verify (R391, 17 R454). -/
def State.imageSigned (s : State) (img : List Byte) : Bool :=
  let d := (img.drop 32).take 64
  d == imageDigest img && s.signed d (signaturesOf img)

/-- The logical cores that a section of KIND 0x01 or 0x02 reaches. -/
def State.reaches (s : State) (x : Section) : List Nat :=
  match x.kind with
  | 1 => (s.engines.filter (fun e => bit x.sel e)).flatMap (fun e => (List.range 128).map (fun j => 128 * e + j))
  | 2 => [x.sel]
  | _ => []

/-- One section's words at one core; the reason of a NACK (R391). -/
def State.loadCore (s : State) (n : Nat) (x : Section) : State × Option Nat :=
  if !s.coreOn n then (s, some rsnNoAgent)
  else if x.target / 8 + x.data.length / 8 > 65536 then (s, some rsnAddrError)
  else
    let t := (wordsOf x.data).zipIdx.foldl (fun s v => s.storeWord n (x.target / 8 + v.2) v.1) (s.wokenAt (n * 0x100000))
    (t.wr F.CORE_STAT_LOADED 1 n, none)

/-- A Cordwood table is loaded (08_scheduled_plane.md R241): masks, entries, and the clear of ARM. -/
def State.loadTable (s : State) (x : Section) : State :=
  let ws := wordsOf x.data
  let t := (ws.take 16).zipIdx.foldl (fun s m => s.broadcastTiles.foldl (fun s p => s.loadMask p m.2 m.1.toNat) s) s
  let u := (ws.drop 16).zipIdx.foldl (fun s v => t.broadcastTiles.foldl (fun s p => s.loadSlot p v.2 v.1.toNat) s) t
  t.broadcastTiles.foldl (fun s p => s.wr F.CORD_ARM_ARM 0 p) u

/-- Words at a GDDR6 address (KIND 0x05). -/
def State.loadG6 (s : State) (x : Section) : State × Option Nat :=
  let blocks := (List.range (x.data.length / 8)).map (fun k => x.target / 8 * 8 + 8 * k)
  if blocks.any (fun a => !s.g6Has a) then (s, some rsnAddrError)
  else if blocks.any (fun a => s.g6Failed (s.g6Group a)) then (s, some rsnDataError)
  else (s.g6Write (x.target / 8 * 8) (wordsOf x.data), none)

/-- Words at registers of chip control or I/O agent control (KIND 0x04). -/
def State.loadRegs (s : State) (x : Section) : State × Option Nat :=
  let last := x.target + x.data.length
  let chip := decide (0x0200000000 ≤ x.target) && decide (last ≤ 0x0201000000)
  let io := decide (0x0300000000 ≤ x.target) && decide (last ≤ 0x0308000000)
  if !chip && !io then (s, some rsnAddrError)
  else ((wordsOf x.data).zipIdx.foldl (fun s v => s.busWrite (x.target / 8 * 8 + 8 * v.2) v.1.toNat true true s.grain) s, none)

/-- One section is written, unless an earlier write was NACKed. -/
def loadSection (r : State × Option Nat) (x : Section) : State × Option Nat :=
  match r.2 with
  | some _ => r
  | none => match x.kind with
    | 1 | 2 => (r.1.reaches x).foldl (fun y n => match y.2 with | some _ => y | none => y.1.loadCore n x) (r.1, none)
    | 3 => (r.1.loadTable x, none)
    | 4 => r.1.loadRegs x
    | 5 => r.1.loadG6 x
    | _ => r

/-- Sections in the order of R391: kinds 0x01, 0x02, 0x03, 0x05, 0x04. -/
def loadOrder (xs : List Section) : List Section := [1, 2, 3, 5, 4].flatMap (fun k => xs.filter (fun x => x.kind == k))

/-- Step 1 of R391: no measurement, nothing loaded, and every register of every core at its reset value. -/
def State.unload (s : State) : State :=
  let t := (List.range 8).foldl (fun s i => s.wr F.BOOT_IMAGE_MEAS_WORD 0 0 i) s
  let u := s.engines.foldl (fun s e =>
    let v := (List.range 128).foldl (fun s j => s.resetCore (128 * e + j)) s
    (tilesOf e).foldl (fun s p => s.dropRegs tileReset p) v) t
  let w := u.wr F.BOOT_LOAD_STAT_CORES 0
  { w with sec := { w.sec with cfgRegs := none }, boot := { w.boot with image := none } }

/-- The columns that LOAD_COMMIT has to retire first (R386): those of cores on a spare tile whose routers the image's tables
make supply or receive words. -/
def State.loadColumns (s : State) (xs : List Section) : List (Nat × Nat) :=
  let t := ((loadOrder (xs.filter (fun x => decide (x.kind ≤ 3)))).foldl loadSection (s.unload, none)).1
  let cores := (s.engines.flatMap (fun e => (List.range 128).map (fun j => 128 * e + j))).filter (fun n =>
    !s.on F.SPARE_STAT_COL_RETIRED 0 (n / 128) && decide (tileX (s.tileOf n) % 17 = 16) && t.usesPort n)
  (cores.flatMap (fun n => t.columnSet (n / 128) (n % 16))).dedup

/-- The image as it is committed. -/
def imageOf (s : State) (base : Nat) (img : List Byte) : Image where
  base := base
  len := byteField img 24 8
  digest := (img.drop 32).take 64
  format := byteField img 4 2
  minArch := byteField img 6 1
  maxArch := byteField img 7 1
  reqFw := byteField img 8 4
  buildId := byteField img 96 8
  sigOfs := byteField img 104 8
  sigCount := byteField img 112 4
  cores := ((sectionsOf img).flatMap s.reaches).dedup
  targets := ((sectionsOf img).filter (fun x => x.kind == 4 || x.kind == 5)).map (fun x => (x.target, x.data.length))
  schedule := ((sectionsOf img).find? (fun x => x.kind == 6)).map (·.data)

/-- LOAD_COMMIT's writes and their end (R391); the load time that the reply shows is a free number within the bound. -/
def State.loadWrite (s : State) (base : Nat) (img : List Byte) (cols : List (Nat × Nat)) : State × Result :=
  let xs := sectionsOf img
  let r := (loadOrder xs).foldl loadSection ((s.unload.retireColumns cols).computeFloor, none)
  match r.2 with
  | some e => (r.1, .done 0x0E04 (toBytes 2 e))
  | none =>
    let d := (img.drop 32).take 64
    let t := (List.range 8).foldl (fun s i => s.wr F.BOOT_IMAGE_MEAS_WORD (wordAt d i) 0 i) r.1
    let n := t.loaded.length
    let u := ((t.loadClose).wr F.BOOT_LOAD_STAT_COMMITTED 1).wr F.BOOT_LOAD_STAT_CORES n
    let w := (xs.map (fun x => x.data.length)).sum
    let us := Config.freeNat u.free % (5000 + byteField img 24 8 / 2000 + w / 4000 + 2)
    ({ u with free := u.free + 1, boot := { u.boot with image := some (imageOf s base img) } },
      .done 0 (toBytes 2 n ++ toBytes 2 0 ++ toBytes 4 us))

/-- LOAD_COMMIT past the checks of state (R391). -/
def State.loadCommit (s : State) : State × Result :=
  let base := s.rd F.BOOT_LOAD_WIN_BASE
  let h := s.g6Bytes base 128
  let len := byteField (h.1.getD []) 24 8
  let r := h.2.g6Bytes base (if len ≤ s.boot.windowLen then max 128 len else 128)
  match h.1, r.1 with
  | some _, some img =>
    if !imageForm img s.boot.windowLen then (s, .done 0x0D04 [])
    else if !imageClean img then (s, .done 0x0D05 [])
    else if !s.imageSigned img then (s, .done 0x0A11 [])
    else
      let cols := s.loadColumns (sectionsOf img)
      if !cols.all (fun c => s.mayRetire c.1 c.2) then (s, .done 0x0F09 [])
      else r.2.loadWrite base img cols
  | _, _ => (r.2, .done 0x0E04 (toBytes 2 rsnDataError))

/-- DOMAIN_RESET as an opcode (12 R333): with RUN_EN = 1 only of a fenced core. -/
def domainOp : Opcode :=
  { Opcode.plain 0x3D with
    plen := fun c => c.plen == 4
    range := fun s c =>
      let i := c.par 2 2
      match c.par 0 1 with
      | 0 => s.coreOn i
      | 1 => s.engineOn i
      | 2 => s.groupOn i
      | 3 => s.rxOn i
      | 4 => s.txOn i
      | _ => false
    zero := fun c => c.par 1 1 == 0
    deferred := true
    refused := fun s c =>
      if s.busy && !(c.par 0 1 == 0 && s.on F.CORE_STAT_FENCED (c.par 2 2)) then [0x0F01] else [] }

/-- The reset of a domain (12 R333): the registers of its window return to their reset values (00_scope.md R6), those that
training, the board record and the map's construction gave among them. -/
def State.domainReset (s : State) (kind i : Nat) : State :=
  match kind with
  | 0 => s.resetCore i
  | 1 =>
    let t := (tilesOf i).foldl (fun s p => s.dropRegs (Scope.regs .tile) p) (s.resetEngine i)
    let fused := (resetRegs s.fuse).filter (fun e => (Scope.regs .engine).contains e.1.r && e.1.u == i)
    let u := t.dropRegs (Scope.regs .engine) i
    { u with regs := fused.foldl (fun m e => Sparse.put Key.lt m e.1 e.2) u.regs }
  | 2 => { s.dropRegs (Scope.regs .group) i with g6 := Sparse.drop s.g6 i }
  | 3 => { s.dropRegs (Scope.regs .rx) i with rx := Sparse.drop s.rx i }
  | _ => { s.dropRegs (Scope.regs .tx) i with tx := Sparse.drop s.tx i }

/-- The bytes of a firmware image, from the boot buffer or GDDR6. -/
def State.fwBytes (s : State) (a n : Nat) : Option (List Byte) × State :=
  if inBootBuffer a then (some (s.bytes a n), s) else s.g6Bytes a n

/-- The outcome of reading and verifying an image: its bytes, or the reason and data of the reply (17 R451). -/
def State.fwVerify (s : State) (a n : Nat) : (List Byte ⊕ (Nat × List Byte)) × State :=
  match s.fwBytes a n with
  | (none, t) => (.inr (0x0E04, toBytes 2 rsnDataError), t)
  | (some img, t) => match s.fwReason img with
    | some r => (.inr (r, []), t)
    | none => (.inl img, t)

/-- Where an FW_UPDATE names its image wrongly (12 R328, 14 R379). -/
def State.fwAddress (s : State) (c : HostCmd) : Option Nat :=
  let a := c.par 0 8
  if s.boot.waiting && inBootBuffer a then
    (if inBootBuffer (a + (max 1 (c.par 8 4)) - 1) then none else some 0x0E03)
  else if s.boot.waiting && s.decoded a then some 0x0E03
  else s.bufferReason a (max 1 (c.par 8 4)) 1

/-- The conditions of state that refuse an FW_UPDATE (12 R333). -/
def State.fwRefused (s : State) (c : HostCmd) : List Nat :=
  (if c.par 12 1 = 1 ∧ s.busy then [0x0F01] else []) ++
    (if s.mirroring && !s.standby then [0x0F08] else [])

/-- FW_UPDATE as an opcode (12 R333, R379, R380): the ROM takes an image from the boot buffer, the firmware one from
GDDR6.  A signature or version that fails goes before a condition of state (12 R328). -/
def fwOp : Opcode :=
  { Opcode.plain 0x3C with
    plen := fun c => c.plen == 16
    range := fun s c => decide (c.par 12 1 ≤ 1) && (!s.boot.waiting || c.par 12 1 == 0)
    zero := fun c => c.par 13 3 == 0
    feature := some 5
    deferred := true
    address := fun s c =>
      match s.fwAddress c with
      | some r => some r
      | none =>
        if s.fwRefused c = [] ∧ !s.outstanding 0x3C then none
        else match (s.fwVerify (c.par 0 8) (c.par 8 4)).1 with
          | .inr r => if r.1 / 256 = 0x0A then some r.1 else none
          | .inl _ => none
    refused := fun s c => s.fwRefused c }

/-- FW_UPDATE with ACTION 0 waits for the verification. -/
def State.fwCheck (s : State) (c : HostCmd) : State × Result :=
  ({ s with boot := { s.boot with update := some (c.par 0 8, c.par 8 4, 0) } }, .later 0)

/-- FW_UPDATE with ACTION 1: verified, then written (R380). -/
def State.fwWrite (s : State) (c : HostCmd) : State × Result :=
  match s.fwVerify (c.par 0 8) (c.par 8 4) with
  | (.inr r, t) => (t, .done r.1 r.2)
  | (.inl img, t) => ({ t with boot := { t.boot with update := some (c.par 0 8, c.par 8 4, 1), updateImage := img } }, .later 0)

/-- FW_UPDATE with the row's action; an action out of range is answered alike by each. -/
def State.fwRow (s : State) (c : HostCmd) (action : Nat) : State :=
  if c.par 12 1 ≠ action ∧ c.par 12 1 ≤ 1 then s
  else s.serve fwOp c (fun _ _ t => if action = 1 then t.fwWrite c else t.fwCheck c)

/-- FW_VERIFY_DONE (R379, R380): the reply, and at stage 2 the start of the pushed image. -/
def State.fwVerified (s : State) : State :=
  match s.boot.update with
  | some (a, n, 0) =>
    let s0 := { s with boot := { s.boot with update := none } }
    match s0.fwVerify a n with
    | (.inr r, t) => t.finish 0x3C r.1 r.2
    | (.inl img, t) =>
      let u := t.finish 0x3C 0 (toBytes 4 (fwOf img).version)
      if s.boot.waiting then
        let v := (u.startFw img).wr F.BOOT_FW_STAT_PUSHED 1
        { v with boot := { v.boot with waiting := false, source := 2 } }
      else u
  | _ => s

/-- The offsets of slots A and B: the boot descriptor's, or without its tag the ROM's own (R377). -/
def Flash.slots (f : Flash) : Nat × Nat :=
  if byteField f.desc 0 4 = 0x4446584A then (byteField f.desc 8 4, byteField f.desc 12 4) else (0x00010000, 0x00810000)

/-- The images in slots A and B, and the flash with an image in one of them. -/
def BootSt.slotA (b : BootSt) : Option (List Byte) := b.flash.bind (fun f => f.images.lookup f.slots.1)
def BootSt.slotB (b : BootSt) : Option (List Byte) := b.flash.bind (fun f => f.images.lookup f.slots.2)
def Flash.store (f : Flash) (ofs : Nat) (img : List Byte) : Flash :=
  { f with images := f.images.filter (fun x => x.1 != ofs) ++ [(ofs, img)] }

/-- FW_WRITE_DONE (R380): the slot that was not booted holds the image; after a push neither slot was booted, and which one
is written is free. -/
def State.fwWritten (s : State) : State :=
  match s.boot.update with
  | some (_, _, 1) =>
    let toA := if s.boot.source = 2 then Config.freeNat s.free % 2 == 0 else s.boot.source == 1
    let img := s.boot.updateImage
    let b := { s.boot with update := none, updateImage := [] }
    ({ s with
      free := s.free + 1
      boot := { b with flash := b.flash.map (fun (f : Flash) => f.store (if toA then f.slots.1 else f.slots.2) img) } }).finish 0x3C 0
        (toBytes 4 (fwOf img).version)
  | _ => s

/-- LOAD_OPEN. -/
def execLoadOpen (cmd : HostCmd) (s : State) : Host.Outcome State Fault Refusal :=
  .next (s.serve loadOpenOp cmd (fun _ _ t => (t.loadOpen (cmd.par 0 8) (cmd.par 8 4) (cmd.par 12 2), .done 0 [])))

/-- LOAD_COMMIT. -/
def execLoadCommit (cmd : HostCmd) (s : State) : Host.Outcome State Fault Refusal :=
  .next (s.serve loadCommitOp cmd (fun _ _ t => t.loadCommit))

/-- LOAD_ABORT. -/
def execLoadAbort (cmd : HostCmd) (s : State) : Host.Outcome State Fault Refusal :=
  .next (s.serve loadAbortOp cmd (fun _ _ t => (t.loadClose, .done 0 [])))

/-- DOMAIN_RESET. -/
def execDomainReset (cmd : HostCmd) (s : State) : Host.Outcome State Fault Refusal :=
  .next (s.serve domainOp cmd (fun _ _ t => (t.domainReset (cmd.par 0 1) (cmd.par 2 2), .done 0 [])))

/-- FW_UPDATE with ACTION 0. -/
def execFwUpdateVerify (cmd : HostCmd) (s : State) : Host.Outcome State Fault Refusal := .next (s.fwRow cmd 0)

/-- FW_UPDATE with ACTION 1. -/
def execFwUpdateWrite (cmd : HostCmd) (s : State) : Host.Outcome State Fault Refusal := .next (s.fwRow cmd 1)

/-- FW_VERIFY_DONE. -/
def execFwVerifyDone (s : State) : Host.Outcome State Fault Refusal := .next s.fwVerified

/-- FW_WRITE_DONE. -/
def execFwWriteDone (s : State) : Host.Outcome State Fault Refusal := .next s.fwWritten

end Sys2Proof.Machine
end

