-- ==== Sys2Proof/Machine/Check.lean ====
section
/-!
DEFINITION. Collier's configuration check (12_command_interface.md R336 to R343): its classes and details in the order of
R337, with the triggers of 02_time_and_ordering.md R68, 03_neuron_cores.md R99, 04_synapses_and_arithmetic.md R123,
05_on_chip_learning.md R153, 06_encoders_decoders_and_actuation.md R185, 08_scheduled_plane.md R244, 09_queues.md R268 and
11_csi2_ports.md R316; and what the rise of RUN_EN does (02 R42, 03 R96, 12 R345).  A trigger about cores looks at the loaded
ones (log entry 34).
-/
namespace Sys2Proof.Machine

/-- The least loaded core of which a trigger holds. -/
def State.badCore (s : State) (p : Nat → Bool) : Option Nat := s.loaded.find? p

/-- The least 32 · n + g of which a trigger holds (03 R99). -/
def State.badGroup (s : State) (p : Nat → Group → Bool) : Option Nat :=
  s.loaded.findSome? (fun n => ((s.groupsOf n).find? (p n)).map (fun g => 32 * n + g.g))

/-- The least number below `n` of which a trigger holds. -/
def badOf (n : Nat) (p : Nat → Bool) : Option Nat := (List.range n).find? p

/-- A trigger that names no object. -/
def badIf (b : Bool) : Option Nat := if b then some 0 else none

/-- Whether two ranges of a first number and a length share a number. -/
def meet (a b : Nat × Nat) : Bool :=
  decide (0 < a.2) && decide (0 < b.2) && decide (a.1 < b.1 + b.2) && decide (b.1 < a.1 + a.2)

/-- Whether two ranges of a list meet. -/
def anyMeet : List (Nat × Nat) → Bool
  | [] => false
  | r :: rs => rs.any (meet r) || anyMeet rs

/-- The timing schedule of the committed image: its BUILD_ID, and what it declares (14 R388). -/
def State.schedule (s : State) : Option Schedule :=
  s.boot.image.bind (fun im => im.schedule.map (fun b =>
    { (if b.length ≤ 8 then Schedule.silent else Config.schedule (b.drop 8)) with buildId := byteField b 0 8 }))

/-- A trigger of the timing schedule: without one it does not hold (log entry 32). -/
def State.schedOr {α : Type} (s : State) (d : α) (f : Schedule → α) : α :=
  match s.schedule with
  | some x => f x
  | none => d

/- Class 0x0B: version (R343). -/

/-- Whether a configuration word that the image has loaded enables something on a port that the variant lacks (R343): a
context, a relay, the in-band path, metering or a decoder. -/
def State.wordNamesAbsent (s : State) (p : Place) : Bool :=
  let num := p.reg.num
  if num = Reg.num .CSIRX_CTX_CFG then s.on F.CSIRX_CTX_CFG_EN p.u && !s.rxOn (s.rd F.CSIRX_CTX_CFG_PORT p.u)
  else if num = Reg.num .CSITX_RELAY_CFG then
    s.on F.CSITX_RELAY_CFG_EN 0 p.i &&
      (!s.rxOn (s.rd F.CSITX_RELAY_CFG_RX_PORT 0 p.i) || !s.txOn (s.rd F.CSITX_RELAY_CFG_TX_PORT 0 p.i))
  else if num = Reg.num .CMD_INBAND_CFG then
    s.on F.CMD_INBAND_CFG_EN && (!s.rxOn (s.rd F.CMD_INBAND_CFG_RX_PORT) ||
      s.on F.CMD_INBAND_CFG_REPLY_EN && !s.txOn (s.rd F.CMD_INBAND_CFG_TX_PORT))
  else if num = Reg.num .ASH_METER_CFG then s.on F.ASH_METER_CFG_TX_EN && !s.txOn (s.rd F.ASH_METER_CFG_TX_PORT)
  else if num = Reg.num .ASH_DEC_CFG then
    s.on F.ASH_DEC_CFG_KIND 0 p.i && s.on F.ASH_DEC_CFG_TX_EN 0 p.i && !s.txOn (s.rd F.ASH_DEC_CFG_TX_PORT 0 p.i)
  else false

/-- Whether a section of registers or of GDDR6 data names a port or a group that the variant lacks (R343). -/
def State.namesAbsent (s : State) (x : Nat × Nat) : Bool :=
  if g6Base ≤ x.1 then !s.g6Has x.1 || !s.g6Has (x.1 + x.2 - 1)
  else (List.range (x.2 / 4)).any (fun k => match s.place (x.1 + 4 * k) with
    | some p => !s.unitOn p || s.wordNamesAbsent p
    | none => false)

/-- Details of class 0x0B. -/
def State.versionTests (s : State) : List (Nat × Option Nat) :=
  match s.boot.image with
  | none => []
  | some im =>
    [(0x10, badIf (decide (1 < im.minArch) || decide (im.maxArch < 1))),
     (0x11, badIf (im.format != 1 || !(match s.boot.fw with | some f => decide (im.reqFw ≤ f.version) | none => false))),
     (0x12, match (im.cores.mergeSort (· ≤ ·)).find? (fun n => !s.coreOn n) with
       | some n => some n
       | none => if im.targets.any s.namesAbsent then some 0xFFFF else none),
     (0x13, badIf (s.schedOr false (fun x => x.buildId != im.buildId)))]

/- Class 0x0A: security (R342). -/

/-- Details of class 0x0A, over the staged bytes of the committed image. -/
def State.securityTests (s : State) (staged : Option (List Byte)) : List (Nat × Option Nat) :=
  [(0x01, badIf (match s.boot.image, staged with
     | some im, some b => imageDigest b != im.digest
     | _, _ => true)),
   (0x02, badIf (match s.boot.image, staged with
     | some im, some b => !s.signed im.digest (signaturesOf b)
     | _, _ => false))]

/- Class 0x01: clocking (R339). -/

/-- The enabled stream contexts, relays and decoders. -/
def State.ctxsOn (s : State) : List Nat := (List.range 48).filter (fun c => s.on F.CSIRX_CTX_CFG_EN c)
def State.relaysOn (s : State) : List Nat := (List.range 16).filter (fun r => s.on F.CSITX_RELAY_CFG_EN 0 r)

/-- The RX ports and the TX ports that the configuration uses (11 R316). -/
def State.rxUsed (s : State) : List Nat :=
  s.ctxsOn.map (fun c => s.rd F.CSIRX_CTX_CFG_PORT c) ++ s.relaysOn.map (fun r => s.rd F.CSITX_RELAY_CFG_RX_PORT 0 r) ++
    (if s.on F.CMD_INBAND_CFG_EN then [s.rd F.CMD_INBAND_CFG_RX_PORT] else [])
def State.txUsed (s : State) : List Nat :=
  s.relaysOn.map (fun r => s.rd F.CSITX_RELAY_CFG_TX_PORT 0 r) ++
    (if s.on F.CMD_INBAND_CFG_EN && s.on F.CMD_INBAND_CFG_REPLY_EN then [s.rd F.CMD_INBAND_CFG_TX_PORT] else []) ++
    (s.decoders.filter (·.txEn)).map (·.port) ++
    (if s.on F.ASH_METER_CFG_TX_EN then [s.rd F.ASH_METER_CFG_TX_PORT] else []) ++
    (match s.learn.snap with | some x => if bit x.dest 7 then [bits x.dest 1 0] else [] | none => [])

/-- Whether the configuration uses GDDR6, whose addresses spread over every enabled group (10_memory_system.md R278): a bound
queue, a load context, a replay region, the pair's area, or data of the image (DEDUCED, log entry 35). -/
def State.usesG6 (s : State) : Bool :=
  s.boundQids.any (fun q => match s.descOf q with | some d => d.type != 0 | none => false) ||
    s.ctxsOn.any (fun c => s.rd F.CSIRX_CTX_CFG_KIND c == 3) || s.on F.TND_CTRL_REPLAY_EN || s.mirroring ||
    (match s.boot.image with | some im => im.targets.any (fun x => decide (g6Base ≤ x.1)) | none => false)

/-- Details of class 0x01. -/
def State.clockTests (s : State) : List (Nat × Option Nat) :=
  let txs := s.txUsed ++ (if s.mirroring then [s.mirrorTx] else [])
  [(0x01, badIf (!s.on F.CLK_STAT_PLL_A_LOCK && !s.on F.CLK_STAT_PLL_B_LOCK)),
   (0x02, s.schedOr none (fun x => s.badCore (fun n => decide (s.liveBin (s.tileOf n) < (x.bin.lookup n).getD 0)))),
   (0x03, badIf (s.schedOr false (fun x => x.boost && (s.fuse.boostDis || !s.on F.KILN_CTRL_MODE)))),
   (0x04, match badOf 4 (fun p => txs.contains p && !bit (s.rd F.CLK_STAT_TX_LOCK) p) with
     | some p => some (0x80 + p)
     | none => (s.groups.find? (fun g => s.usesG6 && !bit (s.rd F.CLK_STAT_G6_LOCK) g)).map (0x100 + ·)),
   (0x05, s.groups.find? (fun g => s.usesG6 && (!s.on F.MEM_STAT_TRAINED g || s.g6Failed g)))]

/- Class 0x09: power (R341). -/

/-- Details of class 0x09. -/
def State.powerTests (s : State) : List (Nat × Option Nat) :=
  [(0x01, badIf (s.schedOr false (fun x => decide (s.rd F.KILN_CAP_CAP < x.power)))),
   (0x02, badIf (decide (s.fuse.maxPower < s.rd F.KILN_CAP_CAP)))]

/- Class 0x02: time (02 R68). -/

/-- Whether this check is that of a standby that joins a running primary (13 R366). -/
def State.joins (s : State) : Bool := s.mirroring && s.standby && s.pair.peerRun

/-- Details of class 0x02; a joining standby's skips detail 0x06.  That detail's 'less than' is taken by signed
distance modulo 2^64, since GRAIN wraps (DEDUCED, log entry 58). -/
def State.timeTests (s : State) : List (Nat × Option Nat) :=
  let locked := !s.on F.TIME_CTRL_MODE
  [(0x01, badIf (decide (s.stepLen < 20) || decide (10000 < s.stepLen))),
   (0x02, badIf (s.frameSteps == 0 || decide (64 < s.frameSteps) || decide (s.frameLen < 250) || decide (10000 < s.frameLen))),
   (0x03, badIf (decide (50 < s.rd F.TIME_STEP_CFG_STRETCH_PCT))),
   (0x04, badIf (s.schedOr false (fun x => x.stepLen.any (· != s.stepLen) || x.frameLen.any (· != s.frameLen)))),
   (0x05, s.schedOr none (fun x => s.badCore (fun n => locked && decide (s.stepLen < (x.work.lookup n).getD 0)))),
   (0x06, badIf (locked && !s.joins && decide (span (s.rd F.TIME_ORIGIN_ORIGIN) s.grain < s.stepLen))),
   (0x07, if locked then none else match s.ctxsOn.find? (fun c => decide (s.rd F.CSIRX_CTX_CFG_KIND c ≤ 2)) with
     | some c => some c
     | none => (badOf 16 (fun d => s.on F.TND_DIN_CFG_EN 0 d)).map (0x100 + ·))]

/- Class 0x03: memory partition (03 R99, 04 R123). -/

/-- The partitions of a core as first word and number of words; the Landing partition takes both banks (03 R70, R71). -/
def State.partitions (s : State) (n : Nat) : List (Nat × Nat) :=
  [(s.rd F.CORE_PART_STATE_BASE n, s.rd F.CORE_PART_STATE_SIZE n), (s.rd F.CORE_PART_LAND_BASE n, 2 * s.rd F.CORE_PART_LAND_SIZE n),
   (s.rd F.CORE_PART_SYN_BASE n, s.rd F.CORE_PART_SYN_SIZE n), (s.rd F.CORE_PART_LRN_BASE n, s.rd F.CORE_PART_LRN_SIZE n),
   (s.rd F.CORE_PART_SMD_BASE n, s.rd F.CORE_PART_SMD_SIZE n), (s.rd F.CORE_PART_OUT_BASE n, s.rd F.CORE_PART_OUT_SIZE n),
   (s.rd F.CORE_PART_MBX_BASE n, s.rd F.CORE_PART_MBX_SIZE n), (s.rd F.CORE_PART_SCR_BASE n, s.rd F.CORE_PART_SCR_SIZE n)]

/-- The words of a group's records within the State partition. -/
def Group.records (g : Group) : Nat × Nat := (g.stateOfs, g.count * g.recWords)

/-- The trigger of detail 0x06: reserved and disallowed values of a group (03 R87, R99). -/
def Group.disallowed (g : Group) : Bool :=
  decide (5 ≤ g.model) || g.format == 3 || g.resetMode == 3 || g.act == 3 ||
    (if g.model = 4 then g.grade == 0 else g.grade == 2) || ((g.model == 2 || g.model == 3) && g.format == 0) ||
    (g.depth != 0 && g.format != 2) || (g.model == 4 && g.act == 1 && decide (g.clampHi < g.clampLo))

/-- Whether a valid fan-out entry breaks R89. -/
def badFan (w : Word) : Bool :=
  let dest := wbits w 63 51
  bit w.toNat 30 && (!(decide (dest < 1024) || dest == agAsh || dest == agBroadcast) ||
    (!decide (dest < 1024) && wbits w 34 31 != 0))

/-- Whether a core has a valid fan-out entry that breaks R89. -/
def State.badFans (s : State) (n : Nat) : Bool :=
  (s.groupsOf n).any (fun g => (List.range (g.count * g.fanPer)).any (fun k =>
    match s.sramPeek n (s.rd F.CORE_PART_OUT_BASE n + g.outOfs + k) with
    | some w => badFan w
    | none => false))

/-- The valid descriptors of a core's axon table, by ascending axon (04 R103, R104). -/
def State.rowsOf (s : State) (n : Nat) : List (Nat × RowDesc) :=
  (List.range (s.rd F.SYN_AXON_CFG_AXON_COUNT n)).filterMap (fun x =>
    (s.sramPeek n (s.axonWord n x)).bind (fun w => if (RowDesc.ofWord w).valid then some (x, RowDesc.ofWord w) else none))

/-- The words of the scale table and of the column header (04 R109, R116). -/
def State.scaleTable (s : State) (n : Nat) : Nat × Nat :=
  (s.rd F.SYN_SCALE_CFG_SCALE_OFS n, if s.on F.SYN_SCALE_CFG_SCALE_EN n then ceilDiv (s.slots n) 4 else 0)
def State.colHeader (s : State) (n : Nat) : Nat × Nat :=
  (s.rd F.SYN_COL_CFG_HDR_OFS n, ceilDiv (s.rd F.SYN_COL_CFG_COL_COUNT n) 2)

/-- The header entry of covered slot `i` of the column index: number of axons and first element (04 R109). -/
def State.colEntry (s : State) (n i : Nat) : Nat × Nat :=
  match s.sramPeek n (s.rd F.CORE_PART_SYN_BASE n + s.rd F.SYN_COL_CFG_HDR_OFS n + i / 2) with
  | some w => (bits (half w (i % 2)) 31 19, bits (half w (i % 2)) 18 0)
  | none => (0, 0)

/-- The words of the column list that header entries name. -/
def State.colList (s : State) (n : Nat) : Nat × Nat :=
  (s.rd F.SYN_COL_CFG_ENT_OFS n, ((List.range (s.rd F.SYN_COL_CFG_COL_COUNT n)).map (fun i =>
    let e := s.colEntry n i
    if e.1 = 0 then 0 else ceilDiv (e.1 + e.2) 4)).foldl max 0)

/-- Detail 0x0C of a descriptor. -/
def RowDesc.malformed (d : RowDesc) : Bool :=
  decide (3 ≤ d.fmt) || decide (5 ≤ d.wfmt) || d.pay == 3 || (d.fmt == 1 && (d.wfmt != 0 || d.plastic)) || d.rsv != 0

/-- Detail 0x0D of core `n`: a row outside the partition or on another structure, or a plastic row that shares words. -/
def State.rowsClash (s : State) (n : Nat) : Bool :=
  let rows := s.rowsOf n
  let size := s.rd F.CORE_PART_SYN_SIZE n
  let fixed := [(s.rd F.SYN_AXON_CFG_AXON_OFS n, s.rd F.SYN_AXON_CFG_AXON_COUNT n), s.scaleTable n, s.colHeader n, s.colList n]
  rows.any (fun r =>
    let w := (r.2.rowOfs, r.2.words)
    decide (size < w.1 + w.2) && w.2 != 0 || fixed.any (fun f => f.2 != 0 && w.2 != 0 && meet w f) ||
      (r.2.plastic && rows.any (fun q => q.1 != r.1 && q.2.words != 0 && w.2 != 0 && meet w (q.2.rowOfs, q.2.words))))

/-- Detail 0x0E: a row that targets a slot beyond the landing banks. -/
def State.rowTooFar (s : State) (n : Nat) (d : RowDesc) : Bool :=
  if d.fmt = 1 then (List.range d.len).any (fun k => match s.sparseSlot n d k with | some j => decide (s.slots n ≤ j) | none => false)
  else decide (s.slots n < d.tbase + d.len)

/-- Detail 0x0F: the column index reaches too far, or a list does not name exactly the column-indexed rows of its slot. -/
def State.badColumns (s : State) (n : Nat) : Bool :=
  let count := s.rd F.SYN_COL_CFG_COL_COUNT n
  let size := s.rd F.CORE_PART_SYN_SIZE n
  let base := s.rd F.SYN_COL_CFG_COL_BASE n
  let rows := (s.rowsOf n).filter (fun r => r.2.fmt == 2)
  count != 0 && (decide (size < (s.colHeader n).1 + (s.colHeader n).2) || decide (size < (s.colList n).1 + (s.colList n).2) ||
    decide (s.slots n < base + count) ||
    (List.range count).any (fun i =>
      let j := base + i
      ((Port.start s n).columnOf j).1 != (rows.filter (fun r => decide (r.2.tbase ≤ j) && decide (j < r.2.tbase + r.2.len))).map (fun r => some r.1)))

/-- Details of class 0x03.  A group with FAN_PER = 0 has no fan-out entry, so detail 0x08 is not raised for its OUT_OFS (DEDUCED,
log entry 61). -/
def State.partitionTests (s : State) : List (Nat × Option Nat) :=
  [(0x01, s.badCore (fun n => (s.partitions n).any (fun p => decide (32768 < p.1 + p.2)))),
   (0x02, s.badCore (fun n => anyMeet ((s.partitions n).filter (fun p => p.2 != 0)))),
   (0x03, s.badGroup (fun n g => decide (8192 < g.base + g.count) || decide (s.slots n < g.base + g.count))),
   (0x04, s.badGroup (fun n g => (s.groupsOf n).any (fun h => decide (h.g < g.g) && meet (g.base, g.count) (h.base, h.count)))),
   (0x05, s.badGroup (fun n g => decide (s.rd F.CORE_PART_STATE_SIZE n < g.stateOfs + g.count * g.recWords) ||
     (s.groupsOf n).any (fun h => h.g != g.g && meet g.records h.records))),
   (0x06, s.badGroup (fun _ g => g.disallowed)),
   (0x07, s.badGroup (fun n g => g.depth == 16 && decide (s.rd F.CORE_PART_SMD_SIZE n < g.smdOfs + 2 * g.count))),
   (0x08, s.badGroup (fun n g => decide (s.rd F.CORE_PART_OUT_SIZE n < g.outOfs + g.count * g.fanPer) && g.fanPer != 0)),
   (0x09, s.badCore s.badFans),
   (0x0A, s.badCore (fun n => decide (s.rd F.CORE_PART_SYN_SIZE n < s.rd F.SYN_AXON_CFG_AXON_OFS n + s.rd F.SYN_AXON_CFG_AXON_COUNT n))),
   (0x0B, s.badCore (fun n => s.on F.SYN_SCALE_CFG_SCALE_EN n &&
     decide (s.rd F.CORE_PART_SYN_SIZE n < (s.scaleTable n).1 + (s.scaleTable n).2))),
   (0x0C, s.badCore (fun n => (s.rowsOf n).any (fun r => r.2.malformed))),
   (0x0D, s.badCore s.rowsClash),
   (0x0E, s.badCore (fun n => (s.rowsOf n).any (fun r => s.rowTooFar n r.2))),
   (0x0F, s.badCore s.badColumns),
   (0x10, s.badCore (fun n => decide (5 ≤ s.rd F.SYN_CORD_CFG_MODE n) ||
     ((s.rd F.SYN_CORD_CFG_MODE n == 3 || s.rd F.SYN_CORD_CFG_MODE n == 4) && decide (s.slots n ≤ s.rd F.SYN_CORD_CFG_BASE n))))]

/- Class 0x04: schedule (08 R244). -/

/-- The logical cores whose routers have a table, ascending. -/
def State.routers (s : State) : List Nat :=
  ((s.cordTable.map (·.1)).eraseDups.filterMap s.coreAt).mergeSort (· ≤ ·)

/-- The lane fields of a tile's table that are not idle: slot, lane and field. -/
def State.laneFields (s : State) (p : Nat) : List (Nat × Nat × LaneField) :=
  (s.cordTable.filter (fun e => e.1 == p)).flatMap (fun e =>
    ((List.range 4).filter (fun l => bits e.2.2 (16 * l + 15) (16 * l) != 0)).map (fun l => (e.2.1, l, laneField e.2.2 l)))

/-- The link directions that a field names as inputs, and as outputs. -/
def LaneField.inputs (f : LaneField) : List Nat := [f.a, f.b].filter (fun d => decide (1 ≤ d) && decide (d ≤ 4))
def LaneField.outputs (f : LaneField) : List Nat := [1, 2, 3, 4].filter f.drives

/-- The least core whose router has a field of which a trigger holds. -/
def State.badField (s : State) (p : Nat → Nat × Nat × LaneField → Bool) : Option Nat :=
  s.routers.find? (fun n => (s.laneFields (s.tileOf n)).any (p (s.tileOf n)))

/-- Detail 0x02: a link that the lane has not, or that leads to no router of the plane. -/
def State.badLink (s : State) (p : Nat) (x : Nat × Nat × LaneField) : Bool :=
  (x.2.2.inputs ++ x.2.2.outputs).any (fun d =>
    match s.cordNeighbour p d with
    | none => true
    | some q => (x.2.1 != 0 && tileEngine p != tileEngine q) ||
      (s.on F.CORD_CTRL_REGION && (match s.coreAt q with | some m => decide (256 ≤ m) | none => true)))

/-- Detail 0x03. -/
def LaneField.illFormed (f : LaneField) : Bool :=
  (f.a == 0 && (f.op != 0 || f.out != 0)) || (f.op == 0 && f.b != 0) || (f.op != 0 && f.b == 0) || f.a == f.b

/-- Detail 0x04: an output that no field takes at the arrival slot, or an input at which no word arrives (R227). -/
def State.unmatched (s : State) (p : Nat) (x : Nat × Nat × LaneField) : Bool :=
  x.2.2.outputs.any (fun d => match s.cordNeighbour p d with
    | some q => !(s.laneFields q).any (fun y => y.1 == x.1 + s.linkSlots p q && y.2.1 == x.2.1 && y.2.2.inputs.contains (facing d))
    | none => false) ||
  x.2.2.inputs.any (fun d => match s.cordNeighbour p d with
    | some q => !(s.laneFields q).any (fun y => y.1 + s.linkSlots q p == x.1 && y.2.1 == x.2.1 && y.2.2.drives (facing d))
    | none => false)

/-- Detail 0x05: an arrival slot at a router at or beyond 1,024 (R227, R228); a compute port's delivery is at the word's last
router already. -/
def State.tooLateSlot (s : State) (p : Nat) (x : Nat × Nat × LaneField) : Bool :=
  x.2.2.outputs.any (fun d => match s.cordNeighbour p d with
    | some q => decide (1024 ≤ x.1 + s.linkSlots p q)
    | none => false)

/-- The send words of a core (R234). -/
def State.sendWords (s : State) (n : Nat) : Nat :=
  let p := s.tileOf n
  if s.on F.CORD_SEND_CFG_MODE p then ceilDiv (s.rd F.CORD_SEND_CFG_SCOUNT p) (sendPer (s.rd F.CORD_SEND_CFG_MODE p)) else 0

/-- Detail 0x07. -/
def State.badSend (s : State) (n : Nat) : Bool :=
  let p := s.tileOf n
  let mode := s.rd F.CORD_SEND_CFG_MODE p
  let r := (s.rd F.CORD_SEND_CFG_SBASE p, s.rd F.CORD_SEND_CFG_SCOUNT p)
  decide (5 ≤ mode) || (mode != 0 && (decide (8192 < r.1 + r.2) || decide (s.slots n < r.1 + r.2))) ||
    ((mode == 3 || mode == 4) && (s.groupsOf n).any (fun g => g.model != 4 && meet r (g.base, g.count)))

/-- Worst-case core cycles of the word numbered `m` in a step at core `n`: every activation not zero (04 R112, R114). -/
def State.worstWord (s : State) (n m : Nat) : Nat :=
  let base := s.rd F.SYN_CORD_CFG_BASE n
  let per := match s.rd F.SYN_CORD_CFG_MODE n with | 1 => 8 | 2 => 16 | _ => 0
  if per = 0 then 1 else ((List.range per).map (fun k => s.opCycles n (base + per * m + k) (fun _ => 1))).sum

/-- The worst receive-buffer occupancy of a run that starts with the buffer empty and the synapse engine at the first cycle of
its longest operation.  Times are in fifths of a fabric cycle: a core cycle at bin 5 is 16/5 of one (04 R112, 08 R230,
R236, 16 R422).  `starts` are the starts of service of the words in the buffer, `busy` the end of the engine's present work. -/
def occupancy : List (Nat × Nat) → List Nat → Nat → Nat → Nat
  | [], _, _, top => top
  | (t, cost) :: rest, starts, busy, top =>
    let held := starts.filter (fun x => decide (t < x))
    let start := max t busy
    occupancy rest (held ++ [start]) (start + cost) (max top (held.length + b2n (decide (t < start))))

/-- Detail 0x08 of core `n`. -/
def State.overfills (s : State) (n : Nat) : Bool :=
  let p := s.tileOf n
  let outs := (((s.laneFields p).filter (fun x => x.2.2.drives 5)).map (fun x => (x.1, x.2.1))).mergeSort
    (fun a b => decide (a.1 < b.1) || (a.1 == b.1 && decide (a.2 ≤ b.2)))
  let longest := ((s.rowsOf n).map (fun r => s.rowCycles n r.2)).foldl max 1
  outs != [] && (List.range (s.rd F.CORD_CTRL_RUNS)).any (fun r =>
    let ws := outs.zipIdx.map (fun x => (5 * (x.1.1 + 2), 16 * s.worstWord n (r * outs.length + x.2)))
    decide (32 < occupancy ws [] (5 * ((ws.headD (0, 0)).1 / 5) + 16 * longest) 0))

/-- Detail 0x0A: the schedule's tables, START, RUNS or REGION differ from those loaded. -/
def State.tablesDiffer (s : State) (x : CordPlan) : Bool :=
  let loaded := s.cordTable.filterMap (fun e => (s.coreAt e.1).map (fun n => (n, e.2.1, e.2.2)))
  x.start != s.rd F.CORD_CTRL_START || x.runs != s.rd F.CORD_CTRL_RUNS || x.region != s.on F.CORD_CTRL_REGION ||
    loaded.any (fun e => !x.tables.contains e) || x.tables.any (fun e => !loaded.contains e)

/-- Details of class 0x04. -/
def State.cordTests (s : State) : List (Nat × Option Nat) :=
  [(0x01, s.badField (fun _ x => decide (6 ≤ x.2.2.a) || decide (6 ≤ x.2.2.b) || decide (5 ≤ x.2.2.op) || x.2.2.rsv != 0)),
   (0x02, s.badField s.badLink),
   (0x03, s.badField (fun _ x => x.2.2.illFormed)),
   (0x04, s.badField s.unmatched),
   (0x05, s.badField s.tooLateSlot),
   (0x06, ((s.routers ++ s.loaded).eraseDups.mergeSort (· ≤ ·)).find? (fun n =>
     s.rd F.CORD_PORT_CNT_LOCAL_IN (s.tileOf n) * s.rd F.CORD_CTRL_RUNS != s.sendWords n || decide (256 < s.sendWords n) ||
       (s.receives (s.tileOf n) && s.rd F.SYN_CORD_CFG_MODE n == 0))),
   (0x07, s.badCore s.badSend),
   (0x08, s.badCore s.overfills),
   (0x09, badIf (decide (8 < s.rd F.CORD_CTRL_RUNS) ||
     decide (10 * s.stepLen < 16 * (s.rd F.CORD_CTRL_START + s.rd F.CORD_CTRL_RUNS + 1)))),
   (0x0A, badIf (s.schedOr false (fun x => x.cord.any s.tablesDiffer)))]

/- Class 0x05: streams and ports (11 R316), encoders, decoders and actuation (06 R185). -/

/-- The DTs that a KIND allows (11 R296). -/
def kindDt (kind : Nat) : List Nat :=
  match kind with | 0 => [0x30] | 1 => [0x31] | 2 => [0x2A, 0x2B, 0x2C, 0x2E, 0x1E] | 3 => [0x32] | _ => []

/-- A context's port, VC and DT; its tags; its buffer where its kind has one (11 R296, R297). -/
def State.ctxKey (s : State) (c : Nat) : Nat × Nat × Nat :=
  (s.rd F.CSIRX_CTX_CFG_PORT c, s.rd F.CSIRX_CTX_CFG_VC c, s.rd F.CSIRX_CTX_CFG_DT c)
def State.ctxTags (s : State) (c : Nat) : Nat × Nat := (s.rd F.CSIRX_CTX_CFG_TAG_BASE c, s.rd F.CSIRX_CTX_CFG_TAG_COUNT c)
def State.ctxBuf (s : State) (c : Nat) : Nat × Nat :=
  (s.rd F.CSIRX_CTX_BUF_BASE c, if s.rd F.CSIRX_CTX_CFG_KIND c ≤ 2 then s.rd F.CSIRX_CTX_BUF_SIZE c else 0)

/-- Sixteen times the capacity of a port in Mbps (11 R293). -/
def State.rxCap (s : State) (p : Nat) : Nat := 150 * s.rd F.CSIRX_STAT_LANES_ACT p * s.rd F.CSIRX_PORT_CFG_RATE p
def State.txCap (s : State) (p : Nat) : Nat := 150 * lanesOf (s.rd F.CSITX_PORT_CFG_LANES p) * s.rd F.CSITX_PORT_CFG_RATE p

/-- The TX ports and VCs of block sources (11 R316). -/
def State.blockVcs (s : State) : List (Nat × Nat) :=
  (s.decoders.filter (·.txEn)).map (fun d => (d.port, d.vc)) ++
    (if s.on F.ASH_METER_CFG_TX_EN then [(s.rd F.ASH_METER_CFG_TX_PORT, s.rd F.ASH_METER_CFG_TX_VC)] else []) ++
    (if s.on F.CMD_INBAND_CFG_EN && s.on F.CMD_INBAND_CFG_REPLY_EN then
      [(s.rd F.CMD_INBAND_CFG_TX_PORT, s.rd F.CMD_INBAND_CFG_TX_VC)] else []) ++
    (if s.mirroring then [(s.mirrorTx, s.rd F.PAIR_CFG_MIR_VC)] else []) ++
    (match s.learn.snap with | some x => if bit x.dest 7 then [(bits x.dest 1 0, bits x.dest 5 2)] else [] | none => [])

/-- A relay's two ends as port and VC. -/
def State.relayTx (s : State) (r : Nat) : Nat × Nat := (s.rd F.CSITX_RELAY_CFG_TX_PORT 0 r, s.rd F.CSITX_RELAY_CFG_TX_VC 0 r)

/-- Whether a port's RATE and LANES let it send or receive (11 R316). -/
def badRate (rate lanes : Nat) : Bool := decide (rate < 8) || decide (450 < rate) || lanes == 3

/-- Details of class 0x05 up to 0x0A (11 R316). -/
def State.portTests (s : State) : List (Nat × Option Nat) :=
  let cs := s.ctxsOn
  let rs := s.relaysOn
  [(0x01, cs.find? (fun c => !(kindDt (s.rd F.CSIRX_CTX_CFG_KIND c)).contains (s.rd F.CSIRX_CTX_CFG_DT c))),
   (0x02, cs.find? (fun c => let p := s.rd F.CSIRX_CTX_CFG_PORT c
     !s.rxOn p || !s.on F.CSIRX_PORT_CFG_EN p || !s.on F.CSIRX_STAT_LANES_ACT p)),
   (0x03, cs.find? (fun c => cs.any (fun d => d != c && s.ctxKey d == s.ctxKey c) || s.inbandVc (s.ctxKey c).1 (s.ctxKey c).2.1)),
   (0x04, cs.find? (fun c => decide (4096 < (s.ctxTags c).1 + (s.ctxTags c).2) ||
     cs.any (fun d => d != c && meet (s.ctxTags c) (s.ctxTags d)) ||
     (s.rd F.CSIRX_CTX_CFG_KIND c == 2 && (s.ctxTags c).2 != 1))),
   (0x05, (badOf 6 (fun p => decide (s.rxCap p < 16 * ((cs.filter (fun c => s.rd F.CSIRX_CTX_CFG_PORT c == p)).map
     (fun c => s.rd F.CSIRX_CTX_PARAM_BUDGET c)).sum))).map (0x80 + ·)),
   (0x06, s.schedOr none (fun x => (badOf 4 (fun p => decide (s.txCap p < 16 * ((x.txLoad.lookup p).getD 0 +
     ((rs.filter (fun r => (s.relayTx r).1 == p)).map (fun r => (x.relay.lookup r).getD 0)).sum)))).map (0x80 + ·))),
   (0x07, (rs.find? (fun r => let p := s.rd F.CSITX_RELAY_CFG_RX_PORT 0 r
     !s.rxOn p || !s.txOn (s.relayTx r).1 || rs.any (fun q => q != r && s.relayTx q == s.relayTx r) ||
       s.blockVcs.contains (s.relayTx r) || decide (s.txCap (s.relayTx r).1 < s.rxCap p))).map (0x40 + ·)),
   (0x08, cs.find? (fun c => decide (32768 < (s.ctxBuf c).1 + (s.ctxBuf c).2) && (s.ctxBuf c).2 != 0 ||
     cs.any (fun d => d != c && (s.ctxBuf c).2 != 0 && (s.ctxBuf d).2 != 0 && meet (s.ctxBuf c) (s.ctxBuf d)))),
   (0x09, cs.find? (fun c => (s.rd F.CSIRX_CTX_CFG_KIND c == 0 && !s.on F.CSIRX_CTX_SEQ_RATE c) ||
     (s.rd F.CSIRX_CTX_CFG_KIND c == 2 && !s.on F.CSIRX_CTX_PARAM_WIDTH c))),
   (0x0A, match badOf 6 (fun p => s.rxUsed.contains p && badRate (s.rd F.CSIRX_PORT_CFG_RATE p) (s.rd F.CSIRX_PORT_CFG_LANES p)) with
     | some p => some (0x80 + p)
     | none => (badOf 4 (fun p => s.txUsed.contains p && (!s.on F.CSITX_PORT_CFG_EN p ||
         badRate (s.rd F.CSITX_PORT_CFG_RATE p) (s.rd F.CSITX_PORT_CFG_LANES p)))).map (0xC0 + ·))]

/-- Whether a channel's parameters and reserved bits are as 06 R157 asks. -/
def Chan.parsOk (c : Chan) : Bool :=
  match c.enc with
  | 1 => decide (1 ≤ c.p1) && decide (1 ≤ c.p2) && decide (1 ≤ c.p3) && decide (c.p3 ≤ 15) && c.p4 == 0
  | 2 => decide (c.p3 ≤ 1) && c.p4 == 0
  | 3 => decide (c.p3 < 256) && c.p4 == 0
  | 4 => decide (c.p3 < 128) && bits c.p3 5 4 != 3 && c.p4 == 0
  | 6 => bits c.p3 5 0 != 0 && bits c.p3 7 6 == 0 && bits c.p3 15 12 == 0 && c.p4 == 0
  | 7 => decide (1 ≤ c.p1) && decide (1 ≤ c.p3) && decide (c.p4 < 16)
  | 8 => decide (1 ≤ c.p1) && decide (1 ≤ c.p2) && decide (c.p3 < 16) && c.p4 == 0
  | e => decide (e ≤ 9) && c.p3 == 0 && c.p4 == 0

/-- The highest axon to which a channel can send (06 R157, R163 to R165). -/
def Chan.topAxon (c : Chan) : Nat :=
  match c.enc with
  | 1 | 5 | 9 => c.axon + 1
  | 6 => c.axon + bits c.p3 5 0 - 1
  | 7 => c.axon + 2 * c.p3 - 1
  | 8 => c.axon + 2 * (ceilDiv c.p1 (2 ^ bits c.p3 3 0) * ceilDiv c.p2 (2 ^ bits c.p3 3 0)) - 1
  | _ => c.axon

/-- The enabled channels, by ascending tag. -/
def State.chansOn (s : State) : List Chan := ((List.range 4096).map s.chan).filter (·.en)

/-- The words that a membrane readout reads, and whether they lie in its core's State partition (06 R174). -/
def State.badReadout (s : State) (d : Decoder) : Bool :=
  d.kind == 2 && (!s.coreOn d.core || decide (1024 < d.count) || decide (d.word < s.rd F.CORE_PART_STATE_BASE d.core) ||
    decide (s.rd F.CORE_PART_STATE_BASE d.core + s.rd F.CORE_PART_STATE_SIZE d.core < d.word + d.count * d.stride))

/-- Details of class 0x05 from 0x20 on (06 R185). -/
def State.encoderTests (s : State) : List (Nat × Option Nat) :=
  let cs := s.chansOn
  let ds := s.decoders
  let dins := (List.range 16).filter (fun d => s.on F.TND_DIN_CFG_EN 0 d)
  let first := s.rd F.TND_REPLAY_BASE_ADDR / 8 * 8
  let last := s.rd F.TND_REPLAY_END_ADDR / 8 * 8
  [(0x20, (cs.find? (fun c => !c.parsOk || bits (s.rd F.TND_CHAN_A_WORD 0 c.tag) 28 0 != 0)).map (·.tag)),
   (0x21, (cs.find? (fun c => !(s.coreOn c.dest || c.dest == agAsh || c.dest == agBroadcast))).map (·.tag)),
   (0x22, (cs.find? (fun c => decide (65535 < c.topAxon) || (c.enc == 7 && (decide (65536 < c.p2 + c.p3) ||
     cs.any (fun d => d.enc == 7 && d.tag != c.tag && meet (c.p2, c.p3) (d.p2, d.p3)))))).map (·.tag)),
   (0x23, dins.find? (fun d => let t := s.rd F.TND_DIN_CFG_TAG 0 d
     (s.chan t).enc != 9 || dins.any (fun e => e != d && s.rd F.TND_DIN_CFG_TAG 0 e == t))),
   (0x24, (ds.find? (fun d => decide (6 ≤ d.kind) || d.pay == 3 || s.rd F.ASH_DEC_PAR_STRIDE 0 d.d == 3 ||
     decide (8192 < d.base + d.count) || d.count == 0 ||
     ds.any (fun e => e.d != d.d && meet (d.base, d.count) (e.base, e.count)))).map (·.d)),
   (0x25, (ds.find? s.badReadout).map (·.d)),
   (0x26, match ds.find? (fun d => d.txEn && !s.txOn d.port) with
     | some d => some d.d
     | none => if s.on F.ASH_METER_CFG_TX_EN && !s.txOn (s.rd F.ASH_METER_CFG_TX_PORT) then some 0x100 else none),
   (0x27, (badOf 16 (fun a => s.on F.ACT_CFG_EN 0 a && (!s.on F.ASH_DEC_CFG_KIND 0 (s.rd F.ACT_CFG_DEC 0 a) ||
     decide (s.rd F.ACT_CFG_OFFSET 0 a < 20) || decide (s.frameLen ≤ s.rd F.ACT_CFG_OFFSET 0 a) ||
     (!s.on F.ACT_CFG_WIDTH 0 a && !s.on F.ACT_CFG_HOLD 0 a)))).map (0x200 + ·)),
   (0x28, badIf (s.on F.TND_CTRL_REPLAY_EN && (!s.on F.TIME_CTRL_MODE || decide (last ≤ first) || !s.g6Has first ||
     !s.g6Has (last - 1))))]

/- Class 0x06: learning (05 R153). -/

/-- The tables of the Learning partition that a core has, as offset and words (05 R128, R129). -/
def State.lrnTables (s : State) (n : Nat) : List (Nat × Nat) :=
  let na := s.rd F.LRN_PLASTIC_PL_AXON_COUNT n
  let ns := s.rd F.LRN_PLASTIC_PL_SLOT_COUNT n
  let ts := s.on F.LRN_CFG_TS_MODE n
  let rule1 := s.rd F.LRN_CFG_RULE n == 1
  [(s.rd F.LRN_LAYOUT0_PRE_OFS n, if ts then na else ceilDiv na 2),
   (s.rd F.LRN_LAYOUT0_POST_OFS n, if ts then ceilDiv ns 4 else 0),
   (s.rd F.LRN_LAYOUT0_MOD_OFS n, if rule1 then ns else 0),
   (s.rd F.LRN_LAYOUT0_RATE_OFS n, ceilDiv ns 4),
   (s.rd F.LRN_LAYOUT1_KERN_OFS n, 8),
   (s.rd F.LRN_LAYOUT1_PLANE_OFS n, (if rule1 then 3 else 1) * na * s.rd F.LRN_LAYOUT1_ESTRIDE n)]

/-- Detail 0x05: a plastic row where none may be. -/
def State.misplacedRow (s : State) (n : Nat) (r : Nat × RowDesc) : Bool :=
  let a := s.rd F.LRN_PLASTIC_PL_AXON_BASE n
  let b := s.rd F.LRN_PLASTIC_PL_SLOT_BASE n
  r.2.plastic && (!s.on F.LRN_CFG_EN n || decide (r.1 < a) || decide (a + s.rd F.LRN_PLASTIC_PL_AXON_COUNT n ≤ r.1) ||
    (r.2.len != 0 && (decide (r.2.tbase < b) || decide (b + s.rd F.LRN_PLASTIC_PL_SLOT_COUNT n < r.2.tbase + r.2.len))) ||
    decide (8 * s.rd F.LRN_LAYOUT1_ESTRIDE n < r.2.len))

/-- Detail 0x07: a rate word whose exponent or reserved bits are not as 05 R153 asks. -/
def State.badRateWord (s : State) (n : Nat) : Bool :=
  (List.range (s.rd F.LRN_PLASTIC_PL_SLOT_COUNT n)).any (fun c =>
    match s.sramPeek n (s.lrnWord n F.LRN_LAYOUT0_RATE_OFS (c / 4)) with
    | some w =>
      let h := quarter w (c % 4)
      let e := sgn 6 (bits h 7 2)
      decide (e < -16) || decide (7 < e) || bits h 1 0 != 0
    | none => false)

/-- Detail 0x08: a word of the first cords of an epoch's first step, within the apply time at bin 5; of 320 core cycles at
bin 5 a cord of 1.6 µs takes one (05 R146, 16 R422). -/
def State.applyMeets (s : State) (n : Nat) : Bool :=
  let rows := ((Port.start s n).plasticRows).1
  let norm := (s.groupsOf n).any (fun g => s.on F.LRN_NORM_NORM_EN n g.g)
  s.receives (s.tileOf n) && s.on F.CORD_CTRL_RUNS &&
    decide (s.rd F.CORD_CTRL_START < ceilDiv (s.applyCycles n rows norm) 320)

/-- Details of class 0x06. -/
def State.learnTests (s : State) : List (Nat × Option Nat) :=
  let ls := s.loaded.filter (fun n => s.on F.LRN_CFG_EN n)
  [(0x01, badOf 8 (fun r => ls.any (fun n => s.regionOf n == r) && (!s.on F.LRN_REGION_EPOCH_STEPS 0 r ||
     decide (s.rd F.LRN_REGION_EPOCH_STEPS 0 r ≤ s.rd F.LRN_REGION_PHASE 0 r)))),
   (0x02, ls.find? (fun n => decide (2 ≤ s.rd F.LRN_CFG_RULE n) || (s.on F.LRN_CFG_ELIG_SRC n && s.on F.LRN_CFG_TS_MODE n) ||
     (!s.on F.LRN_CFG_TS_MODE n && !s.on F.LRN_CFG_PAY_INC n && !s.on F.LRN_CFG_TR_INC n))),
   (0x03, s.badCore (fun n =>
     let na := s.rd F.LRN_PLASTIC_PL_AXON_COUNT n
     let ns := s.rd F.LRN_PLASTIC_PL_SLOT_COUNT n
     decide (16384 < na) || (na != 0 && decide (s.rd F.SYN_AXON_CFG_AXON_COUNT n < s.rd F.LRN_PLASTIC_PL_AXON_BASE n + na)) ||
       (ns != 0 && (decide (8192 < s.rd F.LRN_PLASTIC_PL_SLOT_BASE n + ns) ||
         decide (s.slots n < s.rd F.LRN_PLASTIC_PL_SLOT_BASE n + ns))))),
   (0x04, ls.find? (fun n => let ts := (s.lrnTables n).filter (fun t => t.2 != 0)
     ts.any (fun t => decide (s.rd F.CORE_PART_LRN_SIZE n < t.1 + t.2)) || anyMeet ts)),
   (0x05, s.badCore (fun n => (s.rowsOf n).any (s.misplacedRow n))),
   (0x06, s.badCore (fun n => (s.rowsOf n).any (fun r => r.2.plastic && r.2.fmt == 2 && r.2.len != 0 &&
     (decide (r.2.tbase < s.rd F.SYN_COL_CFG_COL_BASE n) ||
       decide (s.rd F.SYN_COL_CFG_COL_BASE n + s.rd F.SYN_COL_CFG_COL_COUNT n < r.2.tbase + r.2.len))))),
   (0x07, ls.find? s.badRateWord),
   (0x08, ls.find? s.applyMeets),
   (0x09, s.badGroup (fun n g => s.on F.LRN_NORM_NORM_EN n g.g && (!s.on F.LRN_NORM_NORM_TARGET n g.g ||
     !s.on F.LRN_CFG_EN n || decide (g.base < s.rd F.LRN_PLASTIC_PL_SLOT_BASE n) ||
     decide (s.rd F.LRN_PLASTIC_PL_SLOT_BASE n + s.rd F.LRN_PLASTIC_PL_SLOT_COUNT n < g.base + g.count))))]

/- Class 0x07: queues (09 R268). -/

/-- The GDDR6 queues with a TYPE that is not zero, ascending by QID. -/
def State.queuesOn (s : State) : List (Nat × Desc) :=
  s.boundQids.filterMap (fun q => if q < 0x10000 ∨ 0x100000 ≤ q then none
    else (s.descOf q).bind (fun d => if d.type = 0 then none else some (q, d)))

/-- The descriptor words of a core's mailboxes with a TYPE that is not zero: number and word 0 (09 R251). -/
def State.boxesOn (s : State) (n : Nat) : List (Nat × Word) :=
  if s.rd F.CORE_PART_MBX_SIZE n = 0 then []
  else (List.range 64).filterMap (fun m => (s.mbxWord n m).bind (fun a => (s.sramPeek n a).bind (fun w =>
    if wbits w 63 62 = 0 then none else some (m, w))))

/-- A mailbox's ring as first word within the partition and words (09 R251). -/
def boxRing (w : Word) : Nat × Nat := (wbits w 14 0, 2 ^ wbits w 18 15)

/-- Detail 0x05 of a mailbox. -/
def State.badBox (s : State) (n : Nat) (x : Nat × Word) : Bool :=
  let r := boxRing x.2
  let sz := wbits x.2 18 15
  let size := s.rd F.CORE_PART_MBX_SIZE n
  wbits x.2 63 62 != 1 || decide (sz < 3) || decide (12 < sz) || decide (size < r.1 + r.2) ||
    meet r (0, 2 * ((List.range 64).filter (fun m => (s.mbxWord n m).isSome)).length) ||
    (s.boxesOn n).any (fun y => y.1 != x.1 && meet r (boxRing y.2))

/-- A QID that an agent pushes to: detail 0x07 (09 R268). -/
def State.badPush (s : State) (agent q : Nat) : Bool :=
  if q < 0x10000 then
    match ((s.boxesOn (q / 64)).lookup (q % 64)) with
    | some w => wbits w 63 62 != 1 || !(wbits w 31 19 == agent || wbits w 31 19 == agBroadcast)
    | none => true
  else match s.queuesOn.lookup q with
    | some d => d.type != 1 || !(d.sender == agent || d.sender == agBroadcast)
    | none => true

/-- The QIDs that Ash, metering and the image push to, with their agents. -/
def State.pushes (s : State) : List (Nat × Nat) :=
  ((s.decoders.filter (·.qEn)).map (fun d => (agAsh, d.qid))) ++
    (if s.on F.ASH_METER_CFG_Q_EN then [(agAsh, s.rd F.ASH_METER_CFG_QID)] else []) ++ s.schedOr [] (·.pushes)

/-- The least QID of which a trigger holds, of mailboxes and of GDDR6 queues. -/
def State.badBoxOf (s : State) (p : Nat → Nat × Word → Bool) : Option Nat :=
  ((List.range 1024).filter s.coreOn).findSome? (fun n => ((s.boxesOn n).find? (p n)).map (fun x => 64 * n + x.1))
def State.badQueue (s : State) (p : Nat × Desc → Bool) : Option Nat := (s.queuesOn.find? p).map (·.1)

/-- Details of class 0x07, with the QID in place of the index. -/
def State.queueTests (s : State) : List (Nat × Option Nat) :=
  let qs := s.queuesOn
  let base := s.rd F.DREY_DESC_BASE_ADDR
  let table := (base, 0x2000000)
  let ring (d : Desc) : Nat × Nat := (d.ring, d.size)
  let elems (d : Desc) : Nat × Nat := (8 * d.accBase, 8 * (d.accN + 1))
  let named (a : Nat) (free : Bool) : Bool := s.agentOn a || (free && a == agBroadcast)
  [(0x01, badIf (base % 0x2000000 != 0 || !s.g6Has base || !s.g6Has (base + 0x2000000 - 1))),
   (0x02, s.badQueue (fun x => x.2.type == 3 || decide (x.2.size < 256) || decide (x.2.size < x.2.maxLen + 8))),
   (0x03, s.badQueue (fun x => !s.g6Has x.2.ring || !s.g6Has (x.2.ring + x.2.size - 1) || meet (ring x.2) table ||
     qs.any (fun y => y.1 != x.1 && meet (ring x.2) (ring y.2)))),
   (0x04, s.badQueue (fun x => x.2.type == 2 && (decide (8192 < 8 * x.2.accBase + 8 * (x.2.accN + 1)) ||
     qs.any (fun y => y.1 != x.1 && y.2.type == 2 && meet (elems x.2) (elems y.2))))),
   (0x05, s.badBoxOf s.badBox),
   (0x06, match s.badBoxOf (fun _ x => !named (wbits x.2 44 32) false || !named (wbits x.2 31 19) true) with
     | some q => some q
     | none => s.badQueue (fun x => !named x.2.reader false || !named x.2.sender true)),
   (0x07, (((s.pushes.filter (fun x => s.badPush x.1 x.2)).map (·.2)).mergeSort (· ≤ ·)).head?)]

/-- The index that a QID gives (09 R268). -/
def queueIndex (q : Nat) : Nat := if q < 0x10000 then q / 64 else q / 16

/- Class 0x08: the pair (R340). -/

/-- The agreement record that came since the check began and within 40 ms of it. -/
def State.agreement (s : State) : Option (List Byte) :=
  s.pair.agree.bind (fun x => if 0 ≤ span x.2 s.time.checkAt ∧ span x.2 s.time.checkAt ≤ 40000 then some x.1 else none)

/-- Details of class 0x08 while mirroring is on. -/
def State.pairTests (s : State) : List (Nat × Option Nat) :=
  if !s.mirroring then []
  else
    let own := s.agreeBody
    let differ (o n : Nat) : Bool := match s.agreement with
      | some b => byteField b o n != byteField own o n
      | none => false
    [(0x01, badIf (!s.on F.CSIRX_PORT_CFG_EN s.mirrorRx || !s.on F.CSIRX_STAT_TRAINED s.mirrorRx ||
       !s.on F.CSIRX_STAT_LANES_ACT s.mirrorRx || !s.on F.CSITX_PORT_CFG_EN s.mirrorTx)),
     (0x02, badIf (differ 0 2)),
     (0x03, badIf ((List.range 64).any (fun k => differ (16 + k) 1))),
     (0x04, badIf (differ 3 1 || differ 4 4 || differ 8 8)),
     (0x05, badIf (s.agreement.isSome && !differ 2 1)),
     (0x06, badIf (s.on F.TIME_CTRL_MODE)),
     (0x07, badIf (s.agreement.isNone && !s.pins.fenceIn))]

/-- The classes in the order of R337. -/
def State.checkClasses (s : State) (staged : Option (List Byte)) : List (Nat × List (Nat × Option Nat)) :=
  [(0x0B, s.versionTests), (0x0A, s.securityTests staged), (0x01, s.clockTests), (0x09, s.powerTests), (0x02, s.timeTests),
   (0x03, s.partitionTests), (0x04, s.cordTests), (0x05, s.portTests ++ s.encoderTests), (0x06, s.learnTests),
   (0x07, s.queueTests), (0x08, s.pairTests)]

/-- The first failure: class, detail, and index or QID (R337). -/
def firstFailure (cs : List (Nat × List (Nat × Option Nat))) : Option (Nat × Nat × Nat) :=
  cs.findSome? (fun c => c.2.findSome? (fun d => d.2.map (fun i => (c.1, d.1, i))))

/-- The SRAM words of core `n` that the check looks at: fan-out entries, axon table, sparse rows, column index, rate words and
mailbox descriptors. -/
def State.checkWords (s : State) (n : Nat) : List Nat :=
  let syn := s.rd F.CORE_PART_SYN_BASE n
  let run (b k : Nat) : List Nat := (List.range k).map (b + ·)
  (s.groupsOf n).flatMap (fun g => run (s.rd F.CORE_PART_OUT_BASE n + g.outOfs) (g.count * g.fanPer)) ++
    run (s.axonWord n 0) (s.rd F.SYN_AXON_CFG_AXON_COUNT n) ++
    ((s.rowsOf n).filter (fun r => r.2.fmt == 1)).flatMap (fun r => run (s.rowWord n r.2 0) r.2.words) ++
    run (syn + (s.colHeader n).1) (s.colHeader n).2 ++ run (syn + (s.colList n).1) (s.colList n).2 ++
    (if s.on F.LRN_CFG_EN n then run (s.lrnWord n F.LRN_LAYOUT0_RATE_OFS 0) (ceilDiv (s.rd F.LRN_PLASTIC_PL_SLOT_COUNT n) 4)
     else []) ++ (s.boxesOn n).filterMap (fun x => s.mbxWord n x.1)

/-- The check reads those words: a corrected one is counted and written back, an uncorrectable one reported (10 R273, R274). -/
def State.examine (s : State) : State :=
  s.loaded.foldl (fun s n => ((s.checkWords n).foldl (fun p w => (p.read w).2) (Port.start s n)).s) s

/- What the rise of RUN_EN does. -/

/-- Both landing banks, every Smoulder slot and the SPK flag of every slot of a core are zeroed, its spike FIFO is emptied,
its learning and routing LFSRs are loaded, and its windows start anew (03 R96, 05 R127, R140, 07 R207); descriptor writes that
waited for an update have taken effect (log entry 36). -/
def State.riseCore (s0 : State) (n : Nat) : State :=
  let s := s0.takeEdits n (2 ^ 64)
  let land := (List.range (2 * s.rd F.CORE_PART_LAND_SIZE n)).foldl
    (fun s w => s.sramWrite n (s.rd F.CORE_PART_LAND_BASE n + w) 0) s
  let slots := (if s.slots n = 0 then [] else s.groupsOf n).foldl (fun s g => (List.range g.count).foldl (fun s k =>
    let r := s.recWord n g (g.base + k)
    let t := s.sramModify n r (fun w => BitVec.ofNat 64 (putBits w.toNat 1 1 0))
    let u := if g.depth = 0 ∨ g.format ≠ 2 then t else t.sramWrite n (r + 2) 0
    let v := if g.depth ≤ 4 ∨ g.format ≠ 2 then u else u.sramWrite n (r + 3) 0
    if g.depth = 16 then
      (v.sramWrite n (v.smdWord n g (g.base + k) 8) 0).sramWrite n (v.smdWord n g (g.base + k) 12) 0
    else v) s) land
  let seed (s : State) (fseed fstate : Fld) (u dflt : Nat) : State :=
    s.wr fstate (if s.rd fseed u = 0 then dflt else s.rd fseed u) u
  let t := seed (seed slots F.FOX_SEED_SEED F.FOX_SEED_STATE (s.tileOf n) (n + 1)) F.LRN_SEED_SEED F.LRN_SEED_STATE n 1
  (t.wr F.CORE_STAT_UPD_BUSY 0 n).onCore n (fun c => { c with
    spikes := [], updStep := 0, updCycles := 0, heldReads := [], recvNum := 0, synFree := 0, applyEnd := 0, lateFrame := 0
    shedFrame := 0
    passWin := 0, passStart := 0, frameCrc := 0, applyCrc := 0 })

/-- The first rise after a quench (R345): Dens, Cordwood buffers, Tinder's hold buffer and the context buffers are empty, no
operation is in flight, and no request outstanding. -/
def State.riseQuenched (s : State) : State :=
  if !s.net.stopped then s
  else
    let inflight (k : Key × Nat) : Bool := k.1.r != Reg.num .CORE_INFLIGHT && k.1.r != Reg.num .TND_INFLIGHT
    let t := s.cores.foldl (fun s c => s.onCore c.1 (fun c => { c with
      den := [], denOut := [], sendBuf := [], sendNext := 0, recv := [], recvNum := 0 })) s
    { t with
      regs := t.regs.filter inflight
      tinder := { t.tinder with hold := [], ready := [], inputs := t.tinder.inputs.filter (fun e => e.kind == 4) }
      ctx := t.ctx.map (fun x => (x.1, { x.2 with waiting := [] }))
      net := { t.net with stopped := false, tids := [] } }

/-- Tinder, the contexts and the RX ports at the rise (06 R157, R167, 11 R294, R302, R303); parameter writes that waited have
taken effect, and no other input of an earlier run is left (log entry 36). -/
def State.riseTinder (s : State) : State :=
  let s1 := (s.tinder.inputs.filter (fun e => e.kind == 4)).foldl (fun s e => s.wr F.TND_CHAN_B_WORD e.param.toNat 0 e.tag) s
  let s2 := ((s1.wr F.TND_SEED_STATE (if s1.on F.TND_SEED_SEED then s1.rd F.TND_SEED_SEED else 1)).wr F.TND_STAT_REPLAY_DONE 0)
  let s3 := (List.range 48).foldl (fun s c => if s.on F.CSIRX_CTX_SEQ_ANCHOR c then s.wr F.CSIRX_CTX_STAT_ANCHORED 0 c else s) s2
  { s3 with
    tinder := { s3.tinder with
      inputs := [], chans := [], closes := [], closing := none, meters := [], meterDue := [], winOpen := false
      wins := [], stopStep := none
      replayAt := s3.rd F.TND_REPLAY_BASE_ADDR / 8 * 8 }
    ctx := s3.ctx.map (fun x => (x.1, { x.2 with
      eLast := none, evLast := none, lastAccept := s.grain, waiting := [] }))
    rx := s3.rx.map (fun x => (x.1, { x.2 with crcFrame := 0, crcReported := false })) }

/-- Gwynell at the rise: the run's journal, records and comparisons start anew; only what a joining standby has received
stays (log entry 36). -/
def State.risePair (s : State) : State :=
  let joins := s.joins
  let p := s.pair
  let t := { s with pair := { PairSt.fresh with
    bseqTx := p.bseqTx, bseqRx := p.bseqRx, timer := s.grain, lastWinPeer := if joins then p.lastWinPeer else none
    peerRun := p.peerRun, ckptRaw := if joins then p.ckptRaw else none
    agree := p.agree, ckpt := if joins then p.ckpt else none, ckptIn := if joins then p.ckptIn else []
    journalIn := if joins then p.journalIn else [], joining := joins } }
  let u := (t.wr F.PAIR_STAT_JOURNAL_FULL 0).wr F.PAIR_STAT_ENG_READY 0
  if joins then u else u.wr F.PAIR_STAT_CKPT_VALID 0

/-- The grain at which step 0 begins: TIME_ORIGIN or, in free-run mode, one grain after the check passes (02 R42). -/
def State.originGrain (s : State) : Nat :=
  if s.on F.TIME_CTRL_MODE then (s.grain + 1) % 2 ^ 64 else s.rd F.TIME_ORIGIN_ORIGIN

/-- RUN_EN becomes 1 (R336). -/
def State.rise (s : State) : State :=
  let s1 := s.riseQuenched.wakeEngines
  let cores := ((List.range 1024).filter s1.coreOn)
  let s2 := cores.foldl (fun s n => s.riseCore n) s1
  let s3 := ((List.range 16).filter (fun g => s.engineOn (g / 2))).foldl (fun s g =>
    let u := gatewayStop g
    s.wr F.FOX_GW_SEED_STATE (if s.on F.FOX_GW_SEED_SEED u then s.rd F.FOX_GW_SEED_SEED u else 0x100 + g) u) s2
  let s4 := (List.range 8).foldl (fun s r =>
    let i := s.rd F.LRN_REGION_INIT_STATE 0 r
    let t := (s.learnAction r (if i = 3 then 0 else i)).wr F.LRN_EPOCH_EPOCH 0 0 r
    if s.learn.snap.any (fun x => x.copying && x.region == r) then t else t.wr F.LRN_REGION_SNAP_HOLD 0 0 r) s3
  let s5 := s4.riseTinder.risePair
  let s6 := ((((s5.wr F.CHIP_CTRL_CHECK_BUSY 0).wr F.CHIP_CTRL_RUN_EN 1).wr F.TIME_STEP_STEP 0).wr F.TIME_FRAME_FRAME 0).wr
    F.CORD_STAT_BUSY 0
  let s7 := if s6.rd F.KILN_STAT_STATE = 1 then s6.wr F.KILN_STAT_STATE 0 else s6
  let no : CloseFlags := ⟨false, false, false⟩
  let s8 := { s7 with
    time := { s7.time with
      phase := .armed, startAt := s.originGrain, rise := s.grain, begun := 0, hangFrom := 0, winClosed := 0
      frameFlags := no, prevFlags := no, stop := .none }
    cord := { CordSt.fresh with corrRun := s7.cord.corrRun }
    ash := { s7.ash with
      bank0 := [], bank1 := [], late0 := false, late1 := false, recs := s7.ash.recs.filter (·.closed)
      decisions := [], actDue := [], pulseEnd := [] }
    sec := { s7.sec with cfgRegs := some (s7.regs.filter (fun e => match Reg.all[e.1.r]? with | some r => r.locked | none => false)) } }
  s8

/-- The check passes (R336): a joining standby goes away at once to catch up (13 R366), and ENABLE replies with the grain at
which step 0 begins. -/
def State.checkPass (s : State) : State :=
  let t := s.rise
  let u := if s.joins then t.goAway none true else t
  u.finish 0x18 0 (toBytes 8 s.originGrain)

/-- The check fails (R336, 09 R268): the reason is recorded, IBI 0xA3 is due, and ENABLE is refused with it. -/
def State.checkFail (s : State) (x : Nat × Nat × Nat) : State :=
  let index := (if x.1 = 7 then queueIndex x.2.2 else x.2.2) % 65536
  let t := ((s.wr F.CHIP_CTRL_CHECK_BUSY 0).wr F.CHIP_CFG_REASON_CLASS x.1).wr F.CHIP_CFG_REASON_DETAIL x.2.1
  let u := t.wr F.CHIP_CFG_REASON_INDEX index
  let v := if x.1 = 7 then u.wr F.DREY_CFG_QID_QID x.2.2 else u
  ({ v with cmd := { v.cmd with ibiCfg := true } }).finish 0x18 (256 * x.1 + x.2.1) (toBytes 2 index)

/-- CONFIG_CHECK_DONE (R336): a check that finds no agreement record has waited for one until 40 ms after its start (R340). -/
def State.checkDone (s : State) : State :=
  if !s.on F.CHIP_CTRL_CHECK_BUSY then s
  else
    let t := s.examine
    let im := match t.boot.image with
      | some im => t.g6Bytes im.base im.len
      | none => (none, t)
    match firstFailure (im.2.checkClasses im.1) with
    | none => im.2.checkPass
    | some x => (if x.1 = 8 ∧ x.2.1 = 7 then im.2.advance ((s.time.checkAt + 40000) % 2 ^ 64) else im.2).checkFail x

/-- CONFIG_CHECK_DONE. -/
def execConfigCheckDone (s : State) : Host.Outcome State Fault Refusal := .next s.checkDone

end Sys2Proof.Machine
end

