-- ==== Sys2Proof/Machine/Replay.lean ====
section
/-!
DEFINITION. The replay of inputs in free-run mode and from a journal (06_encoders_decoders_and_actuation.md R167,
02_time_and_ordering.md R481, 13_redundant_pair.md R364).
-/
namespace Sys2Proof.Machine

/-- The entry that a word of a replay record spells, as an input of step `n` that comes after those that wait: a step's
entries are encoded in entry order (R167). -/
def State.replayEntry (s : State) (word : Word) (n : Nat) : Input :=
  let w := word.toNat
  let kind := bits w 15 12
  let v : Int := if kind = 0 ∨ kind = 3 then sgn 16 (bits w 31 16) else (bits w 31 16 % 2 : Nat)
  { stamp := s.grain, cls := 4, ord := (s.tinder.inputs.map (fun e => e.ord + 1)).foldl max 48, tag := bits w 11 0, kind := if kind > 3 then 5 else kind, v := v,
    x := bits w 47 32, y := bits w 63 48, step := n, set := false, first := false, param := 0 }

/-- The replay region is exhausted (R167). -/
def State.replayEnd (s : State) : State := (s.wr F.TND_STAT_REPLAY_DONE 1).closeWindow

/-- A word of the region as Tinder reads it: none where the group answers the read with NACK (10 R285). -/
def State.replayWord (s : State) (a : Nat) : Option Word × State :=
  match s.g6Read a 1 with
  | (some (w :: _), t) => (some w, t)
  | (_, t) => (none, t)

/-- A replay record of the open step: its entries become inputs, but for those whose read meets an uncorrectable beat. -/
def State.replayTake (s : State) (a n count : Nat) : State :=
  let last := s.rd F.TND_REPLAY_END_ADDR / 8 * 8
  (List.range (min count ((last - (a + 8)) / 8))).foldl (fun s k =>
    match s.replayWord (a + 8 + 8 * k) with
    | (some w, t) => t.addInput (t.replayEntry w n)
    | (none, t) => t.tndDisc) s

/-- REPLAY_RECORD_READ from the replay region (R167, 02 R481). -/
def State.replayRead (s : State) : State :=
  let a := s.tinder.replayAt
  let last := s.rd F.TND_REPLAY_END_ADDR / 8 * 8
  if a ≥ last then s.replayEnd
  else match s.replayWord a with
    | (none, t) => t.tndDisc.replayEnd
    | (some h, t) =>
      let st := bits h.toNat 47 0
      let count := bits h.toNat 63 48
      let n := t.time.winClosed
      if st > n then t.closeWindow
      else
        let s1 := if st < n then t.inc F.TIME_LATE_IN_CNT_CNT else t.replayTake a n count
        let s2 := { s1 with tinder := { s1.tinder with replayAt := a + 8 + 8 * count } }
        if s2.tinder.replayAt ≥ last then s2.replayEnd else s2

/-- REPLAY_RECORD_READ from the journal of a standby that catches up (13 R364): the inputs of the open step, then the
window's close; the journal is complete for a step once the step's own window has passed. -/
def State.replayJournal (s : State) : State :=
  let n := s.time.winClosed
  if !reached s.grain (s.winStart (n + 1)) then s
  else
  let now := (s.pair.replay.filter (s.dueBy n)).filterMap s.replayInput
  let s1 := { s with pair := { s.pair with replay := s.pair.replay.filter (fun j => !s.dueBy n j) } }
  (now.foldl (fun s e => s.addInput { e with step := n, set := false }) s1).closeWindow

/-- REPLAY_RECORD_READ. -/
def execReplayRecordRead (s : State) : Host.Outcome State Fault Refusal :=
  if s.running && s.freeRun && s.tinder.winOpen then
    if s.rd F.PAIR_STAT_PHASE = 2 then .next s.replayJournal
    else if s.on F.TND_CTRL_REPLAY_EN && !s.on F.TND_STAT_REPLAY_DONE then .next s.replayRead
    else .next s
  else .next s

end Sys2Proof.Machine
end

