-- ==== Sys2Proof/Machine/Reset.lean ====
section
/-!
DEFINITION. Power-good, the resets of the whole device, the boot stages, the watchdog, clock loss and the fall to OFF
(14_bringup_loading_spares.md R372 to R385, 18_electrical_and_package.md R465, R466, 15_faults.md R419,
16_power_clocks_thermal.md R437, R438, R444).
-/
namespace Sys2Proof.Machine

/-- Registers that survive a reset: KILN_OFF_CAUSE and CLK_STAT.CLK_RESET, and where the reset is no cold boot the correction
factors and the debug lock's state (16 R433, R437, R444, 17 R459). -/
def survives (cold : Bool) (k : Key) : Bool :=
  k.r == Reg.num .KILN_OFF_CAUSE || (k.r == Reg.num .CLK_STAT && k.lo == 27) ||
    (!cold && (k.r == Reg.num .KILN_ENG_CORR || k.r == Reg.num .KILN_UNC_CORR ||
      (k.r == Reg.num .SEC_STAT && (k.lo == 31 || k.lo == 29))))

/-- The pins in reset: inputs as they are, every output high-impedance (18 R466). -/
def PinSt.inReset (p : PinSt) : PinSt :=
  { p with syncOut := false, hbOut := false, fenceOut := true, faultN := true }

/-- The device in reset, with the cause that stage 0 will report (14 R372).  Its memory is again as nothing had written it
(DESIGN CHOICE, log entry 2); the fuses, the flash, the free values and the waiting commands stay. -/
def State.inReset (s : State) (cause : Nat) (cold : Bool) : State :=
  let kept := s.regs.filter (fun e => survives cold e.1)
  { State.reset with
    fuse := s.fuseCut
    pins := s.pins.inReset
    regs := kept.foldl (fun m e => Sparse.put Key.lt m e.1 e.2) (resetRegs s.fuse)
    boot := { BootSt.fresh with cause := cause, flash := s.boot.flash }
    kiln := { KilnSt.fresh with live := if cold then [] else s.kiln.live }
    sec := { SecSt.fresh with seq := if cold then 0 else s.sec.seq }
    free := if s.sec.prog.isSome then s.free + 1 else s.free
    pending := s.pending }

/-- Stage 0 begins where nothing holds the device in reset: the device drives PAIR_FENCE_OUT low (13 R347, 18 R465). -/
def State.release (s : State) : State :=
  if s.pins.rails = 0x7F ∧ s.pins.resetN ∧ !s.kiln.clockLost ∧ !s.kiln.offState then
    let t := s.wr F.CLK_STAT_REF_OK 1
    { t with boot := { t.boot with up := true }, pins := { t.pins with fenceOut := false } }
  else s

/-- POWER_GOOD (18 R465): the rails named are within range, RESET_N is high and the reference is present. -/
def State.powerGood (s : State) (rails : BitVec 7) : State :=
  if s.boot.up then s else State.release { s with pins := { s.pins with rails := rails, resetN := true } }

/-- RESET_N_LOW (18 R466). -/
def State.resetLow (s : State) : State :=
  if s.kiln.offState then { s with pins := { s.pins with resetN := false } }
  else
    let t := s.inReset 1 false
    { t with pins := { t.pins with resetN := false }, kiln := { t.kiln with clockLost := s.kiln.clockLost } }

/-- RAIL_OUT_OF_RANGE (18 R466): power-good is lost.  In OFF only the loss of VDD_AON, which supplies the WAKE detector,
changes more than the rail. -/
def State.railOut (s : State) (r : Nat) : State :=
  let p : BitVec 7 := s.pins.rails &&& ~~~(1#7 <<< r)
  if 7 ≤ r then s
  else if s.kiln.offState ∧ r ≠ 2 then { s with pins := { s.pins with rails := p } }
  else
    let t := if r = 2 then { s with regs := s.regs.filter (fun e => !survives true e.1) } else s
    let u := t.inReset 0 true
    { u with pins := { u.pins with rails := p } }

/-- The enable masks that R14 and R15 of 01_architecture.md give a variant: engines, RX ports, TX ports, groups. -/
def FuseSt.consistent (f : FuseSt) : Bool :=
  match f.variant with
  | 1 => f.engineEn == 0xFF && f.rxEn == 0x3F && f.txEn == 0xF && f.g6En == 3
  | 2 => f.engineEn == 0xF && f.rxEn == 0xF && f.txEn == 7 && f.g6En == 3
  | 3 => f.engineEn == 3 && f.rxEn == 3 && f.txEn == 3 && f.g6En == 1
  | _ => false

/-- The number whose `n` digits of `w` bits are given by key; a key that is not listed has digit `d`. -/
def packDigits (w n d : Nat) (l : List (Nat × Nat)) : Nat :=
  l.foldl (fun x e => putBits x (w * e.1 + w - 1) (w * e.1) e.2) (d * ((2 ^ (w * n) - 1) / (2 ^ w - 1)))

/-- The fuse set as FUSE_CRC covers it: the fields in the order of R382, the field-written items zero (14 R382, 17 R448); the
order and the widths of the parts are the model's (DESIGN CHOICE, log entry 56). -/
def FuseSt.bytes (f : FuseSt) : List Byte :=
  toBytes 8 (f.variant + 2 ^ 4 * f.engineEn + 2 ^ 12 * f.rxEn + 2 ^ 18 * f.txEn + 2 ^ 22 * f.g6En + 2 ^ 24 * f.capLimit +
    2 ^ 26 * b2n f.boostDis + 2 ^ 27 * f.dieRev) ++
  toBytes 8 f.serial.toNat ++
  toBytes 408 (packDigits 3 1088 7 (f.bins.map (fun x => (x.1, x.2 - 1)))) ++
  toBytes 8 f.coef.toNat ++ toBytes 8 f.coefUnc.toNat ++ toBytes 8 f.vid ++
  toBytes 136 (packDigits 1 1088 0 (f.coreDefects.map (·, 1))) ++ toBytes 136 (packDigits 1 1088 0 (f.routerDefects.map (·, 1))) ++
  f.rootHash ++ List.replicate 268 0

/-- FUSE_CRC agrees with the other fields (14 R383). -/
def FuseSt.crcOk (f : FuseSt) : Bool := crc32c f.bytes == f.crc

/-- What a stage reports: RESULT, DETAIL and DATA (14 R372 to R374). -/
structure Report where
  result : Nat
  detail : Nat
  data : Nat
  deriving DecidableEq, Repr

/-- Stage 1 (14 R372, R374, R383, 13 R349, 17 R447). -/
def State.stage1 (s : State) (r : StageResult) : State × Report :=
  let s1 := (s.wrB F.PAIR_STAT_ROLE s.pins.roleStrap).deriveId
  let id := s.chipId % 2 ^ 32
  if !s.fuse.crcOk then (s1, ⟨2, 0x0100, id⟩)
  else if !s.fuse.consistent then (s1, ⟨2, 0x0200, id⟩)
  else if r.pllA then (s1.wr F.CLK_STAT_PLL_A_LOCK 1, ⟨0, 0, id⟩)
  else if r.pllB then
    (((s1.wr F.CLK_STAT_PLL_B_LOCK 1).wr F.CLK_STAT_PLL_B_USED 1).wr F.BOOT_FW_STAT_PLL_B 1, ⟨1, 1, id⟩)
  else (s1, ⟨2, 0, id⟩)

/-- The slots in the order in which the ROM tries them (14 R378), with their numbers. -/
def BootSt.tries (b : BootSt) : List (Nat × List Byte) :=
  match b.slotA, b.slotB with
  | some x, some y => if (fwOf y).version > (fwOf x).version then [(1, y), (0, x)] else [(0, x), (1, y)]
  | some x, none => [(0, x)]
  | none, some y => [(1, y)]
  | none, none => []

/-- Stage 2 (14 R372, R374, R378, R379): flash firmware that verifies, or a wait for a push; after the push, its end. -/
def State.stage2 (s : State) (r : StageResult) : State × Report :=
  let spare := s.boot.spareMgmt || r.mgmtBad == 1
  let s0 := (s.wrB F.BOOT_FW_STAT_SPARE_MGMT spare)
  let s1 := { s0 with boot := { s0.boot with spareMgmt := spare } }
  match s.boot.fw with
  | some f => (s1, ⟨b2n spare, 2 + 4 * b2n spare, f.version⟩)
  | none =>
    if 2 ≤ r.mgmtBad then (s, ⟨2, 0, 0⟩)
    else match s.boot.tries.find? (fun x => (s.fwReason x.2).isNone) with
      | some (k, img) =>
        let t := (s1.startFw img).wr F.BOOT_FW_STAT_SLOT k
        ({ t with boot := { t.boot with source := k } }, ⟨b2n spare, k + 4 * b2n spare, (fwOf img).version⟩)
      | none => ({ s1 with boot := { s1.boot with waiting := true } }, ⟨3, 2 + 4 * b2n spare, 0⟩)

/-- Stage 3 (14 R372, R374). -/
def State.stage3 (s : State) (r : StageResult) : State × Report :=
  let bad := r.defectCores.dedup.filter s.tileOn
  let t := bad.foldl (fun s p => s.markDefect p) s
  ({ t with boot := { t.boot with defects := bad } },
    ⟨if r.bufferDead then 2 else if bad ≠ [] ∨ r.repaired ≠ 0 then 1 else 0, bad.length, r.repaired⟩)

/-- Stage 4 (14 R372, R374). -/
def State.stage4 (s : State) (r : StageResult) : State × Report :=
  let cols := r.columns.dedup.filter (fun c => s.engineOn c.1 && decide (c.2 < 17))
  ({ s with boot := { s.boot with columns := cols } },
    ⟨if r.linkDead then 2 else if cols ≠ [] ∨ r.spareWires ≠ 0 then 1 else 0, cols.length, r.spareWires⟩)

/-- The columns of engine `e` that stage 5 retires: those that hold a router defect, and stage 4's (14 R385). -/
def State.bootColumns (s : State) (e : Nat) : List Nat :=
  (List.range 17).filter (fun c => s.boot.columns.contains (e, c) ||
    (List.range 8).any (fun r => s.routerDefect (engineTile e (17 * r + c))))

/-- One core of build(e): its tile, and the spares that are left; none where they have run out (14 R385). -/
def State.buildCore (s : State) (acc : Option (List (Nat × Nat) × List Nat)) (n : Nat) : Option (List (Nat × Nat) × List Nat) :=
  match acc with
  | none => none
  | some (ms, spares) =>
    let t := s.homeTile n
    if s.coreDefect t then (match spares with | [] => none | p :: ps => some (ms ++ [(n, p)], ps))
    else some (ms ++ [(n, t)], spares)

/-- build(e) of R385: the retirement, and the tiles of the engine's cores; none where stage 5 fails. -/
def State.buildEngine (s : State) (e : Nat) : Option (State × List (Nat × Nat)) :=
  let cols := s.bootColumns e
  if 1 < cols.length then none
  else
    let t := match cols with
      | c :: _ => (s.bypassColumn e c).inc F.SPARE_CNT_RETIRES
      | [] => s
    let spares := if cols = [] then
        ((List.range 8).map (fun r => engineTile e (17 * r + 16))).filter (fun p => !t.coreDefect p && !t.routerDefect p)
      else []
    ((List.range 128).map (fun j => 128 * e + j)).foldl t.buildCore (some ([], spares)) |>.map (fun x => (t, x.1))

/-- Every engine built, as far as it goes. -/
def State.buildAll (s : State) : Option (State × List (Nat × Nat)) :=
  s.engines.foldl (fun acc e => match acc with
    | none => none
    | some (t, ms) => (t.buildEngine e).map (fun x => (x.1, ms ++ x.2))) (some (s, []))

/-- Stage 5 (14 R372, R374, R385): both tables of every engine agent, and the floor bin (16 R425). -/
def State.stage5 (s : State) : State × Report :=
  let detail (t : State) : Nat := ((List.range 8).map (fun e => if t.on F.SPARE_STAT_COL_RETIRED 0 e then 2 ^ e else 0)).sum
  match s.buildAll with
  | none => (s, ⟨2, ((List.range 8).map (fun e =>
      if s.engineOn e ∧ (s.on F.SPARE_STAT_COL_RETIRED 0 e ∨ s.bootColumns e ≠ []) then 2 ^ e else 0)).sum, 0⟩)
  | some (t, ms) =>
    let u := (t.moveMap ms)
    let v := (u.engines.foldl (fun s e => s.spareStat e) u).computeFloor
    let placed := (ms.filter (fun m => v.homeTile m.1 != m.2)).length
    (v, ⟨if detail v = 0 ∧ placed = 0 then 0 else 1, detail v, placed⟩)

/-- Stage 6 of one group (14 R381, 10_memory_system.md R277, R284): for a third position that fails training no beat gives the
report its address, which is free. -/
def State.stage6Group (s : State) (r : StageResult) (board : List Byte) (g : Nat) : State :=
  let t := (s.wr F.MEM_CFG_DENSITY (byteField board 0 1) g).wr F.MEM_CFG_RATE (byteField board 1 1) g
  if r.g6Trained.getLsbD g && bit (byteField board 2 1) g then
    let u := (t.wr F.MEM_STAT_TRAINED 1 g).wr F.CLK_STAT_G6_LOCK (putBits (t.rd F.CLK_STAT_G6_LOCK) g g 1)
    let v := (r.dbiLanes.filter (fun x => x.1 == g)).foldl (fun s x =>
      s.wr F.MEM_LANE_MASK_DBI_OFF (putBits (s.rd F.MEM_LANE_MASK_DBI_OFF g) x.2 x.2 1) g) u
    (r.positions.filter (fun x => x.1 == g && decide (x.2 < 80))).foldl (fun s x =>
      State.g6Retire { s with free := s.free + 1 } g x.2 (Config.freeNat s.free)) v
  else t.wr F.MEM_STAT_FAILED 1 g

/-- Stage 6 (14 R372, R374). -/
def State.stage6 (s : State) (r : StageResult) : State × Report :=
  let board := match s.boot.fw with | some f => f.board | none => []
  let t := s.groups.foldl (fun s g => s.stage6Group r board g) s
  let failed : Nat := ((List.range 2).map (fun g => if t.groupOn g && t.g6Failed g then 2 ^ g else 0)).sum
  let pos : Nat := t.rd F.MEM_STAT_RETIRED 0 + 16 * t.rd F.MEM_STAT_RETIRED 1
  (t, ⟨if (failed == 0 && pos == 0) then 0 else 1, failed, pos⟩)

/-- Stage 7 (14 R372, R374, 11_csi2_ports.md R292). -/
def State.stage7 (s : State) (r : StageResult) : State × Report :=
  let rxs := (List.range 6).filter s.rxOn
  let txs := (List.range 4).filter s.txOn
  let t := rxs.foldl (fun s p => s.rxTrain p (r.rxLanes.getD p 0)) s
  let lock := (txs.map (fun p => if r.txTrained.getLsbD p then 2 ^ p else 0)).sum
  let low := (rxs.map (fun p => if t.rd F.CSIRX_STAT_LANES_ACT p < 4 then 2 ^ p else 0)).sum
  let up := (rxs.map (fun p => if t.on F.CSIRX_STAT_LANES_ACT p then 2 ^ p else 0)).sum
  (t.wr F.CLK_STAT_TX_LOCK lock,
    ⟨if low = 0 ∧ txs.all (fun p => r.txTrained.getLsbD p) then 0 else 1, low, up + 2 ^ 8 * lock⟩)

/-- What stage `k` does and reports (14 R372). -/
def State.stageWork (s : State) (k : Nat) (r : StageResult) : State × Report :=
  match k with
  | 0 => (s, ⟨0, s.boot.cause, s.pins.rails.toNat⟩)
  | 1 => s.stage1 r
  | 2 => s.stage2 r
  | 3 => s.stage3 r
  | 4 => s.stage4 r
  | 5 => s.stage5
  | 6 => s.stage6 r
  | 7 => s.stage7 r
  | _ => (s, ⟨0, 0, r.millis⟩)

/-- A stage's word in BOOT_REPORT and BOOT_LOG, and its event (14 R373, 12 R324). -/
def State.bootReport (s : State) (k : Nat) (r : Report) : State :=
  let one (s : State) (a b c d : Fld) (i : Nat) : State :=
    (((s.wr a k 0 i).wr b r.result 0 i).wr c r.detail 0 i).wr d r.data 0 i
  let t := one s F.BOOT_REPORT_STAGE F.BOOT_REPORT_RESULT F.BOOT_REPORT_DETAIL F.BOOT_REPORT_DATA 0
  let u := one t F.BOOT_LOG_STAGE F.BOOT_LOG_RESULT F.BOOT_LOG_DETAIL F.BOOT_LOG_DATA k
  { u with cmd := { u.cmd with ibiBoot := true } }

/-- Whether a boot stage runs (14 R374, R375, R379). -/
def State.booting (s : State) : Bool := s.boot.up && !s.boot.stopped && !s.boot.waiting && decide (s.boot.stage ≤ 8)

/-- BOOT_STAGE_END (14 R373 to R376): after RESULT 2 the device stays at the stage, and after RESULT 3 it waits there. -/
def State.stageEnd (s : State) (r : StageResult) : State :=
  if !s.booting then s
  else
    let k := s.boot.stage
    let x := s.stageWork k r
    let t := x.1.bootReport k x.2
    if x.2.result = 2 then (State.faultPin { t with boot := { t.boot with stopped := true } })
    else if x.2.result = 3 then t
    else { t with boot := { t.boot with stage := k + 1 } }

/-- WATCHDOG_EXPIRED (15 R419): the first period without a kick is reported, past the staging slots; the second resets the
device. -/
def State.watchdog (s : State) : State :=
  if !s.boot.up || s.boot.fw.isNone || !s.on F.OWL_WDOG_EN then s
  else if s.owl.barked then (s.inReset 3 false).release
  else
    let t := s.offer ⟨srcCollier, 0x61, 4, 0, false, 0⟩
    { t with owl := { t.owl with barked := true } }

/-- THERMAL_OFF (16 R437): the device is in OFF, where only KILN_OFF_CAUSE is retained. -/
def State.thermalOff (s : State) : State :=
  if !s.kiln.tripped then s
  else
    let t := s.inReset 4 true
    { t with kiln := { t.kiln with offState := true } }

/-- WAKE_RISE (16 R437, R438): the wake from SLEEP or DEEP starts; from OFF the device restarts with reset cause 4. -/
def State.wakeUp (s : State) : State :=
  let t := { s with pins := { s.pins with wake := true } }
  if s.kiln.offState then
    (let u := t.inReset 4 true
     u.release)
  else if s.rd F.KILN_STAT_STATE = 2 ∨ s.rd F.KILN_STAT_STATE = 3 then { t with kiln := { t.kiln with waking2Run := true } }
  else t

/-- CLOCK_LOSS (16 R444). -/
def State.clockLoss (s : State) : State :=
  if s.kiln.offState then s
  else
    let t := (s.inReset 0 true).wr F.CLK_STAT_CLK_RESET 1
    { t with kiln := { t.kiln with clockLost := true } }

/-- REFERENCE_RETURN (16 R444, 18 R465). -/
def State.refBack (s : State) : State :=
  if s.kiln.clockLost then State.release { s with kiln := { s.kiln with clockLost := false } } else s

/-- TARGET_RESET_PATTERN (12 R321): the action that RSTACT selected, once. -/
def State.resetPattern (s : State) : State :=
  if !s.onBus then s
  else
    let t := { s with cmd := { s.cmd with rstact := 0 } }
    match s.cmd.rstact with
    | 1 => t.targetReset
    | 2 => (t.inReset 2 false).release
    | _ => t

/-- POWER_GOOD. -/
def execPowerGood (rails : BitVec 7) (s : State) : Host.Outcome State Fault Refusal := .next (s.powerGood rails)

/-- RESET_N_LOW. -/
def execResetNLow (s : State) : Host.Outcome State Fault Refusal := .next s.resetLow

/-- RAIL_OUT_OF_RANGE. -/
def execRailOutOfRange (rail : Nat) (s : State) : Host.Outcome State Fault Refusal := .next (s.railOut rail)

/-- BOOT_STAGE_END. -/
def execBootStageEnd (res : StageResult) (s : State) : Host.Outcome State Fault Refusal := .next (s.stageEnd res)

/-- WATCHDOG_EXPIRED. -/
def execWatchdogExpired (s : State) : Host.Outcome State Fault Refusal := .next s.watchdog

/-- THERMAL_OFF. -/
def execThermalOff (s : State) : Host.Outcome State Fault Refusal := .next s.thermalOff

/-- WAKE_RISE. -/
def execWakeRise (s : State) : Host.Outcome State Fault Refusal := .next s.wakeUp

/-- CLOCK_LOSS. -/
def execClockLoss (s : State) : Host.Outcome State Fault Refusal := .next s.clockLoss

/-- REFERENCE_RETURN. -/
def execReferenceReturn (s : State) : Host.Outcome State Fault Refusal := .next s.refBack

/-- TARGET_RESET_PATTERN. -/
def execTargetResetPattern (s : State) : Host.Outcome State Fault Refusal := .next s.resetPattern

end Sys2Proof.Machine
end

