-- ==== Sys2Proof/Machine/Dispatch.lean ====
section
/-!
DEFINITION. The dispatch of a command to its meaning: one arm per command, in the order of the table of steps.
-/
namespace Sys2Proof.Machine

/-- A command's effect on everything but the queue. -/
def exec (i : Instr) (s : State) : Host.Outcome State Fault Refusal :=
  match i with
  | .stepDeadline => Sys2Proof.Machine.execStepDeadline s
  | .allDone => Sys2Proof.Machine.execAllDone s
  | .stretchBudgetExpired => Sys2Proof.Machine.execStretchBudgetExpired s
  | .hangLimitExpired => Sys2Proof.Machine.execHangLimitExpired s
  | .freeLimitExpired => Sys2Proof.Machine.execFreeLimitExpired s
  | .syncInEdge pos => Sys2Proof.Machine.execSyncInEdge pos s
  | .syncEdgeMissing => Sys2Proof.Machine.execSyncEdgeMissing s
  | .inputWindowClose => Sys2Proof.Machine.execInputWindowClose s
  | .runEnWrite value => Sys2Proof.Machine.execRunEnWrite value s
  | .configCheckDone => Sys2Proof.Machine.execConfigCheckDone s
  | .dinDebounceExpired din level => Sys2Proof.Machine.execDinDebounceExpired din level s
  | .rxPacketHeader port ecc vc dt wc => Sys2Proof.Machine.execRxPacketHeader port ecc vc dt wc s
  | .rxPacketEnd port payload crcOk => Sys2Proof.Machine.execRxPacketEnd port payload crcOk s
  | .streamLossTimeout ctx => Sys2Proof.Machine.execStreamLossTimeout ctx s
  | .csirxRetrain port lanes => Sys2Proof.Machine.execCsirxRetrain port lanes s
  | .tinderTakeInput => Sys2Proof.Machine.execTinderTakeInput s
  | .tinderInject => Sys2Proof.Machine.execTinderInject s
  | .replayRecordRead => Sys2Proof.Machine.execReplayRecordRead s
  | .meterHandoff => Sys2Proof.Machine.execMeterHandoff s
  | .tndChanBWrite tag value => Sys2Proof.Machine.execTndChanBWrite tag value s
  | .packetInject pkt => Sys2Proof.Machine.execPacketInject pkt s
  | .packetHop flight errs => Sys2Proof.Machine.execPacketHop flight errs s
  | .linkReplay flight errs => Sys2Proof.Machine.execLinkReplay flight errs s
  | .landingTokenArrive agent odd count => Sys2Proof.Machine.execLandingTokenArrive agent odd count s
  | .raccArrive core pkt => Sys2Proof.Machine.execRaccArrive core pkt s
  | .denRelease core => Sys2Proof.Machine.execDenRelease core s
  | .synAccumulate core => Sys2Proof.Machine.execSynAccumulate core s
  | .rwrArrive agent pkt => Sys2Proof.Machine.execRwrArrive agent pkt s
  | .rrdArrive agent pkt => Sys2Proof.Machine.execRrdArrive agent pkt s
  | .raddArrive agent pkt => Sys2Proof.Machine.execRaddArrive agent pkt s
  | .heldWriteApply core => Sys2Proof.Machine.execHeldWriteApply core s
  | .ashReadServe core => Sys2Proof.Machine.execAshReadServe core s
  | .ackArrive pkt => Sys2Proof.Machine.execAckArrive pkt s
  | .dataArrive pkt => Sys2Proof.Machine.execDataArrive pkt s
  | .nackArrive pkt => Sys2Proof.Machine.execNackArrive pkt s
  | .ctlPing pkt => Sys2Proof.Machine.execCtlPing pkt s
  | .ctlFence pkt => Sys2Proof.Machine.execCtlFence pkt s
  | .ctlUnfence pkt => Sys2Proof.Machine.execCtlUnfence pkt s
  | .ctlMapSet pkt => Sys2Proof.Machine.execCtlMapSet pkt s
  | .ctlMapFlip pkt => Sys2Proof.Machine.execCtlMapFlip pkt s
  | .ctlSeed pkt => Sys2Proof.Machine.execCtlSeed pkt s
  | .ctlDrain pkt => Sys2Proof.Machine.execCtlDrain pkt s
  | .ctlDrainDone core => Sys2Proof.Machine.execCtlDrainDone core s
  | .ctlReservedAction pkt => Sys2Proof.Machine.execCtlReservedAction pkt s
  | .fanoutInject core => Sys2Proof.Machine.execFanoutInject core s
  | .coreUpdateDone core waitCycles => Sys2Proof.Machine.execCoreUpdateDone core waitCycles s
  | .sramPatrolRead core => Sys2Proof.Machine.execSramPatrolRead core s
  | .sramCorrectedWriteback core => Sys2Proof.Machine.execSramCorrectedWriteback core s
  | .learnCtrlOff cmd => Sys2Proof.Machine.execLearnCtrlOff cmd s
  | .learnCtrlRun cmd => Sys2Proof.Machine.execLearnCtrlRun cmd s
  | .learnCtrlAccum cmd => Sys2Proof.Machine.execLearnCtrlAccum cmd s
  | .learnCtrlClear cmd => Sys2Proof.Machine.execLearnCtrlClear cmd s
  | .snapshot cmd => Sys2Proof.Machine.execSnapshot cmd s
  | .snapshotCopyDone => Sys2Proof.Machine.execSnapshotCopyDone s
  | .snapHoldExpired => Sys2Proof.Machine.execSnapHoldExpired s
  | .ashRaccArrive pkt => Sys2Proof.Machine.execAshRaccArrive pkt s
  | .membraneReadTimeout => Sys2Proof.Machine.execMembraneReadTimeout s
  | .resultRecordEmit decoder => Sys2Proof.Machine.execResultRecordEmit decoder s
  | .actAssertGrain line => Sys2Proof.Machine.execActAssertGrain line s
  | .actPulseEnd line => Sys2Proof.Machine.execActPulseEnd line s
  | .actRecheck line => Sys2Proof.Machine.execActRecheck line s
  | .actArmWrite value => Sys2Proof.Machine.execActArmWrite value s
  | .cordBegin faults => Sys2Proof.Machine.execCordBegin faults s
  | .cordLoadMaskWrite word mask => Sys2Proof.Machine.execCordLoadMaskWrite word mask s
  | .cordTableBcWrite slot entry => Sys2Proof.Machine.execCordTableBcWrite slot entry s
  | .cordArmClear => Sys2Proof.Machine.execCordArmClear s
  | .qpushAppend pkt => Sys2Proof.Machine.execQpushAppend pkt s
  | .mailboxAppend pkt => Sys2Proof.Machine.execMailboxAppend pkt s
  | .qpushRelease pkt => Sys2Proof.Machine.execQpushRelease pkt s
  | .qpushOpen pkt => Sys2Proof.Machine.execQpushOpen pkt s
  | .qpushClose pkt => Sys2Proof.Machine.execQpushClose pkt s
  | .qcomb pkt => Sys2Proof.Machine.execQcomb pkt s
  | .reassemblyExpiry src => Sys2Proof.Machine.execReassemblyExpiry src s
  | .expiredEntryFree src => Sys2Proof.Machine.execExpiredEntryFree src s
  | .descriptorMissResolve => Sys2Proof.Machine.execDescriptorMissResolve s
  | .dreyQcmdRead => Sys2Proof.Machine.execDreyQcmdRead s
  | .dreyQcmdBind => Sys2Proof.Machine.execDreyQcmdBind s
  | .dreyQcmdUnbind => Sys2Proof.Machine.execDreyQcmdUnbind s
  | .dreyQcmdOpen => Sys2Proof.Machine.execDreyQcmdOpen s
  | .dreyQcmdClose => Sys2Proof.Machine.execDreyQcmdClose s
  | .dreyQcmdRelease => Sys2Proof.Machine.execDreyQcmdRelease s
  | .dreyQcmdFlush => Sys2Proof.Machine.execDreyQcmdFlush s
  | .g6OpAccept group pkt => Sys2Proof.Machine.execG6OpAccept group pkt s
  | .g6OpComplete group => Sys2Proof.Machine.execG6OpComplete group s
  | .pinWindowEnd group => Sys2Proof.Machine.execPinWindowEnd group s
  | .g6ReadReissue group lanes => Sys2Proof.Machine.execG6ReadReissue group lanes s
  | .g6WriteRewrite group lanes => Sys2Proof.Machine.execG6WriteRewrite group lanes s
  | .g6Refresh group => Sys2Proof.Machine.execG6Refresh group s
  | .g6PatrolScrub group => Sys2Proof.Machine.execG6PatrolScrub group s
  | .g6PllLockLoss group => Sys2Proof.Machine.execG6PllLockLoss group s
  | .g6PllLockTimeout group => Sys2Proof.Machine.execG6PllLockTimeout group s
  | .g6AutoSelfRefresh group => Sys2Proof.Machine.execG6AutoSelfRefresh group s
  | .domainWake dom => Sys2Proof.Machine.execDomainWake dom s
  | .domainWakeDone dom => Sys2Proof.Machine.execDomainWakeDone dom s
  | .coreSubdomainGate core => Sys2Proof.Machine.execCoreSubdomainGate core s
  | .txPacketStart port => Sys2Proof.Machine.execTxPacketStart port s
  | .relayStart port => Sys2Proof.Machine.execRelayStart port s
  | .txPllLockLoss port => Sys2Proof.Machine.execTxPllLockLoss port s
  | .i3cPrivateWrite bytes hdr parityOk => Sys2Proof.Machine.execI3cPrivateWrite bytes hdr parityOk s
  | .i3cPrivateRead hdr whole => Sys2Proof.Machine.execI3cPrivateRead hdr whole s
  | .ibiRaise acked => Sys2Proof.Machine.execIbiRaise acked s
  | .enec enint => Sys2Proof.Machine.execEnec enint s
  | .disec disint => Sys2Proof.Machine.execDisec disint s
  | .rstdaa => Sys2Proof.Machine.execRstdaa s
  | .entdaa addr won => Sys2Proof.Machine.execEntdaa addr won s
  | .setmwl len => Sys2Proof.Machine.execSetmwl len s
  | .setmrl len ibiSize => Sys2Proof.Machine.execSetmrl len ibiSize s
  | .enthdr0 => Sys2Proof.Machine.execEnthdr0 s
  | .rstact defining => Sys2Proof.Machine.execRstact defining s
  | .targetResetPattern => Sys2Proof.Machine.execTargetResetPattern s
  | .setdasa addr => Sys2Proof.Machine.execSetdasa addr s
  | .getmwl => Sys2Proof.Machine.execGetmwl s
  | .getmrl => Sys2Proof.Machine.execGetmrl s
  | .getpid => Sys2Proof.Machine.execGetpid s
  | .getbcr => Sys2Proof.Machine.execGetbcr s
  | .getdcr => Sys2Proof.Machine.execGetdcr s
  | .getstatus => Sys2Proof.Machine.execGetstatus s
  | .getmxds => Sys2Proof.Machine.execGetmxds s
  | .cccUnsupported code => Sys2Proof.Machine.execCccUnsupported code s
  | .hello cmd => Sys2Proof.Machine.execHello cmd s
  | .ident cmd => Sys2Proof.Machine.execIdent cmd s
  | .attest cmd => Sys2Proof.Machine.execAttest cmd s
  | .regRead cmd => Sys2Proof.Machine.execRegRead cmd s
  | .regWrite cmd => Sys2Proof.Machine.execRegWrite cmd s
  | .memRead cmd => Sys2Proof.Machine.execMemRead cmd s
  | .memWrite cmd => Sys2Proof.Machine.execMemWrite cmd s
  | .loadOpen cmd => Sys2Proof.Machine.execLoadOpen cmd s
  | .loadCommit cmd => Sys2Proof.Machine.execLoadCommit cmd s
  | .loadAbort cmd => Sys2Proof.Machine.execLoadAbort cmd s
  | .enable cmd => Sys2Proof.Machine.execEnable cmd s
  | .disable cmd => Sys2Proof.Machine.execDisable cmd s
  | .quiesce cmd => Sys2Proof.Machine.execQuiesce cmd s
  | .quench cmd => Sys2Proof.Machine.execQuench cmd s
  | .quenchNLow => Sys2Proof.Machine.execQuenchNLow s
  | .step cmd => Sys2Proof.Machine.execStep cmd s
  | .faultRead cmd => Sys2Proof.Machine.execFaultRead cmd s
  | .faultClear cmd => Sys2Proof.Machine.execFaultClear cmd s
  | .faultForce cmd => Sys2Proof.Machine.execFaultForce cmd s
  | .powerStateRun cmd => Sys2Proof.Machine.execPowerStateRun cmd s
  | .powerStateIdle cmd => Sys2Proof.Machine.execPowerStateIdle cmd s
  | .powerStateSleep cmd => Sys2Proof.Machine.execPowerStateSleep cmd s
  | .powerStateDeep cmd => Sys2Proof.Machine.execPowerStateDeep cmd s
  | .capSet cmd => Sys2Proof.Machine.execCapSet cmd s
  | .freqMode cmd => Sys2Proof.Machine.execFreqMode cmd s
  | .pairCtrlRole cmd => Sys2Proof.Machine.execPairCtrlRole cmd s
  | .pairCtrlMirror cmd => Sys2Proof.Machine.execPairCtrlMirror cmd s
  | .pairCtrlResync cmd => Sys2Proof.Machine.execPairCtrlResync cmd s
  | .failover cmd => Sys2Proof.Machine.execFailover cmd s
  | .spareSwap cmd => Sys2Proof.Machine.execSpareSwap cmd s
  | .fwUpdateVerify cmd => Sys2Proof.Machine.execFwUpdateVerify cmd s
  | .fwUpdateWrite cmd => Sys2Proof.Machine.execFwUpdateWrite cmd s
  | .fwWriteDone => Sys2Proof.Machine.execFwWriteDone s
  | .domainReset cmd => Sys2Proof.Machine.execDomainReset cmd s
  | .telemetry cmd => Sys2Proof.Machine.execTelemetry cmd s
  | .drulumReservedOpcode cmd => Sys2Proof.Machine.execDrulumReservedOpcode cmd s
  | .diagnosticOpcode cmd => Sys2Proof.Machine.execDiagnosticOpcode cmd s
  | .stepBlockSend => Sys2Proof.Machine.execStepBlockSend s
  | .frameBlockSend => Sys2Proof.Machine.execFrameBlockSend s
  | .agreeBlockSend => Sys2Proof.Machine.execAgreeBlockSend s
  | .backgroundBlockSend => Sys2Proof.Machine.execBackgroundBlockSend s
  | .mirrorBlockReceive bytes => Sys2Proof.Machine.execMirrorBlockReceive bytes s
  | .alignWaitExpired => Sys2Proof.Machine.execAlignWaitExpired s
  | .editApply => Sys2Proof.Machine.execEditApply s
  | .hbInChange level => Sys2Proof.Machine.execHbInChange level s
  | .heartbeatTimeout => Sys2Proof.Machine.execHeartbeatTimeout s
  | .partnerLostTimeout => Sys2Proof.Machine.execPartnerLostTimeout s
  | .fenceInRise => Sys2Proof.Machine.execFenceInRise s
  | .checkpointCopyDone => Sys2Proof.Machine.execCheckpointCopyDone s
  | .replayRejoin => Sys2Proof.Machine.execReplayRejoin s
  | .powerGood rails => Sys2Proof.Machine.execPowerGood rails s
  | .resetNLow => Sys2Proof.Machine.execResetNLow s
  | .bootStageEnd res => Sys2Proof.Machine.execBootStageEnd res s
  | .spareCopyDone => Sys2Proof.Machine.execSpareCopyDone s
  | .columnCopyDone => Sys2Proof.Machine.execColumnCopyDone s
  | .faultOffer => Sys2Proof.Machine.execFaultOffer s
  | .owlTakeMessage => Sys2Proof.Machine.execOwlTakeMessage s
  | .reactionComplete slot => Sys2Proof.Machine.execReactionComplete slot s
  | .watchdogExpired => Sys2Proof.Machine.execWatchdogExpired s
  | .watchdogKick value => Sys2Proof.Machine.execWatchdogKick value s
  | .owlForceGo value => Sys2Proof.Machine.execOwlForceGo value s
  | .powerWindowEnd engines uncore => Sys2Proof.Machine.execPowerWindowEnd engines uncore s
  | .recalStart => Sys2Proof.Machine.execRecalStart s
  | .recalDone => Sys2Proof.Machine.execRecalDone s
  | .droopDetect engine => Sys2Proof.Machine.execDroopDetect engine s
  | .droopHoldExpired engine us => Sys2Proof.Machine.execDroopHoldExpired engine us s
  | .ageingMeasure tile negative => Sys2Proof.Machine.execAgeingMeasure tile negative s
  | .thermalReport readings => Sys2Proof.Machine.execThermalReport readings s
  | .thermalOff => Sys2Proof.Machine.execThermalOff s
  | .wakeRise => Sys2Proof.Machine.execWakeRise s
  | .idleEntry => Sys2Proof.Machine.execIdleEntry s
  | .idleExit => Sys2Proof.Machine.execIdleExit s
  | .clockLoss => Sys2Proof.Machine.execClockLoss s
  | .referenceReturn => Sys2Proof.Machine.execReferenceReturn s
  | .secProgRollback value => Sys2Proof.Machine.execSecProgRollback value s
  | .secProgSlot slot => Sys2Proof.Machine.execSecProgSlot slot s
  | .secProgRevoke slot => Sys2Proof.Machine.execSecProgRevoke slot s
  | .secProgSlotDebug slot => Sys2Proof.Machine.execSecProgSlotDebug slot s
  | .secProgDebugLock => Sys2Proof.Machine.execSecProgDebugLock s
  | .secProgDone readsBack => Sys2Proof.Machine.execSecProgDone readsBack s
  | .idcode => Sys2Proof.Machine.execIdcode s
  | .unlockChal scope => Sys2Proof.Machine.execUnlockChal scope s
  | .unlockResp bytes => Sys2Proof.Machine.execUnlockResp bytes s
  | .registerWrite addr half value => Sys2Proof.Machine.execRegisterWrite addr half value s
  | .hsBurstEnd port sotErr => Sys2Proof.Machine.execHsBurstEnd port sotErr s
  | .txPllRelock port => Sys2Proof.Machine.execTxPllRelock port s
  | .g6PllRelock group => Sys2Proof.Machine.execG6PllRelock group s
  | .railOutOfRange rail => Sys2Proof.Machine.execRailOutOfRange rail s
  | .hdrExit => Sys2Proof.Machine.execHdrExit s
  | .attestDone => Sys2Proof.Machine.execAttestDone s
  | .fwVerifyDone => Sys2Proof.Machine.execFwVerifyDone s
  | .wakeToRun => Sys2Proof.Machine.execWakeToRun s

end Sys2Proof.Machine
end

