-- ==== Sys2Proof/Machine/Idle.lean ====
section
/-!
DEFINITION. What passes when no command waits: one grain.
-/
namespace Sys2Proof.Machine

/-- GRAIN counts from the end of boot stage 1 on, in every power state but DEEP and OFF (02_time_and_ordering.md R35). -/
def State.counts (s : State) : Bool := s.boot.up && decide (2 ≤ s.boot.stage) && s.rd F.KILN_STAT_STATE != 3

/-- One grain edge: the counter, and the start of a step that waits for its grain or its grant (02 R42, R44). -/
def State.idle (s : State) : State := if s.counts then (s.toGrain ((s.grain + 1) % 2 ^ 64)).edge else s

end Sys2Proof.Machine
end

