-- ==== Sys2Proof/Safety.lean ====
section
/-!
DEFINITION. What counts as a safe run: every step of it gives a next state.
-/
namespace Sys2Proof.Machine

/-- The next state of an outcome, if there is one. -/
def nextOf (o : Host.Outcome State Fault Refusal) : Option State :=
  match o with
  | .next t => some t
  | _ => none

/-- The state after `n` steps, if none of them stops. -/
def run : Nat → State → Option State
  | 0, s => some s
  | n + 1, s => (nextOf (step s)).bind (run n)

/-- A run of `n` steps from `s` is safe: no step of it ends in a fault or a refusal. -/
def Safe (n : Nat) (s : State) : Prop := (run n s).isSome

end Sys2Proof.Machine
end

