-- ==== Sys2Proof/WellFormed.lean ====
section
/-!
DEFINITION. Which commands are well formed: the ranges that the spec gives the operands of each row, and the form of the
packets and Drulum commands that rows carry.  `exec` is total; a command that is not well formed names nothing that the
device has, and no statement is about one unless it says so.
-/
namespace Sys2Proof

/-- A packet's length field counts its following flits (07_event_network.md R189). -/
def Packet.wf (p : Packet) : Bool := p.data.length == p.len.toNat

/-- A Drulum packet is at least its header of 16 bytes and a CRC of 4 (12_command_interface.md R325). -/
def HostCmd.wf (c : HostCmd) : Bool := decide (20 ≤ c.bytes.length) && decide (c.bytes.length < 65536)

/-- A lane fault names a tile, an input, a lane and a slot of the plane, and flips some bit (08_scheduled_plane.md R226,
R237). -/
def LaneFault.wf (f : LaneFault) : Bool :=
  decide (f.tile < 1088) && decide (1 ≤ f.input) && decide (f.input ≤ 4) && decide (f.lane < 4) && decide (f.slot < 1024) &&
    decide (f.mask ≠ 0)

/-- A power domain of the device (16_power_clocks_thermal.md R442). -/
def Domain.wf : Domain → Bool
  | .core n => decide (n < 1024)
  | .engine e => decide (e < 8)
  | .group g => decide (g < 2)

/-- A stage's findings name tiles, columns, positions and lanes that the device has (14_bringup_loading_spares.md
R372, R374). -/
def StageResult.wf (r : StageResult) : Bool :=
  r.defectCores.all (fun t => decide (t < 1088)) && r.columns.all (fun c => decide (c.1 < 8) && decide (c.2 < 17)) &&
    r.positions.all (fun p => decide (p.1 < 2) && decide (p.2 < 80)) &&
    r.dbiLanes.all (fun p => decide (p.1 < 2) && decide (p.2 < 10)) && r.rxLanes.length == 6

/-- Numbers of RX ports, of TX ports and of logical cores (01_architecture.md R15, R28). -/
def rxPort (p : Nat) : Bool := decide (p < 6)
def txPort (p : Nat) : Bool := decide (p < 4)
def logical (n : Nat) : Bool := decide (n < 1024)

/-- Whether a command's operands are in range. -/
def Instr.wf : Instr → Bool
  | .stepDeadline => true
  | .allDone => true
  | .stretchBudgetExpired => true
  | .hangLimitExpired => true
  | .freeLimitExpired => true
  | .syncInEdge pos => decide (pos < 3200)
  | .syncEdgeMissing => true
  | .inputWindowClose => true
  | .runEnWrite _ => true
  | .configCheckDone => true
  | .dinDebounceExpired din _ => decide (din < 16)
  | .rxPacketHeader port _ vc dt wc => rxPort port && decide (vc < 16) && decide (dt < 64) && decide (wc < 65536)
  | .rxPacketEnd port payload _ => rxPort port && decide (payload.length < 65536)
  | .streamLossTimeout ctx => decide (ctx < 48)
  | .csirxRetrain port _ => rxPort port
  | .tinderTakeInput => true
  | .tinderInject => true
  | .replayRecordRead => true
  | .meterHandoff => true
  | .tndChanBWrite tag _ => decide (tag < 4096)
  | .packetInject pkt => pkt.wf
  | .packetHop _ errs => decide (errs.length ≤ 16)
  | .linkReplay _ _ => true
  | .landingTokenArrive _ _ count => decide (1 ≤ count) && decide (count ≤ 63)
  | .raccArrive core pkt => decide (core < 8192) && pkt.wf
  | .denRelease core => logical core
  | .synAccumulate core => logical core
  | .rwrArrive _ pkt => pkt.wf
  | .rrdArrive _ pkt => pkt.wf
  | .raddArrive _ pkt => pkt.wf
  | .heldWriteApply core => logical core
  | .ashReadServe core => logical core
  | .ackArrive pkt => pkt.wf
  | .dataArrive pkt => pkt.wf
  | .nackArrive pkt => pkt.wf
  | .ctlPing pkt => pkt.wf
  | .ctlFence pkt => pkt.wf
  | .ctlUnfence pkt => pkt.wf
  | .ctlMapSet pkt => pkt.wf
  | .ctlMapFlip pkt => pkt.wf
  | .ctlSeed pkt => pkt.wf
  | .ctlDrain pkt => pkt.wf
  | .ctlDrainDone core => logical core
  | .ctlReservedAction pkt => pkt.wf
  | .fanoutInject core => logical core
  | .coreUpdateDone core _ => logical core
  | .sramPatrolRead core => logical core
  | .sramCorrectedWriteback core => logical core
  | .learnCtrlOff cmd => cmd.wf
  | .learnCtrlRun cmd => cmd.wf
  | .learnCtrlAccum cmd => cmd.wf
  | .learnCtrlClear cmd => cmd.wf
  | .snapshot cmd => cmd.wf
  | .snapshotCopyDone => true
  | .snapHoldExpired => true
  | .ashRaccArrive pkt => pkt.wf
  | .membraneReadTimeout => true
  | .resultRecordEmit decoder => decide (decoder < 256)
  | .actAssertGrain line => decide (line.line < 16)
  | .actPulseEnd line => decide (line < 16)
  | .actRecheck line => decide (line.line < 16)
  | .actArmWrite _ => true
  | .cordBegin faults => faults.all LaneFault.wf
  | .cordLoadMaskWrite word _ => decide (word < 16)
  | .cordTableBcWrite slot _ => decide (slot < 1024)
  | .cordArmClear => true
  | .qpushAppend pkt => pkt.wf
  | .mailboxAppend pkt => pkt.wf
  | .qpushRelease pkt => pkt.wf
  | .qpushOpen pkt => pkt.wf
  | .qpushClose pkt => pkt.wf
  | .qcomb pkt => pkt.wf
  | .reassemblyExpiry _ => true
  | .expiredEntryFree _ => true
  | .descriptorMissResolve => true
  | .dreyQcmdRead => true
  | .dreyQcmdBind => true
  | .dreyQcmdUnbind => true
  | .dreyQcmdOpen => true
  | .dreyQcmdClose => true
  | .dreyQcmdRelease => true
  | .dreyQcmdFlush => true
  | .g6OpAccept group pkt => decide (group < 2) && pkt.wf
  | .g6OpComplete group => decide (group < 2)
  | .pinWindowEnd group => decide (group < 2)
  | .g6ReadReissue group _ => decide (group < 2)
  | .g6WriteRewrite group _ => decide (group < 2)
  | .g6Refresh group => decide (group.group < 2)
  | .g6PatrolScrub group => decide (group < 2)
  | .g6PllLockLoss group => decide (group < 2)
  | .g6PllLockTimeout group => decide (group < 2)
  | .g6AutoSelfRefresh group => decide (group < 2)
  | .domainWake dom => dom.wf
  | .domainWakeDone dom => dom.wf
  | .coreSubdomainGate core => logical core
  | .txPacketStart port => txPort port
  | .relayStart port => txPort port
  | .txPllLockLoss port => txPort port
  | .i3cPrivateWrite bytes _ _ => decide (bytes.length < 65536)
  | .i3cPrivateRead _ _ => true
  | .ibiRaise _ => true
  | .enec _ => true
  | .disec _ => true
  | .rstdaa => true
  | .entdaa _ _ => true
  | .setmwl _ => true
  | .setmrl _ _ => true
  | .enthdr0 => true
  | .rstact _ => true
  | .targetResetPattern => true
  | .setdasa _ => true
  | .getmwl => true
  | .getmrl => true
  | .getpid => true
  | .getbcr => true
  | .getdcr => true
  | .getstatus => true
  | .getmxds => true
  | .cccUnsupported _ => true
  | .hello cmd => cmd.wf
  | .ident cmd => cmd.wf
  | .attest cmd => cmd.wf
  | .regRead cmd => cmd.wf
  | .regWrite cmd => cmd.wf
  | .memRead cmd => cmd.wf
  | .memWrite cmd => cmd.wf
  | .loadOpen cmd => cmd.wf
  | .loadCommit cmd => cmd.wf
  | .loadAbort cmd => cmd.wf
  | .enable cmd => cmd.wf
  | .disable cmd => cmd.wf
  | .quiesce cmd => cmd.wf
  | .quench cmd => cmd.wf
  | .quenchNLow => true
  | .step cmd => cmd.wf
  | .faultRead cmd => cmd.wf
  | .faultClear cmd => cmd.wf
  | .faultForce cmd => cmd.wf
  | .powerStateRun cmd => cmd.wf
  | .powerStateIdle cmd => cmd.wf
  | .powerStateSleep cmd => cmd.wf
  | .powerStateDeep cmd => cmd.wf
  | .capSet cmd => cmd.wf
  | .freqMode cmd => cmd.wf
  | .pairCtrlRole cmd => cmd.wf
  | .pairCtrlMirror cmd => cmd.wf
  | .pairCtrlResync cmd => cmd.wf
  | .failover cmd => cmd.wf
  | .spareSwap cmd => cmd.wf
  | .fwUpdateVerify cmd => cmd.wf
  | .fwUpdateWrite cmd => cmd.wf
  | .fwWriteDone => true
  | .domainReset cmd => cmd.wf
  | .telemetry cmd => cmd.wf
  | .drulumReservedOpcode cmd => cmd.wf
  | .diagnosticOpcode cmd => cmd.wf
  | .stepBlockSend => true
  | .frameBlockSend => true
  | .agreeBlockSend => true
  | .backgroundBlockSend => true
  | .mirrorBlockReceive bytes => decide (bytes.length < 65536)
  | .alignWaitExpired => true
  | .editApply => true
  | .hbInChange _ => true
  | .heartbeatTimeout => true
  | .partnerLostTimeout => true
  | .fenceInRise => true
  | .checkpointCopyDone => true
  | .replayRejoin => true
  | .powerGood _ => true
  | .resetNLow => true
  | .bootStageEnd res => res.wf
  | .spareCopyDone => true
  | .columnCopyDone => true
  | .faultOffer => true
  | .owlTakeMessage => true
  | .reactionComplete slot => decide (slot < 16)
  | .watchdogExpired => true
  | .watchdogKick _ => true
  | .owlForceGo _ => true
  | .powerWindowEnd engines _ => engines.length == 8
  | .recalStart => true
  | .recalDone => true
  | .droopDetect engine => decide (engine < 8)
  | .droopHoldExpired engine _ => decide (engine < 8)
  | .ageingMeasure tile _ => decide (tile < 1088)
  | .thermalReport readings => readings.length == 28 && readings.all (fun r => decide (-32768 ≤ r) && decide (r ≤ 32767))
  | .thermalOff => true
  | .wakeRise => true
  | .idleEntry => true
  | .idleExit => true
  | .clockLoss => true
  | .referenceReturn => true
  | .secProgRollback _ => true
  | .secProgSlot _ => true
  | .secProgRevoke _ => true
  | .secProgSlotDebug _ => true
  | .secProgDebugLock => true
  | .secProgDone _ => true
  | .idcode => true
  | .unlockChal _ => true
  | .unlockResp bytes => decide (bytes.length < 65536)
  | .registerWrite addr half _ => match half with | .whole => decide (addr % 8 = 0) | _ => decide (addr % 4 = 0)
  | .hsBurstEnd port _ => rxPort port
  | .txPllRelock port => txPort port
  | .g6PllRelock group => decide (group < 2)
  | .railOutOfRange rail => decide (rail < 7)
  | .hdrExit => true
  | .attestDone => true
  | .fwVerifyDone => true
  | .wakeToRun => true

end Sys2Proof
end

