-- ==== Sys2Proof/Certificates/Slice0/Obligations.lean ====
section
/-!
DEFINITION. The statements for the provers.  Each says, for every state that meets its hypotheses, what the commands that
it names do: the next state that they answer, what it holds, and what it leaves as it was.
-/
namespace Sys2Proof.Machine

/-- The registers that a later grain may change by itself. -/
def grainKeys : List Key := [F.TIME_GRAIN_GRAIN.key 0 0, F.ACT_ARM_ARM.key 0 0, F.PAIR_CNT0_HB_GAP.key 0 0]

/-- From `s` to `t` no register field changed but those with the keys `ks`. -/
def OnlyWrites (ks : List Key) (s t : State) : Prop :=
  ∀ (f : Fld) (u i : Nat), f.key u i ∉ ks → t.rd f u i = s.rd f u i

/-- The keys of the register fields that differ from reset rise strictly, and memory is in canonical form. -/
def State.canonical (s : State) : Bool :=
  (s.regs.map (·.1)).zip ((s.regs.map (·.1)).drop 1) |>.all (fun x => Key.lt x.1 x.2) |>.and s.memWf

/-- Every unfinished unit marked as masked, with kind 0x10 of its tile. -/
def State.maskUnfinished (s : State) : State :=
  s.unfinished.foldl (fun s n => (s.wr F.CORE_STAT_DONE_MASKED 1 n).report (s.tileOf n) 0x10 3 n) s

/-- The staged image, and the state after the cores' words and it were read, as the configuration check reads it. -/
def State.examined (s : State) : Option (List Byte) × State :=
  let t := s.examine
  match t.boot.image with
  | some im => t.g6Bytes im.base im.len
  | none => (none, t)

/-- The flight that a packet becomes where its interface takes it in (07 R201, R205). -/
def State.flightOf (s : State) (k : Packet) : Flight :=
  let r := s.route k.src.toNat k (s.entry k).onCtl
  ⟨s.net.nextId, k, k.src.toNat, (s.entry k).onCtl, r.path, [], [], r.target, r.side, none, none, [], 0⟩

/-- Whether the interface takes a packet in now: it may leave, its in-flight counter has room, and the staging is free. -/
def State.takes (s : State) (k : Packet) : Bool :=
  s.mayLeave (s.entry k) && s.mayCount k.src.toNat k 1 && s.stageFree k.src.toNat (s.flightOf k).firstVc

/-- The state once a command has been taken and counted. -/
def State.took (s : State) : State := s.inc F.CMD_CNT_CMDS

/-- A command that comes now is taken at once: the device is up, not in DEEP, no other command waits or holds words, its
reply has a place, no swap window is open, and in SLEEP it is one of those that do not wake the device. -/
def Ready (s : State) (c : HostCmd) : Prop :=
  s.boot.up = true ∧ s.rd F.KILN_STAT_STATE ≠ 3 ∧ (s.rd F.KILN_STAT_STATE = 2 → sleepOk c = true) ∧
    s.outstanding 0x0B = false ∧ s.cmd.fifo = [] ∧ s.cmd.inband = [] ∧ s.cmd.replies.length < 4 ∧ s.cmd.replyWait = [] ∧
    s.spare.window = none ∧ c.path ≠ .inband

/-- A command was answered OK with `data`; without data it is answered only where it asks for a reply. -/
def Answered (s t : State) (c : HostCmd) (data : List Byte) : Prop :=
  (data ≠ [] ∨ c.ackReq = true → t.cmd.replies = s.cmd.replies ++ [replyBytes c.word0 0 0 data]) ∧
    (data = [] → c.ackReq = false → t.cmd.replies = s.cmd.replies)

/-- A command was taken and its reply waits, with the number it keeps. -/
def Waits (s t : State) (c : HostCmd) (op arg : Nat) : Prop :=
  t.cmd.deferred = s.cmd.deferred ++ [⟨op, c.word0, c.ackReq, c.path, arg⟩] ∧ t.cmd.replies = s.cmd.replies

/-- A rollback program under way raises the counter: nothing lower was ever accepted. -/
def State.progSound (s : State) : Prop := ∀ k v, s.sec.prog = some (1, k, v) → s.fuse.rollback ≤ v

end Sys2Proof.Machine

open Sys2Proof Sys2Proof.Machine


/-- Step of a state whose queue is c followed by rest is exec of c on that state with the queue reduced to rest. The
queue of waiting commands is the model's own (log entries 4 and 10). -/
def Obligations.StepTakesTheFrontCommand : Prop :=
  ∀ (c : Instr) (rest : List Instr) (s : State), s.pending = c :: rest →
    step s = exec c { s with pending := rest }

/-- With no command waiting, a device whose grain counter runs and whose sequencer neither waits for step 0 nor for a
grant has GRAIN one higher modulo 2^64, SYNC_OUT low, and no register changed but GRAIN, a pending ACT_ARM and, on a
mirroring device whose partner has been lost, the count of missing heartbeats; a device whose counter stands (before
stage 2, or in DEEP) is left as it is. That a grain passes then is the model's choice (log entry 3); when GRAIN
counts is R35's. -/
def Obligations.EmptyQueuePassesOneGrain : Prop :=
  ∀ (s : State), s.pending = [] →
    (s.counts = true → s.time.phase ≠ .armed → s.time.phase ≠ .between →
      ∃ t, step s = .next t ∧ t.grain = (s.grain + 1) % 2 ^ 64 ∧ t.pins.syncOut = false ∧
        t = { s with regs := t.regs, pins := t.pins, time := t.time, ash := t.ash,
                     pair := { s.pair with gaps := t.pair.gaps } } ∧
        OnlyWrites grainKeys s t ∧
        (s.on F.PAIR_CFG_MIRROR_EN = false ∨ s.rd F.PAIR_STAT_SB_STATE < 3 →
          t.rd F.PAIR_CNT0_HB_GAP = s.rd F.PAIR_CNT0_HB_GAP) ∧
        (∀ v, s.ash.armNext = some v → t.rd F.ACT_ARM_ARM = v % 2 ^ 16 ∧ t.ash.armNext = none)) ∧
    (s.counts = false → step s = .next s)

/-- After reset no command waits, memory lists nothing, every register field reads the value that its table gives for
reset but for the fields that reset computes from the fuse set and Owl's reaction table, the power cap in force and
requested are the variant's maximum power, the two tables held in reset are in canonical form, and no fuse program
is under way. The fuse set that reset stands on is the model's choice (log entry 1), and so is memory reading as
zero (log entry 2). -/
def Obligations.ResetLeavesTheRegisterTables : Prop :=
  State.reset.pending = [] ∧ (∀ a, State.reset.byte a = 0) ∧
  (∀ (f : Fld) (u i : Nat), (∀ e ∈ resetRegs FuseSt.plain, e.1 ≠ f.key u i) → State.reset.rd f u i = f.rst) ∧
  State.reset.rd F.KILN_CAP_CAP = 25000 ∧ State.reset.grain = 0 ∧ State.reset.running = false ∧
  State.reset.canonical = true ∧ State.reset.progSound

/-- The named operations that store to memory (one byte, a run of bytes, one word, a run of words) keep the list of
bytes strictly rising and free of zero bytes, and a byte stored is read back while every other byte reads as before.
The form is the model's own (log entry 2). -/
def Obligations.MemoryKeepsItsCanonicalForm : Prop :=
  ∀ (s : State) (a : Nat), s.memWf = true →
    (∀ v, (s.setByte a v).memWf = true ∧ (s.setByte a v).byte a = v ∧
      ∀ b, b ≠ a → (s.setByte a v).byte b = s.byte b) ∧
    (∀ vs, (s.setBytes a vs).memWf = true ∧
      (∀ k (h : k < vs.length), (s.setBytes a vs).byte (a + k) = vs[k]) ∧
      ∀ b, (b < a ∨ a + vs.length ≤ b) → (s.setBytes a vs).byte b = s.byte b) ∧
    (∀ w, (s.setWord a w).memWf = true ∧ (s.setWord a w).word a = w ∧ (s.setWord a w).flip a = 0 ∧
      ∀ b, (b < a ∨ a + 8 ≤ b) → (s.setWord a w).byte b = s.byte b) ∧
    (∀ ws, (s.setWords a ws).memWf = true ∧
      (∀ k (h : k < ws.length), (s.setWords a ws).word (a + 8 * k) = ws[k]) ∧
      ∀ b, (b < a ∨ a + 8 * ws.length ≤ b) → (s.setWords a ws).byte b = s.byte b)

/-- STEP_DEADLINE in locked mode with a step open and no swap waiting brings the grain to the nominal end of the step.
If every core and Tinder are then done, the step closes, CLEAN when the boundary is not late, TIME_STEP of the state
from which the next step begins is one higher, and LAST_CLOSE tells how it closed; if not, nothing but the
sequencer's phase changes and the budget runs. In free-run mode, or with no step open, nothing happens. That a
command which comes about at a defined grain brings the counter there is the model's choice (log entry 13). With no
swap waiting: ALL_DONE closes a step past its deadline STRETCHED at the next grain edge; a free-run step it closes
CLEAN there when FREE_LIMIT has not passed and by force when it has; and it does nothing while an input is not done.
STRETCH_BUDGET_EXPIRED, at the nominal end plus the stretch budget, closes the step STRETCHED if all is done and
otherwise starts the wait for unfinished updates from that grain, which changes nothing else. -/
def Obligations.StepsCloseAtTheirEndOrLate : Prop :=
  (∀ (s : State), s.time.phase ≠ .armed → s.spare.queue = [] →
      let u := s.advance (s.startOf (s.step + 1))
      let how := if u.lateness = 0 then Close.clean else Close.stretched
      (s.freeRun = false → s.time.phase = .opened →
        (u.allDone = true → exec .stepDeadline s = .next (u.closeStep how).begin ∧
          (u.closeStep how).step = (s.step + 1) % 2 ^ 64) ∧
        (u.allDone = false → exec .stepDeadline s = .next { u with time := { u.time with phase := .stretch } })) ∧
      (s.freeRun = true ∨ s.time.phase ≠ .opened → exec .stepDeadline s = .next s)) ∧
  (∀ (s : State), s.spare.queue = [] →
      let v := s.advance ((s.grain + 1) % 2 ^ 64)
      let u := s.advance ((s.startOf (s.step + 1) + s.budget) % 2 ^ 64)
      (s.allDone = false → exec .allDone s = .next s) ∧
      (s.allDone = true → s.freeRun = false → s.time.phase = .stretch →
        exec .allDone s = .next (v.closeStep .stretched).begin) ∧
      (s.allDone = true → s.freeRun = true → s.time.phase = .opened → s.freeEnd.all (fun g => reached g v.grain) = true →
        exec .allDone s = .next (v.closeStep .clean).begin) ∧
      (s.allDone = true → s.freeRun = true → s.time.phase = .opened → s.freeEnd.all (fun g => reached g v.grain) = false →
        exec .allDone s = .next (v.maskUnfinished.closeStep .forced).begin) ∧
      (s.time.phase = .stretch → u.allDone = true →
        exec .stretchBudgetExpired s = .next (u.closeStep .stretched).begin) ∧
      (s.time.phase = .stretch → u.allDone = false →
        exec .stretchBudgetExpired s = .next { u with time := { u.time with phase := .hang, hangFrom := u.grain } }) ∧
      (∀ how, (s.closeStep how).step = (s.step + 1) % 2 ^ 64))

/-- With no swap waiting: HANG_LIMIT_EXPIRED with updates unfinished waits HANG_LIMIT grains from the grain at which the
wait began, masks every core whose update is then unfinished, reports kind 0x10 of it from its tile, and closes the
step FORCED; with no update left it closes FORCED at the next grain. FREE_LIMIT_EXPIRED in free-run mode, FREE_LIMIT
x 1,000 grains from the step's start, closes a step that is not done FORCED at once where every update has finished
and otherwise begins the wait from that grain. A forced close counts in TIME_FORCED_CNT and TIME_STRETCH_CNT, shows
code 2 in LAST_CLOSE, and stages kind 0x21 of source 0x740. -/
def Obligations.ForcedClosesMaskAndReport : Prop :=
  ∀ (s : State), s.spare.queue = [] →
    let h := s.advance ((s.time.hangFrom + s.rd F.TIME_CTRL_HANG_LIMIT) % 2 ^ 64)
    let f := s.advance ((s.time.begun + 1000 * s.rd F.TIME_CTRL_FREE_LIMIT) % 2 ^ 64)
    (s.time.phase = .hang → s.unfinished ≠ [] →
      exec .hangLimitExpired s = .next (h.maskUnfinished.closeStep .forced).begin) ∧
    (s.freeRun = true → s.time.phase = .opened → s.rd F.TIME_CTRL_FREE_LIMIT ≠ 0 → s.rd F.PAIR_STAT_PHASE ≠ 2 →
      f.allDone = false →
      (f.unfinished = [] → exec .freeLimitExpired s = .next (f.closeStep .forced).begin) ∧
      (f.unfinished ≠ [] → ∃ t, exec .freeLimitExpired s = .next t ∧ t.time.phase = .hang ∧
        t.time.hangFrom = (s.time.begun + 1000 * s.rd F.TIME_CTRL_FREE_LIMIT) % 2 ^ 64 ∧ t = { f with time := t.time })) ∧
    (s.time.phase = .hang → s.unfinished = [] → s.grain ≠ s.time.hangFrom →
      exec .hangLimitExpired s = .next ((s.advance ((s.grain + 1) % 2 ^ 64)).closeStep .forced).begin) ∧
    (∀ n ∈ s.unfinished, s.maskUnfinished.on F.CORE_STAT_DONE_MASKED n = true ∧
      ∃ m ∈ s.maskUnfinished.owl.staged, m.kind = 0x10 ∧ m.src = s.tileOf n) ∧
    (s.countClose .forced).rd F.TIME_OVL_STAT_LAST_CLOSE = 2 ∧
    (s.countClose .forced).rd F.TIME_FORCED_CNT_CNT = min (s.rd F.TIME_FORCED_CNT_CNT + 1) (2 ^ 32 - 1) ∧
    (s.countClose .forced).rd F.TIME_STRETCH_CNT_CNT = min (s.rd F.TIME_STRETCH_CNT_CNT + 1) (2 ^ 32 - 1) ∧
    (∃ m ∈ (s.countClose .forced).owl.staged, m.kind = 0x21 ∧ m.src = 0x740)

/-- RUN_EN_WRITE of 1 on a device that is READY, stands still and examines no configuration sets CHECK_BUSY, leaves
RUN_EN at 0 and changes no other register; of 0 while the model runs it asks for the stop that DISABLE makes; it
changes nothing while the check runs or before READY (R376). The moment of the check's start and the fall of the
agreement record are the model's side state (log entry 34). -/
def Obligations.RunEnableWritesStartAndStop : Prop :=
  ∀ (s : State),
    (8 ≤ s.boot.stage → s.on F.CHIP_CTRL_CHECK_BUSY = false → s.running = false →
      (∃ t, exec (.runEnWrite true) s = .next t ∧ t.rd F.CHIP_CTRL_CHECK_BUSY = 1 ∧ t.running = false ∧
        t.time.checkAt = s.grain ∧ t = { s with regs := t.regs, time := t.time, pair := t.pair } ∧
        OnlyWrites [F.CHIP_CTRL_CHECK_BUSY.key 0 0] s t) ∧
      exec (.runEnWrite false) s = .next s) ∧
    (8 ≤ s.boot.stage → s.on F.CHIP_CTRL_CHECK_BUSY = false → s.running = true →
      exec (.runEnWrite false) s = .next { s with time := { s.time with stop := .disable } } ∧
      exec (.runEnWrite true) s = .next s) ∧
    (s.boot.stage < 8 ∨ s.on F.CHIP_CTRL_CHECK_BUSY = true → ∀ v, exec (.runEnWrite v) s = .next s)

/-- CONFIG_CHECK_DONE with the check running: if no class fails and the device does not join a running partner as its
standby, RUN_EN is 1, CHECK_BUSY is 0, TIME_STEP and TIME_FRAME are 0 and the sequencer waits for the grain of step
0; if a class fails, CHECK_BUSY is 0, RUN_EN keeps its value and CHIP_CFG_REASON holds the class, detail and index
of the first failure in the order of R337, and IBI 0xA3 is due. Without a running check nothing happens. -/
def Obligations.ConfigurationCheckEnds : Prop :=
  ∀ (s : State),
    (s.on F.CHIP_CTRL_CHECK_BUSY = false → exec .configCheckDone s = .next s) ∧
    (s.on F.CHIP_CTRL_CHECK_BUSY = true → firstFailure (s.examined.2.checkClasses s.examined.1) = none →
      s.examined.2.joins = false →
      ∃ t, exec .configCheckDone s = .next t ∧ t.running = true ∧ t.rd F.CHIP_CTRL_CHECK_BUSY = 0 ∧ t.step = 0 ∧
        t.frame = 0 ∧ t.time.phase = .armed ∧ t.time.winClosed = 0) ∧
    (∀ x, s.on F.CHIP_CTRL_CHECK_BUSY = true → firstFailure (s.examined.2.checkClasses s.examined.1) = some x →
      ∃ t, exec .configCheckDone s = .next t ∧ t.rd F.CHIP_CTRL_RUN_EN = s.examined.2.rd F.CHIP_CTRL_RUN_EN ∧
        t.rd F.CHIP_CTRL_CHECK_BUSY = 0 ∧ t.rd F.CHIP_CFG_REASON_CLASS = x.1 % 256 ∧
        t.rd F.CHIP_CFG_REASON_DETAIL = x.2.1 % 256 ∧
        t.rd F.CHIP_CFG_REASON_INDEX = (if x.1 = 7 then queueIndex x.2.2 else x.2.2) % 65536 ∧ t.cmd.ibiCfg = true)

/-- With SYNC_MODE not 0 and an expected edge known, SYNC_EDGE_MISSING sets LOSS, clears LOCKED, leaves PHASE_ERR and
moves the expected edge one period on. A measured edge more than MAX_ERR grains from its expected position sets
LOSS, clears LOCKED, starts no correction and sets the next expected position from itself; a nearer one sets LOCKED
when its error is at most 32 root cycles and clears it otherwise, and keeps the grid. -/
def Obligations.MissedAndFarSyncEdgesLoseLock : Prop :=
  ∀ (s : State), s.rd F.TIME_CTRL_SYNC_MODE ≠ 0 → s.time.syncKnown = true →
    (∃ t, exec .syncEdgeMissing s = .next t ∧ t.rd F.TIME_SYNC_STAT_LOSS = 1 ∧ t.rd F.TIME_SYNC_STAT_LOCKED = 0 ∧
      t.rd F.TIME_SYNC_STAT_PHASE_ERR = s.rd F.TIME_SYNC_STAT_PHASE_ERR ∧
      t.time.syncExpect = (s.time.syncExpect + s.rd F.TIME_SYNC_CFG_SYNC_PERIOD * 3200) % rootScale ∧
      (t.time.slew = 0 ∨ t.time.slew.natAbs ≤ s.time.slew.natAbs) ∧
      t = { s with regs := t.regs, time := t.time, pins := t.pins, ash := t.ash,
                   pair := { s.pair with gaps := t.pair.gaps } } ∧
      OnlyWrites ([F.TIME_SYNC_STAT_LOSS.key 0 0, F.TIME_SYNC_STAT_LOCKED.key 0 0] ++ grainKeys) s t) ∧
    (∀ pos, (s.time.syncArmed = false ∨ s.running = true) →
      let p := s.grain * 3200 + pos % 3200
      let e := rootSpan p s.time.syncExpect
      ∃ t, exec (.syncInEdge pos) s = .next t ∧
        (s.rd F.TIME_SYNC_CFG_MAX_ERR * 3200 < e.natAbs →
          t.rd F.TIME_SYNC_STAT_LOSS = 1 ∧ t.rd F.TIME_SYNC_STAT_LOCKED = 0 ∧ t.time.slew = s.time.slew ∧
          t.time.syncExpect = (p + s.rd F.TIME_SYNC_CFG_SYNC_PERIOD * 3200) % rootScale) ∧
        (e.natAbs ≤ s.rd F.TIME_SYNC_CFG_MAX_ERR * 3200 →
          t.rd F.TIME_SYNC_STAT_LOSS = s.rd F.TIME_SYNC_STAT_LOSS ∧
          t.rd F.TIME_SYNC_STAT_LOCKED = (if e.natAbs ≤ 32 then 1 else 0) ∧
          t.time.syncExpect = (s.time.syncExpect + s.rd F.TIME_SYNC_CFG_SYNC_PERIOD * 3200) % rootScale) ∧
        t = { s with regs := t.regs, time := t.time } ∧
        OnlyWrites [F.TIME_SYNC_STAT_LOSS.key 0 0, F.TIME_SYNC_STAT_LOCKED.key 0 0, F.TIME_SYNC_STAT_PHASE_ERR.key 0 0,
          F.TIME_SYNC_STAT_EDGE_CNT.key 0 0] s t)

/-- In mode 0 an edge changes nothing. In the others it is counted; the load edge of mode 2 sets GRAIN to TIME_SYNC_LOAD
and disarms the load; a first edge measures nothing, sets PHASE_ERR to 0 and clears LOCKED; a measured edge leaves
GRAIN and writes the error in root cycles to PHASE_ERR, limited to the field's range, and only in mode 3 and within
MAX_ERR it starts a correction of that error. -/
def Obligations.SyncInEdgesMeasureLoadAndSlew : Prop :=
  ∀ (s : State) (pos : Nat),
    (s.rd F.TIME_CTRL_SYNC_MODE = 0 → exec (.syncInEdge pos) s = .next s) ∧
    (s.rd F.TIME_CTRL_SYNC_MODE ≠ 0 → ∃ t, exec (.syncInEdge pos) s = .next t ∧
      t.rd F.TIME_SYNC_STAT_EDGE_CNT = (s.rd F.TIME_SYNC_STAT_EDGE_CNT + 1) % 256 ∧
      (s.time.syncArmed = true → s.running = false →
        t.grain = s.rd F.TIME_SYNC_LOAD_LOAD % 2 ^ 64 ∧ t.time.syncArmed = false ∧ t.rd F.TIME_SYNC_STAT_PHASE_ERR = 0 ∧
        t.rd F.TIME_SYNC_STAT_LOCKED = 0 ∧ t.time.syncKnown = true) ∧
      (s.time.syncArmed = false ∨ s.running = true → t.grain = s.grain ∧ t.time.syncKnown = true ∧
        (s.time.syncKnown = false → t.rd F.TIME_SYNC_STAT_PHASE_ERR = 0 ∧ t.rd F.TIME_SYNC_STAT_LOCKED = 0 ∧
          t.time.slew = s.time.slew) ∧
        (s.time.syncKnown = true →
          let e := rootSpan (s.grain * 3200 + pos % 3200) s.time.syncExpect
          t.rd F.TIME_SYNC_STAT_PHASE_ERR = uns 16 (max (-32767) (min 32767 e)) ∧
          t.time.slew = (if s.rd F.TIME_CTRL_SYNC_MODE = 3 ∧ e.natAbs ≤ s.rd F.TIME_SYNC_CFG_MAX_ERR * 3200 then e
            else s.time.slew))) ∧
      t = { s with regs := t.regs, time := t.time } ∧
      OnlyWrites [F.TIME_SYNC_STAT_LOSS.key 0 0, F.TIME_SYNC_STAT_LOCKED.key 0 0, F.TIME_SYNC_STAT_PHASE_ERR.key 0 0,
        F.TIME_SYNC_STAT_EDGE_CNT.key 0 0, F.TIME_GRAIN_GRAIN.key 0 0] s t)

/-- DIN_DEBOUNCE_EXPIRED takes the level of the pin; a level that has held for DEBOUNCE grains shows in
TND_DIN_CFG.LEVEL, a shorter one does not, and nothing else happens while the model does not run, the contact is
disabled or the filter's output keeps its level. TND_CHAN_B_WRITE writes the parameter word at once while the model
stands and otherwise waits as an input of class 2. TINDER_TAKE_INPUT takes nothing while RUN_EN is 0.
INPUT_WINDOW_CLOSE in locked mode counts one more closed window at the grain that ends it, and closes nothing while
RUN_EN is 0. -/
def Obligations.InputsOutsideTheRunAreDropped : Prop :=
  ∀ (s : State),
    (∀ d level held, d < 16 →
      (s.running = false ∨ s.on F.TND_DIN_CFG_EN 0 d = false ∨ s.on F.TND_DIN_CFG_LEVEL 0 d = level ∨
        held < s.rd F.TND_DIN_CFG_DEBOUNCE 0 d) →
      ∃ t, exec (.dinDebounceExpired d ⟨level, held⟩) s = .next t ∧ t.pins.din.getLsbD d = level ∧
        (∀ e < 16, e ≠ d → t.pins.din.getLsbD e = s.pins.din.getLsbD e) ∧
        t.on F.TND_DIN_CFG_LEVEL 0 d =
          (if s.rd F.TND_DIN_CFG_DEBOUNCE 0 d ≤ held then level else s.on F.TND_DIN_CFG_LEVEL 0 d) ∧
        t = { s with regs := t.regs, pins := { s.pins with din := t.pins.din } } ∧
        OnlyWrites [F.TND_DIN_CFG_LEVEL.key 0 d] s t) ∧
    (∀ tag (v : BitVec 64), tag < 4096 →
      (s.running = false → ∃ t, exec (.tndChanBWrite tag v) s = .next t ∧ t.rd F.TND_CHAN_B_WORD 0 tag = v.toNat ∧
        t = { s with regs := t.regs } ∧ OnlyWrites [F.TND_CHAN_B_WORD.key 0 tag] s t) ∧
      (s.running = true → ∃ t e, exec (.tndChanBWrite tag v) s = .next t ∧ t.tinder.inputs = s.tinder.inputs ++ [e] ∧
        e.cls = 2 ∧ e.tag = tag ∧ e.param = v ∧ t = { s with tinder := { s.tinder with inputs := t.tinder.inputs } })) ∧
    (s.running = false → exec .tinderTakeInput s = .next s ∧ (s.time.phase ≠ .armed → exec .inputWindowClose s = .next s)) ∧
    (s.running = true → s.freeRun = false → s.time.phase ≠ .armed → s.time.phase ≠ .off → s.rd F.PAIR_STAT_PHASE ≠ 1 →
      exec .inputWindowClose s = .next (s.advance (s.winStart (s.time.winClosed + 1))).closeWindow ∧
      (∀ u : State, u.tinder.inputs.any (fun e => e.stamped && decide (e.step ≤ u.time.winClosed)) = true →
        u.tinder.closes = [] → u.closeWindow = { u with
          time := { u.time with winClosed := u.time.winClosed + 1 }
          tinder := { u.tinder with
            closes := [u.time.winClosed], winOpen := false
            wins := u.tinder.wins.map (fun w =>
              if w.1 = u.time.winClosed ∧ w.2.2 = none then (u.time.winClosed, w.2.1, some u.grain) else w) } }))

/-- On a running device without the pair, TINDER_TAKE_INPUT with a single contact edge waiting for the open window, on
an enabled, unmetered channel of ENC 9 and with no close or earlier parameter write pending, encodes it: one
single-flit RACC of source 0x1F22 and tag n + 1 to the channel's DEST, axon AXON for a closing and AXON + 1 for an
opening contact with payload 1, ready for injection, counted in TND_CNT.EVENTS. On a channel with EN = 0 the edge is
discarded and counted in TND_CNT.DISC. -/
def Obligations.ContactEdgesBecomeEvents : Prop :=
  ∀ (s : State) (e : Input), s.running = true → s.mirroring = false → s.tinder.inputs = [e] → s.tinder.hold = [] →
    s.tinder.closes = [] → s.tinder.closing = none → s.awaitsWrite e = false → s.tinder.stopStep = none → e.kind = 1 → e.set = false → e.step = s.step →
    s.step ≤ s.time.winClosed → (s.chan e.tag).meter = false → s.rd F.PAIR_STAT_PHASE = 0 →
    ((s.chan e.tag).en = true → (s.chan e.tag).enc = 9 →
      ∃ t p, exec .tinderTakeInput s = .next t ∧ t.tinder.inputs = [] ∧
        t.tinder.ready = s.tinder.ready ++ [⟨s.step + 1, p⟩] ∧ p.op = 1 ∧ p.src = 0x1F22 ∧
        p.dest.toNat = (s.chan e.tag).dest % 2 ^ 13 ∧ p.tag.toNat = (s.step + 1) % 64 ∧ p.pay = 1 ∧ p.data = [] ∧
        p.arg.toNat = ((s.chan e.tag).axon + if e.v = 0 then 1 else 0) % 2 ^ 16 ∧
        t.rd F.TND_CNT_EVENTS = min (s.rd F.TND_CNT_EVENTS + 1) (2 ^ 32 - 1) ∧
        t = { s with regs := t.regs, tinder := { s.tinder with inputs := [], ready := t.tinder.ready } } ∧
        OnlyWrites [F.TND_CNT_EVENTS.key 0 0] s t) ∧
    ((s.chan e.tag).en = false →
      ∃ t, exec .tinderTakeInput s = .next t ∧ t.rd F.TND_CNT_DISC = min (s.rd F.TND_CNT_DISC + 1) 65535 ∧
        t = { s with regs := t.regs, tinder := { s.tinder with inputs := [] } } ∧ OnlyWrites [F.TND_CNT_DISC.key 0 0] s t)

/-- REPLAY_RECORD_READ on a free-run device that replays, with the window of the step open: at the end of the region, or
at a header that the group cannot read, REPLAY_DONE is set and the window closes, the unreadable header counting in
TND_CNT.DISC; a header of a later step closes the window and stays; a header of an earlier step is counted in
TIME_LATE_IN_CNT and skipped with its entries, and ends the replay where nothing follows it. With RUN_EN = 0, in
locked mode or with the window closed nothing happens. -/
def Obligations.ReplayRecordsFeedTheOpenStep : Prop :=
  ∀ (s : State),
    (s.running = false ∨ s.freeRun = false ∨ s.tinder.winOpen = false → exec .replayRecordRead s = .next s) ∧
    (s.running = true → s.freeRun = true → s.tinder.winOpen = true → s.rd F.PAIR_STAT_PHASE ≠ 2 →
      s.on F.TND_CTRL_REPLAY_EN = true → s.on F.TND_STAT_REPLAY_DONE = false →
      let stop := s.rd F.TND_REPLAY_END_ADDR / 8 * 8
      (stop ≤ s.tinder.replayAt → exec .replayRecordRead s = .next (s.wr F.TND_STAT_REPLAY_DONE 1).closeWindow) ∧
      (∀ t, s.tinder.replayAt < stop → s.replayWord s.tinder.replayAt = (none, t) →
        exec .replayRecordRead s = .next ((t.inc F.TND_CNT_DISC).wr F.TND_STAT_REPLAY_DONE 1).closeWindow) ∧
      (∀ t h, s.tinder.replayAt < stop → s.replayWord s.tinder.replayAt = (some h, t) →
        (t.time.winClosed < bits h.toNat 47 0 → exec .replayRecordRead s = .next t.closeWindow) ∧
        (bits h.toNat 47 0 < t.time.winClosed →
          let a := s.tinder.replayAt + 8 + 8 * bits h.toNat 63 48
          let u := t.inc F.TIME_LATE_IN_CNT_CNT
          let v := { u with tinder := { u.tinder with replayAt := a } }
          exec .replayRecordRead s = .next (if stop ≤ a then (v.wr F.TND_STAT_REPLAY_DONE 1).closeWindow else v))))

/-- HS_BURST_END ends the packet under way and the discarding, and on a port that receives counts a
start-of-transmission error. On a port that receives: an uncorrectable header counts in HDR_ERR and discards
everything up to the end of the burst; a good or corrected header of a long packet that nothing takes or relays
counts in PKTS and NOCTX (and ECC_CORR when corrected) and its packet is not kept; a packet up to 16,384 bytes that
a context takes is kept under the stamp of its header, a longer one counts in ING_DROP. A port that is not enabled,
or that discards, ignores headers. RX_PACKET_END without a header changes nothing; with one it counts the bytes and,
on a bad CRC, the error; a port that has been disabled since counts neither. -/
def Obligations.ReceivedHeadersAreCounted : Prop :=
  ∀ (s : State) (p : Nat),
    (s.rxReady p = false ∨ (s.rxp p).discarding = true →
      ∀ e vc dt wc, exec (.rxPacketHeader p e vc dt wc) s = .next s) ∧
    (∀ e, ∃ t, exec (.hsBurstEnd p e) s = .next t ∧ (t.rxp p).discarding = false ∧ (t.rxp p).cur = none ∧
      t.rd F.CSIRX_ERR_CNT_SOT_ERR p = (if e && s.rxReady p then min (s.rd F.CSIRX_ERR_CNT_SOT_ERR p + 1) 65535
        else s.rd F.CSIRX_ERR_CNT_SOT_ERR p) ∧
      t = { s with regs := t.regs, rx := t.rx, tx := t.tx } ∧ ((s.rxp p).cur = none → t.tx = s.tx) ∧
      OnlyWrites [F.CSIRX_ERR_CNT_SOT_ERR.key p 0] s t) ∧
    (s.rxReady p = true →
      ((s.rxp p).discarding = false →
        (∀ vc dt wc, ∃ t, exec (.rxPacketHeader p .bad vc dt wc) s = .next t ∧ (t.rxp p).discarding = true ∧
          (t.rxp p).cur = none ∧ t.rd F.CSIRX_ERR_CNT_HDR_ERR p = min (s.rd F.CSIRX_ERR_CNT_HDR_ERR p + 1) 65535 ∧
          t = { s with regs := t.regs, rx := t.rx } ∧ OnlyWrites [F.CSIRX_ERR_CNT_HDR_ERR.key p 0] s t) ∧
        (∀ e vc dt wc, e ≠ .bad → 16 ≤ dt → s.relaysOf p vc = [] →
          ∃ t, exec (.rxPacketHeader p e vc dt wc) s = .next t ∧
            (t.rxp p).cur = some ⟨vc, dt, wc, s.grain,
              ((s.taker p vc dt).isSome || s.inbandVc p vc || s.mirrorVc p vc dt) && decide (wc ≤ 16384), s.inbandVc p vc⟩ ∧
            t.rd F.CSIRX_PORT_CNT_PKTS p = min (s.rd F.CSIRX_PORT_CNT_PKTS p + 1) (2 ^ 32 - 1) ∧
            t.rd F.CSIRX_ERR_CNT_ECC_CORR p = (if e = .corrected then min (s.rd F.CSIRX_ERR_CNT_ECC_CORR p + 1) 65535
              else s.rd F.CSIRX_ERR_CNT_ECC_CORR p) ∧
            (((s.taker p vc dt).isSome || s.inbandVc p vc || s.mirrorVc p vc dt) = false →
              t.rd F.CSIRX_PORT_CNT_NOCTX p = min (s.rd F.CSIRX_PORT_CNT_NOCTX p + 1) 65535) ∧
            (((s.taker p vc dt).isSome || s.inbandVc p vc || s.mirrorVc p vc dt) = true →
              t.rd F.CSIRX_PORT_CNT_NOCTX p = s.rd F.CSIRX_PORT_CNT_NOCTX p ∧
              t.rd F.CSIRX_PORT_CNT_ING_DROP p = (if 16384 < wc then min (s.rd F.CSIRX_PORT_CNT_ING_DROP p + 1) 65535
                else s.rd F.CSIRX_PORT_CNT_ING_DROP p)) ∧
            t = { s with regs := t.regs, rx := t.rx } ∧
            OnlyWrites [F.CSIRX_PORT_CNT_PKTS.key p 0, F.CSIRX_ERR_CNT_ECC_CORR.key p 0, F.CSIRX_PORT_CNT_NOCTX.key p 0,
              F.CSIRX_PORT_CNT_ING_DROP.key p 0] s t))) ∧
    ((s.rxp p).cur = none → ∀ b ok, exec (.rxPacketEnd p b ok) s = .next s) ∧
    (∀ k b ok, (s.rxp p).cur = some k → s.rxReady p = false →
      ∃ t, exec (.rxPacketEnd p b ok) s = .next t ∧ (t.rxp p).cur = none ∧ t = { s with rx := t.rx, tx := t.tx }) ∧
    (∀ k b ok, (s.rxp p).cur = some k → s.rxReady p = true → k.kept = false →
      ∃ t, exec (.rxPacketEnd p b ok) s = .next t ∧ (t.rxp p).cur = none ∧
        t.rd F.CSIRX_BYTE_CNT_BYTES p = (s.rd F.CSIRX_BYTE_CNT_BYTES p + b.length) % 2 ^ 64 ∧
        t.rd F.CSIRX_ERR_CNT_CRC_ERR p = (if ok then s.rd F.CSIRX_ERR_CNT_CRC_ERR p
          else min (s.rd F.CSIRX_ERR_CNT_CRC_ERR p + 1) 65535) ∧
        t = { s with regs := t.regs, rx := t.rx, tx := t.tx, kiln := t.kiln, owl := t.owl } ∧
        OnlyWrites [F.CSIRX_BYTE_CNT_BYTES.key p 0, F.CSIRX_ERR_CNT_CRC_ERR.key p 0] s t)

/-- CSIRX_RETRAIN while RUN_EN is 0 on an enabled port sets TRAINED and LANE_OK, sets LANES_ACT to 4, 2, 1 or 0 by
R292's table, and stages kind 0x40 of source 0x720 plus the port when LANES_ACT is below LANES; while the model runs
it is not taken. STREAM_LOSS_TIMEOUT of a context with LOSS_FR other than 0 and no loss standing sets
CSIRX_CTX_STAT.LOSS and the loss-standing flag and stages kind 0x41 of source 0x720 plus PORT; with the flag
standing, or RUN_EN 0, it reports nothing. -/
def Obligations.LanesAndStreamsAreReported : Prop :=
  ∀ (s : State),
    (∀ p lanes, s.running = true ∨ s.rxOn p = false → exec (.csirxRetrain p lanes) s = .next s) ∧
    (∀ p (lanes : BitVec 4), s.running = false → s.rxOn p = true → ∃ t, exec (.csirxRetrain p lanes) s = .next t ∧
      t.rd F.CSIRX_STAT_TRAINED p = 1 ∧ t.rd F.CSIRX_STAT_LANE_OK p = lanes.toNat ∧
      (lanes = 15 → t.rd F.CSIRX_STAT_LANES_ACT p = 4) ∧
      (lanes ≠ 15 → lanes.getLsbD 0 = true → lanes.getLsbD 1 = true → t.rd F.CSIRX_STAT_LANES_ACT p = 2) ∧
      (lanes.getLsbD 0 = true → lanes.getLsbD 1 = false → t.rd F.CSIRX_STAT_LANES_ACT p = 1) ∧
      (lanes.getLsbD 0 = false → t.rd F.CSIRX_STAT_LANES_ACT p = 0) ∧
      (t.rd F.CSIRX_STAT_LANES_ACT p < lanesOf (s.rd F.CSIRX_PORT_CFG_LANES p) →
        ∃ m ∈ t.owl.staged, m.src = 0x720 + p ∧ m.kind = 0x40) ∧
      t = { s with regs := t.regs, owl := t.owl } ∧
      OnlyWrites [F.CSIRX_STAT_TRAINED.key p 0, F.CSIRX_STAT_LANES_ACT.key p 0, F.CSIRX_STAT_LANE_OK.key p 0] s t) ∧
    (∀ c, s.running = false ∨ s.on F.CSIRX_CTX_CFG_LOSS_FR c = false ∨ (s.ctxt c).lossStanding = true →
      exec (.streamLossTimeout c) s = .next s) ∧
    (∀ c, s.running = true → s.on F.CSIRX_CTX_CFG_EN c = true → s.on F.CSIRX_CTX_CFG_LOSS_FR c = true →
      (s.ctxt c).lossStanding = false → ∃ t, exec (.streamLossTimeout c) s = .next t ∧
        t.rd F.CSIRX_CTX_STAT_LOSS c = 1 ∧ (t.ctxt c).lossStanding = true ∧
        (∃ m ∈ t.owl.staged, m.src = 0x720 + s.rd F.CSIRX_CTX_CFG_PORT c ∧ m.kind = 0x41) ∧
        t = { s with regs := t.regs, time := t.time, pins := t.pins, ash := t.ash, ctx := t.ctx, owl := t.owl,
                     pair := { s.pair with gaps := t.pair.gaps } } ∧
        OnlyWrites (F.CSIRX_CTX_STAT_LOSS.key c 0 :: grainKeys) s t)

/-- ASH_RACC_ARRIVE with a delivered single-flit RACC for Ash: on a line that no decoder covers it counts in
ASH_CNT.NOLINE and no line changes; on a covered line with tag one above the current step the line of the bank of
the current window has its count one higher (up to 65,535), its sum increased by the spike's activation and its
first offset no later than the offset of the current step. A spike that the replay of an overload names as discarded
counts in ASH_CNT.SHED and moves no line. -/
def Obligations.SpikesReachTheLinesOfAsh : Prop :=
  ∀ (s : State) (k : Packet), k.op = 1 → k.len = 0 →
    (s.lineDecoder k.arg.toNat = none → ∃ t, exec (.ashRaccArrive k) s = .next t ∧
      t.rd F.ASH_CNT_NOLINE = min (s.rd F.ASH_CNT_NOLINE + 1) 65535 ∧ t.ash = s.ash ∧ t.mem = s.mem) ∧
    (∀ dec e, s.lineDecoder k.arg.toNat = some dec → s.replayed agAsh k = some e → e.discarded = true →
      ∃ t, exec (.ashRaccArrive k) s = .next t ∧ t.rd F.ASH_CNT_SHED = min (s.rd F.ASH_CNT_SHED + 1) 65535 ∧
        t.ash = s.ash ∧ t.mem = s.mem) ∧
    (∀ dec, s.lineDecoder k.arg.toNat = some dec → s.replayed agAsh k = none → (k.tag.toNat + 64 - s.step % 64) % 64 = 1 →
      let fs := max 1 s.frameSteps
      let b := s.step / fs % 2
      let l := s.ashLine b k.arg.toNat
      ∃ t, exec (.ashRaccArrive k) s = .next t ∧ t.rd F.ASH_CNT_LATE = s.rd F.ASH_CNT_LATE ∧ t.mem = s.mem ∧
        t.ashLine b k.arg.toNat = ⟨min 65535 (l.cnt + 1),
          l.sum + BitVec.ofInt 32 (activation dec.pay k.pay.toNat),
          some (match l.first with | some f => min f (s.step % fs) | none => s.step % fs)⟩ ∧
        (∀ b' line, b' < 2 → (b' ≠ b ∨ line ≠ k.arg.toNat) → t.ashLine b' line = s.ashLine b' line))

/-- RESULT_RECORD_EMIT takes the oldest complete record of its decoder: on a device that is no standby and with an
outlet that is a queue only, the record is staged for the queue whole, SEQ rises by one modulo 2^32 and ASH_REC_CNT
counts it; a standby keeps it and emits nothing. METER_HANDOFF of a device with no metered channel only forgets the
ended frame, and of a standby emits nothing; with one metered channel and a queue as the only outlet its record is
staged for that queue whole and counted. MEMBRANE_READ_TIMEOUT with no closed record that waits changes nothing, and
otherwise no record of the frame of the first one that waits still waits for the first value of its first read, and
the record is marked as partial. Where no record is complete nothing is emitted. The order of emission by decoder is
the command's own. -/
def Obligations.WindowsEmitTheirRecords : Prop :=
  ∀ (s : State),
    (∀ d, s.readyRec d = none → s.deferredArg 0x1A = none → exec (.resultRecordEmit d) s = .next s) ∧
    (∀ d r, s.readyRec d = some r → s.deferredArg 0x1A = none → s.standby = true →
      exec (.resultRecordEmit d) s =
        .next (({ s with ash := { s.ash with recs := dropFirst (fun x => x == r) s.ash.recs } }).keepRec r)) ∧
    (∀ d r, s.readyRec d = some r → s.deferredArg 0x1A = none → s.standby = false →
      (s.decoder r.dec).txEn = false → (s.decoder r.dec).qEn = true →
      ∃ t, exec (.resultRecordEmit d) s = .next t ∧
        t.ash = { s.ash with recs := dropFirst (fun x => x == r) s.ash.recs, seq := (s.ash.seq + 1) % 2 ^ 32 } ∧
        t.rd F.ASH_REC_CNT_CNT = min (s.rd F.ASH_REC_CNT_CNT + 1) (2 ^ 32 - 1) ∧
        t.net.staging = s.net.staging ++ (appendPackets agAsh (s.decoder r.dec).qid (s.step % 64)
          (recordBytes r.dec (s.decoder r.dec).kind (recordFlags r.decision r.flags r.late r.part) r.frame r.grain
            s.ash.seq (r.vals.map (·.getD 0)))).map (fun k => ⟨agAsh, k, .plain, false, false⟩) ∧
        t = { s with regs := t.regs, ash := t.ash, net := { s.net with staging := t.net.staging } } ∧
        OnlyWrites [F.ASH_REC_CNT_CNT.key 0 0] s t) ∧
    (s.tinder.meterDue = [] → s.deferredArg 0x1A = none → exec .meterHandoff s = .next s) ∧
    (∀ x rest, s.tinder.meterDue = x :: rest → s.deferredArg 0x1A = none →
      let u := { s with tinder := { s.tinder with
        meterDue := rest, meters := s.tinder.meters.filter (fun m => m.frame != x.frame) } }
      (s.standby = true ∨ s.metered = [] → exec .meterHandoff s = .next u) ∧
      (∀ c, s.standby = false → s.metered = [c] → s.on F.ASH_METER_CFG_TX_EN = false → s.on F.ASH_METER_CFG_Q_EN = true →
        ∃ t, exec .meterHandoff s = .next t ∧ t.ash = { s.ash with seq := (s.ash.seq + 1) % 2 ^ 32 } ∧
          t.rd F.ASH_REC_CNT_CNT = min (s.rd F.ASH_REC_CNT_CNT + 1) (2 ^ 32 - 1) ∧
          t.net.staging = s.net.staging ++ (appendPackets agAsh (s.rd F.ASH_METER_CFG_QID) (s.step % 64)
            (recordBytes 0xFFFF 0x10 (recordFlags false x.flags false false) x.frame x.grain s.ash.seq
              (s.meterOf c x.frame).vals)).map (fun k => ⟨agAsh, k, .plain, false, false⟩) ∧
          t = { u with regs := t.regs, ash := t.ash, net := { s.net with staging := t.net.staging } } ∧
          OnlyWrites [F.ASH_REC_CNT_CNT.key 0 0] s t)) ∧
    (s.ash.recs.find? (fun r => r.closed && r.vals.any (·.isNone)) = none → exec .membraneReadTimeout s = .next s) ∧
    (∀ r, s.ash.recs = [r] → r.closed = true → s.rd F.ASH_DEC_PAR_STRIDE 0 r.dec = 0 →
      r.vals = [none] → ∃ t r', exec .membraneReadTimeout s = .next t ∧ t.ash.recs = [r'] ∧
        r'.vals = [some 0x80000000] ∧ r'.part = true ∧ r'.dec = r.dec ∧ r'.frame = r.frame ∧
        t.rd F.ASH_CNT_RD_ERR = min (s.rd F.ASH_CNT_RD_ERR + 1) 65535 ∧ t.mem = s.mem)

/-- With the level of PAIR_PERMIT_IN that the command brings: ACT_ASSERT_GRAIN of a line whose decision is true and
whose ARM, permit, role and run allow it drives the line high and, without HOLD, sets its pulse end WIDTH grains
later; a false or forbidden decision drives it low; an absent decision drives it low and counts in ACT_MISS_CNT.
ACT_PULSE_END drives the line low at its grain. ACT_RECHECK drives a high line low once a condition fails, the
permissive's fall among them, and leaves one that may be high. ACT_ARM_WRITE takes effect at the next grain edge and
changes no register before. No other line moves. -/
def Obligations.ActuationLinesRiseAndFall : Prop :=
  ∀ (s : State) (a : Nat), a < 16 →
    (∀ x, s.ash.actDue.find? (fun x => x.line == a) = some x → s.ash.armNext = none → s.ash.decisions.find?
        (fun y => y.dec == s.rd F.ACT_CFG_DEC 0 a && y.frame == x.frame) = none →
      ∀ p, ∃ t, exec (.actAssertGrain ⟨a, p⟩) s = .next t ∧ bit (t.rd F.ACT_STAT_LEVEL) a = false ∧
        t.rd F.ACT_MISS_CNT_CNT = min (s.rd F.ACT_MISS_CNT_CNT + 1) (2 ^ 32 - 1) ∧
        (∀ b < 16, b ≠ a → bit (t.rd F.ACT_STAT_LEVEL) b = bit (s.rd F.ACT_STAT_LEVEL) b) ∧ t.mem = s.mem) ∧
    (∀ x y, s.ash.actDue.find? (fun x => x.line == a) = some x → s.ash.armNext = none → s.ash.decisions.find?
        (fun y => y.dec == s.rd F.ACT_CFG_DEC 0 a && y.frame == x.frame) = some y →
      ∀ p, ∃ t, exec (.actAssertGrain ⟨a, p⟩) s = .next t ∧ t.pins.permit = p ∧
        bit (t.rd F.ACT_STAT_LEVEL) a = (y.value && (s.permitAt p).actMay a) ∧
        t.rd F.ACT_MISS_CNT_CNT = s.rd F.ACT_MISS_CNT_CNT ∧
        (y.value = true → (s.permitAt p).actMay a = true → s.on F.ACT_CFG_HOLD 0 a = false →
          (a, (t.grain + s.rd F.ACT_CFG_WIDTH 0 a) % 2 ^ 64) ∈ t.ash.pulseEnd) ∧
        (∀ b < 16, b ≠ a → bit (t.rd F.ACT_STAT_LEVEL) b = bit (s.rd F.ACT_STAT_LEVEL) b) ∧ t.mem = s.mem) ∧
    (∀ x, s.ash.pulseEnd.find? (fun x => x.1 == a) = some x → ∃ t, exec (.actPulseEnd a) s = .next t ∧
      bit (t.rd F.ACT_STAT_LEVEL) a = false ∧ (∀ z ∈ t.ash.pulseEnd, z.1 ≠ a) ∧
      (∀ b < 16, b ≠ a → bit (t.rd F.ACT_STAT_LEVEL) b = bit (s.rd F.ACT_STAT_LEVEL) b) ∧ t.mem = s.mem) ∧
    (∀ p, s.ash.armNext = none → bit (s.rd F.ACT_STAT_LEVEL) a = true → (s.permitAt p).actMay a = false →
      ∃ t, exec (.actRecheck ⟨a, p⟩) s = .next t ∧ bit (t.rd F.ACT_STAT_LEVEL) a = false ∧
        (∀ b < 16, b ≠ a → bit (t.rd F.ACT_STAT_LEVEL) b = bit (s.rd F.ACT_STAT_LEVEL) b) ∧
        t = { s.permitAt p with regs := t.regs, ash := t.ash } ∧ OnlyWrites [F.ACT_STAT_LEVEL.key 0 0] s t) ∧
    (∀ p, s.ash.armNext = none → bit (s.rd F.ACT_STAT_LEVEL) a = false ∨ (s.permitAt p).actMay a = true →
      exec (.actRecheck ⟨a, p⟩) s = .next (s.permitAt p)) ∧
    (∀ v, exec (.actArmWrite v) s = .next { s with ash := { s.ash with armNext := some v.toNat } })

/-- PACKET_INJECT of a packet that is not staged, from an agent outside the array: a reserved operation is dropped and
counts in DROP_CNT of its stop (of the stop's block of direction 0, the model's choice, log entry 44); a request to
an agent that the variant lacks, with a TID free, is answered at the interface with NACK NO_AGENT under that TID,
which is then outstanding for one response. A counted RACC of any agent that may leave, whose in-flight counter has
room for one more and whose interface has its staging free enters the network as one flight more, on the route that
R205 draws, and raises its source's in-flight counter of its tag's parity by one; where one of the three fails,
nothing changes. TINDER_INJECT with no event due changes nothing; of a due event it takes the oldest once the
network takes its packet, which then is one flight more and counted in flight. -/
def Obligations.InjectionsCountDropOrEnter : Prop :=
  ∀ (s : State),
    (∀ k : Packet, s.staged? k = none →
      (k.reservedOp = true → inArray k.src.toNat = false → ∃ t, exec (.packetInject k) s = .next t ∧
        t.rd F.FOX_ES_PV_ERR_DROP_CNT (agentStop k.src.toNat) (k.vc1 (s.entry k).onCtl) =
          min (s.rd F.FOX_ES_PV_ERR_DROP_CNT (agentStop k.src.toNat) (k.vc1 (s.entry k).onCtl) + 1) 65535 ∧
        t.net.flights = s.net.flights ∧ t.net.delivered = s.net.delivered ∧ t.mem = s.mem) ∧
      (∀ i, k.reservedOp = false → k.op ≠ 15 → k.op ≠ 1 → k.nonPosted = true → k.dest.toNat ≠ agBroadcast →
        s.agentOn k.dest.toNat = false → inArray k.src.toNat = false → s.mayLeave (s.entry k) = true →
        s.freeTid k.src.toNat = some i →
        ∃ t x, exec (.packetInject k) s = .next t ∧ t.net.delivered = s.net.delivered ++
          [⟨k.src.toNat, (withTid k i).nack rsnNoAgent false, 1088, 4, (withTid k i).vc1 (s.entry k).onCtl⟩] ∧
          t.net.tids = s.net.tids ++ [x] ∧ x.agent = k.src.toNat ∧ x.tid = (withTid k i).tid ∧ x.left = 1 ∧
          t = { s with net := { s.net with
            delivered := t.net.delivered, staging := t.net.staging, tids := t.net.tids } }) ∧
      (k.reservedOp = false → k.op = 1 → k.dest.toNat ≠ agBroadcast → s.agentOn k.dest.toNat = true →
        countsInflight k.src.toNat = true →
        (s.takes k = true → ∃ t, exec (.packetInject k) s = .next t ∧
          t.rd (inflightFld k.src.toNat k.tag.toNat) (inflightUnit k.src.toNat) =
            s.rd (inflightFld k.src.toNat k.tag.toNat) (inflightUnit k.src.toNat) + 1 ∧
          t.net.flights = s.net.flights ++ [s.flightOf k] ∧ t.net.nextId = s.net.nextId + 1 ∧ t.mem = s.mem) ∧
        (s.takes k = false → exec (.packetInject k) s = .next s))) ∧
    (s.promote.tinder.ready = [] → exec .tinderInject s = .next s) ∧
    (∀ e rest, s.promote.tinder.ready = e :: rest →
      let u := { s.promote with tinder := { s.promote.tinder with ready := rest } }
      (u.inject e.pkt = u → exec .tinderInject s = .next s) ∧
      (u.inject e.pkt ≠ u → exec .tinderInject s = .next (u.inject e.pkt)) ∧
      (u.staged? e.pkt = none → e.pkt.op = 1 → e.pkt.src.toNat = agTinder → e.pkt.dest.toNat ≠ agBroadcast →
        e.pkt.reservedOp = false → u.agentOn e.pkt.dest.toNat = true → u.takes e.pkt = true →
        ∃ t, exec .tinderInject s = .next t ∧ t.tinder.ready = rest ∧
          t.net.flights = s.net.flights ++ [u.flightOf e.pkt] ∧
          t.rd (inflightFld agTinder e.pkt.tag.toNat) = s.rd (inflightFld agTinder e.pkt.tag.toNat) + 1 ∧ t.mem = s.mem))

/-- For a flight: PACKET_HOP with an empty path at an edge-ring stop delivers the packet to its agent and ends the
flight; a hop on an output that another input wins, or for which no flow-control condition holds, changes nothing;
the winner's hop without flipped bits moves the head and ends the round, in which every other contending injection
loses; flipped bits of one flit that correct move the head with the corrected flit and count in CORR at the
receiver; flipped bits that do not correct leave that flit to be replayed. LINK_REPLAY counts in RETRY; a failed
replay adds to the flit's failures, and the fourth takes the link down, sets the link's bit of LINK_DOWN and stages
kind 0x06 of class 3, after which no replay comes; once no flit waits the packet moves where it may.
LANDING_TOKEN_ARRIVE of 1 to 63 tokens that are under way takes them off the sideband and lowers its agent's
in-flight counter of that parity by as many, and no other field. What the source of kind 0x06 is for a stop that is
no gateway, and that a token's hops are within the command, are the model's choices (log entries 11, 42). -/
def Obligations.HopsMoveCorrectAndReplay : Prop :=
  ∀ (s : State),
    (∀ id e, s.net.flights.find? (fun f => f.id == id) = none →
      exec (.packetHop id e) s = .next s ∧ ∀ b, exec (.linkReplay id b) s = .next s) ∧
    (∀ id (f : Flight), s.net.flights.find? (fun f => f.id == id) = some f →
      (f.path = [] → f.bcast = none → 10000 ≤ f.target → ∀ e, ∃ t, exec (.packetHop id e) s = .next t ∧
        t.net.flights = s.net.flights.filter (fun g => g.id != f.id) ∧
        t.net.delivered = s.net.delivered ++ [⟨f.pkt.dest.toNat, f.pkt, 1088, 4, f.pkt.vc2 f.ctl⟩] ∧
        t = { s with net := { s.net with
          flights := t.net.flights, delivered := t.net.delivered, critical := t.net.critical } }) ∧
      (∀ b rest, f.path = b :: rest → s.bufLive b = true → s.winner b ≠ some f.id →
        ∀ e, exec (.packetHop id e) s = .next s) ∧
      (∀ b rest, f.path = b :: rest → s.bufLive b = true → s.winner b = some f.id →
        let r := s.round b f
        let g := { f with lost := 0 }
        exec (.packetHop id []) s = .next (r.moveTo g b rest) ∧
        (b.ring ≠ 3 → ∀ i x w n, i < f.pkt.words.length → x ≠ 0 →
          Ecc.decode (Ecc.encode (f.pkt.words.getD i 0) ^^^ x) = .corrected w n →
          exec (.packetHop id (List.replicate i 0 ++ [x])) s =
            .next ((r.linkCorrected b).moveTo { g with pkt := ofFlits (f.pkt.words.set i w), replay := [] } b rest)) ∧
        (b.ring ≠ 3 → ∀ i x, i < f.pkt.words.length → x ≠ 0 →
          Ecc.decode (Ecc.encode (f.pkt.words.getD i 0) ^^^ x) = .bad →
          exec (.packetHop id (List.replicate i 0 ++ [x])) s =
            .next (r.setFlight { g with pkt := ofFlits f.pkt.words, replay := [(i, 0)] })) ∧
        (∀ h ∈ s.contenders b, h.injects = true → h.id ≠ f.id →
          ∃ h' ∈ r.net.flights, h'.id = h.id ∧ h'.lost = min 32 (h.lost + 1))) ∧
      (∀ b rest i n more, f.path = b :: rest → f.replay = (i, n) :: more → b.ring ≠ 2 →
        let p := s.bufTile b
        let k := if b.ring = 3 then 4 else b.port
        let u := s.inc F.FOX_RT_CNT_RETRY 1 p
        (4 ≤ n → ∀ x, exec (.linkReplay id x) s = .next s) ∧
        (n < 4 → ∀ x, x ≠ 0 → Ecc.decode (Ecc.encode (f.pkt.words.getD i 0) ^^^ x) = .bad →
          ∃ t, exec (.linkReplay id x) s = .next t ∧
            t.rd F.FOX_RT_CNT_RETRY p = min (s.rd F.FOX_RT_CNT_RETRY p + 1) 65535 ∧
            t.net.flights = s.net.flights.map (fun g => if g.id = f.id then { f with replay := (i, n + 1) :: more } else g) ∧
            (n < 3 → t.rd F.FOX_RT_STAT_LINK_DOWN p = s.rd F.FOX_RT_STAT_LINK_DOWN p ∧ t.owl = s.owl) ∧
            (n = 3 → t.rd F.FOX_RT_STAT_LINK_DOWN p = (s.rd F.FOX_RT_STAT_LINK_DOWN p ||| 2 ^ k) % 32 ∧
              ∃ m ∈ t.owl.staged, m.src = p ∧ m.kind = 0x06) ∧
            t = { s with regs := t.regs, net := { s.net with flights := t.net.flights }, owl := t.owl } ∧
            OnlyWrites [F.FOX_RT_CNT_RETRY.key p 0, F.FOX_RT_STAT_LINK_DOWN.key p 0] s t) ∧
        (n < 4 → let g := { f with pkt := ofFlits (f.pkt.words.set i (f.pkt.words.getD i 0)), replay := more }
          exec (.linkReplay id 0) s =
            .next (if more = [] ∧ u.mayHop g b = true then u.moveTo g b rest else u.setFlight g)))) ∧
    (∀ b : Buf, b.ring ≠ 2 →
      (s.linkCorrected b).rd F.FOX_RT_CNT_CORR (s.bufTile b) = min (s.rd F.FOX_RT_CNT_CORR (s.bufTile b) + 1) 65535) ∧
    (∀ (a : BitVec 13) odd n, 1 ≤ n → n ≤ 63 →
      (s.tokensFor a.toNat odd < n → exec (.landingTokenArrive a odd n) s = .next s) ∧
      (n ≤ s.tokensFor a.toNat odd → countsInflight a.toNat = true →
        ∃ t, exec (.landingTokenArrive a odd n) s = .next t ∧
          t.rd (inflightFld a.toNat (b2n odd)) (inflightUnit a.toNat) =
            (s.rd (inflightFld a.toNat (b2n odd)) (inflightUnit a.toNat) - n) % 2 ^ 20 ∧
          t.tokensFor a.toNat odd = s.tokensFor a.toNat odd - n ∧
          t = { s with regs := t.regs, net := { s.net with tokens := t.net.tokens } } ∧
          OnlyWrites [(inflightFld a.toNat (b2n odd)).key (inflightUnit a.toNat) 0] s t))

/-- RACC_ARRIVE of a single-flit RACC at an awake, unfenced core that reproduces no journal: with d = 1 it joins the
landing port; with d from 2 to 16 and room in the Den it enters the Den and its token goes back; with the Den full
it lands late, LATE_CNT and OVF_CNT one higher; with another d it lands late with LATE_CNT one higher under carry,
and under shed only its token goes back, with SHED_CNT one higher. At a fenced core, and at an agent that is neither
a core nor Ash, it is dropped with its token, and at a gated or absent core it waits. No byte of memory changes. -/
def Obligations.OperationsLandWaitOrAreLate : Prop :=
  ∀ (s : State) (n : Nat) (k : Packet), k.op = 1 → k.len = 0 →
    (isCoreAgent n = true → s.awake n = false → exec (.raccArrive n k) s = .next s) ∧
    (isCoreAgent n = false → (s.agentOn n = false ∨ n = agAsh → exec (.raccArrive n k) s = .next s) ∧
      (s.agentOn n = true → n ≠ agAsh → ∃ t, exec (.raccArrive n k) s = .next t ∧
        t.net.tokens = (s.tokenFor (s.placeOf n) k).net.tokens ∧ t.cores = s.cores ∧ t.mem = s.mem)) ∧
    (isCoreAgent n = true → s.awake n = true → s.on F.CORE_STAT_FENCED n = true → ∃ t, exec (.raccArrive n k) s = .next t ∧
      t.net.tokens = (s.tokenFor (s.tileOf n) k).net.tokens ∧ t.cores = s.cores ∧ t.mem = s.mem) ∧
    (isCoreAgent n = true → s.awake n = true → s.on F.CORE_STAT_FENCED n = false → s.rd F.PAIR_STAT_PHASE ≠ 2 → s.mirroring = false →
      let d := s.ahead k.tag.toNat
      let c := s.cameIn n k
      ∃ t, exec (.raccArrive n k) s = .next t ∧ t.mem = s.mem ∧
        (∀ m, m ≠ n → t.core m = s.core m) ∧
        (d = 1 → (t.core n).landing = (s.core n).landing ++ [⟨k, false, c.1, c.2⟩] ∧ (t.core n).den = (s.core n).den ∧
          t.net.tokens = s.net.tokens ∧ t.rd F.CORE_OVL_CNT_LATE_CNT n = s.rd F.CORE_OVL_CNT_LATE_CNT n) ∧
        (2 ≤ d → d ≤ 16 → s.denFlits n + k.flits ≤ 256 →
          (t.core n).den = (s.core n).den ++ [⟨k, false, c.1, c.2⟩] ∧ (t.core n).landing = (s.core n).landing ∧
          t.net.tokens = (s.tokenFor (s.tileOf n) k).net.tokens) ∧
        (2 ≤ d → d ≤ 16 → 256 < s.denFlits n + k.flits →
          (t.core n).landing = (s.core n).landing ++ [⟨k, true, c.1, c.2⟩] ∧ (t.core n).den = (s.core n).den ∧
          t.rd F.CORE_OVL_CNT_LATE_CNT n = min (s.rd F.CORE_OVL_CNT_LATE_CNT n + 1) 65535 ∧
          t.rd F.FOX_DEN_STAT_OVF_CNT (s.tileOf n) = min (s.rd F.FOX_DEN_STAT_OVF_CNT (s.tileOf n) + 1) 16383 ∧
          t.net.tokens = s.net.tokens) ∧
        (d = 0 ∨ 17 ≤ d → s.on F.TIME_CTRL_POLICY = false →
          (t.core n).landing = (s.core n).landing ++ [⟨k, true, c.1, c.2⟩] ∧ t.net.tokens = s.net.tokens ∧
          t.rd F.CORE_OVL_CNT_LATE_CNT n = min (s.rd F.CORE_OVL_CNT_LATE_CNT n + 1) 65535) ∧
        (d = 0 ∨ 17 ≤ d → s.on F.TIME_CTRL_POLICY = true →
          (t.core n).landing = (s.core n).landing ∧
          t.rd F.CORE_OVL_CNT_SHED_CNT n = min (s.rd F.CORE_OVL_CNT_SHED_CNT n + 1) 65535 ∧
          t.net.tokens = (s.tokenFor (s.tileOf n) k).net.tokens))

/-- DEN_RELEASE of an unfenced core with an operation due takes it out of the Den ahead of arrivals and raises the
core's own in-flight counter of its tag's parity by one, and at a fenced core drops it; with nothing due it changes
nothing. SYN_ACCUMULATE takes the oldest Den release, which lowers that counter again, or when nothing else waits
the oldest arrival, whose token it sends back; an operation of a present tag on an axon at or above AXON_COUNT
counts in ROWS and NOAXON and changes no byte of memory. An addend to a landing accumulator in a clean word adds
modulo 2^32 to its own half and leaves the other half and every other byte. -/
def Obligations.LandedOperationsReachTheirRows : Prop :=
  ∀ (s : State) (n : Nat),
    (s.denDue n = none → exec (.denRelease n) s = .next s) ∧
    (∀ o, s.coreOn n = true → s.denDue n = some o → o.pkt.op = 1 →
      (s.on F.CORE_STAT_FENCED n = false →
        ∃ t, exec (.denRelease n) s = .next t ∧ (t.core n).den = dropFirst (fun x => x == o) (s.core n).den ∧
          (t.core n).denOut = (s.core n).denOut ++ [o] ∧
          t.rd (inflightFld n o.pkt.tag.toNat) (inflightUnit n) =
            (s.rd (inflightFld n o.pkt.tag.toNat) (inflightUnit n) + 1) % 2 ^ 20 ∧
          t = { s with regs := t.regs, cores := t.cores } ∧
          OnlyWrites [(inflightFld n o.pkt.tag.toNat).key (inflightUnit n) 0] s t) ∧
      (s.on F.CORE_STAT_FENCED n = true →
        ∃ t, exec (.denRelease n) s = .next t ∧ (t.core n).den = dropFirst (fun x => x == o) (s.core n).den ∧
          (t.core n).denOut = (s.core n).denOut ∧ t = { s with regs := t.regs, cores := t.cores } ∧
          OnlyWrites [F.FOX_PV_ERR_DROP_CNT.key (s.tileOf n) (5 * o.port + o.vc)] s t)) ∧
    (∀ o r, (s.core n).recv = [] → (s.core n).denOut = o :: r → o.carried = true ∨ s.ahead o.pkt.tag.toNat = 1 →
      s.rd F.SYN_AXON_CFG_AXON_COUNT n ≤ o.pkt.arg.toNat →
      ∃ t, exec (.synAccumulate n) s = .next t ∧ (t.core n).denOut = r ∧
        t.rd (inflightFld n o.pkt.tag.toNat) (inflightUnit n) =
          (s.rd (inflightFld n o.pkt.tag.toNat) (inflightUnit n) - 1) % 2 ^ 20 ∧
        t.net = s.net ∧ t.mem = s.mem ∧ t.flips = s.flips) ∧
    ((s.core n).recv = [] → (s.core n).denOut = [] → (s.core n).landing = [] →
      exec (.synAccumulate n) s = .next s) ∧
    (∀ k r carried p v, (s.core n).recv = [] → (s.core n).denOut = [] →
      (s.core n).landing = ⟨k, carried, p, v⟩ :: r → carried = true ∨ s.ahead k.tag.toNat = 1 →
      s.rd F.SYN_AXON_CFG_AXON_COUNT n ≤ k.arg.toNat →
      ∃ t, exec (.synAccumulate n) s = .next t ∧ (t.core n).landing = r ∧
        t.rd F.SYN_AXON_CNT_ROWS n = min (s.rd F.SYN_AXON_CNT_ROWS n + 1) (2 ^ 32 - 1) ∧
        t.rd F.SYN_AXON_CNT_NOAXON n = min (s.rd F.SYN_AXON_CNT_NOAXON n + 1) 65535 ∧
        t.net.tokens = (s.tokenFor (s.tileOf n) k).net.tokens ∧ t.mem = s.mem ∧ t.flips = s.flips) ∧
    (∀ b j (v : Int) d, s.landWord n b j < 32768 → s.decodeAt (sramAddr n (s.landWord n b j)) = .clean d →
      let t := (Port.addLand (Port.start s n) b j v).s
      let a := sramAddr n (s.landWord n b j)
      half (t.word a) (j % 2) = (half d (j % 2) + (BitVec.ofInt 32 v).toNat) % 2 ^ 32 ∧
      half (t.word a) (1 - j % 2) = half d (1 - j % 2) ∧
      ∀ x, (x < a ∨ a + 8 ≤ x) → t.byte x = s.byte x)

/-- At an awake, unfenced core: RWR_ARRIVE of one whole data word within the core's SRAM that nothing holds stores the
word, changes no other byte and stages an ACK; one that the update holds joins the 16-word hold buffer and is
answered later; one with HALF_SEL 3 or no data is refused BAD_LENGTH. RRD_ARRIVE of one clean SRAM word stages DATA
with it and changes no byte. RADD_ARRIVE in its step with a clean word adds the addend modulo 2^32 to the half that
HALF names, changes no other byte and stages an ACK with TOK. A fenced core refuses with FENCED. HELD_WRITE_APPLY
stores the oldest held write once nothing holds it and acknowledges it, and with none such the last word of a
MEM_WRITE that the core held; ASH_READ_SERVE answers the oldest held read once its update has ended. -/
def Obligations.RemoteWordsAreWrittenAndRead : Prop :=
  ∀ (s : State) (a : BitVec 13) (k : Packet), isCoreAgent a.toNat = true → s.awake a.toNat = true →
    let n := a.toNat
    let w := k.arg.toNat
    let at0 := sramAddr n w
    (s.on F.CORE_STAT_FENCED n = true → k.onCtl = false → k.op = 2 → ∃ t, exec (.rwrArrive a k) s = .next t ∧
      t.net.staging = s.net.staging ++ [⟨n, k.nack rsnFenced false, .plain, false, true⟩] ∧ t.mem = s.mem) ∧
    (s.on F.CORE_STAT_FENCED n = false → k.op = 2 → badRwr k = true → ∃ t, exec (.rwrArrive a k) s = .next t ∧
      t.net.staging = s.net.staging ++ [⟨n, k.nack rsnBadLength false, .plain, k.onCtl, false⟩] ∧ t.mem = s.mem) ∧
    (∀ v, s.on F.CORE_STAT_FENCED n = false → k.op = 2 → k.data = [v] → k.hi % 4 = 0 → w < 32768 →
      (s.holds n w = false → ∃ t, exec (.rwrArrive a k) s = .next t ∧ t.word at0 = v ∧ t.flip at0 = 0 ∧
        (∀ x, (x < at0 ∨ at0 + 8 ≤ x) → t.byte x = s.byte x) ∧
        t.net.staging = s.net.staging ++ [⟨n, k.ack false, .plain, k.onCtl, false⟩] ∧ t.regs = s.regs) ∧
      (s.holds n w = true → s.heldWords n < 16 → ∃ t, exec (.rwrArrive a k) s = .next t ∧
        (t.core n).held = (s.core n).held ++ [k] ∧ t.mem = s.mem ∧ t.net.staging = s.net.staging)) ∧
    (∀ v, s.on F.CORE_STAT_FENCED n = false → k.op = 3 → k.data = [] → k.hi = 1 → w < 32768 → s.readHeld n k = false →
      s.decodeAt at0 = .clean v → ∃ t, exec (.rrdArrive a k) s = .next t ∧
        t.net.staging = s.net.staging ++ [⟨n, k.dataReply [v], .plain, k.onCtl, false⟩] ∧ t.mem = s.mem ∧ t.regs = s.regs) ∧
    (∀ v d, s.on F.CORE_STAT_FENCED n = false → k.op = 4 → k.data = [d] → w < 32768 → s.ahead k.tag.toNat = 1 →
      s.rd F.PAIR_STAT_PHASE ≠ 2 → s.modulatorWord n w = false → s.decodeAt at0 = .clean v →
      let h := b2n (bit d.toNat 32)
      ∃ t, exec (.raddArrive a k) s = .next t ∧ half (t.word at0) h = (half v h + half d 0) % 2 ^ 32 ∧
        half (t.word at0) (1 - h) = half v (1 - h) ∧ (∀ x, (x < at0 ∨ at0 + 8 ≤ x) → t.byte x = s.byte x) ∧
        t.net.staging = s.net.staging ++ [⟨n, k.ack true, .plain, k.onCtl, false⟩] ∧ t.regs = s.regs) ∧
    (∀ v r, k.data = [v] → k.hi % 4 = 0 → w < 32768 → (s.core n).held = k :: r → s.holds n w = false →
      ∃ t, exec (.heldWriteApply n) s = .next t ∧ (t.core n).held = r ∧ t.word at0 = v ∧
        (∀ x, (x < at0 ∨ at0 + 8 ≤ x) → t.byte x = s.byte x) ∧
        t.net.staging = s.net.staging ++ [⟨n, k.ack false, .plain, k.onCtl, false⟩]) ∧
    (∀ v x, (s.core n).held = [] → s.cmd.memHeld = [(n, x, v)] → x < 32768 → s.holds n x = false →
      ∃ t, exec (.heldWriteApply n) s = .next t ∧ t.word (sramAddr n x) = v ∧ t.cmd.memHeld = [] ∧
        (∀ y, (y < sramAddr n x ∨ sramAddr n x + 8 ≤ y) → t.byte y = s.byte y)) ∧
    (∀ v r, k.hi = 1 → w < 32768 → (s.core n).heldReads = k :: r → s.readHeld n k = false → s.decodeAt at0 = .clean v →
      ∃ t, exec (.ashReadServe n) s = .next t ∧ (t.core n).heldReads = r ∧ t.mem = s.mem ∧
        t.net.staging = s.net.staging ++ [⟨n, k.dataReply [v], .plain, k.onCtl, false⟩])

/-- At an agent that is no fenced core: a response that no outstanding request of its agent matches changes no request
and is counted as a drop. One that matches a plain request that expects one response closes it; a token that it
carries, unless it is DATA, lowers the requester's in-flight counter of the tag's parity by one. A response whose
arrival row names another operation changes nothing. A DATA response to a membrane read of Ash fills the values that
are still open. At a fenced core a response is dropped and its TID stays outstanding, which is the model's choice
(log entry 45). -/
def Obligations.ResponsesCloseTheirRequests : Prop :=
  ∀ (s : State) (k : Packet),
    (k.op ≠ 8 → exec (.ackArrive k) s = .next s) ∧ (k.op ≠ 9 → exec (.dataArrive k) s = .next s) ∧
    (k.op ≠ 10 → exec (.nackArrive k) s = .next s) ∧
    (∀ x, (isCoreAgent k.dest.toNat && s.on F.CORE_STAT_FENCED k.dest.toNat) = true → s.tidOf k = some x → k.op = 8 →
      ∃ t, exec (.ackArrive k) s = .next t ∧ t.net.tids = s.net.tids ∧ t.mem = s.mem) ∧
    (∀ x, (isCoreAgent k.dest.toNat && s.on F.CORE_STAT_FENCED k.dest.toNat) = false → s.tidOf k = some x → x.why = .plain → x.left = 1 → s.net.tids = [x] →
      (k.op = 8 → ∃ t, exec (.ackArrive k) s = .next t ∧ t.net.tids = [] ∧ t.mem = s.mem ∧
        (k.tok = true → countsInflight k.dest.toNat = true →
          t.rd (inflightFld k.dest.toNat k.tag.toNat) (inflightUnit k.dest.toNat) =
            (s.rd (inflightFld k.dest.toNat k.tag.toNat) (inflightUnit k.dest.toNat) - 1) % 2 ^ 20) ∧
        (k.tok = false → t.regs = s.regs)) ∧
      (k.op = 9 → ∃ t, exec (.dataArrive k) s = .next t ∧ t.net.tids = [] ∧ t.regs = s.regs ∧ t.mem = s.mem) ∧
      (k.op = 10 → k.tok = false → ∃ t, exec (.nackArrive k) s = .next t ∧ t.net.tids = [] ∧ t.regs = s.regs ∧
        t.mem = s.mem)) ∧
    (s.tidOf k = none → k.op = 8 → inArray k.dest.toNat = false → s.arrived? k.dest.toNat k = none →
      ∃ t, exec (.ackArrive k) s = .next t ∧ t.net.tids = s.net.tids ∧
        t.rd F.FOX_ES_PV_ERR_DROP_CNT (agentStop k.dest.toNat) (k.vc2 k.onCtl) =
          min (s.rd F.FOX_ES_PV_ERR_DROP_CNT (agentStop k.dest.toNat) (k.vc2 k.onCtl) + 1) 65535) ∧
    (∀ x d f b c r, isCoreAgent k.dest.toNat = false → s.tidOf k = some x → x.why = .ashRead d f b 1 1 → k.op = 9 → s.ash.recs = [r] → r.dec = d →
      r.frame = f → r.closed = false → b = 0 → c = (sgn 24 (wbits (k.data.getD 0 0) 63 40)) → r.vals = [none] →
      ∃ t, exec (.dataArrive k) s = .next t ∧ t.ash.recs = [{ r with vals := [some (uns 32 c)] }])

/-- A CTL packet from an agent that may send it, at a target that the variant has: PING is acknowledged; FENCE of an
idle core sets FENCED and UNFENCE clears it; SEED loads the routing LFSR of the core's tile from bits [31:0];
MAP_SET writes the shadow map; MAP_FLIP waits for the step boundary unanswered; DRAIN waits, with those of other
originators, and CTL_DRAIN_DONE acknowledges every one that waits once both in-flight counters are 0 and nothing is
staged for injection. A reserved action, and any action that may not be sent so, is refused CTL_REFUSED. A target
that the variant lacks ignores it. -/
def Obligations.ControlPacketsActAndAnswer : Prop :=
  ∀ (s : State) (k : Packet), k.op = 15 →
    let a := k.dest.toNat
    (s.agentOn a = false → k.hi = 0 → exec (.ctlPing k) s = .next s) ∧
    (s.agentOn a = true →
      (k.hi = 0 → originatesCtl k.src.toNat = true → k.data = [] → ∃ t, exec (.ctlPing k) s = .next t ∧
        t.net.staging = s.net.staging ++ [⟨a, k.ack false, .plain, k.onCtl, false⟩] ∧ t = { s with net := t.net }) ∧
      (7 ≤ k.hi → ∃ t, exec (.ctlReservedAction k) s = .next t ∧
        t.net.staging = s.net.staging ++ [⟨a, k.nack rsnCtlRefused false, .plain, k.onCtl, false⟩] ∧ t = { s with net := t.net }) ∧
      (k.hi = 1 → s.ctlOk k true 0 = false → ∃ t, exec (.ctlFence k) s = .next t ∧
        t.net.staging = s.net.staging ++ [⟨a, k.nack rsnCtlRefused false, .plain, k.onCtl, false⟩] ∧ t = { s with net := t.net }) ∧
      (k.hi = 1 → s.ctlOk k true 0 = true → (s.core a).landing = [] → (s.core a).denOut = [] → (s.core a).held = [] →
        (s.core a).heldReads = [] → ∃ t, exec (.ctlFence k) s = .next t ∧ t.rd F.CORE_STAT_FENCED a = 1 ∧
          t.core a = s.core a ∧ t.net.staging = s.net.staging ++ [⟨a, k.ack false, .plain, k.onCtl, false⟩] ∧
          t = { s with regs := t.regs, cores := t.cores, net := t.net } ∧ OnlyWrites [F.CORE_STAT_FENCED.key a 0] s t) ∧
      (k.hi = 2 → s.ctlOk k true 0 = true → ∃ t, exec (.ctlUnfence k) s = .next t ∧ t.rd F.CORE_STAT_FENCED a = 0 ∧
        t.net.staging = s.net.staging ++ [⟨a, k.ack false, .plain, k.onCtl, false⟩] ∧ t = { s with regs := t.regs, net := t.net } ∧
        OnlyWrites [F.CORE_STAT_FENCED.key a 0] s t) ∧
      (k.hi = 3 → s.ctlOk k false 1 = true → exec (.ctlMapSet k) s = .next
        (((s.mapShadow (a - 0x1F00) (k.arg.toNat % 1024) (wbits (k.data.getD 0 0) 10 0)).taken a k).sendAck a k)) ∧
      (k.hi = 4 → s.ctlOk k false 0 = true → ∃ t, exec (.ctlMapFlip k) s = .next t ∧
        t.net.flips = s.net.flips ++ [(a - 0x1F00, k)] ∧ t.net.staging = s.net.staging ∧ t.regs = s.regs) ∧
      (k.hi = 5 → s.ctlOk k true 1 = true → ∃ t, exec (.ctlSeed k) s = .next t ∧
        t.rd F.FOX_SEED_STATE (s.tileOf a) = wbits (k.data.getD 0 0) 31 0 ∧
        t.net.staging = s.net.staging ++ [⟨a, k.ack false, .plain, k.onCtl, false⟩] ∧ t = { s with regs := t.regs, net := t.net } ∧
        OnlyWrites [F.FOX_SEED_STATE.key (s.tileOf a) 0] s t) ∧
      (k.hi = 6 → s.ctlOk k true 0 = true → ∃ t, exec (.ctlDrain k) s = .next t ∧ (t.core a).drain = (s.core a).drain ++ [k] ∧
        t.net.staging = s.net.staging ∧ t = { s with cores := t.cores, net := t.net })) ∧
    (∀ n, ((s.core n).drain = [] ∨ s.atRest n = false → exec (.ctlDrainDone n) s = .next s) ∧
      ((s.core n).drain ≠ [] → s.atRest n = true → ∃ t, exec (.ctlDrainDone n) s = .next t ∧ (t.core n).drain = [] ∧
        t.net.staging = s.net.staging ++ (s.core n).drain.map (fun x => ⟨n, x.ack false, .plain, x.onCtl, false⟩) ∧
        t.regs = s.regs))

/-- FANOUT_INJECT takes the oldest spike of the core, and a valid entry of its fan-out list in a clean word is staged as
the packet of R88; a fenced core or an empty FIFO injects nothing. CORE_UPDATE_DONE with nothing left to fan out
clears UPD_BUSY and records the cycles in LAST_UPD and MAX_UPD, and before that does nothing. SRAM_PATROL_READ with
the scrubbers on moves on by one word, wrapping at 32,768, and with them off reads nothing; a clean word is left
alone; a word that corrects is counted and stored afresh with the corrected data and no upset bit; an uncorrectable
one is counted, reported as kind 0x02 and left unchanged. SRAM_CORRECTED_WRITEBACK stores the corrected data of the
oldest word that waits. -/
def Obligations.UpdatesFanOutAndScrub : Prop :=
  ∀ (s : State) (n : Nat),
    (s.on F.CORE_STAT_FENCED n = true ∨ (s.core n).spikes = [] → exec (.fanoutInject n) s = .next s) ∧
    (∀ x r v, s.coreOn n = true → s.on F.CORE_STAT_FENCED n = false → (s.core n).spikes = x :: r →
      (s.group n x.group).fanPer = 1 →
      let w := s.rd F.CORE_PART_OUT_BASE n + (s.group n x.group).outOfs + (x.slot - (s.group n x.group).base)
      w < 32768 → s.decodeAt (sramAddr n w) = .clean v → ∃ t, exec (.fanoutInject n) s = .next t ∧
        (t.core n).spikes = r ∧ t.net.staging = s.net.staging ++
          (if bit v.toNat 30 then [⟨n, { mkPacket 1 (wbits v 63 51) n ((x.step + 1 + wbits v 34 31) % 64) (wbits v 50 35) 0 []
            with pay := x.pay }, .plain, false, false⟩] else []) ∧
        t = { s with cores := t.cores, net := { s.net with staging := t.net.staging } }) ∧
    (∀ c, s.on F.CORE_STAT_UPD_BUSY n = false ∨ s.fanDone n = false → exec (.coreUpdateDone n c) s = .next s) ∧
    (∀ c, s.coreOn n = true → s.on F.CORE_STAT_UPD_BUSY n = true → s.fanDone n = true →
      ∃ t, exec (.coreUpdateDone n c) s = .next t ∧ t.rd F.CORE_STAT_UPD_BUSY n = 0 ∧
        t.rd F.CORE_UPD_STAT_LAST_UPD n = min ((s.core n).updCycles + c) 65535 ∧
        t.rd F.CORE_UPD_STAT_MAX_UPD n =
          max (s.rd F.CORE_UPD_STAT_MAX_UPD n) (min ((s.core n).updCycles + c) 65535) % 2 ^ 16 ∧
        t = { s with regs := t.regs } ∧ OnlyWrites [F.CORE_STAT_UPD_BUSY.key n 0, F.CORE_UPD_STAT_LAST_UPD.key n 0,
          F.CORE_UPD_STAT_MAX_UPD.key n 0, F.LRN_STAT_PASS_BUSY.key n 0] s t) ∧
    (s.awake n = false → exec (.sramPatrolRead n) s = .next s ∧ exec (.sramCorrectedWriteback n) s = .next s) ∧
    (s.on F.MEM_SRAM_SCRUB_EN = false → exec (.sramPatrolRead n) s = .next s) ∧
    (s.awake n = true → s.on F.MEM_SRAM_SCRUB_EN = true → (s.core n).patrol < 32768 →
      let a := sramAddr n (s.core n).patrol
      ∃ t, exec (.sramPatrolRead n) s = .next t ∧ (t.core n).patrol = ((s.core n).patrol + 1) % 32768 ∧
        (∀ x, (x < a ∨ a + 8 ≤ x) → t.byte x = s.byte x) ∧
        (∀ d, s.decodeAt a = .clean d → t.mem = s.mem ∧ t.flips = s.flips ∧ t.regs = s.regs) ∧
        (∀ d e, s.decodeAt a = .corrected d e → t.word a = d ∧ t.flip a = 0 ∧
          t.rd F.MEM_SRAM_CNT_CORR n = min (s.rd F.MEM_SRAM_CNT_CORR n + 1) 65535) ∧
        (s.decodeAt a = .bad → t.mem = s.mem ∧ t.flips = s.flips ∧
          t.rd F.MEM_SRAM_CNT_UNCORR n = min (s.rd F.MEM_SRAM_CNT_UNCORR n + 1) 65535 ∧
          ∃ m ∈ t.owl.staged, m.kind = 0x02 ∧ m.src = s.tileOf n)) ∧
    (∀ w ws d e, s.awake n = true → (s.core n).writeback = w :: ws → s.decodeAt (sramAddr n w) = .corrected d e →
      ∃ t, exec (.sramCorrectedWriteback n) s = .next t ∧ (t.core n).writeback = ws ∧ t.word (sramAddr n w) = d ∧
        t.flip (sramAddr n w) = 0 ∧ t.regs = s.regs)

/-- For every opcode of R333 and every effect: a packet whose opcode is not the row's changes nothing, and so does one
that is not the command whose turn it is. One that is taken while nothing waits, on an I3C path, counts in
CMD_CNT.CMDS; if it is refused with reason r, the only further changes are CRC_ERR for a bad CRC, NOT_OK, CMD_LAST
with the reason, the opcode and the status of R328, and one reply of that status, whose last four bytes are the
CRC-32C of the bytes before them. If nothing refuses it and its effect answers OK without data, it is replied to
only with ACK_REQ. The check value of R326 holds. -/
def Obligations.CommandsAreCheckedBeforeTheyAct : Prop :=
  (∀ (k : Opcode) (c : HostCmd) (s : State) (body : Nat → Bool → State → State × Result),
    (c.op ≠ k.op ∨ s.takeCmd c = none → s.serve k c body = s) ∧
    (∀ r, Ready s c → c.op = k.op → k.reason s.took c = some r → statusOf r ≠ 0 → r < 65536 →
      let t := s.serve k c body
      t.cmd = { s.cmd with
        replies := s.cmd.replies ++ [replyBytes c.word0 (statusOf r) r []], ibiReply := s.cmd.ibiReply + 1 } ∧
      t.rd F.CMD_CNT_CMDS = min (s.rd F.CMD_CNT_CMDS + 1) (2 ^ 32 - 1) ∧
      t.rd F.CMD_CNT_NOT_OK = min (s.rd F.CMD_CNT_NOT_OK + 1) 65535 ∧
      t.rd F.CMD_CNT_CRC_ERR = (if r = 0x0D01 then min (s.rd F.CMD_CNT_CRC_ERR + 1) 65535 else s.rd F.CMD_CNT_CRC_ERR) ∧
      t.rd F.CMD_LAST_REASON = r ∧ t.rd F.CMD_LAST_OPCODE = k.op % 256 ∧ t.rd F.CMD_LAST_STATUS = statusOf r ∧
      t = { s with regs := t.regs, cmd := t.cmd } ∧
      OnlyWrites [F.CMD_CNT_CMDS.key 0 0, F.CMD_CNT_NOT_OK.key 0 0, F.CMD_CNT_CRC_ERR.key 0 0, F.CMD_LAST_REASON.key 0 0,
        F.CMD_LAST_OPCODE.key 0 0, F.CMD_LAST_STATUS.key 0 0] s t) ∧
    (∀ w b, Ready s c → c.op = k.op → k.reason s.took c = none → body s.grain b s.took = (s.took, .done 0 []) →
      b = false → s.cmd.replies = w →
      (s.serve k c body).cmd.replies = w ++ (if c.ackReq then [replyBytes c.word0 0 0 []] else []))) ∧
  (∀ w st r d, ∃ b, replyBytes w st r d = b ++ toBytes 4 (crc32c b).toNat ∧ b.length = 8 + d.length ∧
    byteField b 0 4 = w % 2 ^ 32 ∧ (st < 4 → r < 65536 → byteField b 4 4 = st * 2 ^ 24 + r * 2 ^ 8) ∧ b.drop 8 = d) ∧
  crc32c [0x31, 0x32, 0x33, 0x34, 0x35, 0x36, 0x37, 0x38, 0x39] = 0xE3069283

/-- HELLO sets the agreed features to the AND of the host's bitmap and 0x3F and the agreed minor to 0, and replies with
both and the device's own features; IDENT and TELEMETRY reply with the data of R333 and R335 and change nothing
else. A reserved opcode is answered ERROR 0x0D02 once its CRC checks. A vendor diagnostic opcode of a packet in form
is refused with 0x0A10 while debug scope 2 is closed; while it is open the spec gives it no effect, and the model
stops by the fault vendorDiagnostic. The bytes of IDENT's ROM version are open (Config.romVersion). -/
def Obligations.IdentityAndTelemetryAnswer : Prop :=
  ∀ (s : State) (c : HostCmd), Ready s c →
    (c.op = 0x01 → helloOp.reason s.took c = none → ∃ t, exec (.hello c) s = .next t ∧
      t.rd F.CMD_FEAT_FEATURES = (c.par 4 4).land 0x3F ∧ t.cmd.minor = 0 ∧
      Answered s t c ([1, 0, 0, 0] ++ toBytes 4 ((c.par 4 4).land 0x3F) ++ toBytes 4 0x3F) ∧
      t = { s with regs := t.regs, cmd := t.cmd } ∧ OnlyWrites [F.CMD_CNT_CMDS.key 0 0, F.CMD_FEAT_FEATURES.key 0 0] s t) ∧
    (c.op = 0x02 → identOp.reason s.took c = none → ∃ t, exec (.ident c) s = .next t ∧
      Answered s t c s.took.identData ∧ t = { s with regs := t.regs, cmd := t.cmd } ∧
      OnlyWrites [F.CMD_CNT_CMDS.key 0 0] s t) ∧
    (c.op = 0x3F → telemetryOp.reason s.took c = none → ∃ t, exec (.telemetry c) s = .next t ∧
      Answered s t c (s.took.telemetry (c.par 0 1)) ∧ t = { s with regs := t.regs, cmd := t.cmd } ∧
      OnlyWrites [F.CMD_CNT_CMDS.key 0 0] s t) ∧
    (opcodes.contains c.op = false → diagnosticOp c = false → c.crcOk = true → ∃ t, exec (.drulumReservedOpcode c) s = .next t ∧
      t.cmd.replies = s.cmd.replies ++ [replyBytes c.word0 1 0x0D02 []] ∧ t.rd F.CMD_LAST_REASON = 0x0D02 ∧
      t = { s with regs := t.regs, cmd := t.cmd }) ∧
    (diagnosticOp c = true → (vendorOp c).reason s.took c = none → exec (.diagnosticOpcode c) s = .fault .vendorDiagnostic) ∧
    (diagnosticOp c = true → (vendorOp c).reason s.took c = some 0x0A10 → ∃ t, exec (.diagnosticOpcode c) s = .next t ∧
      t.cmd.replies = s.cmd.replies ++ [replyBytes c.word0 3 0x0A10 []] ∧ t = { s with regs := t.regs, cmd := t.cmd })

/-- REG_READ of the low word of a register of chip control without side effects answers with its low 32 bits; REG_WRITE
of one word of a 32-bit register is the bus write of that word, and REGISTER_WRITE the bus write of the halves that
it names. MEM_READ of one clean word of core SRAM answers with its eight bytes and changes no memory, and MEM_WRITE
of one word of core SRAM that nothing holds stores it and no other byte; while the core holds it, the reply waits.
While the pair mirrors and the model runs, a write of a mirrored target is put aside as an edit and not performed. A
write of an address that no register occupies, or of a read-only register, changes no register. EDIT_APPLY without
an edit that is due changes nothing, and with a due one of no write it only forgets it. -/
def Obligations.RegisterAndMemoryCommandsReachTheirWords : Prop :=
  ∀ (s : State) (c : HostCmd), 
    (Ready s c → c.op = 0x08 → regReadOp.reason s.took c = none → c.par 0 2 = 4 → c.target % 8 = 0 →
      0x0200008000 ≤ c.target → c.target < 0x0200009000 → ∃ t, exec (.regRead c) s = .next t ∧
        Answered s t c (toBytes 4 (s.took.busWord c.target)) ∧ t.regs = s.took.regs ∧ t.mem = s.mem) ∧
    (Ready s c → c.op = 0x09 → regWriteOp.reason s.took c = none → c.plen = 4 → s.isEdit c = false →
      0x0200008000 ≤ c.target → c.target < 0x0200009000 →
      (∀ p, s.place (c.target / 8 * 8) = some p → p.reg.info.wide = false →
        ∃ t, exec (.regWrite c) s = .next t ∧ t.mem = (s.took.busWrite (c.target / 8 * 8)
            (if c.target % 8 = 4 then c.par 0 4 * 2 ^ 32 else c.par 0 4) (c.target % 8 ≠ 4) (c.target % 8 = 4) s.grain).mem ∧
          t.regs = (s.took.busWrite (c.target / 8 * 8)
            (if c.target % 8 = 4 then c.par 0 4 * 2 ^ 32 else c.par 0 4) (c.target % 8 ≠ 4) (c.target % 8 = 4) s.grain).regs)) ∧
    (Ready s c → c.op = 0x0A → memReadOp.reason s.took c = none → c.par 0 2 = 8 → inSram c.target = true →
      s.coreOn (c.target / 0x100000) = true → s.gated (.core (c.target / 0x100000)) = false →
      s.gated (.engine (c.target / 0x100000 / 128)) = false →
      ∀ v, s.decodeAt c.target = .clean v → ∃ t, exec (.memRead c) s = .next t ∧
        Answered s t c (toBytes 8 v.toNat) ∧ t.mem = s.mem ∧ t.regs = s.took.regs) ∧
    (Ready s c → c.op = 0x0B → memWriteOp.reason s.took c = none → c.plen = 8 → inSram c.target = true →
      s.coreOn (c.target / 0x100000) = true → s.gated (.core (c.target / 0x100000)) = false →
      s.gated (.engine (c.target / 0x100000 / 128)) = false → s.cmd.memHeld = [] →
      (s.isEdit c = false → s.holds (c.target / 0x100000) (c.target % 0x100000 / 8) = false →
        ∃ t, exec (.memWrite c) s = .next t ∧ t.word c.target = BitVec.ofNat 64 (c.par 0 8) ∧ Answered s t c [] ∧
          (∀ x, (x < c.target ∨ c.target + 8 ≤ x) → t.byte x = s.byte x) ∧ t.regs = s.took.regs) ∧
      (s.isEdit c = false → s.holds (c.target / 0x100000) (c.target % 0x100000 / 8) = true →
        ∃ t, exec (.memWrite c) s = .next t ∧ t.mem = s.mem ∧ t.cmd.replies = s.cmd.replies ∧ t.cmd.memHeld =
          [(c.target / 0x100000, c.target % 0x100000 / 8, BitVec.ofNat 64 (c.par 0 8))]) ∧
      (s.isEdit c = true → ∃ t, exec (.memWrite c) s = .next t ∧ t.mem = s.mem ∧ t.cmd.replies = s.cmd.replies ∧
        t.pair.editsOut = s.pair.editsOut ++ [⟨(max 0 (s.stepOf s.grain)).toNat, c.bytes, c.path, true⟩])) ∧
    (∀ a h v, exec (.registerWrite a h v) s =
      .next (s.busWrite (a / 8 * 8) v.toNat (h != .high) (h != .low) s.grain)) ∧
    (∀ a h v, s.place (a / 8 * 8) = none → s.place (a / 8 * 8 + 4) = none → exec (.registerWrite a h v) s = .next s) ∧
    (∀ v, s.unitOn ⟨.TIME_STEP, 0, 0⟩ = true → exec (.registerWrite 0x0200001010 .whole v) s = .next s) ∧
    ((∀ e ∈ s.pair.edits, s.time.winClosed < e.step + 2) → exec .editApply s = .next s) ∧
    (∀ e, s.cmd.memHeld = [] → s.pair.edits = [e] → e.step + 2 ≤ s.time.winClosed → e.mine = false →
      (⟨e.path, e.bytes⟩ : HostCmd).op ≠ 0x09 → (⟨e.path, e.bytes⟩ : HostCmd).op ≠ 0x0B →
      exec .editApply s = .next { s with pair := { s.pair with edits := [] } })

/-- LOAD_OPEN opens the window of the size and transfer that it names with nothing counted. LOAD_ABORT closes it and
discards the count. LOAD_COMMIT of an image that is laid out, clean, digested and signed as R391 asks, that needs no
retirement and whose writes are all taken, sets COMMITTED, shows the number of loaded cores, closes the window and
answers OK; one that is not laid out so is answered 0x0D04, one with a reserved kind or byte 0x0D05, one that is not
signed 0x0A11, and each of these changes nothing but the command counters and the reads' own effects. The load time
in the reply is a free value (log entry 7). -/
def Obligations.ImagesAreStagedAndCommitted : Prop :=
  ∀ (s : State) (c : HostCmd), Ready s c →
    (c.op = 0x10 → loadOpenOp.reason s.took c = none → ∃ t, exec (.loadOpen c) s = .next t ∧
      t.rd F.BOOT_LOAD_STAT_OPEN = 1 ∧ t.rd F.BOOT_LOAD_WIN_XFER = c.par 12 2 % 65536 ∧
      t.rd F.BOOT_LOAD_WIN_BASE = c.par 0 8 % 2 ^ 48 ∧ t.rd F.BOOT_LOAD_CNT_COUNTED = 0 ∧ t.boot.seen = [] ∧
      t.boot.windowLen = c.par 8 4 ∧ Answered s t c [] ∧ t = { s with regs := t.regs, cmd := t.cmd, boot := t.boot } ∧
      OnlyWrites [F.CMD_CNT_CMDS.key 0 0, F.BOOT_LOAD_STAT_OPEN.key 0 0, F.BOOT_LOAD_WIN_XFER.key 0 0,
        F.BOOT_LOAD_WIN_BASE.key 0 0, F.BOOT_LOAD_CNT_CNT.key 0 0, F.BOOT_LOAD_CNT_COUNTED.key 0 0] s t) ∧
    (c.op = 0x12 → loadAbortOp.reason s.took c = none → ∃ t, exec (.loadAbort c) s = .next t ∧
      t.rd F.BOOT_LOAD_STAT_OPEN = 0 ∧ t.rd F.BOOT_LOAD_CNT_CNT = 0 ∧ t.rd F.BOOT_LOAD_CNT_COUNTED = 0 ∧ t.boot.seen = [] ∧
      Answered s t c [] ∧ t = { s with regs := t.regs, cmd := t.cmd, boot := t.boot } ∧
      OnlyWrites [F.CMD_CNT_CMDS.key 0 0, F.BOOT_LOAD_STAT_OPEN.key 0 0, F.BOOT_LOAD_CNT_CNT.key 0 0,
        F.BOOT_LOAD_CNT_COUNTED.key 0 0] s t) ∧
    (c.op = 0x11 → loadCommitOp.reason s.took c = none →
      let base := s.rd F.BOOT_LOAD_WIN_BASE
      let h := s.took.g6Bytes base 128
      let len := byteField (h.1.getD []) 24 8
      let r := h.2.g6Bytes base (if len ≤ s.boot.windowLen then max 128 len else 128)
      ∀ head img, h.1 = some head → r.1 = some img →
        (imageForm img s.boot.windowLen = false → ∃ t, exec (.loadCommit c) s = .next t ∧ t.mem = s.mem ∧
          t.boot = s.boot ∧ t.cmd.replies = s.cmd.replies ++ [replyBytes c.word0 1 0x0D04 []]) ∧
        (imageForm img s.boot.windowLen = true → imageClean img = false → ∃ t, exec (.loadCommit c) s = .next t ∧
          t.mem = s.mem ∧ t.boot = s.boot ∧ t.cmd.replies = s.cmd.replies ++ [replyBytes c.word0 1 0x0D05 []]) ∧
        (imageForm img s.boot.windowLen = true → imageClean img = true → s.took.imageSigned img = false →
          ∃ t, exec (.loadCommit c) s = .next t ∧ t.mem = s.mem ∧ t.boot = s.boot ∧
            t.cmd.replies = s.cmd.replies ++ [replyBytes c.word0 3 0x0A11 []]) ∧
        (imageForm img s.boot.windowLen = true → imageClean img = true → s.took.imageSigned img = true →
          s.took.loadColumns (sectionsOf img) = [] →
          let y := (loadOrder (sectionsOf img)).foldl loadSection ((r.2.unload.retireColumns []).computeFloor, none)
          y.2 = none → y.1.cmd.replies.length < 4 → y.1.cmd.replyWait = [] →
          ∃ t d, exec (.loadCommit c) s = .next t ∧ t.rd F.BOOT_LOAD_STAT_COMMITTED = 1 ∧
            t.rd F.BOOT_LOAD_STAT_OPEN = 0 ∧ t.boot.seen = [] ∧ t.boot.image.isSome = true ∧ d.length = 8 ∧
            t.cmd.replies = y.1.cmd.replies ++ [replyBytes c.word0 0 0 d]))

/-- ENABLE starts the check and its reply waits. DISABLE and QUIESCE while the model runs mark the stop, at the next
step boundary or the end of the frame after the one whose windows are open, and their replies wait. QUENCH at once
clears RUN_EN, every ACT line and every ARM bit, sets QUENCHED and stops injection; so does QUENCH_N low, which
keeps its level, on a powered device. No byte of memory changes. STEP adds COUNT to the grants, saturating, and
answers with their number. -/
def Obligations.RunControlCommandsActAtTheirTime : Prop :=
  ∀ (s : State) (c : HostCmd),
    (Ready s c → c.op = 0x18 → enableOp.reason s.took c = none → ∃ t, exec (.enable c) s = .next t ∧
      t.rd F.CHIP_CTRL_CHECK_BUSY = 1 ∧ t.rd F.CHIP_CTRL_RUN_EN = s.rd F.CHIP_CTRL_RUN_EN ∧ Waits s t c 0x18 0 ∧
      t = { s with regs := t.regs, cmd := t.cmd, time := t.time, pair := t.pair } ∧
      OnlyWrites [F.CMD_CNT_CMDS.key 0 0, F.CHIP_CTRL_CHECK_BUSY.key 0 0] s t) ∧
    (Ready s c → c.op = 0x19 → (stopOp 0x19).reason s.took c = none → ∃ t, exec (.disable c) s = .next t ∧
      t.time = { s.time with stop := .disable } ∧ Waits s t c 0x19 0 ∧
      t = { s with regs := t.regs, cmd := t.cmd, time := t.time } ∧ OnlyWrites [F.CMD_CNT_CMDS.key 0 0] s t) ∧
    (Ready s c → c.op = 0x1A → (stopOp 0x1A).reason s.took c = none → s.time.stop = .none →
      ∃ t, exec (.quiesce c) s = .next t ∧ t.time = { s.time with stop := .quiesce } ∧
        t.tinder = { s.tinder with stopStep := some ((s.frameOf s.grain + 1) * s.frameSteps) } ∧
        Waits s t c 0x1A (s.frameOf s.grain + 1) ∧
        t = { s with regs := t.regs, cmd := t.cmd, time := t.time, tinder := t.tinder } ∧
        OnlyWrites [F.CMD_CNT_CMDS.key 0 0] s t) ∧
    (Ready s c → c.op = 0x1B → quenchOp.reason s.took c = none → s.cmd.deferred = [] → ∃ t, exec (.quench c) s = .next t ∧
      t.running = false ∧ t.rd F.ACT_STAT_LEVEL = 0 ∧ t.rd F.ACT_ARM_ARM = 0 ∧ t.rd F.CHIP_CTRL_QUENCHED = 1 ∧
      t.net.stopped = true ∧ t.time.phase = .off ∧ Answered s t c (toBytes 8 s.grain) ∧
      t = { s with regs := t.regs, cmd := t.cmd, time := t.time, tinder := t.tinder, ash := t.ash, net := t.net, tx := t.tx } ∧
      OnlyWrites [F.CMD_CNT_CMDS.key 0 0, F.CHIP_CTRL_RUN_EN.key 0 0, F.ACT_STAT_LEVEL.key 0 0, F.ACT_ARM_ARM.key 0 0,
        F.CHIP_CTRL_QUENCHED.key 0 0] s t) ∧
    (s.boot.up = true → s.cmd.deferred = [] → ∃ t, exec .quenchNLow s = .next t ∧ t.running = false ∧
      t.rd F.ACT_STAT_LEVEL = 0 ∧ t.rd F.ACT_ARM_ARM = 0 ∧ t.rd F.CHIP_CTRL_QUENCHED = 1 ∧ t.net.stopped = true ∧
      t.pins = { s.pins with quenchN := false } ∧
      t = { s with
        regs := t.regs, pins := t.pins, time := t.time, tinder := t.tinder, ash := t.ash, net := t.net, tx := t.tx } ∧
      OnlyWrites [F.CHIP_CTRL_RUN_EN.key 0 0, F.ACT_STAT_LEVEL.key 0 0, F.ACT_ARM_ARM.key 0 0,
        F.CHIP_CTRL_QUENCHED.key 0 0] s t) ∧
    (s.boot.up = false → exec .quenchNLow s = .next s) ∧
    (Ready s c → c.op = 0x1C → stepOp.reason s.took c = none → ∃ t, exec (.step c) s = .next t ∧
      t.rd F.TIME_STEP_GRANT_GRANT = min (s.rd F.TIME_STEP_GRANT_GRANT + c.par 0 4) (2 ^ 32 - 1) ∧
      Answered s t c (toBytes 4 (min (s.rd F.TIME_STEP_GRANT_GRANT + c.par 0 4) (2 ^ 32 - 1))) ∧
      t = { s with regs := t.regs, cmd := t.cmd } ∧
      OnlyWrites [F.CMD_CNT_CMDS.key 0 0, F.TIME_STEP_GRANT_GRANT.key 0 0] s t)

/-- FAULT_READ answers with up to as many unread records as it asks for, oldest first, with LOST and whether more wait,
marks those records read, clears LOST and the pending fault event. FAULT_CLEAR of a source or kind outside the
tables is answered 0x0C02, of a key without an entry OK, of an entry whose cause persists 0x0C01 and without effect,
and otherwise it clears the entry. FAULT_FORCE of a source that the variant has and a kind of the table stages a
forced message of that class and address, and otherwise is answered 0x0C02. -/
def Obligations.FaultCommandsShowAndClear : Prop :=
  ∀ (s : State) (c : HostCmd), Ready s c →
    (c.op = 0x20 → faultReadOp.reason s.took c = none → ∃ t, exec (.faultRead c) s = .next t ∧
      let new := s.owl.log.filter (·.unread)
      t.rd F.OWL_STAT_LOST = 0 ∧ t.cmd.ibiFault = false ∧
      Answered s t c (toBytes 1 (new.take (c.par 0 1)).length ++
        toBytes 1 (b2n (s.on F.OWL_STAT_LOST) + 2 * b2n (decide (c.par 0 1 < new.length))) ++ toBytes 2 0 ++
        (new.take (c.par 0 1)).flatMap LogRec.bytes) ∧
      t.owl.log.filter (·.unread) = new.drop (c.par 0 1) ∧ t.owl.log.length = s.owl.log.length ∧
      t = { s with regs := t.regs, cmd := t.cmd, owl := { s.owl with log := t.owl.log } } ∧
      OnlyWrites [F.CMD_CNT_CMDS.key 0 0, F.OWL_STAT_LOST.key 0 0] s t) ∧
    (c.op = 0x21 → faultClearOp.reason s.took c = none →
      (sourceNamed (c.par 0 2) = false ∨ faultKinds.contains (c.par 2 1) = false →
        ∃ t, exec (.faultClear c) s = .next t ∧ t.cmd.replies = s.cmd.replies ++ [replyBytes c.word0 1 0x0C02 []] ∧
          t = { s with regs := t.regs, cmd := t.cmd }) ∧
      (sourceNamed (c.par 0 2) = true → faultKinds.contains (c.par 2 1) = true →
        (s.took.entryOf (c.par 0 2) (c.par 2 1) = none → ∃ t, exec (.faultClear c) s = .next t ∧ Answered s t c [] ∧
          t = { s with regs := t.regs, cmd := t.cmd }) ∧
        (∀ i, s.took.entryOf (c.par 0 2) (c.par 2 1) = some i → s.took.cause i = true →
          ∃ t, exec (.faultClear c) s = .next t ∧ t.rd F.OWL_ST_KEY_VALID 0 i = s.rd F.OWL_ST_KEY_VALID 0 i ∧
            t.cmd.replies = s.cmd.replies ++ [replyBytes c.word0 3 0x0C01 []]) ∧
        (∀ i, s.took.entryOf (c.par 0 2) (c.par 2 1) = some i → s.took.cause i = false →
          ∃ t, exec (.faultClear c) s = .next t ∧ t.rd F.OWL_ST_KEY_VALID 0 i = 0 ∧ Answered s t c [] ∧
            t = { s with regs := t.regs, cmd := t.cmd, pins := t.pins } ∧
            OnlyWrites [F.CMD_CNT_CMDS.key 0 0, F.OWL_ST_KEY_VALID.key 0 i] s t))) ∧
    (c.op = 0x22 → faultForceOp.reason s.took c = none →
      (s.took.mayForce (c.par 0 2) (c.par 2 1) = true → ∃ t, exec (.faultForce c) s = .next t ∧ Answered s t c [] ∧
        t.owl.staged = mergeMsg ⟨c.par 0 2, c.par 2 1, c.par 3 1, c.par 4 4 % 2 ^ 32, true, 0⟩ s.owl.staged ∧
        t = { s with regs := t.regs, cmd := t.cmd, owl := { s.owl with staged := t.owl.staged } } ∧
        OnlyWrites [F.CMD_CNT_CMDS.key 0 0] s t) ∧
      (s.took.mayForce (c.par 0 2) (c.par 2 1) = false → ∃ t, exec (.faultForce c) s = .next t ∧ t.owl = s.owl ∧
        t.cmd.replies = s.cmd.replies ++ [replyBytes c.word0 1 0x0C02 []]))

/-- While the model stands: POWER_STATE 1 in RUN sets IDLE and POWER_STATE 0 in IDLE sets RUN, each answered at once;
POWER_STATE 2 and 3 set SLEEP and DEEP and put every populated GDDR6 group into self-refresh; POWER_STATE 0 in SLEEP
waits until WAKE_TO_RUN has brought the device to RUN. While it runs, 0 and 1 write AUTO_IDLE. CAP_SET and FREQ_MODE
of a standing device write the cap in force and the mode and answer all ones; while it runs they take effect at the
boundary that begins step n + 2, which they answer. WAKE_TO_RUN with no wake under way does nothing. -/
def Obligations.PowerCommandsSetTheirState : Prop :=
  ∀ (s : State) (c : HostCmd), Ready s c →
    (c.op = 0x28 → powerOp.reason s.took c = none →
      (s.running = true → c.par 0 1 = 0 → ∃ t, exec (.powerStateRun c) s = .next t ∧ t.rd F.KILN_CTRL_AUTO_IDLE = 0 ∧
        Answered s t c [] ∧ t = { s with regs := t.regs, cmd := t.cmd }) ∧
      (s.running = true → c.par 0 1 = 1 → ∃ t, exec (.powerStateIdle c) s = .next t ∧ t.rd F.KILN_CTRL_AUTO_IDLE = 1 ∧
        Answered s t c [] ∧ t = { s with regs := t.regs, cmd := t.cmd }) ∧
      (s.running = false → s.rd F.KILN_STAT_STATE < 2 → c.par 0 1 = 0 → ∃ t, exec (.powerStateRun c) s = .next t ∧
        t.rd F.KILN_STAT_STATE = 0 ∧ Answered s t c [] ∧ t = { s with regs := t.regs, cmd := t.cmd } ∧
        OnlyWrites [F.CMD_CNT_CMDS.key 0 0, F.KILN_STAT_STATE.key 0 0] s t) ∧
      (s.running = false → s.rd F.KILN_STAT_STATE = 2 → c.par 0 1 = 0 → ∃ t, exec (.powerStateRun c) s = .next t ∧
        t.kiln.waking2Run = true ∧ t.rd F.KILN_STAT_STATE = 2 ∧ Waits s t c 0x28 0) ∧
      (s.running = false → s.rd F.KILN_STAT_STATE < 2 → c.par 0 1 = 1 → ∃ t, exec (.powerStateIdle c) s = .next t ∧
        t.rd F.KILN_STAT_STATE = 1 ∧ Answered s t c [] ∧ t = { s with regs := t.regs, cmd := t.cmd } ∧
        OnlyWrites [F.CMD_CNT_CMDS.key 0 0, F.KILN_STAT_STATE.key 0 0] s t) ∧
      (s.running = false → c.par 0 1 = 2 → ∃ t, exec (.powerStateSleep c) s = .next t ∧ t.rd F.KILN_STAT_STATE = 2 ∧
        (∀ g, s.groupOn g = true → g < 2 → t.rd F.MEM_STAT_SELF_REF g = 1) ∧ Answered s t c [] ∧ t.mem = s.mem) ∧
      (s.running = false → c.par 0 1 = 3 → ∃ t, exec (.powerStateDeep c) s = .next t ∧ t.rd F.KILN_STAT_STATE = 3 ∧
        (∀ g, s.groupOn g = true → g < 2 → t.rd F.MEM_STAT_SELF_REF g = 1) ∧ Answered s t c [] ∧ t.mem = s.mem)) ∧
    (s.kiln.waking2Run = false → exec .wakeToRun s = .next s) ∧
    (s.kiln.waking2Run = true → ∃ t, exec .wakeToRun s = .next t ∧ t.rd F.KILN_STAT_STATE = 0 ∧
      t.kiln.waking2Run = false ∧ t.mem = s.mem) ∧
    (c.op = 0x29 → capOp.reason s.took c = none →
      (s.running = false → ∃ t, exec (.capSet c) s = .next t ∧ t.rd F.KILN_CAP_CAP = c.par 0 4 % 65536 ∧
        t.rd F.KILN_CAP_APPLIED = c.par 0 4 % 65536 ∧ Answered s t c (toBytes 8 (2 ^ 64 - 1)) ∧
        t = { s with regs := t.regs, cmd := t.cmd } ∧
        OnlyWrites [F.CMD_CNT_CMDS.key 0 0, F.KILN_CAP_CAP.key 0 0, F.KILN_CAP_APPLIED.key 0 0] s t) ∧
      (s.running = true → s.mirroring = false → ∃ t, exec (.capSet c) s = .next t ∧
        t.kiln.capNext = s.kiln.capNext ++ [((max 0 (s.stepOf s.grain)).toNat + 2, c.par 0 4)] ∧
        Answered s t c (toBytes 8 ((max 0 (s.stepOf s.grain)).toNat + 2)) ∧
        OnlyWrites [F.CMD_CNT_CMDS.key 0 0] s t)) ∧
    (c.op = 0x2A → freqOp.reason s.took c = none →
      (s.running = false → ∃ t, exec (.freqMode c) s = .next t ∧ t.rd F.KILN_CTRL_MODE = c.par 0 1 % 2 ∧
        Answered s t c (toBytes 8 (2 ^ 64 - 1)) ∧ t = { s with regs := t.regs, cmd := t.cmd } ∧
        OnlyWrites [F.CMD_CNT_CMDS.key 0 0, F.KILN_CTRL_MODE.key 0 0] s t) ∧
      (s.running = true → s.mirroring = false → ∃ t, exec (.freqMode c) s = .next t ∧
        t.kiln.modeNext = s.kiln.modeNext ++ [((max 0 (s.stepOf s.grain)).toNat + 2, c.par 0 1)] ∧
        OnlyWrites [F.CMD_CNT_CMDS.key 0 0] s t))

/-- CORD_BEGIN with no step open, or after a quench, does nothing. In an open step it begins cord k: the cord number,
READY (whether every router was ready at the sample of slot 768 of the cord before) and BUSY change beside the
passing of time, and the compute ports go through the cord, which without ports changes only the list of full
receive buffers. If no run is due, that is all. If a run is due and some router is not ready, no lane field
executes: MISS_CNT rises by one, SLOT_MISS_CNT of each such router by one, the run stays due, and the miss cord that
reaches a non-zero MISS_THR stages kind 0x12 of source 0x740 once a step. If every router is ready the run executes:
one more run is counted and BUSY is set; with an idle table nothing else changes. A run that the replay abandons is
counted lost. PASS gives A, and the 32-bit and 16-bit operations act on each part by themselves. -/
def Obligations.CordsRunOrMiss : Prop :=
  (∀ (s : State) (x : List LaneFault),
    (s.stepOpen = false ∨ s.net.stopped = true → exec (.cordBegin x) s = .next s) ∧
    (s.stepOpen = true → s.net.stopped = false →
      let k := s.cord.cord
      let u := s.advance ((s.time.begun + (s.firstCord + 1024 * k) / 640) % 2 ^ 64)
      let late := u.portTiles.filter
        (fun p => !u.cordReady p ((s.firstCord + 1024 * k : Nat) - 256) (s.cord.full.contains p))
      let w := (({ u with cord := { u.cord with cord := k + 1 } }).wrB F.CORD_STAT_READY (late == [])).wr F.CORD_STAT_BUSY 0
      let i := w.cordPorts k []
      w.cord = { s.cord with cord := k + 1 } ∧ w.rd F.CORD_STAT_READY = b2n (late == []) ∧ w.rd F.CORD_STAT_BUSY = 0 ∧
      w = { u with regs := w.regs, cord := w.cord } ∧
      OnlyWrites [F.CORD_STAT_READY.key 0 0, F.CORD_STAT_BUSY.key 0 0] u w ∧
      (u.portTiles = [] → i = { w with cord := { w.cord with full := [] } }) ∧
      (k < s.rd F.CORD_CTRL_START ∨ s.rd F.CORD_CTRL_RUNS ≤ s.cord.runs → exec (.cordBegin x) s = .next i) ∧
      (s.rd F.CORD_CTRL_START ≤ k → s.cord.runs < s.rd F.CORD_CTRL_RUNS →
        (w.abandoned 4 agCollier s.cord.runs 0 = true → u.portTiles = [] → ∃ t, exec (.cordBegin x) s = .next t ∧
          t.cord = { s.cord with cord := k + 1, runs := s.cord.runs + 1, full := [] } ∧
          t.rd F.CORD_LOST_CNT_CNT = min (s.rd F.CORD_LOST_CNT_CNT + 1) (2 ^ 32 - 1) ∧
          t = { w with regs := t.regs, cord := t.cord } ∧ OnlyWrites [F.CORD_LOST_CNT_CNT.key 0 0] w t) ∧
        (w.abandoned 4 agCollier s.cord.runs 0 = false → late ≠ [] →
          ∃ t, exec (.cordBegin x) s = .next t ∧ t.cord.cord = i.cord.cord ∧ t.cord.runs = i.cord.runs ∧
            t.cord.misses = i.cord.misses + 1 ∧
            t.rd F.CORD_MISS_CNT_CNT = min (i.rd F.CORD_MISS_CNT_CNT + 1) (2 ^ 32 - 1) ∧
            (∀ p ∈ late, t.rd F.CORD_CNT_SLOT_MISS_CNT p = min (i.rd F.CORD_CNT_SLOT_MISS_CNT p + 1) 65535) ∧
            (∀ p, p ∉ late → t.rd F.CORD_CNT_SLOT_MISS_CNT p = i.rd F.CORD_CNT_SLOT_MISS_CNT p) ∧
            (i.rd F.CORD_CTRL_MISS_THR ≠ 0 → i.rd F.CORD_CTRL_MISS_THR ≤ i.cord.misses + 1 → i.cord.reported = false →
              t.cord.reported = true ∧ ∃ m ∈ t.owl.staged, m.src = 0x740 ∧ m.kind = 0x12) ∧
            (i.rd F.CORD_CTRL_MISS_THR = 0 ∨ i.cord.misses + 1 < i.rd F.CORD_CTRL_MISS_THR ∨ i.cord.reported = true →
              t.owl = i.owl ∧ t.cord.reported = i.cord.reported) ∧
            t = { i with regs := t.regs, cord := t.cord, owl := t.owl }) ∧
        (w.abandoned 4 agCollier s.cord.runs 0 = false → late = [] → s.cordTable = [] →
          ∃ t, exec (.cordBegin x) s = .next t ∧ t.cord = { i.cord with runs := i.cord.runs + 1 } ∧
            t.rd F.CORD_STAT_BUSY = 1 ∧ t = { i with regs := t.regs, cord := t.cord } ∧
            OnlyWrites [F.CORD_STAT_BUSY.key 0 0] i t)))) ∧
  (∀ a b : Word, laneOp 0 a b = a ∧ laneOp 1 a b = (a.extractLsb' 32 32 + b.extractLsb' 32 32) ++ (a.extractLsb' 0 32 + b.extractLsb' 0 32) ∧
    (∀ h, h < 2 → sgn 32 (half (laneOp 2 a b) h) = satS 32 (sgn 32 (half a h) + sgn 32 (half b h)) ∧
      sgn 32 (half (laneOp 3 a b) h) = max (sgn 32 (half a h)) (sgn 32 (half b h))) ∧
    (∀ q, q < 4 → quarter (laneOp 4 a b) q = (quarter a q + quarter b q) % 65536))

/-- For every logical core n of the variant whose tile holds it by its engine's map: CORD_LOAD_MASK_WRITE of word n div
64 sets ARM of its router to bit n mod 64 of the mask, and of another word leaves ARM. CORD_TABLE_BC_WRITE of a slot
below 1,024 while RUN_EN is 0 writes the entry into an armed router's table and leaves every other slot of that
router and the whole table of an unarmed one; while the model runs, or of a slot from 1,024 on, it changes nothing.
CORD_ARM_CLEAR clears ARM. No register outside the plane changes, nor any other state. -/
def Obligations.SlotTablesAreLoadedByBroadcast : Prop :=
  ∀ (s : State),
    (∀ w (m : BitVec 64), ∃ t, exec (.cordLoadMaskWrite w m) s = .next t ∧ t = { s with regs := t.regs } ∧
      (∀ (f : Fld) u i, f.reg.num ≠ Reg.num .CORD_ARM → t.rd f u i = s.rd f u i) ∧
      ∀ n, n < 1024 → s.coreOn n = true → s.coreAt (s.tileOf n) = some n →
        (n / 64 = w → t.on F.CORD_ARM_ARM (s.tileOf n) = bit m.toNat (n % 64)) ∧
        (n / 64 ≠ w → t.on F.CORD_ARM_ARM (s.tileOf n) = s.on F.CORD_ARM_ARM (s.tileOf n))) ∧
    (∀ k (v : BitVec 64), s.running = true ∨ 1024 ≤ k → exec (.cordTableBcWrite k v) s = .next s) ∧
    (∀ k (v : BitVec 64), s.running = false → k < 1024 → ∃ t, exec (.cordTableBcWrite k v) s = .next t ∧
      t = { s with regs := t.regs } ∧
      (∀ (f : Fld) u i, f.reg.num ≠ Reg.num .CORD_TABLE → f.reg.num ≠ Reg.num .CORD_PORT_CNT →
        t.rd f u i = s.rd f u i) ∧
      ∀ n, n < 1024 → s.coreOn n = true → s.coreAt (s.tileOf n) = some n →
        (s.on F.CORD_ARM_ARM (s.tileOf n) = true → t.rd F.CORD_TABLE_ENTRY (s.tileOf n) k = v.toNat) ∧
        (∀ j, s.on F.CORD_ARM_ARM (s.tileOf n) = false ∨ j ≠ k →
          t.rd F.CORD_TABLE_ENTRY (s.tileOf n) j = s.rd F.CORD_TABLE_ENTRY (s.tileOf n) j)) ∧
    (∃ t, exec .cordArmClear s = .next t ∧ t = { s with regs := t.regs } ∧
      (∀ (f : Fld) u i, f.reg.num ≠ Reg.num .CORD_ARM → t.rd f u i = s.rd f u i) ∧
      ∀ n, n < 1024 → s.coreOn n = true → s.coreAt (s.tileOf n) = some n → t.on F.CORD_ARM_ARM (s.tileOf n) = false)

/-- QPUSH_APPEND of a single packet for the central engine, with its queue's descriptor as the only cached one and
nothing in reassembly: a packet that R257 refuses is answered NACK with that reason, recorded in DREY_LAST_NACK and
counted, and changes no byte; one that fits at the reserve count is written there, its data and then its header, and
acknowledged, RES and COMMIT rise by the record's bytes and SEQ by one, word 2 is written through, and no other byte
changes. With the descriptor not cached the packet waits and the miss is counted; with 256 operations waiting
nothing is taken. A packet that names a mailbox there is refused NOT_BOUND. The bytes speak of memory without upset
bits. -/
def Obligations.AppendsEnterTheirRing : Prop :=
  ∀ (s : State) (k : Packet), k.dest.toNat = agDrey → k.op = 5 → pushOp k = 0 →
    (k.qid < 0x10000 → s.drey.miss.length < 256 → ∃ t, exec (.qpushAppend k) s = .next t ∧
      t.net.staging = s.net.staging ++ [⟨agDrey, k.nack rsnNotBound false, .plain, k.onCtl, false⟩] ∧ t.mem = s.mem ∧ t.drey = s.drey) ∧
    (256 ≤ s.drey.miss.length → exec (.qpushAppend k) s = .next s) ∧
    (0x10000 ≤ k.qid → s.drey.miss.length < 256 → s.cached k.qid = none → ∃ t, exec (.qpushAppend k) s = .next t ∧
      t.drey = { s.drey with miss := s.drey.miss ++ [.pkt k] } ∧ t.mem = s.mem ∧ t.net.staging = s.net.staging ∧
      t.rd F.DREY_CACHE_CNT_MISSES = min (s.rd F.DREY_CACHE_CNT_MISSES + 1) (2 ^ 32 - 1)) ∧
    (∀ d, 0x10000 ≤ k.qid → s.drey.miss.length < 256 → s.drey.cache = [d] → d.qid = k.qid → s.drey.reasm = [] →
      s.drey.resv = [] → pushCnt k = 1 →
      (∀ r, appendRefusal d [] k false false = some r → ∃ t, exec (.qpushAppend k) s = .next t ∧
        t.net.staging = s.net.staging ++ [⟨agDrey, k.nack r false, .plain, k.onCtl, false⟩] ∧ t.mem = s.mem ∧ t.drey = s.drey ∧
        t.rd F.DREY_LAST_NACK_REASON = r ∧ t.rd F.DREY_LAST_NACK_SRC = k.src.toNat ∧
        t.rd F.DREY_LAST_NACK_QID = k.qid ∧ t.rd (dreyNackFld r) = min (s.rd (dreyNackFld r) + 1) 65535) ∧
      (let n := recordBytesOf (pushLen k)
       let a := d.at d.res
       let da := s.descAddr d.qid
       appendRefusal d [] k false false = none → placement d.size d.rd d.res n 32 = some 0 → d.res % 8 = 0 → 8 ≤ d.size →
       s.flips = [] → da % 32 = 0 → (da + 32 ≤ d.ring ∨ d.ring + d.size ≤ da) →
       (∀ x, (d.ring ≤ x ∧ x < d.ring + d.size) ∨ x / 128 = da / 128 →
         s.g6Has x = true ∧ s.g6Failed (s.g6Group x) = false) →
       ∃ t e, exec (.qpushAppend k) s = .next t ∧
         t.net.staging = s.net.staging ++ [⟨agDrey, k.ack false, .plain, k.onCtl, false⟩] ∧
         t.word a = recordHeader d.seq k.src.toNat 1 (pushLen k) ∧
         (∀ j (h : j + 1 < k.data.length), t.word (a + 8 + 8 * j) = k.data[j + 1]) ∧
         (∀ x, (x < a ∨ a + n ≤ x) → (x < da + 16 ∨ da + 24 ≤ x) → t.byte x = s.byte x) ∧
         t.drey = { s.drey with cache := [e] } ∧ t.word (da + 16) = e.w2 ∧ e.qid = d.qid ∧ e.w0 = d.w0 ∧ e.w1 = d.w1 ∧
         e.rd = d.rd ∧ e.commit = (d.commit + n) % 2 ^ 32 ∧ e.res = (d.res + n) % 2 ^ 32 ∧
         e.seq = (d.seq + 1) % 2 ^ 32 ∧
         t.rd F.DREY_OP_CNT_RECORDS = min (s.rd F.DREY_OP_CNT_RECORDS + 1) (2 ^ 32 - 1)))

/-- At a bound queue whose descriptor is the only cached one, and from its reader: RELEASE with an allowed read count
sets RD and is acknowledged, and with one past COMMIT is refused ADDR_ERROR; OPEN raises the reader epoch by one,
opens the queue, sets RD and COMMIT to RES and discards the reservations; CLOSE closes it. A source that is not the
reader is refused NOT_PERMITTED. QCOMB of an open combining queue in its step adds each element, modulo 2^32, into
its place of the bank of the period and no other element of it, and is acknowledged with TOK; a late one counts in
COMB_LATE under carry, and under shed is refused SHED with TOK. The bytes speak of memory without upset bits. -/
def Obligations.QueueReadersAndCombiningQueues : Prop :=
  ∀ (s : State) (k : Packet) (d : Desc), k.dest.toNat = agDrey → 0x10000 ≤ k.qid → s.drey.miss.length < 256 →
    s.drey.cache = [d] → d.qid = k.qid →
    (k.op = 5 → d.type = 1 → k.data.length = 1 → mayRead d.reader k.src.toNat = false → ∀ c, 1 ≤ pushOp k → c ∈
      [Instr.qpushRelease k, .qpushOpen k, .qpushClose k] → ∃ t, exec c s = .next t ∧ t.drey = s.drey ∧ t.mem = s.mem ∧
        t.net.staging = s.net.staging ++ [⟨agDrey, k.nack rsnNotPermitted false, .plain, k.onCtl, false⟩]) ∧
    (k.op = 5 → d.type = 1 → k.data.length = 1 → mayRead d.reader k.src.toNat = true → s.flips = [] →
      let da := s.descAddr d.qid
      (pushOp k = 1 → pushChk k = false → releaseOk d.rd (pushRd k) d.commit 32 = true →
        ∃ t e, exec (.qpushRelease k) s = .next t ∧ t.drey = { s.drey with cache := [e] } ∧ e.rd = pushRd k ∧
          e = { d with w2 := e.w2 } ∧ e.commit = d.commit ∧
          t.net.staging = s.net.staging ++ [⟨agDrey, k.ack false, .plain, k.onCtl, false⟩] ∧
          (da % 8 = 0 → ∀ x, (x < da + 16 ∨ da + 24 ≤ x) → t.byte x = s.byte x)) ∧
      (pushOp k = 1 → pushChk k = false → releaseOk d.rd (pushRd k) d.commit 32 = false →
        ∃ t, exec (.qpushRelease k) s = .next t ∧ t.drey = s.drey ∧ t.mem = s.mem ∧
          t.net.staging = s.net.staging ++ [⟨agDrey, k.nack rsnAddrError false, .plain, k.onCtl, false⟩]) ∧
      (pushOp k = 2 → ∃ t e, exec (.qpushOpen k) s = .next t ∧ t.drey.cache = [e] ∧ e.open' = true ∧
        e.epoch = (d.epoch + 1) % 65536 ∧ e.rd = d.res ∧ e.commit = d.res ∧ e = { d with w1 := e.w1, w2 := e.w2 } ∧
        (∀ r ∈ t.drey.resv, r.qid ≠ d.qid) ∧ t.net.staging = s.net.staging ++ [⟨agDrey, k.ack false, .plain, k.onCtl, false⟩] ∧
        (da % 8 = 0 → ∀ x, (x < da + 16 ∨ da + 24 ≤ x) → t.byte x = s.byte x)) ∧
      (pushOp k = 3 → ∃ t e, exec (.qpushClose k) s = .next t ∧ t.drey = { s.drey with cache := [e] } ∧
        e.open' = false ∧ e.epoch = d.epoch ∧ e = { d with w1 := e.w1 } ∧ t.mem = s.mem ∧
        t.net.staging = s.net.staging ++ [⟨agDrey, k.ack false, .plain, k.onCtl, false⟩])) ∧
    (k.op = 6 → d.type = 2 → mayAppend d.sender k.src.toNat = true → 2 ≤ k.data.length → d.open' = true →
      (combElements k).any (fun e => decide (8 * (d.accN + 1) ≤ e.1)) = false →
      let late := k.tag.toNat ≠ (s.step + 1) % 64
      (¬late ∨ s.on F.TIME_CTRL_POLICY = false → ∃ t, exec (.qcomb k) s = .next t ∧
        t.net.staging = s.net.staging ++ [⟨agDrey, k.ack true, .plain, k.onCtl, false⟩] ∧ t.mem = s.mem ∧
        t.rd F.DREY_MISC_CNT_COMB_LATE =
          (if late then min (s.rd F.DREY_MISC_CNT_COMB_LATE + 1) 65535 else s.rd F.DREY_MISC_CNT_COMB_LATE) ∧
        (s.combBank d = 0 → t.drey = { s.drey with comb0 := t.drey.comb0 } ∧
          (∀ e ∈ combElements k, Sparse.get t.drey.comb0 (8 * d.accBase + e.1) 0 =
            Sparse.get s.drey.comb0 (8 * d.accBase + e.1) 0 + e.2) ∧
          ∀ j, (∀ e ∈ combElements k, j ≠ 8 * d.accBase + e.1) →
            Sparse.get t.drey.comb0 j 0 = Sparse.get s.drey.comb0 j 0) ∧
        (s.combBank d = 1 → t.drey = { s.drey with comb1 := t.drey.comb1 })) ∧
      (late → s.on F.TIME_CTRL_POLICY = true → ∃ t, exec (.qcomb k) s = .next t ∧ t.drey = s.drey ∧ t.mem = s.mem ∧
        t.net.staging = s.net.staging ++ [⟨agDrey, k.nack rsnShed true, .plain, k.onCtl, false⟩]))

/-- REASSEMBLY_EXPIRY and EXPIRED_ENTRY_FREE of a source without an entry do nothing. A record that still fills becomes
expired REASM_LIMIT grains after its first packet and counts in REASM_TO; an entry whose record was refused ends; a
further REASM_LIMIT grains later an expired entry is freed, and one that is not expired stays.
DESCRIPTOR_MISS_RESOLVE with nothing waiting does nothing; otherwise the oldest operation leaves the queue. Where
words of its descriptor cannot be read, an operation that no row of R257 before that refuses (an APPEND of one
packet by the words that can be read) is refused DATA_ERROR and Drey stages kind 0x04 of source 0x700. A QCOMB whose
descriptor, the only cached one, is of no combining queue is refused NOT_BOUND with its token. -/
def Obligations.WaitingRecordsExpireAndMissesResolve : Prop :=
  ∀ (s : State) (a : BitVec 13),
    (s.reasmOf a.toNat = none → exec (.reassemblyExpiry a) s = .next s ∧ exec (.expiredEntryFree a) s = .next s) ∧
    (∀ r, s.reasmOf a.toNat = some r →
      (∀ q, r.st = .refused q → ∃ t, exec (.reassemblyExpiry a) s = .next t ∧ t.reasmOf a.toNat = none ∧ t.mem = s.mem ∧
        t.drey = { s.drey with reasm := t.drey.reasm }) ∧
      (r.st = .dropped → ∃ t, exec (.reassemblyExpiry a) s = .next t ∧
        t.reasmOf a.toNat = some { r with st := .expired, since := t.grain } ∧ t.mem = s.mem ∧
        t.rd F.DREY_MISC_CNT_REASM_TO = min (s.rd F.DREY_MISC_CNT_REASM_TO + 1) 65535) ∧
      (r.st = .filling → ∃ t, exec (.reassemblyExpiry a) s = .next t ∧
        t.reasmOf a.toNat = some { r with st := .expired, since := t.grain } ∧
        t.rd F.DREY_MISC_CNT_REASM_TO = min (s.rd F.DREY_MISC_CNT_REASM_TO + 1) 65535) ∧
      (r.st = .expired → exec (.reassemblyExpiry a) s = .next s ∧ ∃ t, exec (.expiredEntryFree a) s = .next t ∧
        t.reasmOf a.toNat = none ∧ t.mem = s.mem ∧ t.drey = { s.drey with reasm := t.drey.reasm }) ∧
      (r.st ≠ .expired → exec (.expiredEntryFree a) s = .next s)) ∧
    (s.drey.miss = [] → exec .descriptorMissResolve s = .next s) ∧
    (∀ k rest, s.drey.miss = .pkt k :: rest → s.cached k.qid = none → s.drey.cmdWait = none →
      let y := ({ s with drey := { s.drey with miss := rest } }).descRead k.qid
      let part := y.2.descPart k.qid
      y.1 = none → part.2 ≠ [] →
      (k.op = 5 → pushOp k = 0 →
        s.reasmOf k.src.toNat = none ∧ pushCnt k = 1 ∧ appendRefusal part.1 part.2 k false false = some rsnDataError) →
      ∃ t, exec .descriptorMissResolve s = .next t ∧ t.drey = { s.drey with miss := rest } ∧
        t.net.staging = s.net.staging ++ [⟨agDrey, k.nack rsnDataError k.counted, .plain, k.onCtl, false⟩] ∧ t.mem = s.mem ∧
        ∃ m ∈ t.owl.staged, m.src = 0x700 ∧ m.kind = 0x04) ∧
    (∀ k rest d, s.drey.miss = .pkt k :: rest → s.drey.cache = [d] → d.qid = k.qid → s.drey.cmdWait = none → k.op = 6 →
      d.type ≠ 2 →
      ∃ t, exec .descriptorMissResolve s = .next t ∧ t.drey = { s.drey with miss := rest } ∧ t.mem = s.mem ∧
        t.net.staging = s.net.staging ++ [⟨agDrey, k.nack rsnNotBound true, .plain, k.onCtl, false⟩])

/-- While BUSY is set no command of DREY_QCMD starts. On the GDDR6 queue that DREY_QSEL selects, with its descriptor as
the only cached one: READ copies its four words to DREY_QDESC; BIND of an unbound queue writes them from there, and
of a bound one ends with reason NOT_PERMITTED; UNBIND makes the queue unbound; OPEN raises the epoch, opens it and
empties it; CLOSE closes it; RELEASE with an allowed count sets RD, and with another ends with ADDR_ERROR; each
leaves BUSY clear and its own number in CMD. OPEN, CLOSE and RELEASE of an unbound queue end with NOT_BOUND,
changing nothing else. FLUSH with an empty cache changes no memory, and with 256 operations waiting it waits with
BUSY set. The reasons of BIND and of an unbound queue, and that a busy register starts nothing, are the model's
reading (log entry 17). -/
def Obligations.HostQueueCommandsAct : Prop :=
  ∀ (s : State),
    (s.on F.DREY_QCMD_BUSY = true → ∀ c ∈ [Instr.dreyQcmdRead, .dreyQcmdBind, .dreyQcmdUnbind, .dreyQcmdOpen,
      .dreyQcmdClose, .dreyQcmdRelease, .dreyQcmdFlush], exec c s = .next s) ∧
    (s.on F.DREY_QCMD_BUSY = false → 256 ≤ s.drey.miss.length → ∃ t, exec .dreyQcmdFlush s = .next t ∧
      t.rd F.DREY_QCMD_BUSY = 1 ∧ t.rd F.DREY_QCMD_CMD = 7 ∧ t.mem = s.mem ∧
      t.drey = { s.drey with cmdWait := some (7, s.rd F.DREY_QSEL_QID) }) ∧
    (s.on F.DREY_QCMD_BUSY = false → s.drey.cache = [] → s.drey.miss.length < 256 → s.drey.cmdWait = none →
      ∃ t, exec .dreyQcmdFlush s = .next t ∧
      t.rd F.DREY_QCMD_REASON = 0 ∧ t.rd F.DREY_QCMD_BUSY = 0 ∧ t.rd F.DREY_QCMD_CMD = 7 ∧ t = { s with regs := t.regs } ∧
      OnlyWrites [F.DREY_QCMD_REASON.key 0 0, F.DREY_QCMD_BUSY.key 0 0, F.DREY_QCMD_CMD.key 0 0,
        F.DREY_OP_CNT_OPS.key 0 0] s t) ∧
    (∀ d, s.on F.DREY_QCMD_BUSY = false → 0x10000 ≤ s.rd F.DREY_QSEL_QID → s.drey.miss.length < 256 →
      s.drey.cache = [d] → d.qid = s.rd F.DREY_QSEL_QID → s.drey.cmdWait = none →
      let done := fun (t : State) (c r : Nat) => t.rd F.DREY_QCMD_REASON = r ∧ t.rd F.DREY_QCMD_BUSY = 0 ∧
        t.rd F.DREY_QCMD_CMD = c ∧ t.net = s.net
      (∃ t, exec .dreyQcmdRead s = .next t ∧ done t 1 0 ∧ t.rd F.DREY_QDESC_WORD 0 0 = d.w0.toNat ∧
        t.rd F.DREY_QDESC_WORD 0 1 = d.w1.toNat ∧ t.rd F.DREY_QDESC_WORD 0 2 = d.w2.toNat ∧
        t.rd F.DREY_QDESC_WORD 0 3 = d.w3.toNat ∧ t.mem = s.mem ∧ t.drey = s.drey) ∧
      (d.type = 0 → ∃ t, exec .dreyQcmdBind s = .next t ∧ done t 2 0 ∧
        t.drey = { s.drey with cache := [⟨d.qid, s.qdesc 0, s.qdesc 1, s.qdesc 2, s.qdesc 3⟩] }) ∧
      (d.type ≠ 0 → ∃ t, exec .dreyQcmdBind s = .next t ∧ done t 2 rsnNotPermitted ∧ t.mem = s.mem ∧ t.drey = s.drey) ∧
      (∃ t e, exec .dreyQcmdUnbind s = .next t ∧ done t 3 0 ∧ t.drey.cache = [e] ∧ e.type = 0 ∧
        e = { d with w0 := e.w0 } ∧ ∀ r ∈ t.drey.resv, r.qid ≠ d.qid) ∧
      (d.type ≠ 0 → ∃ t e, exec .dreyQcmdOpen s = .next t ∧ done t 4 0 ∧ t.drey.cache = [e] ∧ e.open' = true ∧
        e.epoch = (d.epoch + 1) % 65536 ∧ e.rd = d.res ∧ e.commit = d.res) ∧
      (d.type ≠ 0 → ∃ t e, exec .dreyQcmdClose s = .next t ∧ done t 5 0 ∧ t.drey = { s.drey with cache := [e] } ∧
        e.open' = false ∧ e = { d with w1 := e.w1 } ∧ t.mem = s.mem) ∧
      (d.type ≠ 0 → releaseOk d.rd (s.rd F.DREY_QARG_RD) d.commit 32 = true → ∃ t e, exec .dreyQcmdRelease s = .next t ∧
        done t 6 0 ∧ t.drey = { s.drey with cache := [e] } ∧ e.rd = s.rd F.DREY_QARG_RD % 2 ^ 32 ∧ e = { d with w2 := e.w2 }) ∧
      (d.type ≠ 0 → releaseOk d.rd (s.rd F.DREY_QARG_RD) d.commit 32 = false → ∃ t, exec .dreyQcmdRelease s = .next t ∧
        done t 6 rsnAddrError ∧ t.mem = s.mem ∧ t.drey = s.drey) ∧
      (d.type = 0 → (∃ t, exec .dreyQcmdOpen s = .next t ∧ done t 4 rsnNotBound ∧ t.mem = s.mem ∧ t.drey = s.drey) ∧
        (∃ t, exec .dreyQcmdClose s = .next t ∧ done t 5 rsnNotBound ∧ t.mem = s.mem ∧ t.drey = s.drey) ∧
        ∃ t, exec .dreyQcmdRelease s = .next t ∧ done t 6 rsnNotBound ∧ t.mem = s.mem ∧ t.drey = s.drey))

/-- MAILBOX_APPEND at a core whose mailbox does not exist is refused NOT_BOUND and counts in DREY_MBX_CNT.OTHER; at a
fenced core it is dropped there and refused FENCED. With both descriptor words clean and the mailbox bound and open
to the sender, a record of at most 112 bytes that fits at the reserve count is written there, header and data, RES
rises by its bytes modulo 2^16 and SEQ by one in word 1, word 0 stays, and it is acknowledged; a longer one is
refused TOO_LONG, and one for a closed mailbox QUEUE_CLOSED, with no byte changed. -/
def Obligations.MailboxesTakeTheirRecords : Prop :=
  ∀ (s : State) (k : Packet), isCoreAgent k.dest.toNat = true → k.op = 5 → pushOp k = 0 →
    let n := k.dest.toNat
    (s.on F.CORE_STAT_FENCED n = true → ∃ t, exec (.mailboxAppend k) s = .next t ∧ t.mem = s.mem ∧
      t.net.staging = s.net.staging ++ [⟨n, k.nack rsnFenced false, .plain, k.onCtl, true⟩]) ∧
    (s.on F.CORE_STAT_FENCED n = false → s.mbxWord n (k.qid % 64) = none → k.qid / 64 = n → k.qid < 0x10000 →
      ∃ t, exec (.mailboxAppend k) s = .next t ∧ t.mem = s.mem ∧
        t.rd F.DREY_MBX_CNT_OTHER n = min (s.rd F.DREY_MBX_CNT_OTHER n + 1) 65535 ∧
        t.net.staging = s.net.staging ++ [⟨n, k.nack rsnNotBound false, .plain, k.onCtl, false⟩]) ∧
    (∀ dw w0 w1, s.on F.CORE_STAT_FENCED n = false → k.qid / 64 = n → k.qid < 0x10000 →
      s.mbxWord n (k.qid % 64) = some dw → dw + 1 < 32768 → s.decodeAt (sramAddr n dw) = .clean w0 →
      s.decodeAt (sramAddr n (dw + 1)) = .clean w1 → wbits w0 63 62 = 1 → mayAppend (wbits w0 31 19) k.src.toNat = true →
      pushWell k = true →
      (112 < pushLen k → ∃ t, exec (.mailboxAppend k) s = .next t ∧ t.mem = s.mem ∧
        t.rd F.DREY_MBX_CNT_TOO_LONG n = min (s.rd F.DREY_MBX_CNT_TOO_LONG n + 1) 65535 ∧
        t.net.staging = s.net.staging ++ [⟨n, k.nack rsnTooLong false, .plain, k.onCtl, false⟩]) ∧
      (pushLen k ≤ 112 → bit w0.toNat 61 = false → ∃ t, exec (.mailboxAppend k) s = .next t ∧ t.mem = s.mem ∧
        t.rd F.DREY_MBX_CNT_QUEUE_CLOSED n = min (s.rd F.DREY_MBX_CNT_QUEUE_CLOSED n + 1) 65535 ∧
        t.net.staging = s.net.staging ++ [⟨n, k.nack rsnQueueClosed false, .plain, k.onCtl, false⟩]) ∧
      (let bytes := recordBytesOf (pushLen k)
       let size := 8 * 2 ^ wbits w0 18 15
       let at0 := s.rd F.CORE_PART_MBX_BASE n + wbits w0 14 0 + wbits w1 47 32 % size / 8
       pushLen k ≤ 112 → bit w0.toNat 61 = true → pushChk k = false →
       placement size (wbits w1 63 48) (wbits w1 47 32) bytes 16 = some 0 → at0 + bytes / 8 ≤ 32768 →
       (dw + 1 < at0 ∨ at0 + bytes / 8 ≤ dw) →
       ∃ t, exec (.mailboxAppend k) s = .next t ∧ t.net.staging = s.net.staging ++ [⟨n, k.ack false, .plain, k.onCtl, false⟩] ∧
         t.word (sramAddr n at0) = recordHeader (wbits w1 31 0) k.src.toNat 1 (pushLen k) ∧
         (∀ j (h : j + 1 < k.data.length), t.word (sramAddr n (at0 + 1 + j)) = k.data[j + 1]) ∧
         wbits (t.word (sramAddr n (dw + 1))) 47 32 = (wbits w1 47 32 + bytes) % 65536 ∧
         wbits (t.word (sramAddr n (dw + 1))) 31 0 = (wbits w1 31 0 + 1) % 2 ^ 32 ∧
         wbits (t.word (sramAddr n (dw + 1))) 63 48 = wbits w1 63 48 ∧
         (∀ x, (x < sramAddr n at0 ∨ sramAddr n (at0 + bytes / 8) ≤ x) →
           (x < sramAddr n (dw + 1) ∨ sramAddr n (dw + 2) ≤ x) → t.byte x = s.byte x)))

/-- G6_OP_ACCEPT joins an operation to the queue of an enabled group that holds fewer than 128, and otherwise does
nothing. G6_OP_COMPLETE of an empty queue, or of a group asleep or unlocked, does nothing; otherwise the oldest
operation leaves the queue, and: a refused one is answered NACK with the reason and changes no byte; a write of
whole words stores them and no other byte, a half write changes the half that HALF_SEL names, an RADD adds modulo
2^32 to the half that its bit 32 names, each acknowledged; a read is answered with the words. G6_READ_REISSUE and,
of a write or RADD, G6_WRITE_REWRITE count a replay of the oldest operation, three of each at most; a last read that
mismatches on a lane that EDC_OFF does not mark counts in GIVEUP, and such a last write stages kind 0x04 of source
0x710 plus the group. The bytes speak of memory without upset bits. -/
def Obligations.GddrOperationsAreServed : Prop :=
  ∀ (s : State) (g : Nat), g < 2 →
    (∀ k, (s.groupOn g = false ∨ 128 ≤ (s.g6g g).queue.length → exec (.g6OpAccept g k) s = .next s) ∧
      (s.groupOn g = true → (s.g6g g).queue.length < 128 → ∃ t, exec (.g6OpAccept g k) s = .next t ∧
        (t.g6g g).queue = (s.g6g g).queue ++ [⟨k, 0, 0, false⟩] ∧ (∀ h, h ≠ g → t.g6g h = s.g6g h) ∧
        t = { s with g6 := t.g6, net := { s.net with delivered := t.net.delivered } })) ∧
    ((s.g6g g).queue = [] ∨ s.g6Awake g = false → exec (.g6OpComplete g) s = .next s) ∧
    (∀ o rest, (s.g6g g).queue = o :: rest → s.g6Awake g = true →
      let k := o.pkt
      let a := k.chipAddr
      (∀ r, s.g6Refusal g k = some r → ∃ t, exec (.g6OpComplete g) s = .next t ∧ (t.g6g g).queue = rest ∧
        t.net.staging = s.net.staging ++ [⟨agGroup g, k.nack r k.counted, .plain, k.onCtl, false⟩] ∧ t.mem = s.mem ∧ t.regs = s.regs) ∧
      (s.g6Refusal g k = none → s.flips = [] →
        (k.op = 2 → k.hi % 4 = 0 → ∃ t, exec (.g6OpComplete g) s = .next t ∧ (t.g6g g).queue = rest ∧
          t.net.staging = s.net.staging ++ [⟨agGroup g, k.ack false, .plain, k.onCtl, false⟩] ∧
          (∀ j (h : j + 1 < k.data.length), t.word (a + 8 * j) = k.data[j + 1]) ∧
          (∀ x, (x < a ∨ a + 8 * (k.data.length - 1) ≤ x) → t.byte x = s.byte x)) ∧
        (k.op = 2 → k.hi % 4 ≠ 0 → ∃ t, exec (.g6OpComplete g) s = .next t ∧ (t.g6g g).queue = rest ∧
          t.net.staging = s.net.staging ++ [⟨agGroup g, k.ack false, .plain, k.onCtl, false⟩] ∧
          half (t.word a) (k.hi % 4 - 1) = half (k.data.getD 1 0) (k.hi % 4 - 1) ∧
          half (t.word a) (2 - k.hi % 4) = half (s.word a) (2 - k.hi % 4) ∧
          (∀ x, (x < a ∨ a + 8 ≤ x) → t.byte x = s.byte x)) ∧
        (k.op = 3 → ∃ t, exec (.g6OpComplete g) s = .next t ∧ (t.g6g g).queue = rest ∧ t.mem = s.mem ∧
          t.net.staging = s.net.staging ++
            [⟨agGroup g, k.dataReply ((List.range k.hi).map (fun j => s.word (a + 8 * j))), .plain, k.onCtl, false⟩]) ∧
        (k.op = 4 → let h := b2n (bit (k.data.getD 1 0).toNat 32)
          ∃ t, exec (.g6OpComplete g) s = .next t ∧ (t.g6g g).queue = rest ∧
            t.net.staging = s.net.staging ++ [⟨agGroup g, k.ack true, .plain, k.onCtl, false⟩] ∧
            half (t.word a) h = (half (s.word a) h + half (k.data.getD 1 0) 0) % 2 ^ 32 ∧
            half (t.word a) (1 - h) = half (s.word a) (1 - h) ∧
            (∀ x, (x < a ∨ a + 8 ≤ x) → t.byte x = s.byte x)))) ∧
    ((s.g6g g).queue = [] → ∀ b, exec (.g6ReadReissue g b) s = .next s ∧ exec (.g6WriteRewrite g b) s = .next s) ∧
    (∀ o rest b, (s.g6g g).queue = o :: rest →
      let bad := b &&& ~~~(BitVec.ofNat 10 (s.rd F.MEM_LANE_MASK_EDC_OFF g)) != 0
      (3 ≤ o.reads → exec (.g6ReadReissue g b) s = .next s) ∧
      (3 ≤ o.writes ∨ (o.pkt.op ≠ 2 ∧ o.pkt.op ≠ 4) → exec (.g6WriteRewrite g b) s = .next s) ∧
      (o.reads < 3 → ∃ t, exec (.g6ReadReissue g b) s = .next t ∧ t.mem = s.mem ∧ t.owl = s.owl ∧
        (t.g6g g).queue = { o with reads := o.reads + 1, gaveUp := bad && o.reads == 2 } :: rest ∧
        t.rd F.MEM_EDC_CNT_RD_REPLAY g = min (s.rd F.MEM_EDC_CNT_RD_REPLAY g + 1) (2 ^ 32 - 1) ∧
        t.rd F.MEM_EDC_CNT_GIVEUP g = (if bad = true ∧ o.reads = 2 then min (s.rd F.MEM_EDC_CNT_GIVEUP g + 1) 65535
          else s.rd F.MEM_EDC_CNT_GIVEUP g)) ∧
      (o.writes < 3 → o.pkt.op = 2 ∨ o.pkt.op = 4 → ∃ t, exec (.g6WriteRewrite g b) s = .next t ∧ t.mem = s.mem ∧
        (t.g6g g).queue = { o with writes := o.writes + 1 } :: rest ∧
        t.rd F.MEM_EDC_CNT_WR_REPLAY g = min (s.rd F.MEM_EDC_CNT_WR_REPLAY g + 1) 65535 ∧
        (bad = false ∨ o.writes < 2 → t.owl = s.owl) ∧
        (bad = true → o.writes = 2 → ∃ m ∈ t.owl.staged, m.src = 0x710 + g ∧ m.kind = 0x04)))

/-- Column, bank group, bank and row of a burst are the fields of its index that R278 names. PIN_WINDOW_END after 65,536
codewords clears the window's counts and before that does nothing. G6_REFRESH moves to the next of 16 banks and
shows the device's temperature in HOT, and G6_PATROL_SCRUB moves to the next burst, in an enabled, awake group; a
clean burst keeps its bytes and its upset bits, and the one beat that corrects is stored afresh and counted.
G6_PLL_LOCK_LOSS and G6_PLL_RELOCK clear and set the lock bit of an enabled group and nothing else;
G6_PLL_LOCK_TIMEOUT of an unlocked group that has not failed sets FAILED and stages kind 0x04 of source 0x710 plus
the group. G6_AUTO_SELF_REFRESH of an idle, awake group with G6_AUTO sets SELF_REF and changes no byte. -/
def Obligations.GddrGroupsAreKeptUp : Prop :=
  ∀ (s : State) (g : Nat), g < 2 →
    ((s.g6g g).window < 65536 → exec (.pinWindowEnd g) s = .next s) ∧
    (65536 ≤ (s.g6g g).window → ∃ t, exec (.pinWindowEnd g) s = .next t ∧
      t.g6g g = { s.g6g g with pins := [], window := 0 } ∧ t = { s with g6 := t.g6 }) ∧
    (s.groupOn g = false ∨ s.g6Awake g = false →
      (∀ h, exec (.g6Refresh ⟨g, h⟩) s = .next s) ∧ exec (.g6PatrolScrub g) s = .next s) ∧
    (∀ h, s.groupOn g = true → s.g6Awake g = true → ∃ t, exec (.g6Refresh ⟨g, h⟩) s = .next t ∧
      t.g6g g = { s.g6g g with bank := ((s.g6g g).bank + 1) % 16 } ∧ t.rd F.MEM_STAT_HOT g = b2n h ∧
      t = { s with regs := t.regs, g6 := t.g6 } ∧ OnlyWrites [F.MEM_STAT_HOT.key g 0] s t) ∧
    (s.on F.MEM_SCRUB_CFG_EN g = false ∨ s.g6Failed g = true → exec (.g6PatrolScrub g) s = .next s) ∧
    (s.groupOn g = true → s.g6Awake g = true → s.on F.MEM_SCRUB_CFG_EN g = true → s.g6Failed g = false →
      let a := s.g6Burst g (s.g6g g).scrub
      ((∀ j, j < 16 → s.flip (a + 8 * j) = 0) → ∃ t, exec (.g6PatrolScrub g) s = .next t ∧ t.mem = s.mem ∧
        t.flips = s.flips ∧ OnlyWrites grainKeys s t ∧
        (t.g6g g).scrub = ((s.g6g g).scrub + 1) % max 1 (s.g6PerGroup / 128)) ∧
      (∀ j d m, j < 16 → s.g6Decode g (a + 8 * j) = .corrected d m → (∀ i, i < 16 → i ≠ j → s.flip (a + 8 * i) = 0) →
        ∃ t, exec (.g6PatrolScrub g) s = .next t ∧ t.word (a + 8 * j) = d ∧ t.flip (a + 8 * j) = 0 ∧
          t.rd F.MEM_ECC_CNT_CORR g = min (s.rd F.MEM_ECC_CNT_CORR g + 1) (2 ^ 32 - 1) ∧
          ∀ x, (x < a + 8 * j ∨ a + 8 * j + 8 ≤ x) → t.byte x = s.byte x)) ∧
    (s.groupOn g = true →
      (∃ t, exec (.g6PllLockLoss g) s = .next t ∧ bit (t.rd F.CLK_STAT_G6_LOCK) g = false ∧
        bit (t.rd F.CLK_STAT_G6_LOCK) (1 - g) = bit (s.rd F.CLK_STAT_G6_LOCK) (1 - g) ∧ t = { s with regs := t.regs } ∧
        OnlyWrites [F.CLK_STAT_G6_LOCK.key 0 0] s t) ∧
      (∀ b, b < (if s.on F.MEM_CFG_DENSITY g then 2 ^ 25 else 2 ^ 24) → let d := s.g6Dram g b
        b = d.column + 64 * d.bankGroup + 256 * d.bank + 1024 * d.row ∧ d.column < 64 ∧ d.bankGroup < 4 ∧ d.bank < 4) ∧
      (∃ t, exec (.g6PllRelock g) s = .next t ∧ bit (t.rd F.CLK_STAT_G6_LOCK) g = true ∧
        bit (t.rd F.CLK_STAT_G6_LOCK) (1 - g) = bit (s.rd F.CLK_STAT_G6_LOCK) (1 - g) ∧ t = { s with regs := t.regs } ∧
        OnlyWrites [F.CLK_STAT_G6_LOCK.key 0 0] s t)) ∧
    (s.groupOn g = false ∨ bit (s.rd F.CLK_STAT_G6_LOCK) g = true ∨ s.g6Failed g = true →
      exec (.g6PllLockTimeout g) s = .next s) ∧
    (s.groupOn g = true → bit (s.rd F.CLK_STAT_G6_LOCK) g = false → s.g6Failed g = false →
      ∃ t, exec (.g6PllLockTimeout g) s = .next t ∧ t.g6Failed g = true ∧
        (∃ m ∈ t.owl.staged, m.src = 0x710 + g ∧ m.kind = 0x04) ∧ t = { s with regs := t.regs, owl := t.owl } ∧
        OnlyWrites [F.MEM_STAT_FAILED.key g 0] s t) ∧
    (s.on F.KILN_CTRL_G6_AUTO = false ∨ (s.g6g g).queue ≠ [] → exec (.g6AutoSelfRefresh g) s = .next s) ∧
    (s.groupOn g = true → s.on F.KILN_CTRL_G6_AUTO = true → (s.g6g g).queue = [] → s.on F.MEM_STAT_SELF_REF g = false →
      ∃ t, exec (.g6AutoSelfRefresh g) s = .next t ∧ t.on F.MEM_STAT_SELF_REF g = true ∧
        bit (t.rd F.KILN_GATE_G6_SR) g = true ∧ t.mem = s.mem ∧ t.g6 = s.g6)

/-- CORE_SUBDOMAIN_GATE gates the subdomain of an unloaded logical core that the variant has, and does nothing to a
loaded, absent or gated one. DOMAIN_WAKE of a gated domain that does not wake yet starts the wake and counts it in
its class of KILN_WAKE_CNT; DOMAIN_WAKE_DONE of a waking domain ends the wake and the gating; both do nothing else,
and nothing at all of another domain. That the wake keeps its place in a list of the model's own is no rule of the
spec. -/
def Obligations.DomainsAreGatedAndWake : Prop :=
  ∀ (s : State),
    (∀ n, s.coreOn n = false ∨ s.on F.CORE_STAT_LOADED n = true ∨ s.gated (.core n) = true →
      exec (.coreSubdomainGate n) s = .next s) ∧
    (∀ n, s.coreOn n = true → s.on F.CORE_STAT_LOADED n = false → s.gated (.core n) = false →
      ∃ t, exec (.coreSubdomainGate n) s = .next t ∧ t.gated (.core n) = true ∧
        (∀ m, m ≠ n → t.gated (.core m) = s.gated (.core m)) ∧
        t = { s with kiln := { s.kiln with gated := t.kiln.gated } }) ∧
    (∀ d, s.gated d = false ∨ s.kiln.waking.contains d = true → exec (.domainWake d) s = .next s) ∧
    (∀ d, s.gated d = true → s.kiln.waking.contains d = false → ∃ t, exec (.domainWake d) s = .next t ∧
      t.kiln = { s.kiln with waking := s.kiln.waking ++ [d] } ∧ t = { s with regs := t.regs, kiln := t.kiln } ∧
      (∀ n, d = .core n → t.rd F.KILN_WAKE_CNT_CORE_WAKES = F.KILN_WAKE_CNT_CORE_WAKES.plus (s.rd F.KILN_WAKE_CNT_CORE_WAKES) 1 ∧
        OnlyWrites [F.KILN_WAKE_CNT_CORE_WAKES.key 0 0] s t) ∧
      (∀ e, d = .engine e → t.rd F.KILN_WAKE_CNT_ENG_WAKES = F.KILN_WAKE_CNT_ENG_WAKES.plus (s.rd F.KILN_WAKE_CNT_ENG_WAKES) 1 ∧
        OnlyWrites [F.KILN_WAKE_CNT_ENG_WAKES.key 0 0] s t) ∧
      (∀ g, d = .group g → t.rd F.KILN_WAKE_CNT_G6_WAKES = F.KILN_WAKE_CNT_G6_WAKES.plus (s.rd F.KILN_WAKE_CNT_G6_WAKES) 1 ∧
        OnlyWrites [F.KILN_WAKE_CNT_G6_WAKES.key 0 0] s t)) ∧
    (∀ d, s.kiln.waking.contains d = false → exec (.domainWakeDone d) s = .next s) ∧
    (∀ d, s.kiln.waking.contains d = true → ∃ t, exec (.domainWakeDone d) s = .next t ∧ t.gated d = false ∧
      t.kiln.waking.contains d = false ∧ (∀ x, x ≠ d → t.kiln.waking.contains x = s.kiln.waking.contains x) ∧
      (∀ x, x ≠ d → t.gated x = s.gated x) ∧ t = { s with regs := t.regs, kiln := t.kiln, g6 := t.g6 })

/-- TX_PACKET_START of a port that may not send, or whose relayed packet is still arriving, does nothing. With a
committed packet it puts that on the lanes; with one block and nothing before it, it sends the block between a Frame
Start and a Frame End of its own while RUN_EN is 0, behind a Frame Start of the current frame number where its VC
carries none yet, and alone in an open frame; with nothing to send the lanes fall idle. The next block is one of the
first class among mirror, reply, result and load, and after a quench a reply. RELAY_START puts a whole relayed
packet on the lanes and counts it, and without one does nothing. The loss of a PLL clears its lock bit and cuts off
the packet, and its return sets the bit. -/
def Obligations.TransmitPortsSendInOrder : Prop :=
  ∀ (s : State) (p : Nat),
    (s.txReady p = false ∨ s.txLocked p = false ∨ (s.txp p).held = true →
      exec (.txPacketStart p) s = .next s ∧ exec (.relayStart p) s = .next s) ∧
    (s.txReady p = true → s.txLocked p = true → (s.txp p).held = false → (s.txp p).wait = [] →
      (∀ o rest, (s.txp p).next = o :: rest → ∃ t, exec (.txPacketStart p) s = .next t ∧
        t.txp p = { s.txp p with cur := some o, next := rest } ∧
        t.rd F.CSITX_PKT_CNT_PKTS p = min (s.rd F.CSITX_PKT_CNT_PKTS p + 1) (2 ^ 32 - 1) ∧
        t = { s with regs := t.regs, tx := t.tx, kiln := t.kiln }) ∧
      ((s.txp p).next = [] → (s.txp p).relay = [] →
        ((s.txp p).blocks = [] → ∃ t, exec (.txPacketStart p) s = .next t ∧ t.txp p = { s.txp p with cur := none } ∧
          t = { s with tx := t.tx }) ∧
        (∀ b, (s.txp p).blocks = [b] → s.net.stopped = false →
          (s.running = false → ∃ t, exec (.txPacketStart p) s = .next t ∧ t.txp p = { s.txp p with
            blocks := [], cur := some (.frameStart b.vc 0), next := [.long b.vc b.dt b.payload b.cls, .frameEnd b.vc 0] }) ∧
          (s.running = true → (s.txp p).frames.lookup b.vc = none → ∃ t, exec (.txPacketStart p) s = .next t ∧
            t.txp p = { s.txp p with
              blocks := [], cur := some (.frameStart b.vc (s.frame % 65535 + 1)), next := [.long b.vc b.dt b.payload b.cls]
              frames := (s.txp p).frames ++ [(b.vc, s.frame % 65535 + 1)] }) ∧
          (s.running = true → ((s.txp p).frames.lookup b.vc).isSome = true → ∃ t, exec (.txPacketStart p) s = .next t ∧
            t.txp p = { s.txp p with blocks := [], cur := some (.long b.vc b.dt b.payload b.cls), next := [] }))) ∧
      ((s.txp p).next = [] → (∀ r rest, (s.txp p).relay = r :: rest → r.whole = true →
        ∃ t, exec (.relayStart p) s = .next t ∧ t.txp p = { s.txp p with
            relay := rest, cur := some (.relayed r.rxPort r.vc r.dt r.wc r.payload true r.crcOk), next := [] } ∧
          t.rd F.CSITX_PKT_CNT_RELAY_PKTS p = min (s.rd F.CSITX_PKT_CNT_RELAY_PKTS p + 1) (2 ^ 32 - 1))) ∧
      ((s.txp p).relay = [] → exec (.relayStart p) s = .next s)) ∧
    (∀ b, s.nextBlock p = some b → b ∈ (s.txp p).blocks ∧
      (s.net.stopped = true → b.cls = .reply) ∧
      (s.net.stopped = false → ∀ x ∈ (s.txp p).blocks, [TxClass.mirror, .reply, .result, .load].idxOf b.cls ≤
        [TxClass.mirror, .reply, .result, .load].idxOf x.cls)) ∧
    (s.txOn p = false → exec (.txPllLockLoss p) s = .next s ∧ exec (.txPllRelock p) s = .next s) ∧
    (p < 4 → s.txOn p = true →
      (∃ t, exec (.txPllLockLoss p) s = .next t ∧ bit (t.rd F.CLK_STAT_TX_LOCK) p = false ∧ (t.txp p).cur = none ∧
        t = { s with regs := t.regs, tx := t.tx } ∧ OnlyWrites [F.CLK_STAT_TX_LOCK.key 0 0] s t) ∧
      (∃ t, exec (.txPllRelock p) s = .next t ∧ bit (t.rd F.CLK_STAT_TX_LOCK) p = true ∧
        t = { s with regs := t.regs, tx := t.tx } ∧ ((s.txp p).wait = [] → t.txp p = s.txp p) ∧
        OnlyWrites [F.CLK_STAT_TX_LOCK.key 0 0] s t))

/-- For every 64-bit word: its codeword decodes as clean to the word itself; with any one of its 80 bits flipped, or any
two different ones, it decodes as corrected, to the same word and with exactly those bits as the mask; with any
three different bits flipped it is uncorrectable. Data bit j lies at position 16 + j. -/
def Obligations.TwoFlippedBitsAreCorrected : Prop :=
  ∀ (d : Word),
    Ecc.decode (Ecc.encode d) = .clean d ∧ (∀ j, j < 64 → (Ecc.encode d).getLsbD (16 + j) = d.getLsbD j) ∧
    (∀ i, i < 80 → Ecc.decode (Ecc.encode d ^^^ Ecc.bitAt i) = .corrected d (Ecc.bitAt i)) ∧
    (∀ i j, i < j → j < 80 → Ecc.decode (Ecc.encode d ^^^ (Ecc.bitAt i ^^^ Ecc.bitAt j)) =
      .corrected d (Ecc.bitAt i ^^^ Ecc.bitAt j)) ∧
    (∀ i j k, i < j → j < k → k < 80 →
      Ecc.decode (Ecc.encode d ^^^ (Ecc.bitAt i ^^^ Ecc.bitAt j ^^^ Ecc.bitAt k)) = .bad)

/-- The header flit of a packet holds its operation kind in bits [63:60], its destination in [59:47], its source in
[46:34], its step tag in [33:28], its axon index, word offset or reason in [27:12], its graded payload field in
[11:4] and its length in [3:0]; a packet read from a header flit has these fields, so that the packet of a packet's
own header and data is that packet. -/
def Obligations.HeaderFlitsHaveTheirFields : Prop :=
  (∀ p : Packet, p.header.extractLsb' 60 4 = p.op ∧ p.header.extractLsb' 47 13 = p.dest ∧
    p.header.extractLsb' 34 13 = p.src ∧ p.header.extractLsb' 28 6 = p.tag ∧ p.header.extractLsb' 12 16 = p.arg ∧
    p.header.extractLsb' 4 8 = p.pay ∧ p.header.extractLsb' 0 4 = p.len ∧ Packet.ofHeader p.header p.data = p) ∧
  (∀ (w : Word) (ds : List Word), (Packet.ofHeader w ds).header = w)

/-- Every command, in every state and with every operand, runs to a next state and leaves the queue of waiting commands
alone; only a vendor diagnostic opcode does so under the condition that debug scope 2 is closed. Call the fuse
programming sound when a ROLLBACK under way aims at no less than the counter. For every state with sound
programming, every step that answers a next state keeps it sound; the anti-rollback counter does not fall; no VALID,
REVOKED or DEBUG bit of a slot and no DEBUG_LOCK is cleared; every other fuse keeps its value; and the queue of
waiting commands is the one before without its front. The queue is the model's own (log entry 4). -/
def Obligations.FusesOnlyBlowAndTheQueueStands : Prop :=
  (∀ (c : Instr) (s : State), (∀ k, c ≠ .diagnosticOpcode k) ∨ s.rd F.SEC_STAT_DBG_SCOPE ≠ 2 →
    ∃ t, exec c s = .next t ∧ t.pending = s.pending) ∧
  ∀ (s t : State), s.progSound → step s = .next t →
    t.progSound ∧ t.pending = s.pending.drop 1 ∧ s.fuse.rollback ≤ t.fuse.rollback ∧
    s.fuse.slotValid &&& t.fuse.slotValid = s.fuse.slotValid ∧
    s.fuse.slotRevoked &&& t.fuse.slotRevoked = s.fuse.slotRevoked ∧
    s.fuse.slotDebug &&& t.fuse.slotDebug = s.fuse.slotDebug ∧ (s.fuse.debugLock = true → t.fuse.debugLock = true) ∧
    t.fuse = { s.fuse with rollback := t.fuse.rollback, slotHash := t.fuse.slotHash, slotValid := t.fuse.slotValid,
                           slotRevoked := t.fuse.slotRevoked, slotDebug := t.fuse.slotDebug,
                           debugLock := t.fuse.debugLock }

/-- With the device addressed: an SDR write outside HDR mode of at least 20 bytes, outside DEEP and with room in the
command FIFO, joins it with the grain as its stamp; one below 20 bytes counts in RUNT, and one that finds four
commands waiting counts in FULL_DROP, and neither joins; a parity error counts in PAR_ERR and sets the
protocol-error bit. A private read drives the oldest reply and removes it when it is read whole, whereupon a reply
that waited for an entry takes one (log entry 52), and drives nothing of an empty FIFO. A pending event is raised as
0xA1, 0xA3, 0xA2 or 0xA0 in this order while IBIs are enabled; a NACK counts in IBI_NACK and leaves it pending.
ENTHDR0 enters HDR mode; HDR_EXIT leaves it and completes an HDR write. An unaddressed device takes no private
transfer. A QUENCH packet is left to the statement on run control. -/
def Obligations.I3cTransfersReachTheWindow : Prop :=
  ∀ (s : State),
    (s.addressed = false → ∀ b h q, exec (.i3cPrivateWrite b h q) s = .next s ∧ exec (.i3cPrivateRead h q) s = .next s ∧
      exec (.ibiRaise q) s = .next s) ∧
    (∀ b, s.addressed = true → s.cmd.hdr = false → isQuench ⟨.i3cSdr, b⟩ = false → s.rd F.KILN_STAT_STATE ≠ 3 →
      (20 ≤ b.length → s.cmd.fifo.length < 4 → exec (.i3cPrivateWrite b false true) s = .next { s with
        cmd := { s.cmd with fifo := s.cmd.fifo ++ [⟨s.grain, ⟨.i3cSdr, b⟩, false⟩] } }) ∧
      (b.length < 20 → ∃ t, exec (.i3cPrivateWrite b false true) s = .next t ∧ t = { s with regs := t.regs } ∧
        t.rd F.I3C_CNT_RUNT = min (s.rd F.I3C_CNT_RUNT + 1) 65535 ∧ OnlyWrites [F.I3C_CNT_RUNT.key 0 0] s t) ∧
      (20 ≤ b.length → 4 ≤ s.cmd.fifo.length → ∃ t, exec (.i3cPrivateWrite b false true) s = .next t ∧
        t = { s with regs := t.regs } ∧ t.rd F.I3C_CNT_FULL_DROP = min (s.rd F.I3C_CNT_FULL_DROP + 1) 65535 ∧
        OnlyWrites [F.I3C_CNT_FULL_DROP.key 0 0] s t) ∧
      (∃ t, exec (.i3cPrivateWrite b false false) s = .next t ∧ t.cmd.protoErr = true ∧
        t.rd F.I3C_CNT_PAR_ERR = min (s.rd F.I3C_CNT_PAR_ERR + 1) 65535)) ∧
    (s.addressed = true → s.cmd.hdr = false →
      (s.cmd.replies = [] → ∀ w, exec (.i3cPrivateRead false w) s = .next { s with cmd := { s.cmd with busOut := [] } }) ∧
      (∀ r rest, s.cmd.replies = r :: rest →
        exec (.i3cPrivateRead false false) s = .next { s with cmd := { s.cmd with busOut := r } } ∧
        (s.cmd.replyWait = [] → exec (.i3cPrivateRead false true) s = .next { s with cmd := { s.cmd with
          busOut := r, replies := rest, ibiReply := min s.cmd.ibiReply rest.length } }) ∧
        (∀ w ws, s.cmd.replyWait = w :: ws → rest.length = 3 →
          exec (.i3cPrivateRead false true) s = .next { s with cmd := { s.cmd with
            busOut := r, replies := rest ++ [w], replyWait := ws, ibiReply := min s.cmd.ibiReply 3 + 1 } })) ∧
      (s.on F.I3C_STAT_IBI_EN = false ∨ s.cmd.event = none → ∀ q, exec (.ibiRaise q) s = .next s) ∧
      (∀ b, s.on F.I3C_STAT_IBI_EN = true → s.cmd.event = some b →
        (∃ t, exec (.ibiRaise false) s = .next t ∧ t.cmd = { s.cmd with busOut := [b] } ∧
          t.rd F.I3C_CNT_IBI_NACK = min (s.rd F.I3C_CNT_IBI_NACK + 1) 65535 ∧ t = { s with regs := t.regs, cmd := t.cmd } ∧
          OnlyWrites [F.I3C_CNT_IBI_NACK.key 0 0] s t) ∧
        ∃ t, exec (.ibiRaise true) s = .next t ∧ t = { s with cmd := t.cmd } ∧ t.cmd.busOut = [b] ∧
          (b = 0xA1 → t.cmd.ibiFault = false) ∧ (b = 0xA3 → t.cmd.ibiCfg = false) ∧ (b = 0xA2 → t.cmd.ibiBoot = false) ∧
          (b = 0xA0 → t.cmd.ibiReply + 1 = s.cmd.ibiReply))) ∧
    (s.cmd.ibiFault = true → s.cmd.event = some 0xA1) ∧
    (s.cmd.ibiFault = false → (s.cmd.ibiCfg = true → s.cmd.event = some 0xA3) ∧
      (s.cmd.ibiCfg = false → (s.cmd.ibiBoot = true → s.cmd.event = some 0xA2) ∧
        (s.cmd.ibiBoot = false → s.cmd.event = if s.cmd.ibiReply = 0 then none else some 0xA0))) ∧
    (s.sdr = true → exec .enthdr0 s = .next { s with cmd := { s.cmd with hdr := true } }) ∧
    (s.cmd.hdr = false → exec .hdrExit s = .next s) ∧
    (∀ b, s.addressed = true → s.cmd.hdr = true → s.agreed 1 = true → exec (.i3cPrivateWrite b true true) s =
      .next { s with cmd := { s.cmd with hdrWrites := s.cmd.hdrWrites ++ [b] } }) ∧
    (∀ b, s.onBus = true → s.cmd.hdr = true → s.cmd.hdrWrites = [b] → 20 ≤ b.length → s.cmd.fifo.length < 4 →
      isQuench ⟨.i3cHdr, b⟩ = false → s.rd F.KILN_STAT_STATE ≠ 3 → exec .hdrExit s = .next { s with cmd := { s.cmd with
        hdr := false, hdrWrites := [], fifo := s.cmd.fifo ++ [⟨s.grain, ⟨.i3cHdr, b⟩, false⟩] } })

/-- On an SDR bus: ENEC and DISEC with their bit set and clear IBI_EN, and without it change nothing; RSTDAA clears the
dynamic address; ENTDAA drives PID, BCR and DCR, and where the device wins it takes the address; SETDASA takes the
address; SETMWL takes 20 to 256 and SETMRL 12 to 256 with IBI size 1, and other values are ignored; RSTACT notes 0
to 2 and ignores others. At the dynamic address GETMWL, GETMRL, GETPID, GETBCR, GETDCR, GETSTATUS and GETMXDS drive
what R318 to R320 give, and GETSTATUS clears its protocol-error bit; another direct CCC drives nothing. The reset
pattern does nothing after RSTACT 0; after 1 it clears the address, both FIFOs and the lengths; after 2 the device
is as out of a warm reset of cause 2. In HDR mode or in reset none acts. Values of several bytes go out least
significant byte first (R3). -/
def Obligations.CommonCommandsActAndAnswer : Prop :=
  ∀ (s : State),
    (s.sdr = true →
      (∃ t, exec (.enec true) s = .next t ∧ t.rd F.I3C_STAT_IBI_EN = 1 ∧
        t = { s with regs := t.regs, cmd := { s.cmd with ibiReply := t.cmd.ibiReply } } ∧
        (s.on F.I3C_STAT_DA_VALID = true → s.on F.I3C_STAT_IBI_EN = false → t.cmd.ibiReply = min 1 s.cmd.ibiReply) ∧
        OnlyWrites [F.I3C_STAT_IBI_EN.key 0 0] s t) ∧
      exec (.enec false) s = .next s ∧ exec (.disec false) s = .next s ∧
      (∃ t, exec (.disec true) s = .next t ∧ t.rd F.I3C_STAT_IBI_EN = 0 ∧ t = { s with regs := t.regs } ∧
        OnlyWrites [F.I3C_STAT_IBI_EN.key 0 0] s t) ∧
      (∃ t, exec .rstdaa s = .next t ∧ t.rd F.I3C_STAT_DA_VALID = 0 ∧ t.rd F.I3C_STAT_DYN_ADDR = 0 ∧
        t = { s with regs := t.regs } ∧ OnlyWrites [F.I3C_STAT_DA_VALID.key 0 0, F.I3C_STAT_DYN_ADDR.key 0 0] s t) ∧
      (∀ a, exec (.entdaa a false) s = .next { s with cmd := { s.cmd with busOut := toBytes 6 s.pid ++ [0x27, 0x00] } }) ∧
      (∀ a, ∃ t, exec (.entdaa a true) s = .next t ∧ t.rd F.I3C_STAT_DA_VALID = 1 ∧ t.rd F.I3C_STAT_DYN_ADDR = a.toNat ∧
        t.cmd.busOut = toBytes 6 s.pid ++ [0x27, 0x00] ∧
        OnlyWrites [F.I3C_STAT_DA_VALID.key 0 0, F.I3C_STAT_DYN_ADDR.key 0 0] s t) ∧
      (∀ a, ∃ t, exec (.setdasa a) s = .next t ∧ t.rd F.I3C_STAT_DA_VALID = 1 ∧ t.rd F.I3C_STAT_DYN_ADDR = a.toNat ∧
        OnlyWrites [F.I3C_STAT_DA_VALID.key 0 0, F.I3C_STAT_DYN_ADDR.key 0 0] s t) ∧
      (∀ n : BitVec 16, (n.toNat < 20 ∨ 256 < n.toNat → exec (.setmwl n) s = .next s) ∧
        (20 ≤ n.toNat → n.toNat ≤ 256 → ∃ t, exec (.setmwl n) s = .next t ∧ t.rd F.I3C_LEN_MWL = n.toNat ∧
          t = { s with regs := t.regs } ∧ OnlyWrites [F.I3C_LEN_MWL.key 0 0] s t) ∧
        (∀ b, n.toNat < 12 ∨ 256 < n.toNat ∨ b ≠ 1 → exec (.setmrl n b) s = .next s) ∧
        (12 ≤ n.toNat → n.toNat ≤ 256 → ∃ t, exec (.setmrl n 1) s = .next t ∧ t.rd F.I3C_LEN_MRL = n.toNat ∧
          t = { s with regs := t.regs } ∧ OnlyWrites [F.I3C_LEN_MRL.key 0 0] s t)) ∧
      (∀ b : Byte, (b.toNat ≤ 2 → exec (.rstact b) s = .next { s with cmd := { s.cmd with rstact := b.toNat } }) ∧
        (2 < b.toNat → exec (.rstact b) s = .next s)) ∧
      (∀ b : Byte, (0x80 ≤ b.toNat → exec (.cccUnsupported b) s = .next { s with cmd := { s.cmd with busOut := [] } }) ∧
        (b.toNat < 0x80 → exec (.cccUnsupported b) s = .next s)) ∧
      (s.on F.I3C_STAT_DA_VALID = true →
        let drives := fun (bs : List Byte) => ({ s with cmd := { s.cmd with busOut := bs } } : State)
        exec .getmwl s = .next (drives (toBytes 2 (s.rd F.I3C_LEN_MWL))) ∧
        exec .getmrl s = .next (drives (toBytes 2 (s.rd F.I3C_LEN_MRL) ++ [1])) ∧
        exec .getpid s = .next (drives (toBytes 6 s.pid)) ∧ exec .getbcr s = .next (drives [0x27]) ∧
        exec .getdcr s = .next (drives [0x00]) ∧ exec .getmxds s = .next (drives [0x00, 0x00]) ∧
        exec .getstatus s = .next { s with cmd := { s.cmd with busOut := toBytes 2 s.busStatus, protoErr := false } })) ∧
    (s.onBus = true →
      (s.cmd.rstact = 0 → exec .targetResetPattern s = .next s) ∧
      (s.cmd.rstact = 1 → s.cmd.replyWait = [] → ∃ t, exec .targetResetPattern s = .next t ∧ t.rd F.I3C_STAT_DA_VALID = 0 ∧
        t.rd F.I3C_STAT_DYN_ADDR = 0 ∧ t.rd F.I3C_LEN_MRL = 0x100 ∧ t.rd F.I3C_LEN_MWL = 0x100 ∧
        t.cmd = { s.cmd with fifo := [], replies := [], ibiReply := 0, rstact := 0 } ∧ t.mem = s.mem ∧
        OnlyWrites [F.I3C_STAT_DA_VALID.key 0 0, F.I3C_STAT_DYN_ADDR.key 0 0, F.I3C_LEN_MRL.key 0 0,
          F.I3C_LEN_MWL.key 0 0] s t) ∧
      (s.cmd.rstact = 2 → ∃ t, exec .targetResetPattern s = .next t ∧ t.boot.stage = 0 ∧ t.boot.cause = 2 ∧ t.mem = [] ∧
        t.running = false ∧ t.fuse = s.fuseCut ∧ t.cmd = CmdSt.fresh)) ∧
    (s.sdr = false → ∀ c ∈ [Instr.enec true, .disec true, .rstdaa, .enthdr0, .setdasa 1, .getmwl, .getmrl, .getpid, .getbcr,
      .getdcr, .getstatus, .getmxds, .cccUnsupported 0x95], exec c s = .next s)

/-- POWER_GOOD of a device that is not up, with every rail good and nothing else holding it in reset, starts stage 0 and
drives PAIR_FENCE_OUT low; of one that is up it does nothing. RESET_N_LOW, RAIL_OUT_OF_RANGE, CLOCK_LOSS and, once
tripped, THERMAL_OFF leave a device outside OFF in reset: not up, at stage 0, not running, with empty memory,
high-impedance outputs, and the fuses kept. REFERENCE_RETURN after a clock loss, and WAKE_RISE from OFF, start the
device again; WAKE_RISE in SLEEP or DEEP starts a wake. BOOT_STAGE_END reports its stage in BOOT_REPORT and BOOT_LOG
with IBI 0xA2 pending, and goes on to the next stage unless it failed, where FAULT_N falls, or waits; a device that
is not booting ignores it. That memory reads as zero after a reset is the model's choice (log entry 2). -/
def Obligations.ResetsAndBootStagesFollowTheirOrder : Prop :=
  ∀ (s : State),
    let held := fun (t : State) => t.boot.up = false ∧ t.boot.stage = 0 ∧ t.running = false ∧ t.mem = [] ∧
      t.pins.fenceOut = true ∧ t.pins.hbOut = false ∧ t.pins.syncOut = false ∧ t.pins.faultN = true ∧
      t.fuse = s.fuseCut ∧ t.pending = s.pending ∧ t.boot.flash = s.boot.flash
    (s.boot.up = true → ∀ r, exec (.powerGood r) s = .next s) ∧
    (s.boot.up = false → s.kiln.clockLost = false → s.kiln.offState = false → ∃ t, exec (.powerGood 0x7F) s = .next t ∧
      t.boot = { s.boot with up := true } ∧ t.rd F.CLK_STAT_REF_OK = 1 ∧
      t.pins = { s.pins with rails := 0x7F, resetN := true, fenceOut := false } ∧
      t = { s with regs := t.regs, boot := t.boot, pins := t.pins } ∧ OnlyWrites [F.CLK_STAT_REF_OK.key 0 0] s t) ∧
    (∀ r : BitVec 7, s.boot.up = false → r ≠ 0x7F → ∃ t, exec (.powerGood r) s = .next t ∧ t.boot.up = false) ∧
    (s.kiln.offState = false → ∃ t, exec .resetNLow s = .next t ∧ held t ∧ t.pins.resetN = false ∧ t.boot.cause = 1) ∧
    (∀ r, r < 7 → s.kiln.offState = false → ∃ t, exec (.railOutOfRange r) s = .next t ∧ held t ∧
      t.pins.rails.getLsbD r = false) ∧
    (∀ r, 7 ≤ r → exec (.railOutOfRange r) s = .next s) ∧
    (s.kiln.offState = false → ∃ t, exec .clockLoss s = .next t ∧ held t ∧ t.kiln.clockLost = true ∧
      t.rd F.CLK_STAT_CLK_RESET = 1) ∧
    (s.kiln.clockLost = false → exec .referenceReturn s = .next s) ∧
    (s.kiln.clockLost = true → s.kiln.offState = false → s.pins.rails = 0x7F → s.pins.resetN = true →
      ∃ t, exec .referenceReturn s = .next t ∧ t.boot = { s.boot with up := true } ∧ t.kiln.clockLost = false) ∧
    (s.kiln.tripped = false → exec .thermalOff s = .next s) ∧
    (s.kiln.tripped = true → ∃ t, exec .thermalOff s = .next t ∧ held t ∧ t.kiln.offState = true ∧
      t.rd F.KILN_OFF_CAUSE_TRIP = s.rd F.KILN_OFF_CAUSE_TRIP) ∧
    (s.kiln.offState = true → s.pins.rails = 0x7F → s.pins.resetN = true → ∃ t, exec .wakeRise s = .next t ∧
      t.boot.up = true ∧ t.boot.stage = 0 ∧ t.boot.cause = 4 ∧ t.pins.wake = true) ∧
    (s.kiln.offState = false → s.rd F.KILN_STAT_STATE = 2 ∨ s.rd F.KILN_STAT_STATE = 3 → exec .wakeRise s =
      .next { s with pins := { s.pins with wake := true }, kiln := { s.kiln with waking2Run := true } }) ∧
    (s.kiln.offState = false → s.rd F.KILN_STAT_STATE < 2 →
      exec .wakeRise s = .next { s with pins := { s.pins with wake := true } }) ∧
    (∀ r, s.booting = false → exec (.bootStageEnd r) s = .next s) ∧
    (∀ r, s.booting = true → s.boot.stage ≤ 8 →
      let k := s.boot.stage
      let x := (s.stageWork k r).2
      ∃ t, exec (.bootStageEnd r) s = .next t ∧ t.rd F.BOOT_REPORT_STAGE = k ∧ t.rd F.BOOT_REPORT_RESULT = x.result % 4 ∧
        t.rd F.BOOT_LOG_STAGE 0 k = k ∧ t.rd F.BOOT_LOG_RESULT 0 k = x.result % 4 ∧ t.cmd.ibiBoot = true ∧
        (x.result < 2 → t.boot.stage = k + 1 ∧ t.boot.stopped = false) ∧
        (x.result = 2 → t.boot.stage = k ∧ t.boot.stopped = true ∧ t.pins.faultN = false) ∧
        (x.result = 3 → t.boot.stage = k ∧ t.boot.stopped = false)) ∧
    (∀ r, s.booting = true → s.boot.stage = 1 → s.fuse.crcOk = true → s.fuse.consistent = true → r.pllA = true →
      ∃ t, exec (.bootStageEnd r) s = .next t ∧ t.boot.stage = 2 ∧ t.rd F.CLK_STAT_PLL_A_LOCK = 1 ∧
        t.rd F.PAIR_STAT_ROLE = b2n s.pins.roleStrap)

/-- FAULT_OFFER with nothing staged does nothing; otherwise the staged message that comes first leaves its source and
joins the FIFO of fewer than 64, or is lost and counted where the FIFO is full. OWL_TAKE_MESSAGE with an empty FIFO
does nothing; a message whose reaction is LOG leaves the FIFO, is counted in the status entry of its key and logged
as unread; one whose reaction finds no free slot stays, and nothing changes. REACTION_COMPLETE frees a slot whose
reaction has done its work. A kick restarts the watchdog period; the first expiry offers kind 0x61 of Collier and
the second resets the device with cause 3; with EN clear nothing expires. OWL_FORCE with GO stages a forced message,
or sets FORCE_REJ for a source, kind or class outside the tables. -/
def Obligations.OwlCollectsAndReacts : Prop :=
  ∀ (s : State),
    (s.offered = none → exec .faultOffer s = .next s) ∧
    (∀ m, s.offered = some m → m ∈ s.owl.staged ∧ (∀ x ∈ s.owl.staged, s.sourceOn x.src = true → x.before m = false) ∧
      (s.owl.fifo.length < 64 → (∀ r ∈ s.owl.active, r.msg.src ≠ m.src) → ∃ t, exec .faultOffer s = .next t ∧
        t.owl = { s.owl with staged := dropFirst (fun x => x == m) s.owl.staged, fifo := s.owl.fifo ++ [m] } ∧
        t.rd F.OWL_CNT_ACCEPTED = F.OWL_CNT_ACCEPTED.plus (s.rd F.OWL_CNT_ACCEPTED) 1 ∧
        t = { s with regs := t.regs, owl := t.owl } ∧
        OnlyWrites [F.OWL_CNT_ACCEPTED.key 0 0, F.OWL_STAT_FIFO_MAX.key 0 0] s t) ∧
      (64 ≤ s.owl.fifo.length → ∃ t, exec .faultOffer s = .next t ∧ t.owl.fifo = s.owl.fifo ∧
        t.owl.staged = dropFirst (fun x => x == m) s.owl.staged ∧ t.rd F.OWL_STAT_LOST = 1 ∧
        t.rd F.OWL_CNT_LOST_FULL = F.OWL_CNT_LOST_FULL.plus (s.rd F.OWL_CNT_LOST_FULL) 1)) ∧
    (s.owl.fifo = [] → exec .owlTakeMessage s = .next s) ∧
    (∀ m rest, s.owl.fifo = m :: rest →
      (2 ≤ s.reactionOf m → s.freeSlot = none → exec .owlTakeMessage s = .next s) ∧
      (∀ i, s.reactionOf m = 0 → m.kind ≠ 0x10 → m.forced = false → s.owl.log.length < 256 →
        s.entryOf m.src m.kind = some i → i < 256 → ∃ t r, exec .owlTakeMessage s = .next t ∧ t.owl.fifo = rest ∧
          t.owl.log = s.owl.log ++ [r] ∧ r.msg = m ∧ r.code = 0 ∧ r.unread = true ∧ r.grain = s.grain ∧
          t.rd F.OWL_ST_KEY_COUNT 0 i = F.OWL_ST_KEY_COUNT.plus (s.rd F.OWL_ST_KEY_COUNT 0 i) (1 + m.rep) ∧
          t.rd F.OWL_ST_ADDR_LAST_ADDR 0 i = m.addr % 2 ^ 32 ∧ t.rd F.OWL_ST_KEY_FORCED 0 i = 0 ∧
          t.owl.active = s.owl.active ∧ t.cmd = s.cmd ∧ t.mem = s.mem) ∧
      (∀ i, s.reactionOf m = 0 → m.kind ≠ 0x10 → m.forced = false → s.entryOf m.src m.kind = none →
        s.freeEntry = some i → ∃ t, exec .owlTakeMessage s = .next t ∧ t.owl.fifo = rest ∧
          t.rd F.OWL_ST_KEY_VALID 0 i = 1 ∧ t.rd F.OWL_ST_KEY_SOURCE 0 i = m.src % 2 ^ F.OWL_ST_KEY_SOURCE.width ∧
          t.rd F.OWL_ST_KEY_KIND 0 i = m.kind % 256 ∧ t.rd F.OWL_ST_ADDR_FIRST_ADDR 0 i = m.addr % 2 ^ 32)) ∧
    (∀ k, s.owl.active.find? (fun r => r.slot == k) = none → exec (.reactionComplete k) s = .next s) ∧
    (∀ k r, s.owl.active.find? (fun r => r.slot == k) = some r →
      (s.reacted r = false → exec (.reactionComplete k) s = .next s) ∧
      (s.reacted r = true → r.code ≠ 5 → r.msg.kind ≠ 0x10 → exec (.reactionComplete k) s = .next { s with owl :=
        { s.owl with active := s.owl.active.filter (fun x => x.slot != k) } })) ∧
    (∀ v : BitVec 32, ∃ t, exec (.watchdogKick v) s = .next t ∧ t.on F.OWL_WDOG_EN = v.getLsbD 31 ∧
      t.rd F.OWL_WDOG_TIMEOUT = v.toNat % 65536 ∧ (v.getLsbD 30 = true → t.owl.barked = false) ∧
      (v.getLsbD 30 = false → t.owl = s.owl) ∧ t = { s with regs := t.regs, owl := { s.owl with barked := t.owl.barked } } ∧
      OnlyWrites [F.OWL_WDOG_EN.key 0 0, F.OWL_WDOG_TIMEOUT.key 0 0] s t) ∧
    (s.boot.up = false ∨ s.boot.fw = none ∨ s.on F.OWL_WDOG_EN = false → exec .watchdogExpired s = .next s) ∧
    (s.boot.up = true → s.boot.fw.isSome = true → s.on F.OWL_WDOG_EN = true →
      (s.owl.barked = false → s.owl.fifo.length < 64 → (∀ r ∈ s.owl.active, r.msg.src ≠ 0x740) →
        ∃ t, exec .watchdogExpired s = .next t ∧ t.owl.barked = true ∧ t.boot = s.boot ∧
          t.owl.fifo = s.owl.fifo ++ [⟨0x740, 0x61, 4, 0, false, 0⟩]) ∧
      (s.owl.barked = true → ∃ t, exec .watchdogExpired s = .next t ∧ t.boot.stage = 0 ∧ t.boot.cause = 3 ∧
        t.running = false ∧ t.mem = [] ∧ t.fuse = s.fuseCut)) ∧
    (∀ v : BitVec 64, v.getLsbD 40 = true →
      let src := v.toNat / 2 ^ 52
      let kind := v.toNat / 2 ^ 44 % 256
      let cls := v.toNat / 2 ^ 41 % 8
      (s.sourceOn src = true ∧ kind ∈ faultKinds ∧ cls ≤ 4 → ∃ t, exec (.owlForceGo v) s = .next t ∧
        t.owl.staged = mergeMsg ⟨src, kind, cls, v.toNat % 2 ^ 32, true, 0⟩ s.owl.staged ∧
        t.rd F.OWL_STAT_FORCE_REJ = s.rd F.OWL_STAT_FORCE_REJ) ∧
      (s.sourceOn src = false ∨ kind ∉ faultKinds ∨ 4 < cls → ∃ t, exec (.owlForceGo v) s = .next t ∧ t.owl = s.owl ∧
        t.rd F.OWL_STAT_FORCE_REJ = 1))

/-- POWER_WINDOW_END ends the window on a grain that is a multiple of 100: it shows the engines' and the uncore's
measured power and their sum, saturating, sets OVER_LIMIT where the sum exceeds 110 % of the maximum power, clears
the activity and, where measured and estimated power differ by more than 15 % of the cap, counts in DIV_WIN; the
sixteenth such window in a row sets DIVERGED and stages kind 0x31 of source 0x741. RECAL_START sets RECAL_BUSY and
starts 64 windows, and does nothing while one runs; RECAL_DONE with windows left does nothing, and after the last it
clears RECAL_BUSY and DIVERGED and holds the new factors, each from 2,048 to 8,191. DROOP_DETECT counts and starts
the response of an enabled engine, and DROOP_HOLD_EXPIRED ends it and keeps the longest time. Which factor results
where no power was estimated is open (Config.freeNat). -/
def Obligations.PowerWindowsMeasureAndCorrect : Prop :=
  ∀ (s : State),
    (∀ es u, s.running = true → ∃ t, exec (.powerWindowEnd es u) s = .next t ∧
      let pm := u + (s.engines.map (fun e => es.getD e 0)).sum
      (s.grain + 200 < 2 ^ 64 → t.grain % 100 = 0) ∧
      t.rd F.KILN_POWER_MEAS = min 65535 pm ∧ t.rd F.KILN_UNC_POWER_MEAS = min 65535 u ∧
      (∀ e ∈ s.engines, t.rd F.KILN_ENG_POWER_MEAS 0 e = min 65535 (es.getD e 0)) ∧
      t.on F.KILN_STAT_OVER_LIMIT = decide (s.fuse.maxPower * 11 / 10 < pm) ∧ t.kiln.pm = pm ∧ t.kiln.acts = [] ∧
      t.kiln.lastDiv = decide (15 * s.rd F.KILN_CAP_CAP < 100 * (max pm t.kiln.pe - min pm t.kiln.pe)) ∧
      t.rd F.KILN_CNT_DIV_WIN = (if t.kiln.lastDiv then F.KILN_CNT_DIV_WIN.plus (s.rd F.KILN_CNT_DIV_WIN) 1
        else s.rd F.KILN_CNT_DIV_WIN) ∧
      (t.kiln.lastDiv = true → s.kiln.divRun = 15 → t.rd F.KILN_STAT_DIVERGED = 1 ∧
        ∃ m ∈ t.owl.staged, m.src = 0x741 ∧ m.kind = 0x31) ∧
      (t.kiln.lastDiv = false → t.kiln.divRun = 0 ∧ t.owl = s.owl) ∧ t.mem = s.mem ∧ t.cores = s.cores) ∧
    (s.on F.KILN_STAT_RECAL_BUSY = true → exec .recalStart s = .next s) ∧
    (s.on F.KILN_STAT_RECAL_BUSY = false → ∃ t r, exec .recalStart s = .next t ∧ t.rd F.KILN_STAT_RECAL_BUSY = 1 ∧
      t.kiln = { s.kiln with recal := some r } ∧ r.left = 64 ∧ (∀ x ∈ r.pm ++ r.pe, x = 0) ∧
      t = { s with regs := t.regs, kiln := t.kiln } ∧ OnlyWrites [F.KILN_STAT_RECAL_BUSY.key 0 0] s t) ∧
    (s.kiln.recal = none → exec .recalDone s = .next s) ∧
    (∀ r, s.kiln.recal = some r →
      (r.left ≠ 0 → exec .recalDone s = .next s) ∧
      (r.left = 0 → ∃ t cs, exec .recalDone s = .next t ∧ t.rd F.KILN_STAT_RECAL_BUSY = 0 ∧ t.rd F.KILN_STAT_DIVERGED = 0 ∧
        t.kiln = { s.kiln with recal := none, corrNext := some cs, divRun := 0 } ∧
        (∀ c ∈ cs, 2048 ≤ c ∧ c ≤ 8191) ∧
        (∀ (k : Nat) (h : k < r.pm.length) (h' : k < r.pe.length), r.pe[k] ≠ 0 →
          cs[k]? = some (min 8191 (max 2048 (4096 * (r.pm[k] * powerUnit) / r.pe[k])))) ∧
        OnlyWrites [F.KILN_STAT_RECAL_BUSY.key 0 0, F.KILN_STAT_DIVERGED.key 0 0] s t)) ∧
    (∀ e, s.engineOn e = false ∨ s.kiln.droop.contains e = true → exec (.droopDetect e) s = .next s) ∧
    (∀ e, s.engineOn e = true → s.kiln.droop.contains e = false → ∃ t, exec (.droopDetect e) s = .next t ∧
      t.kiln = { s.kiln with droop := s.kiln.droop ++ [e] } ∧
      t.rd F.KILN_DROOP_CNT 0 e = F.KILN_DROOP_CNT.plus (s.rd F.KILN_DROOP_CNT 0 e) 1 ∧
      t = { s with regs := t.regs, kiln := t.kiln } ∧ OnlyWrites [F.KILN_DROOP_CNT.key 0 e] s t) ∧
    (∀ e us, s.kiln.droop.contains e = false → exec (.droopHoldExpired e us) s = .next s) ∧
    (∀ e us, s.kiln.droop.contains e = true → ∃ t, exec (.droopHoldExpired e us) s = .next t ∧
      t.kiln.droop.contains e = false ∧ (∀ f, f ≠ e → t.kiln.droop.contains f = s.kiln.droop.contains f) ∧
      t = { s with regs := t.regs, kiln := { s.kiln with droop := t.kiln.droop } } ∧
      OnlyWrites [F.KILN_DROOP_MAX_US.key 0 e] s t)

/-- THERMAL_REPORT shows each sensor's reading and raises its maximum; HOT_TEMP is the highest reading and HOT_IDX the
first sensor with it; each sensor at or above WARN stages kind 0x32 of source 0x741; a sensor at or above TRIP in
this report and the last one records the trip, its sensor and fences the device, and one report alone does not. A
measurement without a negative margin, or of an absent tile, changes nothing; a negative one lowers the tile's live
bin by one, and stages kind 0x11 of source 0x741 where a core's tile falls below the floor. IDLE_ENTRY of a running
device with AUTO_IDLE whose step is done at least four grains before its end sets IDLE; IDLE_EXIT returns from IDLE
to RUN; in other cases neither changes anything. -/
def Obligations.ThermalReportsAndIdlingAct : Prop :=
  ∀ (s : State),
    (∀ rs : List Int, rs.length = 28 → (∀ r ∈ rs, -32768 ≤ r ∧ r ≤ 32767) →
      ∃ t, exec (.thermalReport rs) s = .next t ∧
        (∀ (i : Nat) (h : i < rs.length), t.rdS F.KILN_TEMP_TEMP 0 i = rs[i] ∧
          t.rdS F.KILN_TEMP_MAX 0 i = max (s.rdS F.KILN_TEMP_MAX 0 i) rs[i]) ∧
        (∀ r ∈ rs, r ≤ t.rdS F.KILN_THERM_HOT_TEMP) ∧
        (∃ h : t.rd F.KILN_THERM_HOT_IDX < rs.length, rs[t.rd F.KILN_THERM_HOT_IDX] = t.rdS F.KILN_THERM_HOT_TEMP) ∧
        (∀ (j : Nat) (h : j < rs.length), j < t.rd F.KILN_THERM_HOT_IDX → rs[j] < t.rdS F.KILN_THERM_HOT_TEMP) ∧
        (∀ (i : Nat) (h : i < rs.length), 16 * (s.rd F.KILN_THERM_CFG_WARN : Int) ≤ rs[i] →
          ∃ m ∈ t.owl.staged, m.src = 0x741 ∧ m.kind = 0x32) ∧
        ((∀ r ∈ rs, r < 16 * (s.rd F.KILN_THERM_CFG_WARN : Int)) → (∀ r ∈ rs, r < 16 * (s.rd F.KILN_THERM_CFG_TRIP : Int)) →
          t.owl = s.owl ∧ t.kiln.tripped = s.kiln.tripped ∧ t.pins = s.pins ∧ t.running = s.running) ∧
        (∀ (i : Nat) (h : i < rs.length), 16 * (s.rd F.KILN_THERM_CFG_TRIP : Int) ≤ rs[i] →
          i ∈ t.kiln.tripSeen ∧ (s.kiln.tripSeen = [i] → s.kiln.tripped = false → t.kiln.tripped = true ∧
            t.rd F.KILN_OFF_CAUSE_TRIP = 1 ∧ t.rd F.KILN_OFF_CAUSE_SENSOR = i ∧ t.pins.fenceOut = true ∧
            t.running = false)) ∧
        t.mem = s.mem) ∧
    (∀ p, exec (.ageingMeasure p false) s = .next s) ∧
    (∀ p b, s.tileOn p = false ∨ s.liveBin p ≤ 1 → exec (.ageingMeasure p b) s = .next s) ∧
    (∀ p, s.tileOn p = true → 1 < s.liveBin p → s.on F.SPARE_CTRL_AGE_EN = false →
      ∃ t, exec (.ageingMeasure p true) s = .next t ∧ t.liveBin p = s.liveBin p - 1 ∧
        (∀ q, q ≠ p → t.liveBin q = s.liveBin q) ∧ t.regs = s.regs ∧ t.mem = s.mem ∧
        ((s.coreAt p).isSome = true → s.liveBin p - 1 < s.rd F.KILN_STAT_FLOOR →
          ∃ m ∈ t.owl.staged, m.src = 0x741 ∧ m.kind = 0x11) ∧
        (s.coreAt p = none ∨ s.rd F.KILN_STAT_FLOOR ≤ s.liveBin p - 1 → t.owl = s.owl)) ∧
    (s.running = true → s.on F.KILN_CTRL_AUTO_IDLE = true → s.rd F.KILN_STAT_STATE = 0 → s.time.phase = .opened →
      s.freeRun = false → s.allDone = true → 4 ≤ span (s.startOf (s.step + 1)) s.grain →
      ∃ t, exec .idleEntry s = .next t ∧ t.rd F.KILN_STAT_STATE = 1 ∧ t = { s with regs := t.regs } ∧
        OnlyWrites [F.KILN_STAT_STATE.key 0 0] s t) ∧
    (s.running = false ∨ s.on F.KILN_CTRL_AUTO_IDLE = false ∨ s.allDone = false ∨
      span (s.startOf (s.step + 1)) s.grain < 4 → exec .idleEntry s = .next s) ∧
    (s.rd F.KILN_STAT_STATE = 1 → ∃ t, exec .idleExit s = .next t ∧ t.rd F.KILN_STAT_STATE = 0 ∧
      t = { s with regs := t.regs } ∧ OnlyWrites [F.KILN_STAT_STATE.key 0 0] s t) ∧
    (s.rd F.KILN_STAT_STATE ≠ 1 → exec .idleExit s = .next s)

/-- A member that mirrors and is not fenced sends, for the next closed window, one block through its mirror port: a
primary with nothing else to tell sends the ALIGN record of that window, under the next block number, with its frame
and flags; a standby with no edits sends none and goes on to the next window. A frame's records make the frame
block, which forgets the apply digests sent with it; a standing member sends its AGREE record; one record of the
background stream leaves while no other mirror block waits. A block received while not mirroring, or at a port that
does not receive, changes nothing; one too short counts in BLK_ERR; one without records sets the next expected
number and counts the numbers missed, if fewer than 2^31; one whose flags, last header byte or length break the
layout counts once more and is discarded. -/
def Obligations.MirrorBlocksAreSentAndChecked : Prop :=
  ∀ (s : State),
    (s.mirrorSends = false ∨ s.time.winClosed ≤ s.pair.blockNext → exec .stepBlockSend s = .next s) ∧
    (s.mirrorSends = true → s.pair.blockNext < s.time.winClosed →
      (s.standby = true → s.pair.editsOut = [] → ∃ t, exec .stepBlockSend s = .next t ∧ t = { s with pair := t.pair } ∧
        t.pair.blockNext = s.pair.blockNext + 1 ∧ t.pair.bseqTx = s.pair.bseqTx) ∧
      (s.standby = false → s.pair.editsOut = [] → s.pair.anchors = [] → s.pair.overload = [] → s.pair.roleOut = none →
        s.pair.windows = [] → s.txReady s.mirrorTx = true → s.txLocked s.mirrorTx = true → s.txFits s.mirrorTx 28 = true →
        (s.txp s.mirrorTx).waits .mirror = false →
        ∃ t, exec .stepBlockSend s = .next t ∧ t = { s with pair := t.pair, tx := t.tx } ∧
          t.pair.blockNext = s.pair.blockNext + 1 ∧ t.pair.bseqTx = (s.pair.bseqTx + 1) % 2 ^ 32 ∧
          (t.txp s.mirrorTx).blocks = (s.txp s.mirrorTx).blocks ++ [⟨.mirror, s.rd F.PAIR_CFG_MIR_VC, 0x34,
            toBytes 8 s.frame ++ toBytes 4 s.pair.bseqTx ++ toBytes 2 1 ++
              [BitVec.ofNat 8 (1 + 2 * b2n s.running), 0] ++
              (toBytes 2 3 ++ toBytes 2 8 ++ toBytes 8 s.pair.blockNext)⟩])) ∧
    (s.pair.frames = [] ∨ s.mirrorSends = false → exec .frameBlockSend s = .next s) ∧
    (∀ k ds rest, s.mirrorSends = true → s.pair.frames = (k, ds) :: rest →
      (∀ r ∈ s.ash.recs, r.closed = true → r.frame ≠ k) → ∃ t, exec .frameBlockSend s = .next t ∧
        t.pair.frames = rest ∧ t.pair.lastWin = k ∧ t.pair.applies = [] ∧ t.mem = s.mem) ∧
    (s.mirrorSends = false ∨ s.running = true → exec .agreeBlockSend s = .next s) ∧
    (s.mirrorSends = true → s.running = false → s.txReady s.mirrorTx = true → s.txLocked s.mirrorTx = true →
      s.txFits s.mirrorTx 100 = true → (s.txp s.mirrorTx).waits .mirror = false → ∃ t b, exec .agreeBlockSend s = .next t ∧ t = { s with pair := t.pair, tx := t.tx } ∧
        (t.txp s.mirrorTx).blocks = (s.txp s.mirrorTx).blocks ++ [b] ∧ b.dt = 0x34 ∧ b.cls = .mirror ∧
        b.payload.drop 16 = toBytes 2 2 ++ toBytes 2 80 ++ s.agreeBody ∧ t.pair.bseqTx = (s.pair.bseqTx + 1) % 2 ^ 32) ∧
    (s.pair.streamOut = [] → exec .backgroundBlockSend s = .next s) ∧
    (((s.txp s.mirrorTx).blocks ++ (s.txp s.mirrorTx).wait).any (fun b => b.cls == .mirror) = true →
      exec .backgroundBlockSend s = .next s) ∧
    (∀ r rest, s.pair.streamOut = r :: rest → s.mirrorSends = true → s.rd F.PAIR_CKPT_CFG_STREAM_MBPS ≠ 0 →
      ((s.txp s.mirrorTx).blocks ++ (s.txp s.mirrorTx).wait).any (fun b => b.cls == .mirror) = false →
      ∃ t, exec .backgroundBlockSend s = .next t ∧ t.pair.streamOut = rest ∧
        t.pair.bseqTx = (s.pair.bseqTx + 1) % 2 ^ 32 ∧ t.mem = s.mem) ∧
    (s.mirroring = false ∨ s.rxReady s.mirrorRx = false → ∀ b, exec (.mirrorBlockReceive b) s = .next s) ∧
    (s.mirroring = true → s.rxReady s.mirrorRx = true → ∀ b, b.length < 16 → ∃ t, exec (.mirrorBlockReceive b) s = .next t ∧ t = { s with regs := t.regs } ∧
      t.rd F.PAIR_CNT1_BLK_ERR = F.PAIR_CNT1_BLK_ERR.plus (s.rd F.PAIR_CNT1_BLK_ERR) 1 ∧
      OnlyWrites [F.PAIR_CNT1_BLK_ERR.key 0 0] s t) ∧
    (s.mirroring = true → s.rxReady s.mirrorRx = true → ∀ b, 16 ≤ b.length → byteField b 12 2 = 0 →
      let gap := (match s.pair.bseqRx with | some e => (byteField b 8 4 + 2 ^ 32 - e) % 2 ^ 32 | none => 0)
      let missed := if gap < 2 ^ 31 then gap else 0
      (b.length = 16 → byteField b 14 1 < 8 → byteField b 15 1 = 0 → ∃ t, exec (.mirrorBlockReceive b) s = .next t ∧
        t = { s with regs := t.regs, pair := { s.pair with
          bseqRx := some ((byteField b 8 4 + 1) % 2 ^ 32), peerRun := bit (byteField b 14 1) 1 } } ∧
        OnlyWrites [F.PAIR_CNT1_BLK_ERR.key 0 0] s t ∧
        t.rd F.PAIR_CNT1_BLK_ERR = F.PAIR_CNT1_BLK_ERR.plus (s.rd F.PAIR_CNT1_BLK_ERR) missed) ∧
      (16 < b.length ∨ 8 ≤ byteField b 14 1 ∨ byteField b 15 1 ≠ 0 → ∃ t, exec (.mirrorBlockReceive b) s = .next t ∧
        t = { s with regs := t.regs, pair := { s.pair with bseqRx := some ((byteField b 8 4 + 1) % 2 ^ 32) } } ∧
        OnlyWrites [F.PAIR_CNT1_BLK_ERR.key 0 0] s t ∧
        t.rd F.PAIR_CNT1_BLK_ERR = F.PAIR_CNT1_BLK_ERR.plus (s.rd F.PAIR_CNT1_BLK_ERR) (missed + 1)))

/-- A change of PAIR_HB_IN restarts the timer and brings a partner that was silent or lost back to present; a level that
repeats changes nothing. One frame without a sign makes it silent and counts a gap; two make it lost, with a gap
more and kind 0x51, unless this is a fenced partner's ready standby, which takes over. FENCE_IN_RISE records the
level, and such a standby whose partner is lost takes over: it becomes primary, alone, and counts it; one that is
away notes the takeover. An alignment wait that ends marks the oldest unaligned closed window aligned: without a
record it counts ALIGN_MISS and reports kind 0x50; with one it applies the counts that can be met and counts each
other source. A checkpoint's copy is held and valid; a resynchronisation's copy keeps the journal; a restored
checkpoint gives the cores and the queues back. A rejoin ends the absence and, after a restore, every engine is
ready, unless a resynchronisation is due, and RESYNCS counts. Commands whose event has not come change nothing. That
PAIR_FENCE_IN falls with a heartbeat is the model's inference (log entry 25). -/
def Obligations.PartnersWatchEachOther : Prop :=
  ∀ (s : State),
    (exec (.hbInChange s.pins.hbIn) s = .next s) ∧
    (∀ b, b ≠ s.pins.hbIn → ∃ t, exec (.hbInChange b) s = .next t ∧
      t = { s with regs := t.regs, pins := { s.pins with hbIn := b, fenceIn := false },
                   pair := { s.pair with timer := s.grain, gaps := 0 } } ∧
      t.rd F.PAIR_STAT_FENCE_IN = 0 ∧
      t.rd F.PAIR_CNT0_HB_GAP = F.PAIR_CNT0_HB_GAP.plus (s.rd F.PAIR_CNT0_HB_GAP)
        ((max 0 (span s.grain s.pair.timer)).toNat / max 1 s.frameLen - s.pair.gaps) ∧
      t.rd F.PAIR_STAT_SB_STATE = (if s.rd F.PAIR_STAT_SB_STATE = 2 ∨ s.rd F.PAIR_STAT_SB_STATE = 3 then 1
        else s.rd F.PAIR_STAT_SB_STATE) ∧
      OnlyWrites [F.PAIR_STAT_FENCE_IN.key 0 0, F.PAIR_CNT0_HB_GAP.key 0 0, F.PAIR_STAT_SB_STATE.key 0 0] s t) ∧
    (s.mirroring = false ∨ s.rd F.PAIR_STAT_SB_STATE ≠ 1 → exec .heartbeatTimeout s = .next s) ∧
    (s.mirroring = true → s.rd F.PAIR_STAT_SB_STATE = 1 → ∃ t, exec .heartbeatTimeout s = .next t ∧
      t.rd F.PAIR_STAT_SB_STATE = 2 ∧ t.rd F.PAIR_CNT0_HB_GAP = F.PAIR_CNT0_HB_GAP.plus (s.rd F.PAIR_CNT0_HB_GAP) 1 ∧
      t.pair = { s.pair with gaps := 1 } ∧ t.mem = s.mem ∧
      OnlyWrites [F.TIME_GRAIN_GRAIN.key 0 0, F.ACT_ARM_ARM.key 0 0, F.PAIR_STAT_SB_STATE.key 0 0,
        F.PAIR_CNT0_HB_GAP.key 0 0] s t) ∧
    (s.mirroring = false ∨ s.rd F.PAIR_STAT_SB_STATE ≠ 2 → exec .partnerLostTimeout s = .next s) ∧
    (s.mirroring = true → s.rd F.PAIR_STAT_SB_STATE = 2 →
      (s.on F.PAIR_STAT_FENCE_IN = false ∨ s.on F.PAIR_STAT_ROLE = false ∨ s.allReady = false →
        ∃ t, exec .partnerLostTimeout s = .next t ∧ t.rd F.PAIR_STAT_SB_STATE = 3 ∧
          t.rd F.PAIR_CNT0_HB_GAP = F.PAIR_CNT0_HB_GAP.plus (s.rd F.PAIR_CNT0_HB_GAP) 1 ∧
          t.owl.staged = mergeMsg ⟨0x750, 0x51, 2, 0, false, 0⟩ s.owl.staged ∧ t.pair = { s.pair with gaps := 2 } ∧
          t.mem = s.mem) ∧
      (s.on F.PAIR_STAT_FENCE_IN = true → s.on F.PAIR_STAT_ROLE = true → s.allReady = true →
        s.rd F.PAIR_STAT_PHASE = 0 → s.pair.kept = [] → s.cmd.deferred = [] → ∃ t, exec .partnerLostTimeout s = .next t ∧
          t.rd F.PAIR_STAT_ROLE = 0 ∧ t.rd F.PAIR_STAT_SB_STATE = 1 ∧ t.owl = s.owl ∧
          t.pair = { s.pair with timer := t.grain, gaps := 0 } ∧
          t.rd F.PAIR_CNT1_TAKEOVERS = F.PAIR_CNT1_TAKEOVERS.plus (s.rd F.PAIR_CNT1_TAKEOVERS) 1)) ∧
    (s.rd F.PAIR_STAT_SB_STATE ≠ 3 ∨ s.on F.PAIR_STAT_ROLE = false ∨ s.allReady = false → ∃ t,
      exec .fenceInRise s = .next t ∧ t = { s with regs := t.regs, pins := { s.pins with fenceIn := true } } ∧
        t.rd F.PAIR_STAT_FENCE_IN = 1 ∧ OnlyWrites [F.PAIR_STAT_FENCE_IN.key 0 0] s t) ∧
    (s.rd F.PAIR_STAT_SB_STATE = 3 → s.on F.PAIR_STAT_ROLE = true → s.allReady = true →
      (s.rd F.PAIR_STAT_PHASE = 0 → s.pair.kept = [] → s.cmd.deferred = [] → ∃ t, exec .fenceInRise s = .next t ∧
        t.rd F.PAIR_STAT_ROLE = 0 ∧ t.rd F.PAIR_STAT_SB_STATE = 1 ∧ t.rd F.PAIR_STAT_FENCE_IN = 1 ∧
        t.rd F.PAIR_CNT1_TAKEOVERS = F.PAIR_CNT1_TAKEOVERS.plus (s.rd F.PAIR_CNT1_TAKEOVERS) 1 ∧ t.mem = s.mem) ∧
      (s.rd F.PAIR_STAT_PHASE ≠ 0 → ∃ t, exec .fenceInRise s = .next t ∧ t.rd F.PAIR_STAT_SB_STATE = 4 ∧
        t.rd F.PAIR_STAT_ROLE = s.rd F.PAIR_STAT_ROLE)) ∧
    ((s.mirroring && s.standby && s.running) = false → exec .alignWaitExpired s = .next s) ∧
    (∀ n, s.mirroring = true → s.standby = true → s.running = true → s.rd F.PAIR_STAT_PHASE = 0 → s.step ≤ n →
      n < s.step + 64 → n < s.time.winClosed → s.pair.aligned.contains n = false →
      (∀ m, s.step ≤ m → m < n → s.pair.aligned.contains m = true) →
      (s.pair.align = [] → ∃ u : State, exec .alignWaitExpired s = .next u.settled ∧ u.pair.aligned.contains n = true ∧
        u.rd F.PAIR_CNT0_ALIGN_MISS = F.PAIR_CNT0_ALIGN_MISS.plus (s.rd F.PAIR_CNT0_ALIGN_MISS) 1 ∧
        u.owl.staged = mergeMsg ⟨0x750, 0x50, 1, 1, false, 0⟩ s.owl.staged ∧ u.tinder = s.tinder) ∧
      (∀ cnts, s.pair.align = [(n, cnts)] → s.alignSources.all (s.meets cnts) = false →
        ∃ u : State, exec .alignWaitExpired s = .next u.settled ∧ u.pair.aligned.contains n = true ∧ u.pair.align = [] ∧
          u.rd F.PAIR_CNT0_ALIGN_MISS = F.PAIR_CNT0_ALIGN_MISS.plus (s.rd F.PAIR_CNT0_ALIGN_MISS)
            (s.alignSources.filter (fun src => !s.meets cnts src)).length ∧
          u.tinder = { s.tinder with
            inputs := s.assignAll n cnts (s.alignSources.filter (s.meets cnts)) s.tinder.inputs })) ∧
    (s.time.phase ≠ .away ∨ s.rd F.PAIR_STAT_PHASE ≠ 1 → exec .checkpointCopyDone s = .next s) ∧
    (∀ c, s.time.phase = .away → s.rd F.PAIR_STAT_PHASE = 1 → s.pair.restoring = false → s.pair.resync = false →
      s.pair.copying = some c → ∃ u : State, exec .checkpointCopyDone s = .next (u.tick u.step) ∧ u.rd F.PAIR_STAT_PHASE = 2 ∧
        u.rd F.PAIR_STAT_CKPT_VALID = 1 ∧ u.rd F.PAIR_CKPT_STEP_STEP = c.step % 2 ^ 64 ∧ u.pair.ckpt = some c ∧
        u.pair.copying = none ∧ u.pair.streamOut = s.pair.streamOut ++ ckptRecords (c.step, Config.ckptBytes c) ∧
        u.pair.verified = true ∧ u.step = s.step ∧ u.mem = s.mem) ∧
    (s.time.phase = .away → s.rd F.PAIR_STAT_PHASE = 1 → s.pair.restoring = false → s.pair.resync = true →
      ∃ u : State, exec .checkpointCopyDone s = .next (u.tick u.step) ∧ u.rd F.PAIR_STAT_PHASE = 2 ∧
        u.rd F.PAIR_STAT_CKPT_VALID = s.rd F.PAIR_STAT_CKPT_VALID ∧ u.pair.copying = none ∧ u.pair.ckpt = s.pair.ckpt ∧
        u.pair.journal = s.pair.journalOld ++ s.pair.journal ∧ u.pair.journalOld = [] ∧ u.mem = s.mem) ∧
    (∀ c, s.time.phase = .away → s.rd F.PAIR_STAT_PHASE = 1 → s.pair.restoring = true → s.pair.joining = false →
      s.pair.copying = some c → ∃ u : State, exec .checkpointCopyDone s = .next (u.tick u.step) ∧
        u.rd F.PAIR_STAT_PHASE = 2 ∧ u.cores = c.cores ∧ u.drey = c.drey ∧ u.time.winClosed = c.step ∧
        u.pair.copying = none) ∧
    (s.rd F.PAIR_STAT_PHASE ≠ 2 → exec .replayRejoin s = .next s) ∧
    (s.rd F.PAIR_STAT_PHASE = 2 → s.time.phase = .opened → s.time.winClosed = s.step + 1 → s.tinder.closes = [] →
      (∀ e ∈ s.tinder.inputs, s.step + 1 ≤ e.step) → s.pair.replay.any (s.dueBy s.step) = false →
      reached s.grain (s.winStart (s.step + 2)) = false →
      s.rd F.PAIR_STAT_SB_STATE ≠ 4 → ∃ t, exec .replayRejoin s = .next t ∧ t.rd F.PAIR_STAT_PHASE = 0 ∧
        t.tinder.winOpen = false ∧ t.tinder.inputs = s.tinder.inputs ++ s.pair.replay.filterMap s.replayInput ∧
        t.pair.replay = [] ∧ t.pair.aligned.contains s.step = true ∧ t.mem = s.mem ∧ t.pair.resync = s.pair.resync ∧
        (s.pair.restoring = true → t.rd F.PAIR_STAT_ENG_READY =
            (if s.pair.resync then s.rd F.PAIR_STAT_ENG_READY else engineMask s.engines % 256) ∧
          t.pair.restoring = false ∧
          t.rd F.PAIR_CNT0_RESYNCS = F.PAIR_CNT0_RESYNCS.plus (s.rd F.PAIR_CNT0_RESYNCS) 1) ∧
        (s.pair.restoring = false → t.rd F.PAIR_STAT_ENG_READY = s.rd F.PAIR_STAT_ENG_READY ∧
          t.rd F.PAIR_CNT0_RESYNCS = s.rd F.PAIR_CNT0_RESYNCS))

/-- PAIR_CTRL of a standing device writes its role; while the model runs the roles change at the boundary that ends the
frame after the one whose windows are open, which is announced to the partner. Its second action writes MIRROR_EN:
switched on, the timer starts and the partner is taken as present; switched off, the partner's state and the journal
are forgotten. Its third action asks for a resynchronisation. FAILOVER on a standby whose partner is lost takes over
and answers the first frame whose records it emits; on one that is away the takeover is noted and the reply waits. A
packet of another action leaves the row without effect. -/
def Obligations.PairCommandsSetRoleAndMirror : Prop :=
  ∀ (s : State) (c : HostCmd),
    (c.par 0 1 = 1 ∨ c.par 0 1 = 2 → exec (.pairCtrlRole c) s = .next s) ∧
    (c.par 0 1 = 0 ∨ c.par 0 1 = 2 → exec (.pairCtrlMirror c) s = .next s) ∧
    (c.par 0 1 = 0 ∨ c.par 0 1 = 1 → exec (.pairCtrlResync c) s = .next s) ∧
    (Ready s c → c.op = 0x38 → pairOp.reason s.took c = none →
      (c.par 0 1 = 0 → s.running = false → ∃ t, exec (.pairCtrlRole c) s = .next t ∧ t.rd F.PAIR_STAT_ROLE = c.par 1 1 ∧
        Answered s t c [] ∧ t = { s with regs := t.regs, cmd := t.cmd } ∧
        OnlyWrites [F.CMD_CNT_CMDS.key 0 0, F.PAIR_STAT_ROLE.key 0 0] s t) ∧
      (c.par 0 1 = 0 → s.running = true → ∃ t, exec (.pairCtrlRole c) s = .next t ∧
        t.pair = { s.pair with roleAt := some ((s.frameOf s.grain + 2) * s.frameSteps),
                               roleOut := some ((s.frameOf s.grain + 2) * s.frameSteps) } ∧
        Answered s t c [] ∧ t = { s with regs := t.regs, cmd := t.cmd, pair := t.pair } ∧
        OnlyWrites [F.CMD_CNT_CMDS.key 0 0] s t) ∧
      (c.par 0 1 = 1 → ∃ t, exec (.pairCtrlMirror c) s = .next t ∧ t.rd F.PAIR_CFG_MIRROR_EN = c.par 1 1 ∧
        Answered s t c [] ∧ t = { s with regs := t.regs, cmd := t.cmd, pair := t.pair } ∧
        OnlyWrites [F.CMD_CNT_CMDS.key 0 0, F.PAIR_CFG_MIRROR_EN.key 0 0, F.PAIR_STAT_SB_STATE.key 0 0,
          F.PAIR_STAT_JOURNAL_FULL.key 0 0] s t ∧
        (s.mirroring = false → c.par 1 1 = 1 → t.pair = { s.pair with timer := s.grain, gaps := 0 } ∧
          t.rd F.PAIR_STAT_SB_STATE = if s.rd F.PAIR_STAT_SB_STATE = 0 then 1 else s.rd F.PAIR_STAT_SB_STATE) ∧
        (s.mirroring = true → c.par 1 1 = 0 → t.pair = { s.pair with journal := [] } ∧ t.rd F.PAIR_STAT_JOURNAL_FULL = 0 ∧
          t.rd F.PAIR_STAT_SB_STATE = if s.rd F.PAIR_STAT_SB_STATE = 5 then 5 else 0)) ∧
      (c.par 0 1 = 2 → ∃ t, exec (.pairCtrlResync c) s = .next t ∧ t.pair = { s.pair with resync := true } ∧
        Answered s t c [] ∧ t = { s with regs := t.regs, cmd := t.cmd, pair := t.pair } ∧
        OnlyWrites [F.CMD_CNT_CMDS.key 0 0] s t)) ∧
    (Ready s c → c.op = 0x39 → failoverOp.reason s.took c = none →
      (s.rd F.PAIR_STAT_PHASE = 0 → s.pair.kept = [] → ∃ t, exec (.failover c) s = .next t ∧
        t.rd F.PAIR_STAT_ROLE = 0 ∧ t.rd F.PAIR_STAT_SB_STATE = 1 ∧
        t.rd F.PAIR_CNT1_TAKEOVERS = F.PAIR_CNT1_TAKEOVERS.plus (s.rd F.PAIR_CNT1_TAKEOVERS) 1 ∧
        t.pair = { s.pair with timer := s.grain, gaps := 0 } ∧ Answered s t c (toBytes 8 s.firstFrame) ∧
        t = { s with regs := t.regs, cmd := t.cmd, pair := t.pair } ∧
        OnlyWrites [F.CMD_CNT_CMDS.key 0 0, F.PAIR_STAT_ROLE.key 0 0, F.PAIR_STAT_SB_STATE.key 0 0,
          F.PAIR_CNT1_TAKEOVERS.key 0 0] s t) ∧
      (s.rd F.PAIR_STAT_PHASE ≠ 0 → ∃ t, exec (.failover c) s = .next t ∧ t.rd F.PAIR_STAT_SB_STATE = 4 ∧
        t.rd F.PAIR_STAT_ROLE = s.rd F.PAIR_STAT_ROLE ∧ Waits s t c 0x39 0 ∧
        OnlyWrites [F.CMD_CNT_CMDS.key 0 0, F.PAIR_STAT_SB_STATE.key 0 0] s t))

/-- SPARE_SWAP of a core that has a spare marks its swap, and its reply waits; where none can be carried out it is
answered 0x0F09 with nothing marked. The end of the copy shows the core, its old tile and the spare in SPARE_LAST,
counts the swap, takes the core out of its fence and the swap from the queue, and stores nothing; if no spare is
left it counts FAILED and fences the device. The end of a column's copy that cannot be carried out does the same;
without such a swap pending nothing changes. DOMAIN_RESET of a core puts every register of its window at its reset
value and its buffers to empty, keeps its SRAM and every other unit's registers, and answers. DOMAIN_RESET of a
GDDR6 group, an RX port or a TX port puts every register of its window at its reset value, empties its queues and
buffers, and answers; DOMAIN_RESET of an engine does so for each of its cores. A copy whose moving cores still wait
for responses is not done. -/
def Obligations.SwapsAndDomainResetsAct : Prop :=
  ∀ (s : State) (c : HostCmd),
    (Ready s c → c.op = 0x3A → spareOp.reason s.took c = none →
      let w : Swap := ⟨c.par 0 2, s.took.swapColumns (c.par 0 2), c.par 2 1, false, none, true⟩
      (s.took.swapPossible w = true → ∃ t, exec (.spareSwap c) s = .next t ∧ t.spare.queue = s.spare.queue ++ [w] ∧
        Waits s t c 0x3A 0 ∧ t = { s with regs := t.regs, cmd := t.cmd, spare := t.spare } ∧
        OnlyWrites [F.CMD_CNT_CMDS.key 0 0] s t) ∧
      (s.took.swapPossible w = false → ∃ t, exec (.spareSwap c) s = .next t ∧ t.spare = s.spare ∧ t.mem = s.mem ∧
        t.cmd.replies = s.cmd.replies ++ [replyBytes c.word0 3 0x0F09 []])) ∧
    (s.swapNow = none → exec .spareCopyDone s = .next s ∧ exec .columnCopyDone s = .next s) ∧
    (∀ w rest, s.running = false → s.time.phase = .off → s.spare.window = none → s.spare.queue = w :: rest →
      s.swapSettled w = false → exec .spareCopyDone s = .next s ∧ exec .columnCopyDone s = .next s) ∧
    (∀ w rest, s.running = false → s.time.phase = .off → s.spare.window = none → s.spare.queue = w :: rest →
      w.slot = none → w.reply = false → s.swapSettled w = true →
      (w.columns = [] → exec .columnCopyDone s = .next s) ∧
      (w.columns ≠ [] → exec .spareCopyDone s = .next s) ∧
      (w.columns = [] → w.source = 0 → s.swapPossible w = true → ∀ b, s.spareFor w.core = some b →
        ∃ t, exec .spareCopyDone s = .next t ∧ t.spare.queue = rest ∧ t.rd F.SPARE_LAST_LOGICAL = w.core % 1024 ∧
          t.rd F.SPARE_LAST_OLD_TILE = s.tileOf w.core % 2 ^ F.SPARE_LAST_OLD_TILE.width ∧
          t.rd F.SPARE_LAST_NEW_TILE = b % 2 ^ F.SPARE_LAST_NEW_TILE.width ∧ t.rd F.CORE_STAT_FENCED w.core = 0 ∧
          t.rd F.SPARE_CNT_SWAPS = F.SPARE_CNT_SWAPS.plus (s.rd F.SPARE_CNT_SWAPS) 1 ∧
          t = { s with regs := t.regs, spare := t.spare }) ∧
      (w.columns = [] → s.swapPossible w = false → ∃ t, exec .spareCopyDone s = .next t ∧ t.spare.queue = rest ∧
        t.rd F.SPARE_CNT_FAILED = F.SPARE_CNT_FAILED.plus (s.rd F.SPARE_CNT_FAILED) 1 ∧ t.rd F.PAIR_STAT_FENCED = 1 ∧
        t.rd F.OWL_STAT_DEV_FENCED = 1 ∧ t.mem = s.mem) ∧
      (w.columns ≠ [] → s.swapPossible w = false → ∃ t, exec .columnCopyDone s = .next t ∧ t.spare.queue = rest ∧
        t.rd F.SPARE_CNT_FAILED = F.SPARE_CNT_FAILED.plus (s.rd F.SPARE_CNT_FAILED) 1 ∧ t.rd F.PAIR_STAT_FENCED = 1 ∧
        t.mem = s.mem)) ∧
    (Ready s c → c.op = 0x3D → domainOp.reason s.took c = none → c.par 0 1 = 0 → ∃ t, exec (.domainReset c) s = .next t ∧
      (∀ (f : Fld) (k : Nat), (Scope.regs .core).contains f.reg.num = true → t.rd f (c.par 2 2) k = f.rst) ∧
      (∀ (f : Fld) (u k : Nat), u ≠ c.par 2 2 → t.rd f u k = s.took.rd f u k) ∧ t.core (c.par 2 2) = CoreSt.fresh ∧
      (∀ n, n ≠ c.par 2 2 → t.core n = s.core n) ∧ t.mem = s.mem ∧ t.flips = s.flips ∧ Answered s t c []) ∧
    (Ready s c → c.op = 0x3D → domainOp.reason s.took c = none → ∃ t, exec (.domainReset c) s = .next t ∧ t.mem = s.mem ∧
      Answered s t c [] ∧
      (c.par 0 1 = 1 → ∀ j, j < 128 → t.core (128 * c.par 2 2 + j) = CoreSt.fresh ∧
        ∀ (f : Fld) (k : Nat), (Scope.regs .core).contains f.reg.num = true → t.rd f (128 * c.par 2 2 + j) k = f.rst) ∧
      (c.par 0 1 = 2 → t.g6g (c.par 2 2) = G6St.fresh ∧
        ∀ (f : Fld) (k : Nat), (Scope.regs .group).contains f.reg.num = true → t.rd f (c.par 2 2) k = f.rst) ∧
      (c.par 0 1 = 3 → t.rxp (c.par 2 2) = RxSt.fresh ∧
        ∀ (f : Fld) (k : Nat), (Scope.regs .rx).contains f.reg.num = true → t.rd f (c.par 2 2) k = f.rst) ∧
      (c.par 0 1 = 4 → t.txp (c.par 2 2) = TxSt.fresh ∧
        ∀ (f : Fld) (k : Nat), (Scope.regs .tx).contains f.reg.num = true → t.rd f (c.par 2 2) k = f.rst))

/-- FW_UPDATE to verify keeps the buffer and its reply waits; to write, it verifies the image first: one that fails is
answered with its reason and nothing is kept, one that passes is kept until it is written. The end of a verification
answers the version of an image that passes or the reason of one that fails, and the end of a write puts the image
into the slot that was not booted and answers its version. ATTEST keeps the nonce and the buffer and its reply
waits; its end signs and stores the report of 372 bytes, counts it and its number, and answers 372, or 0x0E04 where
the buffer's group has failed. Signatures are the Ed25519 and SHA-512 of log entry 9. -/
def Obligations.FirmwareAndAttestationAreSigned : Prop :=
  ∀ (s : State) (c : HostCmd), (∀ g, (s.g6g g).queue = []) →
    (Ready s c → c.op = 0x3C → fwOp.reason s.took c = none →
      (c.par 12 1 = 0 → ∃ t, exec (.fwUpdateVerify c) s = .next t ∧ Waits s t c 0x3C 0 ∧
        t.boot = { s.boot with update := some (c.par 0 8, c.par 8 4, 0) } ∧
        t = { s with regs := t.regs, cmd := t.cmd, boot := t.boot } ∧ OnlyWrites [F.CMD_CNT_CMDS.key 0 0] s t) ∧
      (c.par 12 1 = 1 → ∀ img u, s.took.fwVerify (c.par 0 8) (c.par 8 4) = (.inl img, u) →
        ∃ t, exec (.fwUpdateWrite c) s = .next t ∧ Waits s t c 0x3C 0 ∧ t.mem = s.mem ∧
          t.boot = { s.boot with update := some (c.par 0 8, c.par 8 4, 1), updateImage := img }) ∧
      (c.par 12 1 = 1 → ∀ r d u, s.took.fwVerify (c.par 0 8) (c.par 8 4) = (.inr (r, d), u) →
        ∃ t, exec (.fwUpdateWrite c) s = .next t ∧ t.boot = s.boot ∧ t.mem = s.mem ∧
          t.cmd.replies = s.cmd.replies ++ [replyBytes c.word0 (statusOf r) r d])) ∧
    (s.boot.update = none → exec .fwVerifyDone s = .next s ∧ exec .fwWriteDone s = .next s) ∧
    (∀ d a n, s.cmd.deferred = [d] → d.op = 0x3C → d.path = .i3cSdr → s.cmd.replies.length < 4 → s.cmd.replyWait = [] →
      (∀ img u, s.boot.update = some (a, n, 0) → s.boot.waiting = false →
        State.fwVerify { s with boot := { s.boot with update := none } } a n = (.inl img, u) →
        ∃ t, exec .fwVerifyDone s = .next t ∧ t.boot = { s.boot with update := none } ∧ t.cmd.deferred = [] ∧
          (d.ack = true → t.cmd.replies = s.cmd.replies ++ [replyBytes d.word0 0 0 (toBytes 4 (fwOf img).version)])) ∧
      (s.boot.update = some (a, n, 1) → s.boot.source = 0 → ∃ t, exec .fwWriteDone s = .next t ∧
        t.boot = { s.boot with update := none, updateImage := [], flash := s.boot.flash.map (fun (f : Flash) =>
          f.store f.slots.2 s.boot.updateImage) } ∧ t.mem = s.mem ∧
        t.cmd.replies = s.cmd.replies ++ [replyBytes d.word0 0 0 (toBytes 4 (fwOf s.boot.updateImage).version)]) ∧
      (s.boot.update = some (a, n, 1) → s.boot.source = 1 → ∃ t, exec .fwWriteDone s = .next t ∧
        t.boot = { s.boot with update := none, updateImage := [], flash := s.boot.flash.map (fun (f : Flash) =>
          f.store f.slots.1 s.boot.updateImage) } ∧ t.mem = s.mem)) ∧
    (Ready s c → c.op = 0x03 → attestOp.reason s.took c = none → ∃ t, exec (.attest c) s = .next t ∧ Waits s t c 0x03 0 ∧
      t.sec = { s.sec with attest := some ⟨c.params.take 32, c.par 32 8⟩ } ∧
      t = { s with regs := t.regs, cmd := t.cmd, sec := t.sec } ∧ OnlyWrites [F.CMD_CNT_CMDS.key 0 0] s t) ∧
    (s.sec.attest = none → exec .attestDone s = .next s) ∧
    (∀ d j, s.cmd.deferred = [d] → d.op = 0x03 → d.path = .i3cSdr → s.cmd.replies.length < 4 → s.cmd.replyWait = [] →
      s.sec.attest = some j →
      (s.g6Failed (s.g6Group j.buf) = true → ∃ t, exec .attestDone s = .next t ∧
        t.sec = { s.sec with attest := none, seq := (s.sec.seq + 1) % 2 ^ 32 } ∧ t.mem = s.mem ∧
        t.cmd.replies = s.cmd.replies ++ [replyBytes d.word0 1 0x0E04 (toBytes 2 5)]) ∧
      (s.g6Failed (s.g6Group j.buf) = false → s.g6Failed (s.g6Group (j.buf + 128)) = false → s.g6Has j.buf = true →
        s.g6Has (j.buf + 371) = true → j.buf % 256 = 0 → ∃ t, exec .attestDone s = .next t ∧
          t.sec = { s.sec with attest := none, seq := (s.sec.seq + 1) % 2 ^ 32 } ∧ t.cmd.deferred = [] ∧
          t.rd F.SEC_CNT_ATTESTS = F.SEC_CNT_ATTESTS.plus (s.rd F.SEC_CNT_ATTESTS) 1 ∧
          t.bytes j.buf 372 = s.reportBody j.nonce ((s.sec.seq + 1) % 2 ^ 32) ++
            Ed.sign s.fuse.idSeed (s.reportBody j.nonce ((s.sec.seq + 1) % 2 ^ 32)) ∧
          t.cmd.replies = s.cmd.replies ++ [replyBytes d.word0 0 0 (toBytes 4 372)]))

/-- LEARN_CTRL of a standing device acts at once and answers all ones: OFF writes the region's state and nothing else,
RUN and ACCUM of a region that is not OFF likewise, and CLEAR keeps the state. While the model runs in a region with
epochs the action waits for the region's first boundary at least two steps after the step of its stamp, which the
reply names. SNAPSHOT shows BUSY and the region, and its reply waits: at once the capture is taken and the region's
applies withheld, in a running model it waits likewise. The end of the copy clears BUSY, INCOMPLETE and the hold and
answers the number of words; a hold that has run out first sets INCOMPLETE and answers 0x0620, whichever of the two
ends it. A copy's end without a copy changes nothing. A packet of another action leaves a row without effect. -/
def Obligations.LearningAndSnapshotsFollowTheirBoundaries : Prop :=
  ∀ (s : State) (c : HostCmd),
    (c.par 1 1 ≠ 0 → c.par 1 1 ≤ 3 → exec (.learnCtrlOff c) s = .next s) ∧
    (Ready s c → c.op = 0x30 → learnOp.reason s.took c = none →
      let r := c.par 0 1
      (s.running = false →
        (c.par 1 1 = 0 → ∃ t, exec (.learnCtrlOff c) s = .next t ∧ t.rd F.LRN_REGION_STATE 0 r = 0 ∧
          Answered s t c (toBytes 8 (2 ^ 64 - 1)) ∧ t = { s with regs := t.regs, cmd := t.cmd } ∧
          OnlyWrites [F.CMD_CNT_CMDS.key 0 0, F.LRN_REGION_STATE.key 0 r] s t) ∧
        (c.par 1 1 = 1 → s.rd F.LRN_REGION_STATE 0 r ≠ 0 → ∃ t, exec (.learnCtrlRun c) s = .next t ∧
          t.rd F.LRN_REGION_STATE 0 r = 1 ∧ Answered s t c (toBytes 8 (2 ^ 64 - 1)) ∧
          t = { s with regs := t.regs, cmd := t.cmd } ∧
          OnlyWrites [F.CMD_CNT_CMDS.key 0 0, F.LRN_REGION_STATE.key 0 r] s t) ∧
        (c.par 1 1 = 2 → s.rd F.LRN_REGION_STATE 0 r ≠ 0 → ∃ t, exec (.learnCtrlAccum c) s = .next t ∧
          t.rd F.LRN_REGION_STATE 0 r = 2 ∧ Answered s t c (toBytes 8 (2 ^ 64 - 1)) ∧
          t = { s with regs := t.regs, cmd := t.cmd } ∧
          OnlyWrites [F.CMD_CNT_CMDS.key 0 0, F.LRN_REGION_STATE.key 0 r] s t) ∧
        (c.par 1 1 = 3 → ∃ t, exec (.learnCtrlClear c) s = .next t ∧ Answered s t c (toBytes 8 (2 ^ 64 - 1)) ∧
          t.rd F.LRN_REGION_STATE 0 r = s.rd F.LRN_REGION_STATE 0 r)) ∧
      (s.running = true → s.rd F.LRN_REGION_EPOCH_STEPS 0 r ≠ 0 → s.time.phase ≠ .armed → ∀ i : Instr,
        (i = .learnCtrlOff c ∧ c.par 1 1 = 0 ∨ i = .learnCtrlRun c ∧ c.par 1 1 = 1 ∨ i = .learnCtrlAccum c ∧ c.par 1 1 = 2 ∨
          i = .learnCtrlClear c ∧ c.par 1 1 = 3) →
        let e := s.rd F.LRN_REGION_EPOCH_STEPS 0 r
        let m := max (s.step + 1) (s.stepOf s.grain + 2).toNat
        ∃ t n, exec i s = .next t ∧ t.learn.acts = s.learn.acts ++ [⟨r, c.par 1 1, n⟩] ∧ m ≤ n ∧ n < m + e ∧
          (n : Int) % e = (s.rd F.LRN_REGION_PHASE 0 r : Int) % e ∧ Answered s t c (toBytes 8 n) ∧
          t = { s with regs := t.regs, cmd := t.cmd, learn := t.learn } ∧ OnlyWrites [F.CMD_CNT_CMDS.key 0 0] s t)) ∧
    (Ready s c → c.op = 0x31 → snapshotOp.reason s.took c = none →
      let r := c.par 0 1
      (s.running = false → ∃ t x, exec (.snapshot c) s = .next t ∧ t.rd F.LRN_SNAP_STAT_BUSY = 1 ∧
        t.rd F.LRN_SNAP_STAT_REGION = r % 2 ^ F.LRN_SNAP_STAT_REGION.width ∧ t.rd F.LRN_SNAP_STAT_WORDS = 0 ∧
        t.rd F.LRN_REGION_SNAP_HOLD 0 r = c.par 2 2 % 2 ^ F.LRN_REGION_SNAP_HOLD.width ∧ t.learn.snap = some x ∧
        x.copying = true ∧ x.capture = 2 ^ 64 - 1 ∧ x.epoch = s.rd F.LRN_EPOCH_EPOCH 0 r ∧ x.region = r ∧
        x.buf = c.par 8 8 ∧ x.ranges = snapRanges c ∧ Waits s t c 0x31 0 ∧ t.mem = s.mem) ∧
      (s.running = true → s.rd F.LRN_REGION_EPOCH_STEPS 0 r ≠ 0 → s.time.phase ≠ .armed → ∃ t x,
        exec (.snapshot c) s = .next t ∧ t.rd F.LRN_SNAP_STAT_BUSY = 1 ∧ t.learn.snap = some x ∧ x.copying = false ∧
        s.step + 1 ≤ x.capture ∧ x.ranges = snapRanges c ∧ Waits s t c 0x31 0 ∧ t.mem = s.mem)) ∧
    ((∀ x, s.learn.snap = some x → x.copying = false) →
      exec .snapshotCopyDone s = .next s ∧ exec .snapHoldExpired s = .next s) ∧
    (∀ x d, s.learn.snap = some x → x.copying = true → x.dest < 128 → s.cmd.deferred = [d] → d.op = 0x31 →
      d.path = .i3cSdr → s.cmd.replies.length < 4 → s.cmd.replyWait = [] → (∀ g, (s.g6g g).queue = []) →
      (s.rd F.LRN_REGION_SNAP_HOLD 0 x.region ≠ 0 → ∃ t, exec .snapshotCopyDone s = .next t ∧ t.rd F.LRN_SNAP_STAT_BUSY = 0 ∧ t.rd F.LRN_SNAP_STAT_INCOMPLETE = 0 ∧
        t.rd F.LRN_REGION_SNAP_HOLD 0 x.region = 0 ∧ t.learn.snap = none ∧ t.cmd.deferred = [] ∧
        t.rd F.LRN_SNAP_STAT_WORDS = min (x.ranges.map (·.2.2)).sum (2 ^ 27 - 1) % 2 ^ F.LRN_SNAP_STAT_WORDS.width ∧
        t.cmd.replies = s.cmd.replies ++ [replyBytes d.word0 0 0
          (toBytes 4 (x.ranges.map (·.2.2)).sum ++ toBytes 4 0 ++ toBytes 8 x.capture)]) ∧
      (s.rd F.LRN_REGION_SNAP_HOLD 0 x.region = 0 → ∀ i : Instr, i = .snapHoldExpired ∨ i = .snapshotCopyDone →
        ∃ t, exec i s = .next t ∧
        t.rd F.LRN_SNAP_STAT_BUSY = 0 ∧ t.rd F.LRN_SNAP_STAT_INCOMPLETE = 1 ∧ t.learn.snap = none ∧ t.cmd.deferred = [] ∧
        t.cmd.replies = s.cmd.replies ++ [replyBytes d.word0 1 0x0620 []]) ∧
      (s.rd F.LRN_REGION_SNAP_HOLD 0 x.region ≠ 0 → exec .snapHoldExpired s = .next s))

/-- A write of SEC_PROG keeps its action, slot and value; while RUN_EN is 1 or a program is under way it sets STATUS 1,
and an action that its value does not allow sets STATUS 2, and neither starts; otherwise BUSY is set and the action
is under way. Its end, with every fuse read back, blows what the action names and sets STATUS 0; otherwise STATUS 3,
and of a part of the fuses what they hold is free (log entry 7); while a check runs it has not come. IDCODE shifts
out the die revision, the part number and the maker's code. UNLOCK_CHAL shifts out a challenge of the serial number,
32 free bytes and the scope, but after eight failures none. UNLOCK_RESP uses the challenge up: a response of a key
that may unlock, over that challenge, opens the scope; any other counts as a failure. -/
def Obligations.FusesAndUnlockFollowTheirRules : Prop :=
  ∀ (s : State),
    (∀ (i : Instr) (a k v : Nat),
      ((∃ x, i = .secProgRollback x ∧ a = 1 ∧ k = 0 ∧ v = x.toNat) ∨ (∃ x, i = .secProgSlot x ∧ a = 2 ∧ k = x.toNat ∧ v = 0) ∨
        (∃ x, i = .secProgRevoke x ∧ a = 3 ∧ k = x.toNat ∧ v = 0) ∨
        (∃ x, i = .secProgSlotDebug x ∧ a = 4 ∧ k = x.toNat ∧ v = 0) ∨ (i = .secProgDebugLock ∧ a = 5 ∧ k = 0 ∧ v = 0)) →
      ∃ t, exec i s = .next t ∧ t.rd F.SEC_PROG_ACTION = a ∧ t.rd F.SEC_PROG_SLOT = k ∧ t.rd F.SEC_PROG_VALUE = v ∧
        t = { s with regs := t.regs, sec := t.sec } ∧
        OnlyWrites [F.SEC_PROG_ACTION.key 0 0, F.SEC_PROG_SLOT.key 0 0, F.SEC_PROG_VALUE.key 0 0,
          F.SEC_PROG_STATUS.key 0 0, F.SEC_PROG_BUSY.key 0 0] s t ∧
        (s.running = true ∨ s.on F.SEC_PROG_BUSY = true → t.rd F.SEC_PROG_STATUS = 1 ∧ t.sec = s.sec ∧
          t.rd F.SEC_PROG_BUSY = s.rd F.SEC_PROG_BUSY) ∧
        (s.running = false → s.on F.SEC_PROG_BUSY = false →
          let refused : Prop := (a = 1 ∧ (v ≤ s.fuse.rollback ∨ s.rd F.SEC_STAT_SVN < v)) ∨
            (a = 2 ∧ (s.fuse.slotValid.getLsbD k = true ∨ ofBytes (s.fuse.slotHash.getD k []) ≠ 0)) ∨
            (a = 3 ∧ s.fuse.slotValid.getLsbD k = false) ∨
            (a = 4 ∧ (s.fuse.slotValid.getLsbD k = false ∨ s.fuse.slotRevoked.getLsbD k = true))
          (refused → t.rd F.SEC_PROG_STATUS = 2 ∧ t.sec = s.sec ∧ t.rd F.SEC_PROG_BUSY = 0) ∧
          (¬refused → t.rd F.SEC_PROG_BUSY = 1 ∧ t.sec = { s.sec with prog := some (a, k, v) } ∧
            t.rd F.SEC_PROG_STATUS = s.rd F.SEC_PROG_STATUS))) ∧
    (s.sec.prog = none ∨ s.on F.CHIP_CTRL_CHECK_BUSY = true → ∀ q, exec (.secProgDone q) s = .next s) ∧
    (∀ a k v, s.sec.prog = some (a, k, v) → s.on F.CHIP_CTRL_CHECK_BUSY = false →
      (∃ t, exec (.secProgDone true) s = .next t ∧ t.rd F.SEC_PROG_BUSY = 0 ∧ t.rd F.SEC_PROG_STATUS = 0 ∧
        t.sec.prog = none ∧ t = { s with regs := t.regs, sec := t.sec, fuse := t.fuse } ∧
        (a = 1 → t.fuse = { s.fuse with rollback := v }) ∧
        (a = 2 → t.fuse.slotValid = s.fuse.slotValid ||| (1#4 <<< k) ∧ (k < s.fuse.slotHash.length →
          t.fuse.slotHash.getD k [] = s.progData)) ∧
        (a = 3 → t.fuse = { s.fuse with slotRevoked := s.fuse.slotRevoked ||| (1#4 <<< k) }) ∧
        (a = 4 → t.fuse = { s.fuse with slotDebug := s.fuse.slotDebug ||| (1#4 <<< k) }) ∧
        (a = 5 → t.fuse = { s.fuse with debugLock := true })) ∧
      (∃ t, exec (.secProgDone false) s = .next t ∧ t.rd F.SEC_PROG_BUSY = 0 ∧ t.rd F.SEC_PROG_STATUS = 3 ∧
        t.sec.prog = none ∧ (3 ≤ a → t.fuse = s.fuse) ∧ (a = 2 → t.fuse.slotValid = s.fuse.slotValid) ∧
        (a = 1 → s.fuse.rollback < v → s.fuse.rollback ≤ t.fuse.rollback ∧ t.fuse.rollback < v))) ∧
    (exec .idcode s = .next { s with cmd := { s.cmd with
      jtagOut := toBytes 4 (s.fuse.dieRev % 16 * 2 ^ 28 + 0x4A08 * 2 ^ 12 + 0x6A5 * 2 + 1) } }) ∧
    (8 ≤ s.sec.fails → ∀ b, exec (.unlockChal b) s = .next s) ∧
    (s.sec.fails < 8 → ∀ b, ∃ t ch, exec (.unlockChal b) s = .next t ∧ t.sec = { s.sec with chal := some ch } ∧
      t.cmd = { s.cmd with jtagOut := ch } ∧ ch.length = 48 ∧ ch.take 8 = toBytes 8 s.fuse.serial.toNat ∧
      ch.drop 40 = b :: List.replicate 7 0 ∧ t = { s with sec := t.sec, cmd := t.cmd, free := t.free }) ∧
    (∀ b, (s.sec.chal = none ∨ s.fuse.debugLock = true ∨ b.length ≠ 96 ∨ s.debugKey (b.take 32) = false ∨
        (∀ ch, s.sec.chal = some ch → Ed.verify (b.take 32) ch (b.drop 32) = false)) →
      ∃ t, exec (.unlockResp b) s = .next t ∧ t.sec = { s.sec with chal := none, fails := s.sec.fails + 1 } ∧
        t.rd F.SEC_CNT_UNLOCK_FAIL = F.SEC_CNT_UNLOCK_FAIL.plus (s.rd F.SEC_CNT_UNLOCK_FAIL) 1 ∧
        t = { s with regs := t.regs, sec := t.sec } ∧ OnlyWrites [F.SEC_CNT_UNLOCK_FAIL.key 0 0] s t) ∧
    (∀ b ch, s.sec.chal = some ch → s.fuse.debugLock = false → b.length = 96 → s.debugKey (b.take 32) = true →
      Ed.verify (b.take 32) ch (b.drop 32) = true → ∃ t, exec (.unlockResp b) s = .next t ∧
        t.sec = { s.sec with chal := none } ∧ t.rd F.SEC_STAT_DBG_UNLOCKED = 1 ∧
        (byteField ch 40 1 = 1 ∨ byteField ch 40 1 = 2 →
          t.rd F.SEC_STAT_DBG_SCOPE = max (s.rd F.SEC_STAT_DBG_SCOPE) (byteField ch 40 1) % 4) ∧
        t = { s with regs := t.regs, sec := t.sec } ∧
        OnlyWrites [F.SEC_STAT_DBG_UNLOCKED.key 0 0, F.SEC_STAT_DBG_SCOPE.key 0 0] s t)
end

