-- ==== Sys2Proof/Laws/Sparse.lean ====
section
/-!
SUPPORT. What reading a sparse table gives after a write, and that a write keeps a table in canonical form.
-/
namespace Sys2Proof.Machine

variable {K V : Type} [DecidableEq K]

/-- Dropping a key from a listed entry and the rest: the entry goes where it has that key. -/
theorem Sparse.drop_cons (e : K × V) (t : List (K × V)) (k : K) :
    Sparse.drop (e :: t) k = if e.1 = k then Sparse.drop t k else e :: Sparse.drop t k := by
  unfold Sparse.drop
  rw [List.filter_cons]
  by_cases he : e.1 = k <;> simp [he]

/-- Dropping a key leaves every other key's value. -/
theorem Sparse.get_drop_ne (m : List (K × V)) {k j : K} (d : V) (h : j ≠ k) :
    Sparse.get (Sparse.drop m k) j d = Sparse.get m j d := by
  induction m with
  | nil => rfl
  | cons e t ih =>
    rw [Sparse.drop_cons]
    by_cases he : e.1 = k
    · have hj : ¬ e.1 = j := fun x => h (x.symm.trans he)
      rw [if_pos he, ih]; simp only [Sparse.get, if_neg hj]
    · rw [if_neg he]; simp only [Sparse.get, ih]

/-- A dropped key reads as its default. -/
theorem Sparse.get_drop_self (m : List (K × V)) (k : K) (d : V) : Sparse.get (Sparse.drop m k) k d = d := by
  induction m with
  | nil => rfl
  | cons e t ih =>
    rw [Sparse.drop_cons]
    by_cases he : e.1 = k
    · rw [if_pos he, ih]
    · rw [if_neg he]; simp only [Sparse.get, if_neg he, ih]

/-- An entry put into a table that does not list its key is read back. -/
theorem Sparse.get_put_self (lt : K → K → Bool) (m : List (K × V)) (k : K) (d v : V) (h : ∀ e ∈ m, e.1 ≠ k) :
    Sparse.get (Sparse.put lt m k v) k d = v := by
  induction m with
  | nil => simp [Sparse.put, Sparse.get]
  | cons e t ih =>
    have he : e.1 ≠ k := h e (by simp)
    unfold Sparse.put
    split
    · simp [Sparse.get]
    · simp [Sparse.get, he, ih (fun x hx => h x (List.mem_cons_of_mem _ hx))]

/-- An entry put into a table leaves every other key's value. -/
theorem Sparse.get_put_ne (lt : K → K → Bool) (m : List (K × V)) {k j : K} (d v : V) (h : j ≠ k) :
    Sparse.get (Sparse.put lt m k v) j d = Sparse.get m j d := by
  induction m with
  | nil => simp [Sparse.put, Sparse.get, Ne.symm h]
  | cons e t ih =>
    unfold Sparse.put
    split
    · simp [Sparse.get, Ne.symm h]
    · by_cases he : e.1 = j <;> simp [Sparse.get, he, ih]

variable [DecidableEq V]

/-- A value set is read back. -/
@[simp] theorem Sparse.get_set_self (lt : K → K → Bool) (m : List (K × V)) (k : K) (d v : V) :
    Sparse.get (Sparse.set lt m k d v) k d = v := by
  unfold Sparse.set
  split
  · rename_i h; rw [Sparse.get_drop_self, h]
  · exact Sparse.get_put_self lt _ k d v (fun e he => by simpa [Sparse.drop] using (List.mem_filter.mp he).2)

/-- A value set leaves every other key's value. -/
theorem Sparse.get_set_ne (lt : K → K → Bool) (m : List (K × V)) {k j : K} (d d' v : V) (h : j ≠ k) :
    Sparse.get (Sparse.set lt m k d v) j d' = Sparse.get m j d' := by
  unfold Sparse.set
  split
  · exact Sparse.get_drop_ne m d' h
  · rw [Sparse.get_put_ne lt _ d' v h, Sparse.get_drop_ne m d' h]

/-- Dropping a key keeps the canonical form. -/
theorem Sparse.wf_drop (lt : K → K → Bool) (d : V) (m : List (K × V)) (k : K) (h : Sparse.wf lt d m = true) :
    Sparse.wf lt d (Sparse.drop m k) = true := by
  induction m with
  | nil => rfl
  | cons e t ih =>
    simp only [Sparse.wf, Bool.and_eq_true] at h
    unfold Sparse.drop at *
    by_cases he : e.1 = k
    · simpa [List.filter, he] using ih h.2
    · have hf : List.filter (fun x => decide (x.1 ≠ k)) (e :: t) = e :: List.filter (fun x => decide (x.1 ≠ k)) t := by
        simp [List.filter, he]
      rw [hf]
      simp only [Sparse.wf, Bool.and_eq_true]
      refine ⟨⟨h.1.1, ?_⟩, ih h.2⟩
      rw [List.all_eq_true] at *
      exact fun x hx => h.1.2 x (List.mem_filter.mp hx).1

/-- An entry that is not the default, put into a table that does not list its key, keeps the canonical form, where the
order is total and transitive. -/
theorem Sparse.wf_put (lt : K → K → Bool) (d : V) (total : ∀ a b, lt a b = false → a ≠ b → lt b a = true)
    (trans : ∀ a b c, lt a b = true → lt b c = true → lt a c = true) (m : List (K × V)) (k : K) (v : V) (hv : v ≠ d)
    (hk : ∀ e ∈ m, e.1 ≠ k) (h : Sparse.wf lt d m = true) : Sparse.wf lt d (Sparse.put lt m k v) = true := by
  induction m with
  | nil => simp [Sparse.put, Sparse.wf, hv]
  | cons e t ih =>
    have h' := h
    simp only [Sparse.wf, Bool.and_eq_true, List.all_eq_true] at h
    have he : e.1 ≠ k := hk e (by simp)
    unfold Sparse.put
    split
    · rename_i hl
      simp only [Sparse.wf, Bool.and_eq_true, List.all_eq_true]
      refine ⟨⟨by simpa using hv, ?_⟩, ⟨⟨h.1.1, h.1.2⟩, h.2⟩⟩
      intro x hx
      rcases List.mem_cons.mp hx with rfl | hx
      · exact hl
      · exact trans _ _ _ hl (h.1.2 x hx)
    · rename_i hl
      have hl' : lt k e.1 = false := by simpa using hl
      simp only [Sparse.wf, Bool.and_eq_true, List.all_eq_true]
      refine ⟨⟨h.1.1, ?_⟩, ih (fun x hx => hk x (List.mem_cons_of_mem _ hx)) h.2⟩
      intro x hx
      have hx' : x = (k, v) ∨ x ∈ t := by
        clear ih h h' hk
        induction t with
        | nil => simpa [Sparse.put] using hx
        | cons y s ihs =>
          unfold Sparse.put at hx
          split at hx
          · simpa using hx
          · rcases List.mem_cons.mp hx with hx | hx
            · exact .inr (by simp [hx])
            · rcases ihs hx with hx | hx
              · exact .inl hx
              · exact .inr (List.mem_cons_of_mem _ hx)
      rcases hx' with rfl | hx'
      · exact total _ _ hl' (Ne.symm he)
      · exact h.1.2 x hx'

/-- A value set under a plain number keeps the canonical form. -/
theorem Sparse.wf_set (d : V) (m : List (Nat × V)) (k : Nat) (v : V) (h : Sparse.wf natLt d m = true) :
    Sparse.wf natLt d (Sparse.set natLt m k d v) = true := by
  unfold Sparse.set
  split
  · exact Sparse.wf_drop natLt d m k h
  · rename_i hv
    refine Sparse.wf_put natLt d ?_ ?_ _ k v hv (fun e he => by simpa [Sparse.drop] using (List.mem_filter.mp he).2)
      (Sparse.wf_drop natLt d m k h)
    · intro a b hab hne; simp [natLt] at *; omega
    · intro a b c hab hbc; simp [natLt] at *; omega

end Sys2Proof.Machine
end

