-- ==== Sys2Proof/Laws/State.lean ====
section
/-!
SUPPORT. What each primitive update of the state leaves as it was, field by field, and what a register field reads after
one.
-/
namespace Sys2Proof.Machine

@[simp] theorem State.wr_fuse (s : State) (f : Fld) (v u i : Nat) : (s.wr f v u i).fuse = s.fuse := rfl
@[simp] theorem State.wr_pins (s : State) (f : Fld) (v u i : Nat) : (s.wr f v u i).pins = s.pins := rfl
@[simp] theorem State.wr_mem (s : State) (f : Fld) (v u i : Nat) : (s.wr f v u i).mem = s.mem := rfl
@[simp] theorem State.wr_flips (s : State) (f : Fld) (v u i : Nat) : (s.wr f v u i).flips = s.flips := rfl
@[simp] theorem State.wr_time (s : State) (f : Fld) (v u i : Nat) : (s.wr f v u i).time = s.time := rfl
@[simp] theorem State.wr_cores (s : State) (f : Fld) (v u i : Nat) : (s.wr f v u i).cores = s.cores := rfl
@[simp] theorem State.wr_net (s : State) (f : Fld) (v u i : Nat) : (s.wr f v u i).net = s.net := rfl
@[simp] theorem State.wr_tinder (s : State) (f : Fld) (v u i : Nat) : (s.wr f v u i).tinder = s.tinder := rfl
@[simp] theorem State.wr_ash (s : State) (f : Fld) (v u i : Nat) : (s.wr f v u i).ash = s.ash := rfl
@[simp] theorem State.wr_drey (s : State) (f : Fld) (v u i : Nat) : (s.wr f v u i).drey = s.drey := rfl
@[simp] theorem State.wr_g6 (s : State) (f : Fld) (v u i : Nat) : (s.wr f v u i).g6 = s.g6 := rfl
@[simp] theorem State.wr_rx (s : State) (f : Fld) (v u i : Nat) : (s.wr f v u i).rx = s.rx := rfl
@[simp] theorem State.wr_ctx (s : State) (f : Fld) (v u i : Nat) : (s.wr f v u i).ctx = s.ctx := rfl
@[simp] theorem State.wr_tx (s : State) (f : Fld) (v u i : Nat) : (s.wr f v u i).tx = s.tx := rfl
@[simp] theorem State.wr_owl (s : State) (f : Fld) (v u i : Nat) : (s.wr f v u i).owl = s.owl := rfl
@[simp] theorem State.wr_cord (s : State) (f : Fld) (v u i : Nat) : (s.wr f v u i).cord = s.cord := rfl
@[simp] theorem State.wr_learn (s : State) (f : Fld) (v u i : Nat) : (s.wr f v u i).learn = s.learn := rfl
@[simp] theorem State.wr_cmd (s : State) (f : Fld) (v u i : Nat) : (s.wr f v u i).cmd = s.cmd := rfl
@[simp] theorem State.wr_pair (s : State) (f : Fld) (v u i : Nat) : (s.wr f v u i).pair = s.pair := rfl
@[simp] theorem State.wr_boot (s : State) (f : Fld) (v u i : Nat) : (s.wr f v u i).boot = s.boot := rfl
@[simp] theorem State.wr_spare (s : State) (f : Fld) (v u i : Nat) : (s.wr f v u i).spare = s.spare := rfl
@[simp] theorem State.wr_kiln (s : State) (f : Fld) (v u i : Nat) : (s.wr f v u i).kiln = s.kiln := rfl
@[simp] theorem State.wr_sec (s : State) (f : Fld) (v u i : Nat) : (s.wr f v u i).sec = s.sec := rfl
@[simp] theorem State.wr_free (s : State) (f : Fld) (v u i : Nat) : (s.wr f v u i).free = s.free := rfl
@[simp] theorem State.wr_pending (s : State) (f : Fld) (v u i : Nat) : (s.wr f v u i).pending = s.pending := rfl

@[simp] theorem State.wrB_fuse (s : State) (f : Fld) (b : Bool) (u i : Nat) : (s.wrB f b u i).fuse = s.fuse := rfl
@[simp] theorem State.wrB_pins (s : State) (f : Fld) (b : Bool) (u i : Nat) : (s.wrB f b u i).pins = s.pins := rfl
@[simp] theorem State.wrB_mem (s : State) (f : Fld) (b : Bool) (u i : Nat) : (s.wrB f b u i).mem = s.mem := rfl
@[simp] theorem State.wrB_flips (s : State) (f : Fld) (b : Bool) (u i : Nat) : (s.wrB f b u i).flips = s.flips := rfl
@[simp] theorem State.wrB_time (s : State) (f : Fld) (b : Bool) (u i : Nat) : (s.wrB f b u i).time = s.time := rfl
@[simp] theorem State.wrB_cores (s : State) (f : Fld) (b : Bool) (u i : Nat) : (s.wrB f b u i).cores = s.cores := rfl
@[simp] theorem State.wrB_net (s : State) (f : Fld) (b : Bool) (u i : Nat) : (s.wrB f b u i).net = s.net := rfl
@[simp] theorem State.wrB_tinder (s : State) (f : Fld) (b : Bool) (u i : Nat) : (s.wrB f b u i).tinder = s.tinder := rfl
@[simp] theorem State.wrB_ash (s : State) (f : Fld) (b : Bool) (u i : Nat) : (s.wrB f b u i).ash = s.ash := rfl
@[simp] theorem State.wrB_drey (s : State) (f : Fld) (b : Bool) (u i : Nat) : (s.wrB f b u i).drey = s.drey := rfl
@[simp] theorem State.wrB_g6 (s : State) (f : Fld) (b : Bool) (u i : Nat) : (s.wrB f b u i).g6 = s.g6 := rfl
@[simp] theorem State.wrB_rx (s : State) (f : Fld) (b : Bool) (u i : Nat) : (s.wrB f b u i).rx = s.rx := rfl
@[simp] theorem State.wrB_ctx (s : State) (f : Fld) (b : Bool) (u i : Nat) : (s.wrB f b u i).ctx = s.ctx := rfl
@[simp] theorem State.wrB_tx (s : State) (f : Fld) (b : Bool) (u i : Nat) : (s.wrB f b u i).tx = s.tx := rfl
@[simp] theorem State.wrB_owl (s : State) (f : Fld) (b : Bool) (u i : Nat) : (s.wrB f b u i).owl = s.owl := rfl
@[simp] theorem State.wrB_cord (s : State) (f : Fld) (b : Bool) (u i : Nat) : (s.wrB f b u i).cord = s.cord := rfl
@[simp] theorem State.wrB_learn (s : State) (f : Fld) (b : Bool) (u i : Nat) : (s.wrB f b u i).learn = s.learn := rfl
@[simp] theorem State.wrB_cmd (s : State) (f : Fld) (b : Bool) (u i : Nat) : (s.wrB f b u i).cmd = s.cmd := rfl
@[simp] theorem State.wrB_pair (s : State) (f : Fld) (b : Bool) (u i : Nat) : (s.wrB f b u i).pair = s.pair := rfl
@[simp] theorem State.wrB_boot (s : State) (f : Fld) (b : Bool) (u i : Nat) : (s.wrB f b u i).boot = s.boot := rfl
@[simp] theorem State.wrB_spare (s : State) (f : Fld) (b : Bool) (u i : Nat) : (s.wrB f b u i).spare = s.spare := rfl
@[simp] theorem State.wrB_kiln (s : State) (f : Fld) (b : Bool) (u i : Nat) : (s.wrB f b u i).kiln = s.kiln := rfl
@[simp] theorem State.wrB_sec (s : State) (f : Fld) (b : Bool) (u i : Nat) : (s.wrB f b u i).sec = s.sec := rfl
@[simp] theorem State.wrB_free (s : State) (f : Fld) (b : Bool) (u i : Nat) : (s.wrB f b u i).free = s.free := rfl
@[simp] theorem State.wrB_pending (s : State) (f : Fld) (b : Bool) (u i : Nat) : (s.wrB f b u i).pending = s.pending := rfl

@[simp] theorem State.inc_fuse (s : State) (f : Fld) (n u i : Nat) : (s.inc f n u i).fuse = s.fuse := rfl
@[simp] theorem State.inc_pins (s : State) (f : Fld) (n u i : Nat) : (s.inc f n u i).pins = s.pins := rfl
@[simp] theorem State.inc_mem (s : State) (f : Fld) (n u i : Nat) : (s.inc f n u i).mem = s.mem := rfl
@[simp] theorem State.inc_flips (s : State) (f : Fld) (n u i : Nat) : (s.inc f n u i).flips = s.flips := rfl
@[simp] theorem State.inc_time (s : State) (f : Fld) (n u i : Nat) : (s.inc f n u i).time = s.time := rfl
@[simp] theorem State.inc_cores (s : State) (f : Fld) (n u i : Nat) : (s.inc f n u i).cores = s.cores := rfl
@[simp] theorem State.inc_net (s : State) (f : Fld) (n u i : Nat) : (s.inc f n u i).net = s.net := rfl
@[simp] theorem State.inc_tinder (s : State) (f : Fld) (n u i : Nat) : (s.inc f n u i).tinder = s.tinder := rfl
@[simp] theorem State.inc_ash (s : State) (f : Fld) (n u i : Nat) : (s.inc f n u i).ash = s.ash := rfl
@[simp] theorem State.inc_drey (s : State) (f : Fld) (n u i : Nat) : (s.inc f n u i).drey = s.drey := rfl
@[simp] theorem State.inc_g6 (s : State) (f : Fld) (n u i : Nat) : (s.inc f n u i).g6 = s.g6 := rfl
@[simp] theorem State.inc_rx (s : State) (f : Fld) (n u i : Nat) : (s.inc f n u i).rx = s.rx := rfl
@[simp] theorem State.inc_ctx (s : State) (f : Fld) (n u i : Nat) : (s.inc f n u i).ctx = s.ctx := rfl
@[simp] theorem State.inc_tx (s : State) (f : Fld) (n u i : Nat) : (s.inc f n u i).tx = s.tx := rfl
@[simp] theorem State.inc_owl (s : State) (f : Fld) (n u i : Nat) : (s.inc f n u i).owl = s.owl := rfl
@[simp] theorem State.inc_cord (s : State) (f : Fld) (n u i : Nat) : (s.inc f n u i).cord = s.cord := rfl
@[simp] theorem State.inc_learn (s : State) (f : Fld) (n u i : Nat) : (s.inc f n u i).learn = s.learn := rfl
@[simp] theorem State.inc_cmd (s : State) (f : Fld) (n u i : Nat) : (s.inc f n u i).cmd = s.cmd := rfl
@[simp] theorem State.inc_pair (s : State) (f : Fld) (n u i : Nat) : (s.inc f n u i).pair = s.pair := rfl
@[simp] theorem State.inc_boot (s : State) (f : Fld) (n u i : Nat) : (s.inc f n u i).boot = s.boot := rfl
@[simp] theorem State.inc_spare (s : State) (f : Fld) (n u i : Nat) : (s.inc f n u i).spare = s.spare := rfl
@[simp] theorem State.inc_kiln (s : State) (f : Fld) (n u i : Nat) : (s.inc f n u i).kiln = s.kiln := rfl
@[simp] theorem State.inc_sec (s : State) (f : Fld) (n u i : Nat) : (s.inc f n u i).sec = s.sec := rfl
@[simp] theorem State.inc_free (s : State) (f : Fld) (n u i : Nat) : (s.inc f n u i).free = s.free := rfl
@[simp] theorem State.inc_pending (s : State) (f : Fld) (n u i : Nat) : (s.inc f n u i).pending = s.pending := rfl

@[simp] theorem State.top_fuse (s : State) (f : Fld) (v u i : Nat) : (s.top f v u i).fuse = s.fuse := rfl
@[simp] theorem State.top_pins (s : State) (f : Fld) (v u i : Nat) : (s.top f v u i).pins = s.pins := rfl
@[simp] theorem State.top_mem (s : State) (f : Fld) (v u i : Nat) : (s.top f v u i).mem = s.mem := rfl
@[simp] theorem State.top_flips (s : State) (f : Fld) (v u i : Nat) : (s.top f v u i).flips = s.flips := rfl
@[simp] theorem State.top_time (s : State) (f : Fld) (v u i : Nat) : (s.top f v u i).time = s.time := rfl
@[simp] theorem State.top_cores (s : State) (f : Fld) (v u i : Nat) : (s.top f v u i).cores = s.cores := rfl
@[simp] theorem State.top_net (s : State) (f : Fld) (v u i : Nat) : (s.top f v u i).net = s.net := rfl
@[simp] theorem State.top_tinder (s : State) (f : Fld) (v u i : Nat) : (s.top f v u i).tinder = s.tinder := rfl
@[simp] theorem State.top_ash (s : State) (f : Fld) (v u i : Nat) : (s.top f v u i).ash = s.ash := rfl
@[simp] theorem State.top_drey (s : State) (f : Fld) (v u i : Nat) : (s.top f v u i).drey = s.drey := rfl
@[simp] theorem State.top_g6 (s : State) (f : Fld) (v u i : Nat) : (s.top f v u i).g6 = s.g6 := rfl
@[simp] theorem State.top_rx (s : State) (f : Fld) (v u i : Nat) : (s.top f v u i).rx = s.rx := rfl
@[simp] theorem State.top_ctx (s : State) (f : Fld) (v u i : Nat) : (s.top f v u i).ctx = s.ctx := rfl
@[simp] theorem State.top_tx (s : State) (f : Fld) (v u i : Nat) : (s.top f v u i).tx = s.tx := rfl
@[simp] theorem State.top_owl (s : State) (f : Fld) (v u i : Nat) : (s.top f v u i).owl = s.owl := rfl
@[simp] theorem State.top_cord (s : State) (f : Fld) (v u i : Nat) : (s.top f v u i).cord = s.cord := rfl
@[simp] theorem State.top_learn (s : State) (f : Fld) (v u i : Nat) : (s.top f v u i).learn = s.learn := rfl
@[simp] theorem State.top_cmd (s : State) (f : Fld) (v u i : Nat) : (s.top f v u i).cmd = s.cmd := rfl
@[simp] theorem State.top_pair (s : State) (f : Fld) (v u i : Nat) : (s.top f v u i).pair = s.pair := rfl
@[simp] theorem State.top_boot (s : State) (f : Fld) (v u i : Nat) : (s.top f v u i).boot = s.boot := rfl
@[simp] theorem State.top_spare (s : State) (f : Fld) (v u i : Nat) : (s.top f v u i).spare = s.spare := rfl
@[simp] theorem State.top_kiln (s : State) (f : Fld) (v u i : Nat) : (s.top f v u i).kiln = s.kiln := rfl
@[simp] theorem State.top_sec (s : State) (f : Fld) (v u i : Nat) : (s.top f v u i).sec = s.sec := rfl
@[simp] theorem State.top_free (s : State) (f : Fld) (v u i : Nat) : (s.top f v u i).free = s.free := rfl
@[simp] theorem State.top_pending (s : State) (f : Fld) (v u i : Nat) : (s.top f v u i).pending = s.pending := rfl

@[simp] theorem State.setCore_fuse (s : State) (n : Nat) (c : CoreSt) : (s.setCore n c).fuse = s.fuse := rfl
@[simp] theorem State.setCore_pins (s : State) (n : Nat) (c : CoreSt) : (s.setCore n c).pins = s.pins := rfl
@[simp] theorem State.setCore_regs (s : State) (n : Nat) (c : CoreSt) : (s.setCore n c).regs = s.regs := rfl
@[simp] theorem State.setCore_mem (s : State) (n : Nat) (c : CoreSt) : (s.setCore n c).mem = s.mem := rfl
@[simp] theorem State.setCore_flips (s : State) (n : Nat) (c : CoreSt) : (s.setCore n c).flips = s.flips := rfl
@[simp] theorem State.setCore_time (s : State) (n : Nat) (c : CoreSt) : (s.setCore n c).time = s.time := rfl
@[simp] theorem State.setCore_net (s : State) (n : Nat) (c : CoreSt) : (s.setCore n c).net = s.net := rfl
@[simp] theorem State.setCore_tinder (s : State) (n : Nat) (c : CoreSt) : (s.setCore n c).tinder = s.tinder := rfl
@[simp] theorem State.setCore_ash (s : State) (n : Nat) (c : CoreSt) : (s.setCore n c).ash = s.ash := rfl
@[simp] theorem State.setCore_drey (s : State) (n : Nat) (c : CoreSt) : (s.setCore n c).drey = s.drey := rfl
@[simp] theorem State.setCore_g6 (s : State) (n : Nat) (c : CoreSt) : (s.setCore n c).g6 = s.g6 := rfl
@[simp] theorem State.setCore_rx (s : State) (n : Nat) (c : CoreSt) : (s.setCore n c).rx = s.rx := rfl
@[simp] theorem State.setCore_ctx (s : State) (n : Nat) (c : CoreSt) : (s.setCore n c).ctx = s.ctx := rfl
@[simp] theorem State.setCore_tx (s : State) (n : Nat) (c : CoreSt) : (s.setCore n c).tx = s.tx := rfl
@[simp] theorem State.setCore_owl (s : State) (n : Nat) (c : CoreSt) : (s.setCore n c).owl = s.owl := rfl
@[simp] theorem State.setCore_cord (s : State) (n : Nat) (c : CoreSt) : (s.setCore n c).cord = s.cord := rfl
@[simp] theorem State.setCore_learn (s : State) (n : Nat) (c : CoreSt) : (s.setCore n c).learn = s.learn := rfl
@[simp] theorem State.setCore_cmd (s : State) (n : Nat) (c : CoreSt) : (s.setCore n c).cmd = s.cmd := rfl
@[simp] theorem State.setCore_pair (s : State) (n : Nat) (c : CoreSt) : (s.setCore n c).pair = s.pair := rfl
@[simp] theorem State.setCore_boot (s : State) (n : Nat) (c : CoreSt) : (s.setCore n c).boot = s.boot := rfl
@[simp] theorem State.setCore_spare (s : State) (n : Nat) (c : CoreSt) : (s.setCore n c).spare = s.spare := rfl
@[simp] theorem State.setCore_kiln (s : State) (n : Nat) (c : CoreSt) : (s.setCore n c).kiln = s.kiln := rfl
@[simp] theorem State.setCore_sec (s : State) (n : Nat) (c : CoreSt) : (s.setCore n c).sec = s.sec := rfl
@[simp] theorem State.setCore_free (s : State) (n : Nat) (c : CoreSt) : (s.setCore n c).free = s.free := rfl
@[simp] theorem State.setCore_pending (s : State) (n : Nat) (c : CoreSt) : (s.setCore n c).pending = s.pending := rfl

@[simp] theorem State.setByte_fuse (s : State) (a : Nat) (v : Byte) : (s.setByte a v).fuse = s.fuse := rfl
@[simp] theorem State.setByte_pins (s : State) (a : Nat) (v : Byte) : (s.setByte a v).pins = s.pins := rfl
@[simp] theorem State.setByte_regs (s : State) (a : Nat) (v : Byte) : (s.setByte a v).regs = s.regs := rfl
@[simp] theorem State.setByte_flips (s : State) (a : Nat) (v : Byte) : (s.setByte a v).flips = s.flips := rfl
@[simp] theorem State.setByte_time (s : State) (a : Nat) (v : Byte) : (s.setByte a v).time = s.time := rfl
@[simp] theorem State.setByte_cores (s : State) (a : Nat) (v : Byte) : (s.setByte a v).cores = s.cores := rfl
@[simp] theorem State.setByte_net (s : State) (a : Nat) (v : Byte) : (s.setByte a v).net = s.net := rfl
@[simp] theorem State.setByte_tinder (s : State) (a : Nat) (v : Byte) : (s.setByte a v).tinder = s.tinder := rfl
@[simp] theorem State.setByte_ash (s : State) (a : Nat) (v : Byte) : (s.setByte a v).ash = s.ash := rfl
@[simp] theorem State.setByte_drey (s : State) (a : Nat) (v : Byte) : (s.setByte a v).drey = s.drey := rfl
@[simp] theorem State.setByte_g6 (s : State) (a : Nat) (v : Byte) : (s.setByte a v).g6 = s.g6 := rfl
@[simp] theorem State.setByte_rx (s : State) (a : Nat) (v : Byte) : (s.setByte a v).rx = s.rx := rfl
@[simp] theorem State.setByte_ctx (s : State) (a : Nat) (v : Byte) : (s.setByte a v).ctx = s.ctx := rfl
@[simp] theorem State.setByte_tx (s : State) (a : Nat) (v : Byte) : (s.setByte a v).tx = s.tx := rfl
@[simp] theorem State.setByte_owl (s : State) (a : Nat) (v : Byte) : (s.setByte a v).owl = s.owl := rfl
@[simp] theorem State.setByte_cord (s : State) (a : Nat) (v : Byte) : (s.setByte a v).cord = s.cord := rfl
@[simp] theorem State.setByte_learn (s : State) (a : Nat) (v : Byte) : (s.setByte a v).learn = s.learn := rfl
@[simp] theorem State.setByte_cmd (s : State) (a : Nat) (v : Byte) : (s.setByte a v).cmd = s.cmd := rfl
@[simp] theorem State.setByte_pair (s : State) (a : Nat) (v : Byte) : (s.setByte a v).pair = s.pair := rfl
@[simp] theorem State.setByte_boot (s : State) (a : Nat) (v : Byte) : (s.setByte a v).boot = s.boot := rfl
@[simp] theorem State.setByte_spare (s : State) (a : Nat) (v : Byte) : (s.setByte a v).spare = s.spare := rfl
@[simp] theorem State.setByte_kiln (s : State) (a : Nat) (v : Byte) : (s.setByte a v).kiln = s.kiln := rfl
@[simp] theorem State.setByte_sec (s : State) (a : Nat) (v : Byte) : (s.setByte a v).sec = s.sec := rfl
@[simp] theorem State.setByte_free (s : State) (a : Nat) (v : Byte) : (s.setByte a v).free = s.free := rfl
@[simp] theorem State.setByte_pending (s : State) (a : Nat) (v : Byte) : (s.setByte a v).pending = s.pending := rfl

@[simp] theorem State.setFlip_fuse (s : State) (a : Nat) (m : Code) : (s.setFlip a m).fuse = s.fuse := rfl
@[simp] theorem State.setFlip_pins (s : State) (a : Nat) (m : Code) : (s.setFlip a m).pins = s.pins := rfl
@[simp] theorem State.setFlip_regs (s : State) (a : Nat) (m : Code) : (s.setFlip a m).regs = s.regs := rfl
@[simp] theorem State.setFlip_mem (s : State) (a : Nat) (m : Code) : (s.setFlip a m).mem = s.mem := rfl
@[simp] theorem State.setFlip_time (s : State) (a : Nat) (m : Code) : (s.setFlip a m).time = s.time := rfl
@[simp] theorem State.setFlip_cores (s : State) (a : Nat) (m : Code) : (s.setFlip a m).cores = s.cores := rfl
@[simp] theorem State.setFlip_net (s : State) (a : Nat) (m : Code) : (s.setFlip a m).net = s.net := rfl
@[simp] theorem State.setFlip_tinder (s : State) (a : Nat) (m : Code) : (s.setFlip a m).tinder = s.tinder := rfl
@[simp] theorem State.setFlip_ash (s : State) (a : Nat) (m : Code) : (s.setFlip a m).ash = s.ash := rfl
@[simp] theorem State.setFlip_drey (s : State) (a : Nat) (m : Code) : (s.setFlip a m).drey = s.drey := rfl
@[simp] theorem State.setFlip_g6 (s : State) (a : Nat) (m : Code) : (s.setFlip a m).g6 = s.g6 := rfl
@[simp] theorem State.setFlip_rx (s : State) (a : Nat) (m : Code) : (s.setFlip a m).rx = s.rx := rfl
@[simp] theorem State.setFlip_ctx (s : State) (a : Nat) (m : Code) : (s.setFlip a m).ctx = s.ctx := rfl
@[simp] theorem State.setFlip_tx (s : State) (a : Nat) (m : Code) : (s.setFlip a m).tx = s.tx := rfl
@[simp] theorem State.setFlip_owl (s : State) (a : Nat) (m : Code) : (s.setFlip a m).owl = s.owl := rfl
@[simp] theorem State.setFlip_cord (s : State) (a : Nat) (m : Code) : (s.setFlip a m).cord = s.cord := rfl
@[simp] theorem State.setFlip_learn (s : State) (a : Nat) (m : Code) : (s.setFlip a m).learn = s.learn := rfl
@[simp] theorem State.setFlip_cmd (s : State) (a : Nat) (m : Code) : (s.setFlip a m).cmd = s.cmd := rfl
@[simp] theorem State.setFlip_pair (s : State) (a : Nat) (m : Code) : (s.setFlip a m).pair = s.pair := rfl
@[simp] theorem State.setFlip_boot (s : State) (a : Nat) (m : Code) : (s.setFlip a m).boot = s.boot := rfl
@[simp] theorem State.setFlip_spare (s : State) (a : Nat) (m : Code) : (s.setFlip a m).spare = s.spare := rfl
@[simp] theorem State.setFlip_kiln (s : State) (a : Nat) (m : Code) : (s.setFlip a m).kiln = s.kiln := rfl
@[simp] theorem State.setFlip_sec (s : State) (a : Nat) (m : Code) : (s.setFlip a m).sec = s.sec := rfl
@[simp] theorem State.setFlip_free (s : State) (a : Nat) (m : Code) : (s.setFlip a m).free = s.free := rfl
@[simp] theorem State.setFlip_pending (s : State) (a : Nat) (m : Code) : (s.setFlip a m).pending = s.pending := rfl

@[simp] theorem State.act_fuse (s : State) (e k n : Nat) : (s.act e k n).fuse = s.fuse := rfl
@[simp] theorem State.act_pins (s : State) (e k n : Nat) : (s.act e k n).pins = s.pins := rfl
@[simp] theorem State.act_regs (s : State) (e k n : Nat) : (s.act e k n).regs = s.regs := rfl
@[simp] theorem State.act_mem (s : State) (e k n : Nat) : (s.act e k n).mem = s.mem := rfl
@[simp] theorem State.act_flips (s : State) (e k n : Nat) : (s.act e k n).flips = s.flips := rfl
@[simp] theorem State.act_time (s : State) (e k n : Nat) : (s.act e k n).time = s.time := rfl
@[simp] theorem State.act_cores (s : State) (e k n : Nat) : (s.act e k n).cores = s.cores := rfl
@[simp] theorem State.act_net (s : State) (e k n : Nat) : (s.act e k n).net = s.net := rfl
@[simp] theorem State.act_tinder (s : State) (e k n : Nat) : (s.act e k n).tinder = s.tinder := rfl
@[simp] theorem State.act_ash (s : State) (e k n : Nat) : (s.act e k n).ash = s.ash := rfl
@[simp] theorem State.act_drey (s : State) (e k n : Nat) : (s.act e k n).drey = s.drey := rfl
@[simp] theorem State.act_g6 (s : State) (e k n : Nat) : (s.act e k n).g6 = s.g6 := rfl
@[simp] theorem State.act_rx (s : State) (e k n : Nat) : (s.act e k n).rx = s.rx := rfl
@[simp] theorem State.act_ctx (s : State) (e k n : Nat) : (s.act e k n).ctx = s.ctx := rfl
@[simp] theorem State.act_tx (s : State) (e k n : Nat) : (s.act e k n).tx = s.tx := rfl
@[simp] theorem State.act_owl (s : State) (e k n : Nat) : (s.act e k n).owl = s.owl := rfl
@[simp] theorem State.act_cord (s : State) (e k n : Nat) : (s.act e k n).cord = s.cord := rfl
@[simp] theorem State.act_learn (s : State) (e k n : Nat) : (s.act e k n).learn = s.learn := rfl
@[simp] theorem State.act_cmd (s : State) (e k n : Nat) : (s.act e k n).cmd = s.cmd := rfl
@[simp] theorem State.act_pair (s : State) (e k n : Nat) : (s.act e k n).pair = s.pair := rfl
@[simp] theorem State.act_boot (s : State) (e k n : Nat) : (s.act e k n).boot = s.boot := rfl
@[simp] theorem State.act_spare (s : State) (e k n : Nat) : (s.act e k n).spare = s.spare := rfl
@[simp] theorem State.act_sec (s : State) (e k n : Nat) : (s.act e k n).sec = s.sec := rfl
@[simp] theorem State.act_free (s : State) (e k n : Nat) : (s.act e k n).free = s.free := rfl
@[simp] theorem State.act_pending (s : State) (e k n : Nat) : (s.act e k n).pending = s.pending := rfl

@[simp] theorem State.report_fuse (s : State) (a k c x : Nat) : (s.report a k c x).fuse = s.fuse := rfl
@[simp] theorem State.report_pins (s : State) (a k c x : Nat) : (s.report a k c x).pins = s.pins := rfl
@[simp] theorem State.report_regs (s : State) (a k c x : Nat) : (s.report a k c x).regs = s.regs := rfl
@[simp] theorem State.report_mem (s : State) (a k c x : Nat) : (s.report a k c x).mem = s.mem := rfl
@[simp] theorem State.report_flips (s : State) (a k c x : Nat) : (s.report a k c x).flips = s.flips := rfl
@[simp] theorem State.report_time (s : State) (a k c x : Nat) : (s.report a k c x).time = s.time := rfl
@[simp] theorem State.report_cores (s : State) (a k c x : Nat) : (s.report a k c x).cores = s.cores := rfl
@[simp] theorem State.report_net (s : State) (a k c x : Nat) : (s.report a k c x).net = s.net := rfl
@[simp] theorem State.report_tinder (s : State) (a k c x : Nat) : (s.report a k c x).tinder = s.tinder := rfl
@[simp] theorem State.report_ash (s : State) (a k c x : Nat) : (s.report a k c x).ash = s.ash := rfl
@[simp] theorem State.report_drey (s : State) (a k c x : Nat) : (s.report a k c x).drey = s.drey := rfl
@[simp] theorem State.report_g6 (s : State) (a k c x : Nat) : (s.report a k c x).g6 = s.g6 := rfl
@[simp] theorem State.report_rx (s : State) (a k c x : Nat) : (s.report a k c x).rx = s.rx := rfl
@[simp] theorem State.report_ctx (s : State) (a k c x : Nat) : (s.report a k c x).ctx = s.ctx := rfl
@[simp] theorem State.report_tx (s : State) (a k c x : Nat) : (s.report a k c x).tx = s.tx := rfl
@[simp] theorem State.report_cord (s : State) (a k c x : Nat) : (s.report a k c x).cord = s.cord := rfl
@[simp] theorem State.report_learn (s : State) (a k c x : Nat) : (s.report a k c x).learn = s.learn := rfl
@[simp] theorem State.report_cmd (s : State) (a k c x : Nat) : (s.report a k c x).cmd = s.cmd := rfl
@[simp] theorem State.report_pair (s : State) (a k c x : Nat) : (s.report a k c x).pair = s.pair := rfl
@[simp] theorem State.report_boot (s : State) (a k c x : Nat) : (s.report a k c x).boot = s.boot := rfl
@[simp] theorem State.report_spare (s : State) (a k c x : Nat) : (s.report a k c x).spare = s.spare := rfl
@[simp] theorem State.report_kiln (s : State) (a k c x : Nat) : (s.report a k c x).kiln = s.kiln := rfl
@[simp] theorem State.report_sec (s : State) (a k c x : Nat) : (s.report a k c x).sec = s.sec := rfl
@[simp] theorem State.report_free (s : State) (a k c x : Nat) : (s.report a k c x).free = s.free := rfl
@[simp] theorem State.report_pending (s : State) (a k c x : Nat) : (s.report a k c x).pending = s.pending := rfl

@[simp] theorem State.stage_fuse (s : State) (a : Nat) (p : Packet) (w : Why) : (s.stage a p w).fuse = s.fuse := rfl
@[simp] theorem State.stage_pins (s : State) (a : Nat) (p : Packet) (w : Why) : (s.stage a p w).pins = s.pins := rfl
@[simp] theorem State.stage_regs (s : State) (a : Nat) (p : Packet) (w : Why) : (s.stage a p w).regs = s.regs := rfl
@[simp] theorem State.stage_mem (s : State) (a : Nat) (p : Packet) (w : Why) : (s.stage a p w).mem = s.mem := rfl
@[simp] theorem State.stage_flips (s : State) (a : Nat) (p : Packet) (w : Why) : (s.stage a p w).flips = s.flips := rfl
@[simp] theorem State.stage_time (s : State) (a : Nat) (p : Packet) (w : Why) : (s.stage a p w).time = s.time := rfl
@[simp] theorem State.stage_cores (s : State) (a : Nat) (p : Packet) (w : Why) : (s.stage a p w).cores = s.cores := rfl
@[simp] theorem State.stage_tinder (s : State) (a : Nat) (p : Packet) (w : Why) : (s.stage a p w).tinder = s.tinder := rfl
@[simp] theorem State.stage_ash (s : State) (a : Nat) (p : Packet) (w : Why) : (s.stage a p w).ash = s.ash := rfl
@[simp] theorem State.stage_drey (s : State) (a : Nat) (p : Packet) (w : Why) : (s.stage a p w).drey = s.drey := rfl
@[simp] theorem State.stage_g6 (s : State) (a : Nat) (p : Packet) (w : Why) : (s.stage a p w).g6 = s.g6 := rfl
@[simp] theorem State.stage_rx (s : State) (a : Nat) (p : Packet) (w : Why) : (s.stage a p w).rx = s.rx := rfl
@[simp] theorem State.stage_ctx (s : State) (a : Nat) (p : Packet) (w : Why) : (s.stage a p w).ctx = s.ctx := rfl
@[simp] theorem State.stage_tx (s : State) (a : Nat) (p : Packet) (w : Why) : (s.stage a p w).tx = s.tx := rfl
@[simp] theorem State.stage_owl (s : State) (a : Nat) (p : Packet) (w : Why) : (s.stage a p w).owl = s.owl := rfl
@[simp] theorem State.stage_cord (s : State) (a : Nat) (p : Packet) (w : Why) : (s.stage a p w).cord = s.cord := rfl
@[simp] theorem State.stage_learn (s : State) (a : Nat) (p : Packet) (w : Why) : (s.stage a p w).learn = s.learn := rfl
@[simp] theorem State.stage_cmd (s : State) (a : Nat) (p : Packet) (w : Why) : (s.stage a p w).cmd = s.cmd := rfl
@[simp] theorem State.stage_pair (s : State) (a : Nat) (p : Packet) (w : Why) : (s.stage a p w).pair = s.pair := rfl
@[simp] theorem State.stage_boot (s : State) (a : Nat) (p : Packet) (w : Why) : (s.stage a p w).boot = s.boot := rfl
@[simp] theorem State.stage_spare (s : State) (a : Nat) (p : Packet) (w : Why) : (s.stage a p w).spare = s.spare := rfl
@[simp] theorem State.stage_kiln (s : State) (a : Nat) (p : Packet) (w : Why) : (s.stage a p w).kiln = s.kiln := rfl
@[simp] theorem State.stage_sec (s : State) (a : Nat) (p : Packet) (w : Why) : (s.stage a p w).sec = s.sec := rfl
@[simp] theorem State.stage_free (s : State) (a : Nat) (p : Packet) (w : Why) : (s.stage a p w).free = s.free := rfl
@[simp] theorem State.stage_pending (s : State) (a : Nat) (p : Packet) (w : Why) : (s.stage a p w).pending = s.pending := rfl

/-- Fields of one register differ in their low bit, fields of different registers in its number. -/
theorem Fld.key_eq_iff (f g : Fld) (u i v j : Nat) :
    f.key u i = g.key v j ↔ f.reg.num = g.reg.num ∧ f.lo = g.lo ∧ u = v ∧ i = j := by
  unfold Fld.key; rw [Key.mk.injEq]

/-- A field written reads as the value, cut to its width. -/
@[simp] theorem State.rd_wr_self (s : State) (f : Fld) (v u i : Nat) : (s.wr f v u i).rd f u i = v % 2 ^ f.width :=
  Sparse.get_set_self ..

/-- A write of one field leaves every field with another key. -/
theorem State.rd_wr_ne (s : State) (f g : Fld) (v u i u' i' : Nat) (h : g.key u' i' ≠ f.key u i) :
    (s.wr f v u i).rd g u' i' = s.rd g u' i' := Sparse.get_set_ne _ _ _ _ _ h

/-- A counter counted up reads as the saturated or wrapped sum. -/
theorem State.rd_inc_self (s : State) (f : Fld) (n u i : Nat) (h : f.plus (s.rd f u i) n < 2 ^ f.width) :
    (s.inc f n u i).rd f u i = f.plus (s.rd f u i) n := by
  unfold State.inc; rw [State.rd_wr_self, Nat.mod_eq_of_lt h]

/-- What a counter counts to fits its field. -/
theorem Fld.plus_lt (f : Fld) (v n : Nat) : f.plus v n < 2 ^ f.width := by
  have h : 0 < 2 ^ f.width := Nat.two_pow_pos _
  unfold Fld.plus
  split
  · exact Nat.mod_lt _ h
  · omega

/-- A counter counted up, whatever it held. -/
@[simp] theorem State.rd_inc (s : State) (f : Fld) (n u i : Nat) : (s.inc f n u i).rd f u i = f.plus (s.rd f u i) n :=
  State.rd_inc_self s f n u i (f.plus_lt _ _)

/-- A core's record that was set is read back, and every other core keeps its own. -/
@[simp] theorem State.core_setCore_self (s : State) (n : Nat) (c : CoreSt) : (s.setCore n c).core n = c :=
  Sparse.get_set_self ..
theorem State.core_setCore_ne (s : State) {n m : Nat} (c : CoreSt) (h : m ≠ n) : (s.setCore n c).core m = s.core m :=
  Sparse.get_set_ne _ _ _ _ _ h

/-- Updates of other fields leave every register field. -/
theorem State.rd_of_regs {s t : State} (h : t.regs = s.regs) (f : Fld) (u i : Nat) : t.rd f u i = s.rd f u i := by
  unfold State.rd; rw [h]

end Sys2Proof.Machine
end

