-- ==== Sys2Proof/Laws/Commands.lean ====
section
/-!
SUPPORT. What serving a Drulum command does when it is taken at once: refused with its reason, or performed and answered;
what a reply on the I3C path adds; and what finishing a deferred command does.
-/
namespace Sys2Proof.Machine

/-- A ready device takes a command at once, with the grain as its stamp. -/
theorem takeCmd_of_ready {s : State} {c : HostCmd} (h : Ready s c) : s.takeCmd c = some (s.grain, false, s) := by
  obtain ⟨h1, h2, -, h4, h5, h6, h7, -, h9, -⟩ := h
  unfold State.takeCmd State.turn State.swapHolds
  simp [h1, h2, h4, h5, h6, h7, h9]

/-- The command counter leaves the power state as it was. -/
theorem took_state (s : State) : s.took.rd F.KILN_STAT_STATE = s.rd F.KILN_STAT_STATE :=
  State.rd_wr_ne _ _ _ _ _ _ _ _ (by decide)

/-- A ready device does not wake for the command. -/
theorem wakeFor_of_ready {s : State} {c : HostCmd} (h : Ready s c) : s.took.wakeFor c = s.took := by
  unfold State.wakeFor
  rw [took_state, if_neg]
  rintro ⟨h1, -, h3⟩
  simp [h.2.2.1 h1] at h3

/-- A command that a check refuses is counted and answered with the reason; nothing else of the row happens. -/
theorem serve_refused {s : State} {c : HostCmd} {k : Opcode} {r : Nat} (body : Nat → Bool → State → State × Result)
    (h : Ready s c) (ho : c.op = k.op) (hr : k.reason s.took c = some r) :
    s.serve k c body = (if r = 0x0D01 then s.took.inc F.CMD_CNT_CRC_ERR else s.took).answer c r [] := by
  unfold State.serve
  simp only [ho, ne_eq, not_true_eq_false, if_false, takeCmd_of_ready h]
  have hw : (s.inc F.CMD_CNT_CMDS).wakeFor c = s.took := wakeFor_of_ready h
  rw [hw, hr]

/-- A command that passes its checks is performed, and answered, deferred or put aside as an edit. -/
theorem serve_taken {s : State} {c : HostCmd} {k : Opcode} (body : Nat → Bool → State → State × Result)
    (h : Ready s c) (ho : c.op = k.op) (hr : k.reason s.took c = none) :
    s.serve k c body = (match (body s.grain false s.took).2 with
      | .done r d => (body s.grain false s.took).1.answer c r d
      | .later arg => { (body s.grain false s.took).1 with cmd := { (body s.grain false s.took).1.cmd with
          deferred := (body s.grain false s.took).1.cmd.deferred ++ [⟨k.op, c.word0, c.ackReq, c.path, arg⟩] } }
      | .edit => (body s.grain false s.took).1) := by
  unfold State.serve
  simp only [ho, ne_eq, not_true_eq_false, if_false, takeCmd_of_ready h]
  have hw : (s.inc F.CMD_CNT_CMDS).wakeFor c = s.took := wakeFor_of_ready h
  rw [hw, hr]
  all_goals rfl

/-- A packet of another opcode leaves the row without effect. -/
theorem serve_other {s : State} {c : HostCmd} {k : Opcode} (body : Nat → Bool → State → State × Result) (h : c.op ≠ k.op) :
    s.serve k c body = s := by
  unfold State.serve; rw [if_pos h]

/-- A reply that finds a place, with none waiting before it, enters the reply FIFO with its IBI. -/
theorem place_one {x : CmdSt} (b : List Byte) (h : x.replies.length < 4) (hw : x.replyWait = []) :
    CmdSt.place { x with replyWait := x.replyWait ++ [b] } =
      { x with replies := x.replies ++ [b], ibiReply := x.ibiReply + 1 } := by
  have h1 : min 1 (4 - x.replies.length) = 1 := by omega
  simp [CmdSt.place, hw, h1]

/-- An OK reply outside the in-band path that finds a place: only the reply FIFO and its pending event change, and a plain OK
that nobody asked for changes nothing. -/
theorem answer_ok {s : State} {c : HostCmd} {data : List Byte} (h : c.path ≠ .inband) (hl : s.cmd.replies.length < 4)
    (hw : s.cmd.replyWait = []) :
    s.answer c 0 data = if data = [] ∧ c.ackReq = false then s else
      { s with cmd := { s.cmd with
          replies := s.cmd.replies ++ [replyBytes c.word0 0 0 data], ibiReply := s.cmd.ibiReply + 1 } } := by
  unfold State.answer State.sendReply
  have h0 : statusOf 0 = 0 := rfl
  have hp := place_one (x := s.cmd) (replyBytes c.word0 0 0 data) hl hw
  simp only [h0, if_true, hp]
  cases hc : c.path <;> cases ha : c.ackReq <;> by_cases hd : data = [] <;> simp_all

/-- No deferred command of an opcode: nothing is finished. -/
theorem finish_none {s : State} {op : Nat} (r : Nat) (d : List Byte) (h : s.cmd.deferred.find? (fun x => x.op == op) = none) :
    s.finish op r d = s := by
  unfold State.finish; rw [h]

end Sys2Proof.Machine
end

