-- ==== Sys2Proof/Laws/Memory.lean ====
section
/-!
SUPPORT. Every operation that stores to memory keeps its canonical form, and the memory of `State.reset` has it.
-/
namespace Sys2Proof.Machine

/-- Memory after reset is in canonical form. -/
theorem reset_mem_wf : State.reset.memWf = true := rfl

/-- A byte stored keeps the form. -/
theorem State.setByte_wf (s : State) (a : Nat) (v : Byte) (h : s.memWf = true) :
    (s.setByte a v).memWf = true := Sparse.wf_set 0 s.mem a v h

/-- Bytes stored keep the form. -/
theorem State.setBytes_wf (vs : List Byte) : ∀ (s : State) (a : Nat), s.memWf = true →
    (s.setBytes a vs).memWf = true := by
  induction vs with
  | nil => exact fun _ _ h => h
  | cons b bs ih => exact fun s a h => ih _ _ (s.setByte_wf a b h)

/-- A word stored keeps the form. -/
theorem State.setWord_wf (s : State) (a : Nat) (w : Word) (h : s.memWf = true) :
    (s.setWord a w).memWf = true := by
  have hw := State.setBytes_wf (toBytes 8 w.toNat) s a h
  unfold State.setWord
  generalize s.setBytes a (toBytes 8 w.toNat) = t at hw ⊢
  exact hw

/-- Words stored keep the form. -/
theorem State.setWords_wf (s : State) (a : Nat) (ws : List Word) (h : s.memWf = true) :
    (s.setWords a ws).memWf = true := by
  unfold State.setWords
  generalize ws.zipIdx = l
  induction l generalizing s with
  | nil => exact h
  | cons p l ih =>
    rw [List.foldl_cons]
    exact ih _ (State.setWord_wf _ _ _ h)

/-- A byte stored is read back. -/
@[simp] theorem State.byte_setByte_self (s : State) (a : Nat) (v : Byte) : (s.setByte a v).byte a = v :=
  Sparse.get_set_self ..

/-- A byte stored leaves every other byte. -/
theorem State.byte_setByte_ne (s : State) {a b : Nat} (v : Byte) (h : b ≠ a) : (s.setByte a v).byte b = s.byte b :=
  Sparse.get_set_ne _ _ _ _ _ h

/-- The upset bits of a codeword that were set are read back, and others stay. -/
@[simp] theorem State.flip_setFlip_self (s : State) (a : Nat) (m : Code) : (s.setFlip a m).flip a = m :=
  Sparse.get_set_self ..
theorem State.flip_setFlip_ne (s : State) {a b : Nat} (m : Code) (h : b ≠ a) : (s.setFlip a m).flip b = s.flip b :=
  Sparse.get_set_ne _ _ _ _ _ h

end Sys2Proof.Machine
end

