-- ==== Sys2Proof/Machine/Pins.lean ====
section
/-!
DEFINITION. Pins, rails, balls and the clock tree: what the device drives on each output in a state, and the constants of the
package (18_electrical_and_package.md R461 to R479, 16_power_clocks_thermal.md R421, 06_encoders_decoders_and_actuation.md R182).
-/
namespace Sys2Proof.Machine

/-- A clock (16 R421). -/
inductive Clock where
  | fab | arith | boost | ctl | grain
  deriving DecidableEq, Repr

/-- Root cycles of 3.2 GHz in one cycle of a clock (16 R421). -/
def Clock.divider : Clock → Nat
  | .fab => 5
  | .arith => 10
  | .boost => 8
  | .ctl => 20
  | .grain => 3200

/-- The seven supply rails (18 R462). -/
inductive Rail where
  | vddCore | vddSram | vddAon | vddPhy | vddDphy | vddqG6 | vddIo
  deriving DecidableEq, Repr

/-- The rail's number in `PinSt.rails`, in DATA of boot stage 0 (14_bringup_loading_spares.md R372) and in
RAIL_OUT_OF_RANGE. -/
def Rail.bit : Rail → Nat
  | .vddCore => 0
  | .vddSram => 1
  | .vddAon => 2
  | .vddPhy => 3
  | .vddDphy => 4
  | .vddqG6 => 5
  | .vddIo => 6

/-- Highest voltage that does not stress the rail, in mV; the lowest is -300 (18 R461). -/
def Rail.rating : Rail → Nat
  | .vddCore | .vddSram | .vddAon => 950
  | .vddPhy => 1050
  | .vddDphy => 1400
  | .vddqG6 => 1500
  | .vddIo => 2160

/-- Nominal voltage in mV, with VDD_CORE at its set point, and tolerance in percent (18 R462). -/
def Rail.nominal (setPoint : Nat) : Rail → Nat × Nat
  | .vddCore => (setPoint, 3)
  | .vddSram => (800, 3)
  | .vddAon => (800, 5)
  | .vddPhy => (900, 3)
  | .vddDphy => (1200, 5)
  | .vddqG6 => (1350, 3)
  | .vddIo => (1800, 5)

/-- Whether a voltage in µV lies within the operating conditions (18 R462). -/
def Rail.within (setPoint : Nat) (r : Rail) (uv : Nat) : Bool :=
  let n := r.nominal setPoint
  decide (n.1 * 10 * (100 - n.2) ≤ uv) && decide (uv ≤ n.1 * 10 * (100 + n.2))

/-- The set point that the board must hold VDD_CORE at: 0.75 V until the first rise of RUN_EN, from then on VID (18 R463). -/
def State.coreSetPoint (s : State) (hasRun : Bool) : Nat := if hasRun then s.fuse.vid else 750

/-- The current that the board must supply on a rail, in mA, by CHIP_ID.VARIANT (18 R472). -/
def Rail.current (r : Rail) (variant : Nat) : Nat :=
  let pick (a b c : Nat) : Nat := match variant with | 1 => a | 2 => b | _ => c
  match r with
  | .vddCore => pick 30000 18000 11000
  | .vddSram => pick 6000 3500 2000
  | .vddAon => pick 200 200 200
  | .vddPhy => pick 3000 2600 1400
  | .vddDphy => pick 800 600 350
  | .vddqG6 => pick 2500 2500 1300
  | .vddIo => pick 150 150 150

/-- The low-speed pins (18 R475). -/
inductive Pin where
  | i3cScl | i3cSda | ospiClk | ospiCsN | ospiDqs | ospiDq (i : Nat) | syncIn | syncOut | pairRole | pairHbIn | pairHbOut
  | pairFenceIn | pairFenceOut | pairPermitIn | quenchN | faultN | din (i : Nat) | resetN | wake | tck | tms | tdi | tdo | trstN
  | act (a : Nat) | testEn | refclkP | refclkN | coreSns | vssSns
  deriving DecidableEq, Repr

/-- Type of a pin (18 R475). -/
inductive PinType where
  | input | output | openDrain | inOut | i3c | hcsl | sense
  deriving DecidableEq, Repr

def Pin.type : Pin → PinType
  | .i3cScl | .i3cSda => .i3c
  | .ospiClk | .ospiCsN | .syncOut | .pairHbOut | .tdo | .act _ => .output
  | .pairFenceOut | .faultN => .openDrain
  | .ospiDq _ => .inOut
  | .refclkP | .refclkN => .hcsl
  | .coreSns | .vssSns => .sense
  | .ospiDqs | .syncIn | .pairRole | .pairHbIn | .pairFenceIn | .pairPermitIn | .quenchN | .din _ | .resetN | .wake | .tck
  | .tms | .tdi | .trstN | .testEn => .input

/-- The internal pull of a pin, present at all times: true = up (18 R475). -/
def Pin.pull : Pin → Option Bool
  | .ospiCsN | .quenchN | .resetN | .tms | .tdi => some true
  | .wake | .tck | .trstN | .testEn => some false
  | _ => none

/-- The fail-safe pins (18 R467). -/
def Pin.failSafe (p : Pin) : Bool := [Pin.pairFenceIn, .pairFenceOut, .pairHbIn, .pairPermitIn, .syncIn].contains p

/-- What a pin of the device does to its net. -/
inductive Drive where
  | low | high | highZ
  deriving DecidableEq, Repr

def levelDrive (b : Bool) : Drive := if b then .high else .low

/-- What the device drives on a pin while no transfer is under way on it: in reset, before power-good and in OFF every output is
high-impedance (18 R466, R475); from power-good on each ACT line is driven, low while no model runs (06 R182), the open-drain
pins pull low or are released (13 R347, 15 R417), and OSPI_CLK is driven from stage 2.  The idle levels of OSPI_CLK and
OSPI_CS_N are DEDUCED (log entry 118). -/
def State.pinDrive (s : State) (p : Pin) : Drive :=
  if !s.boot.up then .highZ
  else match p with
    | .act a => if a < 16 then levelDrive (Nat.testBit (s.rd F.ACT_STAT_LEVEL) a) else .highZ
    | .syncOut => levelDrive s.pins.syncOut
    | .pairHbOut => levelDrive s.pins.hbOut
    | .pairFenceOut => if s.pins.fenceOut then .highZ else .low
    | .faultN => if s.pins.faultN then .highZ else .low
    | .ospiClk => if 2 ≤ s.boot.stage then .low else .highZ
    | .ospiCsN => .high
    | _ => .highZ

/-- What stands on the net of a pin with no other driver: a driven level, else the level of the internal pull. -/
def State.netLevel (s : State) (p : Pin) : Option Bool :=
  match s.pinDrive p with
  | .low => some false
  | .high => some true
  | .highZ => p.pull

/-- Whether an input of `uv` µV reads high, low or neither at a VDD_IO in µV (18 R467). -/
def inputLevel (vddIo uv : Nat) : Option Bool :=
  if 65 * vddIo ≤ 100 * uv then some true else if 100 * uv ≤ 35 * vddIo then some false else none

/-- Output levels in µV at 8 mA: the least high of a push-pull output and the greatest low (18 R467). -/
def outputHigh (vddIo : Nat) : Nat := vddIo - 450000
def outputLow : Nat := 450000

/-- A reference clock: frequency error in ppm, differential swing and crossing voltage in mV, duty cycle in percent, phase
jitter in fs, and whether its spectrum is spread. -/
structure RefClock where
  ppm : Int
  swing : Nat
  crossing : Nat
  duty : Nat
  jitter : Nat
  spread : Bool
  deriving DecidableEq, Repr

/-- Whether a reference meets 18 R468. -/
def RefClock.ok (r : RefClock) : Bool :=
  decide (r.ppm.natAbs ≤ 100) && decide (300 ≤ r.swing) && decide (r.swing ≤ 1500) && decide (250 ≤ r.crossing) &&
    decide (r.crossing ≤ 550) && decide (45 ≤ r.duty) && decide (r.duty ≤ 55) && decide (r.jitter ≤ 1000) && !r.spread

/-- Whether a low pulse of `ns` on QUENCH_N fires the tree, is ignored, or lies between, where the rule says neither (18
R471). -/
def quenchPulse (ns : Nat) : Option Bool := if 50 ≤ ns then some true else if ns < 20 then some false else none

/-- Longest delay in ns of an output after the event that changes it (18 R471): ACT and SYNC_OUT after their grain edge,
PAIR_HB_OUT after the frame's first, PAIR_FENCE_OUT's release after a device fence. -/
def Pin.delay : Pin → Option Nat
  | .act _ | .syncOut | .pairHbOut => some 20
  | .pairFenceOut => some 2000
  | _ => none

/-- The letters of a ball row, by row index from 1 (18 R473). -/
def rowLetters (i : Nat) : String :=
  let one := ["A", "B", "C", "D", "E", "F", "G", "H", "J", "K", "L", "M", "N", "P", "T", "U", "V", "W", "Y"]
  if i ≤ 19 then one.getD (i - 1) ""
  else if i ≤ 27 then "A" ++ one.getD (i - 20) ""
  else if i ≤ 38 then "A" ++ one.getD (i - 20) ""
  else "B" ++ one.getD (i - 39) ""

/-- A ball: row index and column, both from 1 to 41; its name (18 R473). -/
structure Ball where
  row : Nat
  col : Nat
  deriving DecidableEq, Repr

def Ball.name (b : Ball) : String := rowLetters b.row ++ toString b.col

/-- A GDDR6 signal of one channel of one device (18 R477). -/
inductive G6Sig where
  | dq (d : Nat) | edc (k : Nat) | dbi (k : Nat) | wck (k : Nat) (c : Bool) | ck (c : Bool) | ca (k : Nat) | ckeN
  deriving DecidableEq, Repr

/-- The function of a ball. -/
inductive BallUse where
  | supply (r : Rail)
  | vss
  | pin (p : Pin)
  /-- Lane 0 is the clock lane, lane k + 1 is data lane k; `n` is the N ball. -/
  | lane (tx : Bool) (port lane : Nat) (n : Bool)
  | rcal
  | g6 (group dev : Nat) (sig : G6Sig)
  | g6ResetN
  | g6Zq (k : Nat)
  deriving DecidableEq, Repr

/-- The cell of a device block of group 0: block row 1 to 8, column 1 to 6 (18 R477). -/
def blockCell (dev row col : Nat) : BallUse :=
  let s (x : G6Sig) : BallUse := .g6 0 dev x
  let v : BallUse := .vss
  let q : BallUse := .supply .vddqG6
  let cells : List BallUse := match row with
    | 1 => [s (.dq 0), s (.dq 1), v, s (.dq 2), s (.dq 3), q]
    | 2 => [s (.dq 4), s (.dq 5), s (.edc 0), s (.dq 6), s (.dq 7), v]
    | 3 => [s (.wck 0 false), s (.wck 0 true), s (.dbi 0), v, s (.ca 0), s (.ca 1)]
    | 4 => [q, s (.ca 2), s (.ca 3), s (.ca 4), s .ckeN, v]
    | 5 => [s (.ck false), s (.ck true), s (.ca 5), s (.ca 6), s (.ca 7), q]
    | 6 => [s (.wck 1 false), s (.wck 1 true), s (.dbi 1), v, s (.ca 8), s (.ca 9)]
    | 7 => [s (.dq 8), s (.dq 9), s (.edc 1), s (.dq 10), s (.dq 11), q]
    | _ => [s (.dq 12), s (.dq 13), v, s (.dq 14), s (.dq 15), q]
  cells.getD (col - 1) v

/-- The codeword bit that DQ `d` of device `k` carries (18 R477, 10_memory_system.md R276). -/
def dqBit (k d : Nat) : Nat := 16 * k + d

/-- The same cell in a group: the CK pair lies in group 0's block, and is VSS in group 1's (18 R477). -/
def groupCell (g dev row col : Nat) : BallUse :=
  match blockCell dev row col with
  | .g6 _ _ (.ck c) => if g = 0 then .g6 0 dev (.ck c) else .vss
  | .g6 _ _ x => .g6 g dev x
  | u => u

/-- Low-speed balls of rows BA, BB and BC, columns 9 to 33 (18 R475). -/
def lowSpeed (row col : Nat) : BallUse :=
  match row with
  | 39 =>
    if col = 9 ∨ col = 33 then .supply .vddIo
    else if 15 ≤ col ∧ col ≤ 22 then .pin (.ospiDq (col - 15))
    else match col with
      | 10 => .pin .i3cScl
      | 11 => .pin .i3cSda
      | 12 => .pin .ospiClk
      | 13 => .pin .ospiCsN
      | 14 => .pin .ospiDqs
      | 23 => .pin .syncIn
      | 24 => .pin .syncOut
      | 25 => .pin .pairRole
      | 26 => .pin .pairHbIn
      | 27 => .pin .pairHbOut
      | 28 => .pin .pairFenceIn
      | 29 => .pin .pairFenceOut
      | 30 => .pin .pairPermitIn
      | 31 => .pin .quenchN
      | _ => .pin .faultN
  | 40 =>
    if col = 9 ∨ col = 33 then .vss
    else if col ≤ 25 then .pin (.din (col - 10))
    else match col with
      | 26 => .pin .resetN
      | 27 => .pin .wake
      | 28 => .pin .tck
      | 29 => .pin .tms
      | 30 => .pin .tdi
      | 31 => .pin .tdo
      | _ => .pin .trstN
  | _ =>
    if col = 9 ∨ col = 33 then .supply .vddIo
    else if col ≤ 25 then .pin (.act (col - 10))
    else match col with
      | 26 => .pin .testEn
      | 27 | 32 => .supply .vddAon
      | 28 => .pin .refclkP
      | 29 => .pin .refclkN
      | 30 => .pin .coreSns
      | _ => .pin .vssSns

/-- The CSI-2 regions: the rows of a region that hold lanes, with the first port of the row pair and whether they are N rows
(18 R476). -/
def laneRow (row : Nat) : Option (Bool × Nat × Bool) :=
  match row with
  | 1 => some (false, 0, false)
  | 2 => some (false, 0, true)
  | 4 => some (false, 3, false)
  | 5 => some (false, 3, true)
  | 34 => some (true, 0, false)
  | 35 => some (true, 0, true)
  | 37 => some (true, 2, false)
  | 38 => some (true, 2, true)
  | _ => none

def csiBall (row col : Nat) : BallUse :=
  if row = 3 ∧ col = 9 then .rcal
  else match laneRow row with
    | none => .vss
    | some (tx, first, n) =>
      if 25 ≤ col ∧ col ≤ 28 then .supply .vddDphy
      else if 10 ≤ col ∧ col < (if tx then 20 else 25) then .lane tx (first + (col - 10) / 5) ((col - 10) % 5) n
      else .vss

/-- Core region: rows 6 to 33, columns 9 to 33 (18 R474). -/
def coreBall (row col : Nat) : BallUse :=
  if (row + col) % 2 = 0 then .vss
  else if col = 9 ∨ col = 10 ∨ col = 32 ∨ col = 33 then .supply .vddPhy
  else if row % 4 = 0 then .supply .vddSram
  else .supply .vddCore

/-- The function of a ball (18 R474). -/
def Ball.use (b : Ball) : BallUse :=
  if b.col ≤ 8 ∨ 34 ≤ b.col then
    if b.row = 41 then
      if b.col = 1 then .g6ResetN else if b.col = 2 then .g6Zq 0 else if b.col = 41 then .g6Zq 1 else .vss
    else if b.col ≤ 6 then groupCell 0 ((b.row - 1) / 8) ((b.row - 1) % 8 + 1) b.col
    else if 36 ≤ b.col then groupCell 1 ((b.row - 1) / 8) ((b.row - 1) % 8 + 1) (42 - b.col)
    else if (b.row + b.col) % 2 = 1 then .supply .vddqG6 else .vss
  else if b.row ≤ 5 ∨ (34 ≤ b.row ∧ b.row ≤ 38) then csiBall b.row b.col
  else if b.row ≤ 33 then coreBall b.row b.col
  else lowSpeed b.row b.col

/-- The package outline, in µm: body edge, ball pitch, span of the outer ball centres, edge to outer ball centre, ball diameter,
greatest seated height, least stand-off, lid edge (18 R478). -/
structure Outline where
  body : Nat := 35000
  pitch : Nat := 800
  span : Nat := 32000
  margin : Nat := 1500
  ball : Nat := 450
  height : Nat := 3200
  standOff : Nat := 300
  lid : Nat := 33000
  deriving DecidableEq, Repr

/-- Thermal resistances in 1/100 °C/W: junction to lid top and junction to board (18 R479). -/
def thetaJC : Nat := 8
def thetaJB : Nat := 250

end Sys2Proof.Machine
end

