-- ==== Sys2Proof/Tests/Slice0.lean ====
section
/-!
SUPPORT. Small states and commands, and for the hypotheses of each statement the states that meet them; then tests of
`WellFormed` and of single steps.
-/
namespace Sys2Proof.Tests
open Sys2Proof Sys2Proof.Machine

set_option Elab.async false

/-- The CRC-32C of bytes, forced byte by byte, as the kernel can evaluate it over a long list. -/
def strictCrc : List Byte → Nat → Nat
  | [], n => n
  | b :: bs, n => match (crc32cByte (BitVec.ofNat 32 n) b).toNat with
    | 0 => strictCrc bs 0
    | m + 1 => strictCrc bs (m + 1)

theorem strictCrc_eq (bs : List Byte) (c : BitVec 32) : strictCrc bs c.toNat = (bs.foldl crc32cByte c).toNat := by
  induction bs generalizing c with
  | nil => rfl
  | cons b bs ih =>
    have h : ∀ n, (match n with | 0 => strictCrc bs 0 | m + 1 => strictCrc bs (m + 1)) = strictCrc bs n := by
      intro n; cases n <;> rfl
    simp only [strictCrc, h, List.foldl_cons, ← ih, BitVec.ofNat_toNat, BitVec.setWidth_eq]

theorem plain_strict : strictCrc FuseSt.plain.bytes 0xFFFFFFFF = 0xD3F81E90 := by decide +kernel

theorem plain_crc : FuseSt.plain.crcOk = true := by
  have h := strictCrc_eq FuseSt.plain.bytes 0xFFFFFFFF#32
  have h2 : (0xFFFFFFFF#32).toNat = 0xFFFFFFFF := rfl
  rw [h2, plain_strict] at h
  have h3 : FuseSt.plain.bytes.foldl crc32cByte 0xFFFFFFFF#32 = 0xD3F81E90#32 :=
    BitVec.eq_of_toNat_eq (by rw [← h]; rfl)
  unfold FuseSt.crcOk crc32c
  rw [h3]
  decide

/-- A state with one register field written. -/
def set (f : Fld) (v : Nat) (s : State) (u : Nat := 0) (i : Nat := 0) : State := s.wr f v u i

/-- A Drulum packet with its trailer (12 R325); `z` stands in a byte that has to be zero. -/
def W.pkt (op plen major target : Nat) (params : List Byte) (z : Nat) : HostCmd :=
  let b := toBytes 2 7 ++ toBytes 1 op ++ toBytes 1 major ++ toBytes 1 z ++ toBytes 1 1 ++ toBytes 2 plen ++
    toBytes 8 target ++ params
  ⟨.i3cSdr, b ++ toBytes 4 (crc32c b).toNat⟩
def W.cmd0 (op : Nat) : HostCmd := W.pkt op 0 1 0 [] 0
def W.cPar4 (op v : Nat) : HostCmd := W.pkt op 4 1 0 (toBytes 4 v) 0
def W.cHello : HostCmd := W.pkt 0x01 8 1 0 [1, 0, 0, 0, 0, 0, 0, 0] 0
def W.cIdent : HostCmd := W.cmd0 0x02
def W.cMemRead : HostCmd := W.pkt 0x0A 4 1 (sramAddr 1023 32767) [8, 0, 0, 0] 0
def W.cMemWrite : HostCmd := W.pkt 0x0B 8 1 0 [1, 2, 3, 4, 5, 6, 7, 8] 0
def W.cLoadOpen : HostCmd := W.pkt 0x10 16 1 0 (toBytes 8 0x1000000000 ++ toBytes 4 4096 ++ toBytes 2 7 ++ [0, 0]) 0
def W.cClear (src kind : Nat) : HostCmd := W.pkt 0x21 4 1 0 (toBytes 2 src ++ toBytes 1 kind ++ [0]) 0
def W.cForce (src kind : Nat) : HostCmd := W.pkt 0x22 8 1 0 (toBytes 2 src ++ toBytes 1 kind ++ [1] ++ toBytes 4 9) 0
def W.cFw (action : Nat) : HostCmd :=
  W.pkt 0x3C 16 1 0 (toBytes 8 0x1000000000 ++ toBytes 4 256 ++ toBytes 4 action) 0
def W.cAttest : HostCmd := W.pkt 0x03 40 1 0 (List.replicate 32 0 ++ toBytes 8 0x1000000000) 0
def W.cSnap : HostCmd := W.pkt 0x31 24 1 0 ([7, 1] ++ toBytes 2 1 ++ toBytes 2 14 ++ [0, 0] ++ toBytes 8 0x1000000000 ++
  toBytes 2 0 ++ toBytes 2 0 ++ toBytes 2 1 ++ [0, 0]) 0

/-- A device at READY with every feature agreed, standing. -/
def W.ready : State :=
  set F.CMD_FEAT_FEATURES 63 { State.reset with boot := { State.reset.boot with up := true, stage := 9 } }

/-- A device in step 0, whose input window has closed. -/
def W.opened : State :=
  let s := set F.CHIP_CTRL_RUN_EN 1 W.ready
  { s with time := { s.time with phase := .opened, winClosed := 1 } }

/-- Core 0 is loaded and its update runs. -/
def W.busy : State := set F.CORE_STAT_UPD_BUSY 1 (set F.CORE_STAT_LOADED 1 W.opened)
def W.stretch : State := { W.opened with time := { W.opened.time with phase := .stretch } }
def W.late : State := { W.busy with time := { W.busy.time with phase := .stretch } }
def W.hang : State := { W.busy with time := { W.busy.time with phase := .hang } }
def W.free : State := set F.TIME_CTRL_MODE 1 W.busy
def W.sync : State :=
  let s := set F.TIME_SYNC_CFG_MAX_ERR 10 (set F.TIME_CTRL_SYNC_MODE 3 W.ready)
  { s with time := { s.time with syncKnown := true } }
def W.load : State :=
  let s := set F.TIME_CTRL_SYNC_MODE 2 W.ready
  { s with time := { s.time with syncArmed := true } }

/-- A contact edge of channel 3, and a device that has stamped it. -/
def W.edge : Input := ⟨0, 3, 0, 3, 1, 1, 0, 0, 0, false, true, 0⟩
def W.input : State :=
  let s := set F.TND_CHAN_A_WORD (9 * 2 ^ 60 + 2 ^ 59) W.opened 0 3
  { s with tinder := { s.tinder with inputs := [W.edge] } }
def W.replay : State :=
  let s := set F.TND_CTRL_REPLAY_EN 1 (set F.TIME_CTRL_MODE 1 W.opened)
  { s with tinder := { s.tinder with winOpen := true } }
def W.replay2 : State :=
  let s := set F.TND_REPLAY_END_ADDR 0x1000000008 (W.replay.setWord 0x1000000000 2)
  { s with tinder := { s.tinder with replayAt := 0x1000000000 } }
def W.replay3 : State := { W.replay2 with time := { W.replay2.time with winClosed := 3 } }
def W.replayBad : State := W.replay2.setFlip 0x1000000000 7

/-- RX port 0 with context 0 on its VC 1. -/
def W.rx : State :=
  set F.CSIRX_CTX_CFG_LOSS_FR 1 (set F.CSIRX_CTX_CFG_DT 0x30 (set F.CSIRX_CTX_CFG_VC 1 (set F.CSIRX_CTX_CFG_EN 1
    (set F.CSIRX_PORT_CFG_EN 1 W.ready))))
def W.rxRun : State := set F.CHIP_CTRL_RUN_EN 1 W.rx

def W.spike : Packet := mkPacket 1 0 0x1F22 1 3 0 []
def W.ash : State := set F.ASH_LINE_CNT_LINE_COUNT 8 (set F.ASH_DEC_CFG_KIND 1 W.opened)
def W.ashReplay : State :=
  let s := set F.PAIR_STAT_PHASE 2 W.ash
  { s with pair := { s.pair with replay := [.overload 0 ⟨6, true, agAsh, 0x1F22, 3, 1, 0, 0⟩] } }
def W.rec : AshRec := ⟨0, 0, 0, true, 0, [some 5], false, false, false, ⟨false, false, false⟩⟩
def W.record : State :=
  let s := set F.ASH_DEC_CFG_Q_EN 1 W.ready
  { s with ash := { s.ash with recs := [W.rec] } }
def W.meters : State :=
  let s := set F.TND_CHAN_A_WORD (2 ^ 58) (set F.ASH_METER_CFG_Q_EN 1 W.ready) 0 4095
  { s with tinder := { s.tinder with meterDue := [⟨0, 0, ⟨false, false, false⟩⟩] } }
def W.open0 : AshRec := { W.rec with closed := false, vals := [none] }
def W.open1 : AshRec := { W.rec with vals := [none] }
def W.waiting : State := { W.ready with ash := { W.ready.ash with recs := [W.open1] } }
def W.act : State :=
  let s := set F.ACT_STAT_LEVEL 1 (set F.ACT_ARM_ARM 0x8000 W.opened)
  { s with ash := { s.ash with actDue := [⟨15, 5, 0⟩], decisions := [⟨0, 0, true, true⟩], pulseEnd := [(0, 9)] } }

/-- Packets of the network. -/
def W.pkReserved : Packet := mkPacket 0 0 0x1F20 0 0 0 []
def W.pkNobody : Packet := mkPacket 2 0x1E00 0x1F20 0 0 0 [5]
def W.pkNobodyAck : Packet := mkPacket 8 0x1F20 0 0 0 0 []
def W.pkRacc : Packet := mkPacket 1 5 0x1F22 1 0 0 []
def W.pkRwr (w : Nat) : Packet := mkPacket 2 1023 7 0 w 0 [5]
def W.pkRrd (w : Nat) : Packet := mkPacket 3 1023 7 0 w 1 []
def W.pkRadd (w : Nat) : Packet := mkPacket 4 1023 7 1 w 0 [0x1FFFFFFFF]
def W.pkAck : Packet := mkPacket 8 5 0 0 0 1 []
def W.pkData : Packet := mkPacket 9 0x1F23 0 0 0 0 [5]
def W.pkCtl (dest hi : Nat) (data : List Word) : Packet := mkPacket 15 dest 0x1F20 0 0 hi data
def W.tinReady : State := { W.opened with tinder := { W.opened.tinder with ready := [⟨1, W.pkRacc⟩] } }
def W.hop1 : Buf := ⟨0, 0, 0, 1, 1⟩
def W.flight : Flight := ⟨7, W.pkRacc, 0x1F22, false, [W.hop1], [], [], 1, ⟨1, 1, 0⟩, none, none, [], 0⟩
def W.fly : State := { W.opened with net := { W.opened.net with flights := [W.flight] } }
def W.fly3 : State := { W.opened with net := { W.opened.net with flights := [{ W.flight with replay := [(0, 3)] }] } }
def W.flies : State := { W.opened with
  net := { W.opened.net with flights := [{ W.flight with id := 8, pkt := { W.pkRacc with tag := 2 } }, W.flight] } }
def W.tokens : State := { W.opened with net := { W.opened.net with tokens := [⟨1087, 3, 0x3FF, true, 63⟩] } }
def W.den : State := W.opened.onCore 1023 (fun c => { c with den := [⟨W.spike, false, 4, 0⟩] })
def W.released : State := W.opened.onCore 1023 (fun c => { c with denOut := [⟨W.spike, true, 4, 0⟩] })
def W.landed : State := W.opened.onCore 0 (fun c => { c with landing := [⟨W.spike, false, 4, 0⟩] })
def W.held : State := set F.CORE_PART_STATE_SIZE 1 W.busy
def W.heldWrite : State := W.opened.onCore 0 (fun c => { c with held := [W.pkRwr 0] })
def W.heldMem : State := { W.opened with cmd := { W.opened.cmd with memHeld := [(0, 5, 9)] } }
def W.heldRead : State := W.opened.onCore 0 (fun c => { c with heldReads := [W.pkRrd 0] })
def W.tid : Tid := ⟨5, 0, 2, 0, 0, false, false, 1, 1, .plain, 0⟩
def W.asked : State := { W.opened with net := { W.opened.net with tids := [W.tid] } }
def W.tidRead : Tid := ⟨0x1F23, 0, 3, 0, 0, false, false, 1, 1, .ashRead 0 0 0 1 1, 0⟩
def W.reads : State := { W.opened with
  net := { W.opened.net with tids := [W.tidRead] }, ash := { W.opened.ash with recs := [W.open0] } }
def W.drain : State := W.opened.onCore 0 (fun c => { c with drain := [W.pkCtl 0 6 []] })
def W.fan : State :=
  (set F.CORE_GRP_OUT_FAN_PER 1 (W.opened.setWord 0 0x40000000)).onCore 0 (fun c => { c with spikes := [⟨0, 0, 0, 1⟩] })
def W.upset : State := (W.opened.setFlip (sramAddr 0 32767) 2).onCore 0 (fun c => { c with patrol := 32767 })

/-- States of the command window. -/
def W.mem : State := W.ready
def W.pair : State := set F.PAIR_CFG_MIRROR_EN 1 W.opened
def W.window : State :=
  let s := set F.BOOT_LOAD_WIN_BASE 0x1000000000 (set F.BOOT_LOAD_WIN_XFER 7 (set F.BOOT_LOAD_STAT_OPEN 1 W.ready))
  { s with boot := { s.boot with windowLen := 4096 } }
def W.fault : State :=
  set F.OWL_ST_KEY_KIND 0x31 (set F.OWL_ST_KEY_SOURCE 0x700 (set F.OWL_ST_KEY_VALID 1 W.ready))

/-- Cords, queues and mailboxes. -/
def W.cord : State := set F.CORD_CTRL_RUNS 1 W.opened
def W.cordLate : State :=
  let s := set F.CORD_PORT_CNT_LOCAL_OUT 1 (set F.SPARE_MAP_VALID 1 (set F.CORD_CTRL_MISS_THR 1 W.cord))
  { s.onCore 0 (fun c => { c with recv := [⟨0, 5⟩] }) with cord := { s.cord with full := [0] } }
def W.fullMiss (s : State) : State := { s with drey := { s.drey with miss := List.replicate 256 (.cmd 1 0x10000) } }
def W.cordAt (s : State) : State := s.advance ((s.time.begun + (s.firstCord + 1024 * s.cord.cord) / 640) % 2 ^ 64)
def W.cordGone : State :=
  let s := set F.PAIR_STAT_PHASE 2 W.cord
  { s with pair := { s.pair with replay := [.overload 0 ⟨4, true, agCollier, s.cord.runs, 0, 0, 0, s.step % 2 ^ 32⟩] } }
def W.mapped : State := set F.SPARE_MAP_TILE 833 (set F.SPARE_MAP_VALID 1 W.ready 7 1023) 7 1023
def W.header (o : Nat) (ws : List Word) : Word :=
  BitVec.ofNat 64 (o * 2 ^ 62 + if o = 0 then 2 ^ 25 + 8 * ws.length else 0)
def W.push (o : Nat) (ws : List Word) : Packet := mkPacket 5 agDrey 3 0 0 1 (W.header o ws :: ws)
def W.desc : Desc := ⟨0x10000, BitVec.ofNat 64 (64 * 2 ^ 48 + 0x1010000000 + 12 * 4 + 1),
  BitVec.ofNat 64 (2 ^ 63 + 3 * 2 ^ 34 + 0x1FFF * 2 ^ 21), 0, 0⟩
def W.queue : State :=
  let s := set F.DREY_QSEL_QID 0x10000 (set F.DREY_DESC_BASE_ADDR 0x1000000000 W.opened)
  { s with drey := { s.drey with cache := [W.desc] } }
def W.unbound : State := { W.queue with drey := { W.queue.drey with cache := [{ W.desc with w0 := 0 }] } }
def W.descComb : Desc := ⟨0x10001, 2, BitVec.ofNat 64 (2 ^ 63 + 0x1FFF * 2 ^ 21), 0, 0⟩
def W.combs : State := { W.opened with drey := { W.opened.drey with cache := [W.descComb] } }
def W.pkComb : Packet := mkPacket 6 agDrey 3 1 1 1 [0, 0x500000003]
def W.entry (st : ReasmState) : Reasm := ⟨0, 0x10000, 0, false, 200, 2, 1, 0, 0, 0, 0, st⟩
def W.reasm (st : ReasmState) : State := { W.opened with drey := { W.opened.drey with reasm := [W.entry st] } }
def W.missed : State :=
  let s := set F.MEM_STAT_FAILED 1 (set F.MEM_STAT_FAILED 1 W.opened) 1
  { s with drey := { s.drey with miss := [.pkt (W.push 0 [1])] } }
def W.mail (ws : List Word) : Packet := mkPacket 5 0 3 0 0 0 (W.header 0 ws :: ws)
def W.boxWord : Word := BitVec.ofNat 64 (2 ^ 62 + 2 ^ 61 + 0x1FFF * 2 ^ 19 + 3 * 2 ^ 15 + 2)
def W.box : State := set F.CORE_PART_MBX_SIZE 16 (W.opened.setWord 0 W.boxWord)

/-- GDDR6 groups, domains and ports. -/
def W.g6q (k : Packet) : State :=
  (set F.CLK_STAT_G6_LOCK 3 W.opened).onG6 1 (fun x => { x with queue := [⟨k, 0, 0, false⟩] })
def W.g6Write : Packet := mkPacket 2 0x1F12 3 0 0 0 [0x1000000080, 5]
def W.g6Half : Packet := mkPacket 2 0x1F12 3 0 0 2 [0x1000000080, 5]
def W.g6ReadPkt : Packet := mkPacket 3 0x1F12 3 0 0 1 [0x1000000080]
def W.g6AddPkt : Packet := mkPacket 4 0x1F12 3 1 0 0 [0x1000000080, 5]
def W.asleep : State :=
  let s := set F.MEM_STAT_SELF_REF 1 (set F.KILN_GATE_ENG 0x80 W.opened) 1
  { s with kiln := { s.kiln with gated := [5], waking := [.core 6] } }
def W.lane (s : State) : State :=
  set F.CLK_STAT_TX_LOCK 8 (set F.CSITX_PORT_CFG_RATE 100 (set F.CSITX_PORT_CFG_EN 1 s 3) 3)
def W.port : State := (W.lane W.ready).onTx 3 (fun t => { t with blocks := [⟨.result, 2, 0x31, [1, 2]⟩] })
def W.blowing (v : Nat) : State :=
  let s := set F.SEC_PROG_BUSY 1 W.ready
  { s with sec := { s.sec with prog := some (1, 0, v) } }

/-- The bus, boot, Owl and Kiln. -/
def W.bus : State := set F.I3C_STAT_IBI_EN 1 (set F.I3C_STAT_DA_VALID 1 W.ready)
def W.boot : State := { W.ready with boot := { W.ready.boot with stage := 1 } }
def W.lost : State := { State.reset with
  kiln := { State.reset.kiln with clockLost := true }, pins := { State.reset.pins with rails := 0x7F } }
def W.off : State := { State.reset with
  kiln := { State.reset.kiln with offState := true }, pins := { State.reset.pins with rails := 0x7F } }
def W.tripped : State := { W.ready with kiln := { W.ready.kiln with tripped := true } }
def W.msg : Msg := ⟨0x740, 0x60, 0, 0, false, 0⟩
def W.staged : State := { W.opened with owl := { W.opened.owl with staged := [W.msg] } }
def W.queued : State := { W.opened with owl := { W.opened.owl with fifo := [W.msg] } }
def W.reacting : State := { W.opened with owl := { W.opened.owl with active := [⟨15, W.msg, 3⟩] } }
def W.watched : State :=
  let s := set F.OWL_WDOG_EN 1 W.ready
  { s with boot := { s.boot with fw := some ⟨1, 0, 0, 0, [], []⟩ } }
def W.recal (n : Nat) : State := { W.opened with
  kiln := { W.opened.kiln with recal := some ⟨n, List.replicate 9 1, List.replicate 9 0⟩ } }
def W.young : State := set F.SPARE_CTRL_AGE_EN 0 W.ready
def W.idle : State := set F.KILN_CTRL_AUTO_IDLE 1 W.opened

/-- The pair. -/
def W.send : State := set F.PAIR_CKPT_CFG_STREAM_MBPS 1 (W.lane W.pair)
def W.agree : State :=
  let s := set F.CHIP_CTRL_RUN_EN 0 W.send
  { s with time := { s.time with phase := .off } }
def W.watch : State := set F.PAIR_STAT_SB_STATE 1 W.pair
def W.silent : State :=
  set F.PAIR_STAT_ENG_READY 255 (set F.PAIR_STAT_ROLE 1 (set F.PAIR_STAT_SB_STATE 2 W.pair))
def W.alone : State := set F.PAIR_STAT_SB_STATE 3 (set F.PAIR_STAT_ENG_READY 255 (set F.PAIR_STAT_ROLE 1
  (set F.PAIR_CFG_MIRROR_EN 1 W.ready)))
def W.follow : State := set F.PAIR_STAT_ROLE 1 W.pair
def W.away : State :=
  let s := set F.PAIR_STAT_PHASE 1 W.follow
  { s with time := { s.time with phase := .away }, pair := { s.pair with copying := some W.ready.snapshotCkpt } }
def W.replays : State := set F.PAIR_STAT_PHASE 2 W.opened
def W.leader : State := set F.PAIR_STAT_ENG_READY 255 W.opened

/-- Spares, firmware, attestation, learning and the unlock. -/
def W.spent : State := (List.range 5).foldl (fun s k => set F.SPARE_DEFECT_CORE_DEFECT 0xFFFFFFFF s 7 k) W.mapped
def W.swap : Swap := ⟨1023, [], 0, false, none, false⟩
def W.swapping : State := { W.mapped with spare := { W.mapped.spare with queue := [W.swap] } }
def W.written : State := { W.ready with
  boot := { W.ready.boot with update := some (0x1000000000, 256, 1) }
  cmd := { W.ready.cmd with deferred := [⟨0x3C, 0, true, .i3cSdr, 0⟩] } }
def W.report : State := { W.ready with
  sec := { W.ready.sec with attest := some ⟨[], 0x1000000000⟩ }
  cmd := { W.ready.cmd with deferred := [⟨0x03, 0, true, .i3cSdr, 0⟩] } }
def W.learns : State := set F.LRN_REGION_STATE 1 W.ready 0 7
def W.epochs : State := set F.LRN_REGION_EPOCH_STEPS 4 W.opened 0 7
def W.partition : State := set F.CORE_PART_SYN_SIZE 16 W.ready
def W.snap : Snap := ⟨7, 1, 14, 0, 0x1000000000, [(0, 0, 1)], 2 ^ 64 - 1, 0, true, none⟩
def W.copying : State := { W.ready with
  learn := { W.ready.learn with snap := some W.snap }
  cmd := { W.ready.cmd with deferred := [⟨0x31, 0, true, .i3cSdr, 0⟩] } }
def W.ident : List Byte := 1 :: List.replicate 31 0
def W.unlocking : State := { W.ready with
  sec := { W.ready.sec with chal := some (List.replicate 48 0) }, fuse := { W.ready.fuse with rootHash := sha512 W.ident } }

/-- A fold that always answers some value. -/
theorem foldl_isSome {f : Option Nat → Nat → Option Nat} (hf : ∀ b p, (f b p).isSome = true) :
    ∀ (l : List Nat) (b : Option Nat), l ≠ [] ∨ b.isSome = true → (l.foldl f b).isSome = true
  | [], b, h => by simpa using h
  | p :: l, b, _ => foldl_isSome hf l (f b p) (.inr (hf b p))

/-- A core has a spare where its engine has a free tile. -/
theorem spareFor_isSome {s : State} {n p : Nat} (h1 : p ∈ tilesOf (n / 128)) (h2 : s.coreAt p = none)
    (h3 : (!s.coreDefect p && !s.routerDefect p && !s.retired p) = true) : (s.spareFor n).isSome = true := by
  have hp : p ∈ s.freeSpares (n / 128) := List.mem_filter.mpr ⟨h1, by rw [h2]; simpa using h3⟩
  unfold State.spareFor
  refine foldl_isSome ?_ _ _ (.inl (List.ne_nil_of_mem hp))
  intro b q
  cases b with
  | none => rfl
  | some r => dsimp only; split <;> rfl

/-- A core has no spare where every tile of its engine is defective. -/
theorem spareFor_none {s : State} {n : Nat} (h : ∀ p ∈ tilesOf (n / 128), s.coreDefect p = true) :
    s.spareFor n = none := by
  have hp : s.freeSpares (n / 128) = [] := List.filter_eq_nil_iff.mpr (fun p hp => by simp [h p hp])
  unfold State.spareFor
  rw [hp]; rfl

theorem witness_StepTakesTheFrontCommand : ∃ (c : Instr) (rest : List Instr) (s : State), s.pending = c :: rest :=
  ⟨.enthdr0, [.hdrExit], { State.reset with pending := [.enthdr0, .hdrExit] }, rfl⟩

theorem witness_EmptyQueuePassesOneGrain_runs :
    (W.ready.pending = [] ∧ W.ready.counts = true) ∧ (W.ready.time.phase ≠ .armed ∧ W.ready.time.phase ≠ .between) := by
  decide +kernel
theorem witness_EmptyQueuePassesOneGrain_arm : W.ready.pending = [] ∧
    ({ W.ready with ash := { W.ready.ash with armNext := some 3 } }).ash.armNext = some 3 := by decide +kernel
theorem witness_EmptyQueuePassesOneGrain_stands : State.reset.pending = [] ∧ State.reset.counts = false := by
  decide +kernel

theorem witness_MemoryKeepsItsCanonicalForm : State.reset.memWf = true := by decide

theorem witness_StepsCloseAtTheirEndOrLate_end : W.opened.time.phase = .opened ∧ W.opened.spare.queue = [] ∧
    W.opened.freeRun = false ∧ (W.opened.advance (W.opened.startOf (W.opened.step + 1))).allDone = true := by
  decide +kernel
theorem witness_StepsCloseAtTheirEndOrLate_end_late : W.busy.time.phase = .opened ∧ W.busy.spare.queue = [] ∧
    W.busy.freeRun = false ∧ (W.busy.advance (W.busy.startOf (W.busy.step + 1))).allDone = false := by decide +kernel
theorem witness_StepsCloseAtTheirEndOrLate_end_off : W.ready.time.phase = .off ∧ W.ready.spare.queue = [] := by
  decide +kernel
theorem witness_StepsCloseAtTheirEndOrLate_stretch : W.stretch.allDone = true ∧ W.stretch.freeRun = false ∧
    W.stretch.time.phase = .stretch ∧ W.stretch.spare.queue = [] := by decide +kernel
theorem witness_StepsCloseAtTheirEndOrLate_stretch_free : (W.opened.wr F.TIME_CTRL_MODE 1).allDone = true ∧
    (W.opened.wr F.TIME_CTRL_MODE 1).freeRun = true ∧ (W.opened.wr F.TIME_CTRL_MODE 1).time.phase = .opened ∧
    (W.opened.wr F.TIME_CTRL_MODE 1).spare.queue = [] ∧ (W.opened.wr F.TIME_CTRL_MODE 1).freeEnd.all
      (fun g => reached g ((W.opened.wr F.TIME_CTRL_MODE 1).advance 1).grain) = true ∧
    (set F.TIME_GRAIN_GRAIN 5000000 (W.opened.wr F.TIME_CTRL_MODE 1)).allDone = true ∧
    (set F.TIME_GRAIN_GRAIN 5000000 (W.opened.wr F.TIME_CTRL_MODE 1)).freeEnd.all
      (fun g => reached g ((set F.TIME_GRAIN_GRAIN 5000000 (W.opened.wr F.TIME_CTRL_MODE 1)).advance 5000001).grain) = false := by
  decide +kernel
theorem witness_StepsCloseAtTheirEndOrLate_stretch_budget :
    (W.stretch.advance ((W.stretch.startOf (W.stretch.step + 1) + W.stretch.budget) % 2 ^ 64)).allDone = true ∧
    W.late.allDone = false ∧ W.late.time.phase = .stretch ∧ W.late.spare.queue = [] ∧
    (W.late.advance ((W.late.startOf (W.late.step + 1) + W.late.budget) % 2 ^ 64)).allDone = false := by decide +kernel

theorem witness_ForcedClosesMaskAndReport : W.hang.time.phase = .hang ∧ W.hang.unfinished = [0] ∧
    W.hang.spare.queue = [] ∧ (set F.CORE_STAT_UPD_BUSY 0 W.hang).unfinished = [] ∧
    (set F.TIME_GRAIN_GRAIN 9 (set F.CORE_STAT_UPD_BUSY 0 W.hang)).grain ≠ W.hang.time.hangFrom := by decide +kernel
theorem witness_ForcedClosesMaskAndReport_free : W.free.freeRun = true ∧ W.free.time.phase = .opened ∧
    W.free.rd F.TIME_CTRL_FREE_LIMIT ≠ 0 ∧ W.free.rd F.PAIR_STAT_PHASE ≠ 2 ∧ W.free.spare.queue = [] ∧
    (W.free.advance ((W.free.time.begun + 1000 * W.free.rd F.TIME_CTRL_FREE_LIMIT) % 2 ^ 64)).allDone = false ∧
    (W.free.advance ((W.free.time.begun + 1000 * W.free.rd F.TIME_CTRL_FREE_LIMIT) % 2 ^ 64)).unfinished ≠ [] := by
  decide +kernel

theorem witness_RunEnableWritesStartAndStop : 8 ≤ W.ready.boot.stage ∧ W.ready.on F.CHIP_CTRL_CHECK_BUSY = false ∧
    W.ready.running = false ∧ W.opened.on F.CHIP_CTRL_CHECK_BUSY = false ∧ W.opened.running = true ∧
    State.reset.boot.stage < 8 := by decide +kernel

theorem witness_ConfigurationCheckEnds_idle : W.ready.on F.CHIP_CTRL_CHECK_BUSY = false := by decide +kernel
theorem witness_ConfigurationCheckEnds_fails : ∃ x,
    (W.ready.wr F.CHIP_CTRL_CHECK_BUSY 1).on F.CHIP_CTRL_CHECK_BUSY = true ∧
    firstFailure ((W.ready.wr F.CHIP_CTRL_CHECK_BUSY 1).examined.2.checkClasses
      (W.ready.wr F.CHIP_CTRL_CHECK_BUSY 1).examined.1) = some x := ⟨(0x0A, 1, 0), by decide +kernel⟩

theorem witness_MissedAndFarSyncEdgesLoseLock : W.sync.rd F.TIME_CTRL_SYNC_MODE ≠ 0 ∧ W.sync.time.syncKnown = true ∧
    W.sync.time.syncArmed = false ∧
    (rootSpan (W.sync.grain * 3200 + 32 % 3200) W.sync.time.syncExpect).natAbs = 32 ∧
    W.sync.rd F.TIME_SYNC_CFG_MAX_ERR * 3200 <
      (rootSpan ((W.sync.wr F.TIME_GRAIN_GRAIN 11).grain * 3200 + 0 % 3200) W.sync.time.syncExpect).natAbs := by
  decide +kernel

theorem witness_SyncInEdgesMeasureLoadAndSlew : W.ready.rd F.TIME_CTRL_SYNC_MODE = 0 ∧
    W.sync.rd F.TIME_CTRL_SYNC_MODE = 3 ∧ W.sync.time.syncKnown = true ∧ W.sync.time.syncArmed = false ∧
    W.load.rd F.TIME_CTRL_SYNC_MODE = 2 ∧ W.load.time.syncArmed = true ∧ W.load.running = false ∧
    W.load.time.syncKnown = false := by decide +kernel

theorem witness_InputsOutsideTheRunAreDropped : W.ready.running = false ∧ 15 < 16 ∧ W.opened.on F.TND_DIN_CFG_EN 0 15 = false ∧
    W.ready.time.phase ≠ .armed ∧ W.opened.running = true ∧ W.opened.freeRun = false ∧ W.opened.time.phase ≠ .armed ∧
    W.opened.time.phase ≠ .off ∧ W.opened.rd F.PAIR_STAT_PHASE ≠ 1 := by decide +kernel
theorem witness_InputsOutsideTheRunAreDropped_waits : W.input.tinder.inputs.any
    (fun e => e.stamped && decide (e.step ≤ W.input.time.winClosed)) = true ∧ W.input.tinder.closes = [] := by
  decide +kernel

theorem witness_ContactEdgesBecomeEvents : W.input.running = true ∧ W.input.mirroring = false ∧
    W.input.tinder.inputs = [W.edge] ∧ W.input.tinder.hold = [] ∧ W.input.tinder.closes = [] ∧
    W.input.tinder.closing = none ∧ W.input.awaitsWrite W.edge = false ∧ W.input.tinder.stopStep = none ∧ W.edge.kind = 1 ∧ W.edge.set = false ∧ W.edge.step = W.input.step ∧
    W.input.step ≤ W.input.time.winClosed ∧ (W.input.chan W.edge.tag).meter = false ∧
    W.input.rd F.PAIR_STAT_PHASE = 0 ∧ (W.input.chan W.edge.tag).en = true ∧ (W.input.chan W.edge.tag).enc = 9 := by
  decide +kernel
theorem witness_ContactEdgesBecomeEvents_off :
    ((W.input.wr F.TND_CHAN_A_WORD 0 0 3).chan W.edge.tag).en = false ∧
    (W.input.wr F.TND_CHAN_A_WORD 0 0 3).tinder.inputs = [W.edge] := by decide +kernel

theorem witness_ReplayRecordsFeedTheOpenStep : W.replay.running = true ∧ W.replay.freeRun = true ∧
    W.replay.tinder.winOpen = true ∧ W.replay.rd F.PAIR_STAT_PHASE ≠ 2 ∧ W.replay.on F.TND_CTRL_REPLAY_EN = true ∧
    W.replay.on F.TND_STAT_REPLAY_DONE = false ∧ W.replay.rd F.TND_REPLAY_END_ADDR / 8 * 8 ≤ W.replay.tinder.replayAt ∧
    W.ready.running = false := by decide +kernel
theorem witness_ReplayRecordsFeedTheOpenStep_words : W.replay2.tinder.replayAt < W.replay2.rd F.TND_REPLAY_END_ADDR / 8 * 8 ∧
    (W.replay2.replayWord W.replay2.tinder.replayAt).1 = some 0x0000000000000002 ∧
    (W.replay2.replayWord W.replay2.tinder.replayAt).2.time.winClosed = 1 ∧
    (W.replay3.replayWord W.replay3.tinder.replayAt).1 = some 0x0000000000000002 ∧
    (W.replay3.replayWord W.replay3.tinder.replayAt).2.time.winClosed = 3 ∧
    (W.replayBad.replayWord W.replayBad.tinder.replayAt).1 = none := by decide +kernel

theorem witness_ReceivedHeadersAreCounted : W.rx.rxReady 0 = true ∧ (W.rx.rxp 0).discarding = false ∧
    W.rx.relaysOf 0 1 = [] ∧ W.rx.rxReady 1 = false ∧ ((W.rx.taker 0 1 0x30).isSome = true) ∧
    W.rx.taker 0 2 0x30 = none ∧ (W.rx.rxp 0).cur = none := by decide +kernel
theorem witness_ReceivedHeadersAreCounted_end :
    ((W.rx.onRx 0 (fun x => { x with cur := some ⟨1, 0x30, 24, 0, false, false⟩ })).rxp 0).cur =
      some ⟨1, 0x30, 24, 0, false, false⟩ ∧
    (W.rx.onRx 0 (fun x => { x with cur := some ⟨1, 0x30, 24, 0, false, false⟩ })).rxReady 0 = true ∧
    ((W.ready.onRx 0 (fun x => { x with cur := some ⟨1, 0x30, 24, 0, false, false⟩ })).rxp 0).cur =
      some ⟨1, 0x30, 24, 0, false, false⟩ ∧
    (W.ready.onRx 0 (fun x => { x with cur := some ⟨1, 0x30, 24, 0, false, false⟩ })).rxReady 0 = false := by
  decide +kernel

theorem witness_LanesAndStreamsAreReported : W.rx.running = false ∧ W.rx.rxOn 5 = true ∧ W.rx.rxOn 6 = false ∧
    W.rxRun.running = true ∧ W.rxRun.on F.CSIRX_CTX_CFG_EN 0 = true ∧ W.rxRun.on F.CSIRX_CTX_CFG_LOSS_FR 0 = true ∧
    (W.rxRun.ctxt 0).lossStanding = false := by decide +kernel

theorem witness_SpikesReachTheLinesOfAsh : W.spike.op = 1 ∧ W.spike.len = 0 ∧
    W.opened.lineDecoder W.spike.arg.toNat = none ∧ (W.ash.lineDecoder W.spike.arg.toNat).isSome = true ∧
    (W.spike.tag.toNat + 64 - W.ash.step % 64) % 64 = 1 ∧ W.ash.replayed agAsh W.spike = none ∧
    (W.ashReplay.replayed agAsh W.spike).any (·.discarded) = true ∧
    (W.ashReplay.lineDecoder W.spike.arg.toNat).isSome = true := by decide +kernel

theorem witness_WindowsEmitTheirRecords : W.ready.readyRec 0 = none ∧ W.ready.deferredArg 0x1A = none ∧
    W.record.readyRec 0 = some W.rec ∧ W.record.standby = false ∧ (W.record.decoder W.rec.dec).txEn = false ∧
    (W.record.decoder W.rec.dec).qEn = true ∧ (W.record.wr F.PAIR_STAT_ROLE 1).standby = true ∧
    W.ready.tinder.meterDue = [] ∧ W.ready.metered = [] := by decide +kernel
theorem witness_WindowsEmitTheirRecords_reads :
    W.ready.ash.recs.find? (fun r => r.closed && r.vals.any (·.isNone)) = none ∧ W.waiting.ash.recs = [W.open1] ∧
    W.open1.closed = true ∧
    W.waiting.rd F.ASH_DEC_PAR_STRIDE 0 W.open1.dec = 0 ∧ W.open1.vals = [none] ∧
    ({ W.ready with tinder := { W.ready.tinder with meterDue := [⟨0, 0, ⟨false, false, false⟩⟩] } }).metered = [] ∧
    W.meters.tinder.meterDue = [⟨0, 0, ⟨false, false, false⟩⟩] ∧ W.meters.deferredArg 0x1A = none ∧ W.meters.standby = false ∧
    W.meters.metered = [4095] ∧ W.meters.on F.ASH_METER_CFG_TX_EN = false ∧ W.meters.on F.ASH_METER_CFG_Q_EN = true := by
  decide +kernel

theorem witness_ActuationLinesRiseAndFall : W.act.ash.actDue.find? (fun (x : ActDue) => x.line == 15) = some ⟨15, 5, 0⟩ ∧
    W.act.ash.armNext = none ∧ W.act.ash.decisions.find?
      (fun (y : Decision) => y.dec == W.act.rd F.ACT_CFG_DEC 0 15 && y.frame == (⟨15, 5, 0⟩ : ActDue).frame) = some ⟨0, 0, true, true⟩ ∧
    (W.act.permitAt false).actMay 15 = true ∧ W.act.on F.ACT_CFG_HOLD 0 15 = false ∧
    W.act.ash.pulseEnd.find? (fun x => x.1 == 0) = some (0, 9) ∧ bit (W.act.rd F.ACT_STAT_LEVEL) 0 = true ∧
    (W.act.permitAt true).actMay 0 = false := by decide +kernel
theorem witness_ActuationLinesRiseAndFall_miss :
    ({ W.act with ash := { W.act.ash with decisions := [] } }).ash.decisions.find?
      (fun (y : Decision) => y.dec == W.act.rd F.ACT_CFG_DEC 0 15 && y.frame == 0) = none := by decide +kernel

theorem witness_InjectionsCountDropOrEnter : W.opened.staged? W.pkReserved = none ∧ W.pkReserved.reservedOp = true ∧
    inArray W.pkReserved.src.toNat = false ∧ W.opened.staged? W.pkNobody = none ∧ W.pkNobody.reservedOp = false ∧
    W.pkNobody.op ≠ 15 ∧ W.pkNobody.op ≠ 1 ∧ W.pkNobody.nonPosted = true ∧ W.pkNobody.dest.toNat ≠ agBroadcast ∧
    W.opened.agentOn W.pkNobody.dest.toNat = false ∧ inArray W.pkNobody.src.toNat = false ∧
    W.opened.mayLeave (W.opened.entry W.pkNobody) = true ∧ W.opened.freeTid W.pkNobody.src.toNat = some 0 := by
  decide +kernel
theorem witness_InjectionsCountDropOrEnter_enters : W.opened.staged? W.pkRacc = none ∧
    W.pkRacc.reservedOp = false ∧ W.pkRacc.op = 1 ∧ W.pkRacc.dest.toNat ≠ agBroadcast ∧
    W.opened.agentOn W.pkRacc.dest.toNat = true ∧ countsInflight W.pkRacc.src.toNat = true ∧
    W.opened.takes W.pkRacc = true ∧ (set F.TND_INFLIGHT_IF_ODD 1048575 W.opened).takes W.pkRacc = false := by decide +kernel
theorem witness_InjectionsCountDropOrEnter_tinder : W.opened.promote.tinder.ready = [] ∧
    W.tinReady.promote.tinder.ready = [⟨1, W.pkRacc⟩] ∧ W.pkRacc.src.toNat = agTinder ∧
    ({ W.tinReady.promote with tinder := { W.tinReady.promote.tinder with ready := [] } }).takes W.pkRacc = true := by
  decide +kernel

theorem witness_HopsMoveCorrectAndReplay : W.fly.net.flights.find? (fun f => f.id == 7) = some W.flight ∧
    W.flight.path = [W.hop1] ∧ W.fly.bufLive W.hop1 = true ∧ W.fly.winner W.hop1 = some W.flight.id ∧ W.hop1.ring ≠ 2 ∧
    W.hop1.ring ≠ 3 ∧ W.opened.net.flights.find? (fun f => f.id == 7) = none ∧ W.opened.winner W.hop1 = none := by
  decide +kernel
theorem witness_HopsMoveCorrectAndReplay_lost : ∃ f ∈ W.flies.contenders W.hop1, f.injects = true ∧ f.id ≠ W.flight.id ∧
    W.flies.winner W.hop1 = some W.flight.id :=
  ⟨{ W.flight with id := 8, pkt := { W.pkRacc with tag := 2 } }, by decide +kernel⟩
theorem witness_HopsMoveCorrectAndReplay_flips :
    (∃ w n, Ecc.decode (Ecc.encode (W.flight.pkt.words.getD 0 0) ^^^ 3) = .corrected w n) ∧
    Ecc.decode (Ecc.encode (W.flight.pkt.words.getD 0 0) ^^^ 7) = .bad ∧ 0 < W.flight.pkt.words.length := by
  exact ⟨⟨W.flight.pkt.words.getD 0 0, 3, by decide +kernel⟩, by decide +kernel⟩
theorem witness_HopsMoveCorrectAndReplay_ends :
    ({ W.fly with net := { W.fly.net with flights := [{ W.flight with path := [], target := 10000 }] } }).net.flights.find?
      (fun f => f.id == 7) = some { W.flight with path := [], target := 10000 } ∧ W.flight.bcast = none := by decide +kernel
theorem witness_HopsMoveCorrectAndReplay_replay :
    (W.fly3.net.flights.find? (fun f => f.id == 7)) = some { W.flight with replay := [(0, 3)] } ∧
    (∃ f : Flight, f.path = [W.hop1] ∧ f.replay = [(0, 4)]) :=
  ⟨by decide +kernel, { W.flight with replay := [(0, 4)] }, by decide +kernel⟩
theorem witness_HopsMoveCorrectAndReplay_token : 63 ≤ W.tokens.tokensFor (0x3FF : BitVec 13).toNat true ∧
    countsInflight (0x3FF : BitVec 13).toNat = true ∧ W.opened.tokensFor 5 true < 1 := by decide +kernel

theorem witness_OperationsLandWaitOrAreLate : W.spike.op = 1 ∧ W.spike.len = 0 ∧ W.opened.awake 0 = true ∧
    W.opened.on F.CORE_STAT_FENCED 0 = false ∧ W.opened.rd F.PAIR_STAT_PHASE ≠ 2 ∧ W.opened.mirroring = false ∧
    W.asleep.awake 5 = false ∧ isCoreAgent 5 = true ∧ isCoreAgent agTinder = false ∧ W.opened.agentOn agTinder = true ∧
    agTinder ≠ agAsh ∧ (W.opened.wr F.CORE_STAT_FENCED 1 0).on F.CORE_STAT_FENCED 0 = true ∧
    W.opened.ahead 1 = 1 ∧ W.opened.ahead 2 = 2 ∧ W.opened.ahead 16 = 16 ∧ W.opened.ahead 17 = 17 ∧
    W.opened.ahead 0 = 0 ∧ W.opened.denFlits 0 + W.spike.flits ≤ 256 ∧ W.opened.on F.TIME_CTRL_POLICY = false ∧
    (W.opened.wr F.TIME_CTRL_POLICY 1).on F.TIME_CTRL_POLICY = true := by decide +kernel
theorem witness_OperationsLandWaitOrAreLate_full :
    256 < (W.opened.onCore 0 (fun c => { c with den := List.replicate 256 ⟨W.spike, false, 4, 0⟩ })).denFlits 0 + W.spike.flits := by
  decide +kernel

theorem witness_LandedOperationsReachTheirRows : W.opened.denDue 0 = none ∧ W.den.coreOn 1023 = true ∧
    W.den.on F.CORE_STAT_FENCED 1023 = false ∧ W.den.denDue 1023 = some ⟨W.spike, false, 4, 0⟩ ∧ W.spike.op = 1 ∧
    (W.released.core 1023).recv = [] ∧ (W.released.core 1023).denOut = [⟨W.spike, true, 4, 0⟩] ∧
    W.released.rd F.SYN_AXON_CFG_AXON_COUNT 1023 ≤ W.spike.arg.toNat ∧ (set F.CORE_STAT_FENCED 1 W.den 1023).denDue 1023 = some ⟨W.spike, false, 4, 0⟩ ∧
    (W.opened.core 0).landing = [] ∧ (W.landed.core 0).recv = [] ∧
    (W.landed.core 0).denOut = [] ∧ (W.landed.core 0).landing = [⟨W.spike, false, 4, 0⟩] ∧
    W.landed.ahead W.spike.tag.toNat = 1 ∧ W.landed.rd F.SYN_AXON_CFG_AXON_COUNT 0 ≤ W.spike.arg.toNat ∧
    W.opened.landWord 0 1 5 < 32768 ∧ W.opened.decodeAt (sramAddr 0 (W.opened.landWord 0 1 5)) = .clean 0 := by
  decide +kernel

theorem witness_RemoteWordsAreWrittenAndRead : isCoreAgent (1023 : BitVec 13).toNat = true ∧
    W.opened.awake 1023 = true ∧ (W.opened.wr F.CORE_STAT_FENCED 1 1023).on F.CORE_STAT_FENCED 1023 = true ∧
    (W.pkRwr 32767).onCtl = false ∧ (W.pkRwr 32767).op = 2 ∧ (W.pkRwr 32767).data = [5] ∧
    (W.pkRwr 32767).hi % 4 = 0 ∧ (W.pkRwr 32767).arg.toNat = 32767 ∧ W.opened.holds 1023 32767 = false ∧
    badRwr { W.pkRwr 0 with data := [] } = true ∧ (W.pkRrd 32767).op = 3 ∧ (W.pkRrd 32767).data = [] ∧
    (W.pkRrd 32767).hi = 1 ∧ W.opened.readHeld 1023 (W.pkRrd 32767) = false ∧
    W.opened.decodeAt (sramAddr 1023 32767) = .clean 0 ∧ (W.pkRadd 32767).op = 4 ∧
    (W.pkRadd 32767).data = [0x1FFFFFFFF] ∧ W.opened.ahead (W.pkRadd 32767).tag.toNat = 1 ∧
    W.opened.rd F.PAIR_STAT_PHASE ≠ 2 ∧ W.opened.modulatorWord 1023 32767 = false := by decide +kernel
theorem witness_RemoteWordsAreWrittenAndRead_held : W.held.holds 0 0 = true ∧ W.held.heldWords 0 < 16 ∧
    (W.heldMem.core 0).held = [] ∧ W.heldMem.cmd.memHeld = [(0, 5, 9)] ∧ W.heldMem.holds 0 5 = false ∧
    (W.heldWrite.core 0).held = [W.pkRwr 0] ∧ W.heldWrite.holds 0 0 = false ∧
    (W.heldRead.core 0).heldReads = [W.pkRrd 0] ∧ W.heldRead.readHeld 0 (W.pkRrd 0) = false := by decide +kernel

theorem witness_ResponsesCloseTheirRequests : W.asked.tidOf W.pkAck = some W.tid ∧ W.tid.why = .plain ∧
    W.tid.left = 1 ∧ W.asked.net.tids = [W.tid] ∧ W.pkAck.op = 8 ∧ W.pkAck.tok = true ∧
    countsInflight W.pkAck.dest.toNat = true ∧
    (isCoreAgent W.pkAck.dest.toNat && W.asked.on F.CORE_STAT_FENCED W.pkAck.dest.toNat) = false ∧
    (isCoreAgent W.pkAck.dest.toNat && (set F.CORE_STAT_FENCED 1 W.asked 5).on F.CORE_STAT_FENCED W.pkAck.dest.toNat) = true ∧
    (set F.CORE_STAT_FENCED 1 W.asked 5).tidOf W.pkAck = some W.tid ∧ W.opened.tidOf W.pkNobodyAck = none ∧ W.pkNobodyAck.op = 8 ∧
    inArray W.pkNobodyAck.dest.toNat = false ∧ W.opened.arrived? W.pkNobodyAck.dest.toNat W.pkNobodyAck = none := by
  decide +kernel
theorem witness_ResponsesCloseTheirRequests_data : W.reads.tidOf W.pkData = some W.tidRead ∧
    isCoreAgent W.pkData.dest.toNat = false ∧
    W.tidRead.why = .ashRead 0 0 0 1 1 ∧ W.pkData.op = 9 ∧ W.reads.ash.recs = [W.open0] ∧ W.open0.closed = false ∧
    W.open0.vals = [none] := by decide +kernel

theorem witness_ControlPacketsActAndAnswer : (W.pkCtl 0 0 []).op = 15 ∧ W.opened.agentOn (W.pkCtl 0 0 []).dest.toNat = true ∧
    (W.pkCtl 0 0 []).hi = 0 ∧ originatesCtl (W.pkCtl 0 0 []).src.toNat = true ∧ (W.pkCtl 0 7 []).hi = 7 ∧
    (W.pkCtl 0 1 []).hi = 1 ∧ W.opened.ctlOk (W.pkCtl 0 1 []) true 0 = true ∧
    W.opened.ctlOk (W.pkCtl 0 1 [0]) true 0 = false ∧ (W.opened.core 0).landing = [] ∧ (W.opened.core 0).denOut = [] ∧
    (W.opened.core 0).held = [] ∧ (W.opened.core 0).heldReads = [] ∧ W.opened.ctlOk (W.pkCtl 0 2 []) true 0 = true ∧
    W.opened.ctlOk (W.pkCtl 0x1F00 3 [5]) false 1 = true ∧ W.opened.ctlOk (W.pkCtl 0x1F07 4 []) false 0 = true ∧
    W.opened.ctlOk (W.pkCtl 1023 5 [9]) true 1 = true ∧ W.opened.ctlOk (W.pkCtl 0 6 []) true 0 = true ∧
    W.opened.agentOn (W.pkCtl 0x1FFE 0 []).dest.toNat = false := by decide +kernel
theorem witness_ControlPacketsActAndAnswer_drain : (W.opened.core 0).drain = [] ∧
    (W.drain.core 0).drain = [W.pkCtl 0 6 []] ∧ W.drain.atRest 0 = true ∧
    (W.drain.wr F.CORE_INFLIGHT_IF_ODD 1 0).atRest 0 = false := by decide +kernel

theorem witness_UpdatesFanOutAndScrub : (W.opened.core 0).spikes = [] ∧ W.fan.coreOn 0 = true ∧
    W.fan.on F.CORE_STAT_FENCED 0 = false ∧ (W.fan.core 0).spikes = [⟨0, 0, 0, 1⟩] ∧ (W.fan.group 0 0).fanPer = 1 ∧
    W.fan.decodeAt (sramAddr 0 (W.fan.rd F.CORE_PART_OUT_BASE 0 + (W.fan.group 0 0).outOfs + (0 - (W.fan.group 0 0).base))) =
      .clean 0x40000000 ∧ W.opened.on F.CORE_STAT_UPD_BUSY 0 = false ∧ W.busy.coreOn 0 = true ∧
    W.busy.on F.CORE_STAT_UPD_BUSY 0 = true ∧ W.busy.fanDone 0 = true := by decide +kernel
theorem witness_UpdatesFanOutAndScrub_scrub : W.upset.awake 0 = true ∧ W.upset.on F.MEM_SRAM_SCRUB_EN = true ∧
    (set F.MEM_SRAM_SCRUB_EN 0 W.upset).on F.MEM_SRAM_SCRUB_EN = false ∧ (W.upset.core 0).patrol = 32767 ∧
    W.upset.decodeAt (sramAddr 0 32767) = .corrected 0 2 ∧ W.opened.decodeAt (sramAddr 0 0) = .clean 0 ∧
    (W.opened.setFlip (sramAddr 0 0) 7).decodeAt (sramAddr 0 0) = .bad ∧
    ((W.upset.onCore 0 (fun c => { c with writeback := [32767] })).core 0).writeback = [32767] := by decide +kernel

theorem witness_CommandsAreCheckedBeforeTheyAct_refused : Ready W.ready (W.pkt 0x02 0 1 0 [] 1) ∧
    (W.pkt 0x02 0 1 0 [] 1).op = identOp.op ∧ identOp.reason W.ready.took (W.pkt 0x02 0 1 0 [] 1) = some 0x0D05 ∧
    statusOf 0x0D05 ≠ 0 := by unfold Ready; decide +kernel
theorem witness_CommandsAreCheckedBeforeTheyAct_crc : Ready W.ready ⟨.i3cSdr, List.replicate 20 2⟩ ∧
    (⟨.i3cSdr, List.replicate 20 2⟩ : HostCmd).op = identOp.op ∧
    identOp.reason W.ready.took ⟨.i3cSdr, List.replicate 20 2⟩ = some 0x0D01 ∧ statusOf 0x0D01 ≠ 0 := by
  unfold Ready; decide +kernel
theorem witness_CommandsAreCheckedBeforeTheyAct_taken : Ready W.ready (W.pkt 0x02 0 1 0 [] 0) ∧
    identOp.reason W.ready.took (W.pkt 0x02 0 1 0 [] 0) = none ∧ ({ W.ready with
      cmd := { W.ready.cmd with fifo := [⟨0, W.pkt 0x01 0 1 0 [] 0, false⟩] } }).takeCmd (W.pkt 0x02 0 1 0 [] 0) = none := by
  unfold Ready; decide +kernel

theorem witness_IdentityAndTelemetryAnswer_hello : Ready W.ready W.cHello ∧ W.cHello.op = 0x01 ∧
    helloOp.reason W.ready.took W.cHello = none := by unfold Ready; decide +kernel
theorem witness_IdentityAndTelemetryAnswer_ident : Ready W.ready W.cIdent ∧ W.cIdent.op = 0x02 ∧
    identOp.reason W.ready.took W.cIdent = none := by unfold Ready; decide +kernel
theorem witness_IdentityAndTelemetryAnswer_telemetry : Ready W.ready (W.cPar4 0x3F 1) ∧ (W.cPar4 0x3F 1).op = 0x3F ∧
    telemetryOp.reason W.ready.took (W.cPar4 0x3F 1) = none := by unfold Ready; decide +kernel
theorem witness_IdentityAndTelemetryAnswer_reserved : Ready W.ready (W.cPar4 0x04 0) ∧
    opcodes.contains (W.cPar4 0x04 0).op = false ∧ diagnosticOp (W.cPar4 0x04 0) = false ∧
    (W.cPar4 0x04 0).crcOk = true := by unfold Ready; decide +kernel
theorem witness_IdentityAndTelemetryAnswer_vendor : diagnosticOp (W.cPar4 0x80 0) = true ∧
    (vendorOp (W.cPar4 0x80 0)).reason W.ready.took (W.cPar4 0x80 0) = some 0x0A10 ∧ Ready W.ready (W.cPar4 0x80 0) ∧
    (vendorOp (W.cPar4 0xBF 0)).reason (W.ready.wr F.SEC_STAT_DBG_SCOPE 2).took (W.cPar4 0xBF 0) = none ∧
    Ready (W.ready.wr F.SEC_STAT_DBG_SCOPE 2) (W.cPar4 0xBF 0) ∧ diagnosticOp (W.cPar4 0xBF 0) = true := by
  unfold Ready; decide +kernel

theorem witness_RegisterAndMemoryCommandsReachTheirWords_reads : Ready W.ready (W.pkt 0x08 4 1 0x0200008008 [4, 0, 0, 0] 0) ∧
    regReadOp.reason W.ready.took (W.pkt 0x08 4 1 0x0200008008 [4, 0, 0, 0] 0) = none ∧
    (W.pkt 0x08 4 1 0x0200008008 [4, 0, 0, 0] 0).par 0 2 = 4 := by unfold Ready; decide +kernel
theorem witness_RegisterAndMemoryCommandsReachTheirWords_writes :
    Ready W.ready (W.pkt 0x09 4 1 0x0200008028 [0, 0x60, 0x60, 0] 0) ∧
    regWriteOp.reason W.ready.took (W.pkt 0x09 4 1 0x0200008028 [0, 0x60, 0x60, 0] 0) = none ∧
    W.ready.isEdit (W.pkt 0x09 4 1 0x0200008028 [0, 0x60, 0x60, 0] 0) = false ∧
    (W.ready.place 0x0200008028).map (fun p => p.reg.info.wide) = some false := by unfold Ready; decide +kernel
theorem witness_RegisterAndMemoryCommandsReachTheirWords_sram : Ready W.ready W.cMemRead ∧
    memReadOp.reason W.ready.took W.cMemRead = none ∧ W.cMemRead.par 0 2 = 8 ∧ inSram W.cMemRead.target = true ∧
    W.cMemRead.target = sramAddr 1023 32767 ∧ W.ready.coreOn 1023 = true ∧ W.ready.gated (.core 1023) = false ∧
    W.ready.gated (.engine 7) = false ∧ W.ready.decodeAt W.cMemRead.target = .clean 0 := by unfold Ready; decide +kernel
theorem witness_RegisterAndMemoryCommandsReachTheirWords_store : Ready W.ready W.cMemWrite ∧
    memWriteOp.reason W.ready.took W.cMemWrite = none ∧ W.cMemWrite.plen = 8 ∧ inSram W.cMemWrite.target = true ∧
    W.ready.isEdit W.cMemWrite = false ∧ W.ready.holds 0 0 = false ∧ W.ready.cmd.memHeld = [] ∧
    W.cMemWrite.target = 0 ∧ W.held.holds 0 0 = true ∧ Ready W.held W.cMemWrite ∧
    memWriteOp.reason W.held.took W.cMemWrite = none ∧ W.held.isEdit W.cMemWrite = false := by unfold Ready; decide +kernel
theorem witness_RegisterAndMemoryCommandsReachTheirWords_edit : Ready W.pair W.cMemWrite ∧
    memWriteOp.reason W.pair.took W.cMemWrite = none ∧ W.pair.isEdit W.cMemWrite = true ∧
    W.ready.place 0x0200000020 = none ∧ W.ready.place 0x0200000024 = none ∧ W.ready.unitOn ⟨.TIME_STEP, 0, 0⟩ = true ∧
    W.ready.pair.edits = [] ∧ (⟨.i3cSdr, [0, 0, 5]⟩ : HostCmd).op = 5 := by unfold Ready; decide +kernel

theorem witness_ImagesAreStagedAndCommitted_open : Ready W.mem W.cLoadOpen ∧ W.cLoadOpen.op = 0x10 ∧
    loadOpenOp.reason W.mem.took W.cLoadOpen = none := by unfold Ready; decide +kernel
theorem witness_ImagesAreStagedAndCommitted_abort : Ready W.window (W.cPar4 0x12 7) ∧ (W.cPar4 0x12 7).op = 0x12 ∧
    loadAbortOp.reason W.window.took (W.cPar4 0x12 7) = none := by unfold Ready; decide +kernel
theorem witness_ImagesAreStagedAndCommitted_commit : Ready W.window (W.cPar4 0x11 7) ∧ (W.cPar4 0x11 7).op = 0x11 ∧
    loadCommitOp.reason W.window.took (W.cPar4 0x11 7) = none ∧
    (W.window.took.g6Bytes (W.window.rd F.BOOT_LOAD_WIN_BASE) 128).1 = some (List.replicate 128 0) ∧
    imageForm (List.replicate 128 0) W.window.boot.windowLen = false := by unfold Ready; decide +kernel

theorem witness_RunControlCommandsActAtTheirTime_enable : Ready W.ready (W.cmd0 0x18) ∧ (W.cmd0 0x18).op = 0x18 ∧
    enableOp.reason W.ready.took (W.cmd0 0x18) = none := by unfold Ready; decide +kernel
theorem witness_RunControlCommandsActAtTheirTime_stop : Ready W.opened (W.cmd0 0x19) ∧ (W.cmd0 0x19).op = 0x19 ∧
    (stopOp 0x19).reason W.opened.took (W.cmd0 0x19) = none ∧ Ready W.opened (W.cmd0 0x1A) ∧ (W.cmd0 0x1A).op = 0x1A ∧
    (stopOp 0x1A).reason W.opened.took (W.cmd0 0x1A) = none ∧ W.opened.time.stop = .none := by unfold Ready; decide +kernel
theorem witness_RunControlCommandsActAtTheirTime_quench : Ready W.opened (W.cmd0 0x1B) ∧ (W.cmd0 0x1B).op = 0x1B ∧
    quenchOp.reason W.opened.took (W.cmd0 0x1B) = none ∧ W.opened.cmd.deferred = [] ∧ W.opened.boot.up = true ∧
    State.reset.boot.up = false ∧ Ready W.ready (W.cPar4 0x1C 0xFFFFFFFF) ∧
    stepOp.reason W.ready.took (W.cPar4 0x1C 0xFFFFFFFF) = none := by unfold Ready; decide +kernel

theorem witness_FaultCommandsShowAndClear : Ready W.ready (W.cPar4 0x20 14) ∧ (W.cPar4 0x20 14).op = 0x20 ∧
    faultReadOp.reason W.ready.took (W.cPar4 0x20 14) = none ∧ Ready W.ready (W.cClear 0x7FF 0x01) ∧
    faultClearOp.reason W.ready.took (W.cClear 0x7FF 0x01) = none ∧ sourceNamed 0x7FF = false ∧
    (W.cClear 0x7FF 0x01).par 0 2 = 0x7FF ∧ sourceNamed 0x43F = true ∧ faultKinds.contains 0x01 = true ∧
    W.ready.took.entryOf 0x43F 0x01 = none := by unfold Ready; decide +kernel
theorem witness_FaultCommandsShowAndClear_entry : Ready W.fault (W.cClear 0x700 0x31) ∧
    faultClearOp.reason W.fault.took (W.cClear 0x700 0x31) = none ∧ sourceNamed 0x700 = true ∧
    faultKinds.contains 0x31 = true ∧ W.fault.took.entryOf 0x700 0x31 = some 0 ∧ W.fault.took.cause 0 = false ∧
    ({ W.fault with kiln := { W.fault.kiln with lastDiv := true } }).took.entryOf 0x700 0x31 = some 0 ∧
    ({ W.fault with kiln := { W.fault.kiln with lastDiv := true } }).took.cause 0 = true := by unfold Ready; decide +kernel
theorem witness_FaultCommandsShowAndClear_force : Ready W.ready (W.cForce 0x740 0x20) ∧
    faultForceOp.reason W.ready.took (W.cForce 0x740 0x20) = none ∧
    W.ready.took.mayForce ((W.cForce 0x740 0x20).par 0 2) ((W.cForce 0x740 0x20).par 2 1) = true ∧
    W.ready.took.mayForce ((W.cForce 0x740 0x08).par 0 2) ((W.cForce 0x740 0x08).par 2 1) = false ∧
    faultForceOp.reason W.ready.took (W.cForce 0x740 0x08) = none := by unfold Ready; decide +kernel

theorem witness_PowerCommandsSetTheirState_run : Ready W.opened (W.cPar4 0x28 0) ∧ (W.cPar4 0x28 0).op = 0x28 ∧
    powerOp.reason W.opened.took (W.cPar4 0x28 0) = none ∧ W.opened.running = true ∧ (W.cPar4 0x28 0).par 0 1 = 0 ∧
    Ready W.opened (W.cPar4 0x28 1) ∧ powerOp.reason W.opened.took (W.cPar4 0x28 1) = none := by unfold Ready; decide +kernel
theorem witness_PowerCommandsSetTheirState_stand : W.ready.running = false ∧ W.ready.rd F.KILN_STAT_STATE < 2 ∧
    powerOp.reason W.ready.took (W.cPar4 0x28 0) = none ∧ powerOp.reason W.ready.took (W.cPar4 0x28 1) = none ∧
    powerOp.reason W.ready.took (W.cPar4 0x28 2) = none ∧ powerOp.reason W.ready.took (W.cPar4 0x28 3) = none ∧
    Ready W.ready (W.cPar4 0x28 3) ∧ Ready (W.ready.wr F.KILN_STAT_STATE 2) (W.cPar4 0x28 0) ∧
    powerOp.reason (W.ready.wr F.KILN_STAT_STATE 2).took (W.cPar4 0x28 0) = none ∧
    W.ready.kiln.waking2Run = false := by unfold Ready; decide +kernel
theorem witness_PowerCommandsSetTheirState_cap : Ready W.ready (W.cPar4 0x29 25000) ∧ (W.cPar4 0x29 25000).op = 0x29 ∧
    capOp.reason W.ready.took (W.cPar4 0x29 25000) = none ∧ capOp.reason W.opened.took (W.cPar4 0x29 1000) = none ∧
    Ready W.opened (W.cPar4 0x29 1000) ∧ W.opened.mirroring = false ∧ freqOp.reason W.ready.took (W.cPar4 0x2A 1) = none ∧
    freqOp.reason W.opened.took (W.cPar4 0x2A 0) = none ∧ (W.cPar4 0x2A 0).op = 0x2A := by unfold Ready; decide +kernel

theorem witness_CordsRunOrMiss : W.ready.stepOpen = false ∧ W.opened.stepOpen = true ∧ W.opened.net.stopped = false ∧
    W.opened.rd F.CORD_CTRL_RUNS ≤ W.opened.cord.runs ∧ W.cord.stepOpen = true ∧ W.cord.net.stopped = false ∧
    W.cord.rd F.CORD_CTRL_START ≤ W.cord.cord.cord ∧ W.cord.cord.runs < W.cord.rd F.CORD_CTRL_RUNS ∧
    W.cord.cordTable = [] := by decide +kernel
theorem witness_CordsRunOrMiss_ready : (W.cordAt W.cord).portTiles = [] ∧
    (W.cordAt W.cord).abandoned 4 agCollier W.cord.cord.runs 0 = false := by decide +kernel
theorem witness_CordsRunOrMiss_late : (W.cordAt W.cordLate).portTiles.filter (fun p => !(W.cordAt W.cordLate).cordReady p
      ((W.cordLate.firstCord + 1024 * W.cordLate.cord.cord : Nat) - 256) (W.cordLate.cord.full.contains p)) ≠ [] ∧
    W.cordLate.rd F.CORD_CTRL_START ≤ W.cordLate.cord.cord ∧
    W.cordLate.cord.runs < W.cordLate.rd F.CORD_CTRL_RUNS ∧ W.cordLate.cord.reported = false ∧
    W.cordLate.rd F.CORD_CTRL_MISS_THR = 1 ∧ W.cordLate.stepOpen = true ∧ W.cordLate.net.stopped = false := by decide +kernel
theorem witness_CordsRunOrMiss_abandoned : W.cordGone.rd F.CORD_CTRL_START ≤ W.cordGone.cord.cord ∧
    W.cordGone.cord.runs < W.cordGone.rd F.CORD_CTRL_RUNS ∧ W.cordGone.stepOpen = true ∧ W.cordGone.net.stopped = false ∧
    (W.cordAt W.cordGone).portTiles = [] ∧
    (W.cordAt W.cordGone).abandoned 4 agCollier W.cordGone.cord.runs 0 = true := by decide +kernel

theorem witness_SlotTablesAreLoadedByBroadcast : W.mapped.running = false ∧ W.mapped.coreOn 1023 = true ∧
    W.mapped.coreAt (W.mapped.tileOf 1023) = some 1023 ∧
    (W.mapped.wr F.CORD_ARM_ARM 1 (W.mapped.tileOf 1023)).on F.CORD_ARM_ARM (W.mapped.tileOf 1023) = true ∧
    W.opened.running = true := by decide +kernel

theorem witness_AppendsEnterTheirRing : (W.push 0 [1]).dest.toNat = agDrey ∧ (W.push 0 [1]).op = 5 ∧
    pushOp (W.push 0 [1]) = 0 ∧ 0x10000 ≤ (W.push 0 [1]).qid ∧ W.queue.drey.miss.length < 256 ∧
    W.queue.drey.cache = [W.desc] ∧ W.desc.qid = (W.push 0 [1]).qid ∧ W.queue.drey.reasm = [] ∧ W.queue.drey.resv = [] ∧
    pushCnt (W.push 0 [1]) = 1 ∧ appendRefusal W.desc [] (W.push 0 [1]) false false = none ∧
    placement W.desc.size W.desc.rd W.desc.res (recordBytesOf (pushLen (W.push 0 [1]))) 32 = some 0 ∧
    W.desc.res % 8 = 0 ∧ 8 ≤ W.desc.size ∧ W.queue.flips = [] ∧ W.queue.descAddr W.desc.qid % 32 = 0 ∧
    W.queue.descAddr W.desc.qid + 32 ≤ W.desc.ring ∧ W.opened.cached (W.push 0 [1]).qid = none ∧
    appendRefusal { W.desc with w1 := 0 } [] (W.push 0 [1]) false false = some rsnNotPermitted := by decide +kernel
theorem witness_AppendsEnterTheirRing_full : 256 ≤ (W.fullMiss W.opened).drey.miss.length := by decide +kernel
theorem witness_AppendsEnterTheirRing_memory (x : Nat)
    (h : (W.desc.ring ≤ x ∧ x < W.desc.ring + W.desc.size) ∨ x / 128 = W.queue.descAddr W.desc.qid / 128) :
    W.queue.g6Has x = true ∧ W.queue.g6Failed (W.queue.g6Group x) = false := by
  have h1 : W.desc.ring = 0x1010000000 := by decide +kernel
  have h2 : W.desc.size = 4096 := by decide +kernel
  have h3 : W.queue.descAddr W.desc.qid = 0x1000200000 := by decide +kernel
  have h4 : W.queue.g6Cap = 0x100000000 := by decide +kernel
  have h5 : W.queue.g6Failed 0 = false ∧ W.queue.g6Failed 1 = false := by decide +kernel
  have h6 : W.queue.groups.length = 2 := by decide +kernel
  rw [h1, h2, h3] at h
  have hx : 0x1000000000 ≤ x ∧ x - 0x1000000000 < 0x100000000 := by omega
  constructor
  · unfold State.g6Has g6Base; rw [h4]
    exact Bool.and_eq_true_iff.mpr ⟨decide_eq_true hx.1, decide_eq_true hx.2⟩
  · unfold State.g6Group; rw [if_pos h6]
    rcases Nat.mod_two_eq_zero_or_one ((x - g6Base) / 128) with e | e <;> rw [e]
    · exact h5.1
    · exact h5.2

theorem witness_QueueReadersAndCombiningQueues : (W.push 1 []).dest.toNat = agDrey ∧ 0x10000 ≤ (W.push 1 []).qid ∧
    W.queue.drey.miss.length < 256 ∧ W.queue.drey.cache = [W.desc] ∧ W.desc.qid = (W.push 1 []).qid ∧
    (W.push 1 []).op = 5 ∧ W.desc.type = 1 ∧ (W.push 1 []).data.length = 1 ∧
    mayRead W.desc.reader (W.push 1 []).src.toNat = true ∧ W.queue.flips = [] ∧ pushOp (W.push 1 []) = 1 ∧
    pushChk (W.push 1 []) = false ∧ releaseOk W.desc.rd (pushRd (W.push 1 [])) W.desc.commit 32 = true ∧
    pushOp (W.push 2 []) = 2 ∧ pushOp (W.push 3 []) = 3 ∧ (W.push 3 []).data.length = 1 ∧
    mayRead 77 (W.push 1 []).src.toNat = false ∧ releaseOk 0 8 0 32 = false := by decide +kernel
theorem witness_QueueReadersAndCombiningQueues_comb : W.pkComb.dest.toNat = agDrey ∧ 0x10000 ≤ W.pkComb.qid ∧
    W.pkComb.op = 6 ∧ W.combs.drey.cache = [W.descComb] ∧ W.descComb.qid = W.pkComb.qid ∧ W.descComb.type = 2 ∧
    mayAppend W.descComb.sender W.pkComb.src.toNat = true ∧ 2 ≤ W.pkComb.data.length ∧ W.descComb.open' = true ∧
    (combElements W.pkComb).any (fun e => decide (8 * (W.descComb.accN + 1) ≤ e.1)) = false ∧
    ¬W.pkComb.tag.toNat ≠ (W.combs.step + 1) % 64 ∧ W.combs.combBank W.descComb = 0 ∧
    { W.pkComb with tag := 9 }.tag.toNat ≠ (W.combs.step + 1) % 64 ∧ W.combs.drey.miss.length < 256 ∧
    (W.combs.wr F.TIME_CTRL_POLICY 1).on F.TIME_CTRL_POLICY = true := by decide +kernel

theorem witness_WaitingRecordsExpireAndMissesResolve : W.opened.reasmOf (0 : BitVec 13).toNat = none ∧
    W.opened.drey.miss = [] ∧ (W.reasm .filling).reasmOf 0 = some (W.entry .filling) ∧
    (W.reasm .dropped).reasmOf 0 = some (W.entry .dropped) ∧ (W.reasm .expired).reasmOf 0 = some (W.entry .expired) ∧
    (W.reasm (.refused 3)).reasmOf 0 = some (W.entry (.refused 3)) := by decide +kernel
theorem witness_WaitingRecordsExpireAndMissesResolve_miss : W.missed.drey.miss = [.pkt (W.push 0 [1])] ∧
    W.missed.cached (W.push 0 [1]).qid = none ∧ W.missed.drey.cmdWait = none ∧
    (let y := ({ W.missed with drey := { W.missed.drey with miss := [] } }).descRead (W.push 0 [1]).qid
     let part := y.2.descPart (W.push 0 [1]).qid
     y.1 = none ∧ part.2 ≠ [] ∧ appendRefusal part.1 part.2 (W.push 0 [1]) false false = some rsnDataError) ∧
    W.missed.reasmOf (W.push 0 [1]).src.toNat = none ∧ pushCnt (W.push 0 [1]) = 1 ∧ (W.push 0 [1]).qid = 0x10000 := by
  decide +kernel
theorem witness_WaitingRecordsExpireAndMissesResolve_comb : W.pkComb.op = 6 ∧
    ({ W.desc with qid := W.pkComb.qid } : Desc).type ≠ 2 ∧ W.queue.drey.cmdWait = none := by decide +kernel

theorem witness_HostQueueCommandsAct : (W.queue.wr F.DREY_QCMD_BUSY 1).on F.DREY_QCMD_BUSY = true ∧
    W.opened.on F.DREY_QCMD_BUSY = false ∧ W.opened.drey.cache = [] ∧ W.opened.drey.cmdWait = none ∧
    W.opened.drey.miss.length < 256 ∧ W.queue.drey.cmdWait = none ∧
    0x10000 ≤ W.queue.rd F.DREY_QSEL_QID ∧ W.queue.on F.DREY_QCMD_BUSY = false ∧ W.queue.drey.miss.length < 256 ∧
    W.queue.drey.cache = [W.desc] ∧ W.desc.qid = W.queue.rd F.DREY_QSEL_QID ∧ W.desc.type ≠ 0 ∧
    releaseOk W.desc.rd (W.queue.rd F.DREY_QARG_RD) W.desc.commit 32 = true ∧
    releaseOk W.desc.rd ((W.queue.wr F.DREY_QARG_RD 8).rd F.DREY_QARG_RD) W.desc.commit 32 = false ∧
    (W.unbound.drey.cache = [{ W.desc with w0 := 0 }]) ∧ ({ W.desc with w0 := 0 } : Desc).type = 0 ∧
    0x10000 ≤ W.unbound.rd F.DREY_QSEL_QID ∧ ({ W.desc with w0 := 0 } : Desc).qid = W.unbound.rd F.DREY_QSEL_QID := by
  decide +kernel

theorem witness_HostQueueCommandsAct_full : 256 ≤ (W.fullMiss W.opened).drey.miss.length ∧
    (W.fullMiss W.opened).on F.DREY_QCMD_BUSY = false := by decide +kernel

theorem witness_MailboxesTakeTheirRecords : isCoreAgent (W.mail [1]).dest.toNat = true ∧ (W.mail [1]).op = 5 ∧
    pushOp (W.mail [1]) = 0 ∧ W.opened.mbxWord 0 ((W.mail [1]).qid % 64) = none ∧ (W.mail [1]).qid / 64 = 0 ∧
    (W.mail [1]).dest.toNat = 0 ∧ W.box.on F.CORE_STAT_FENCED 0 = false ∧ W.box.mbxWord 0 ((W.mail [1]).qid % 64) = some 0 ∧
    W.box.decodeAt (sramAddr 0 0) = .clean W.boxWord ∧ W.box.decodeAt (sramAddr 0 1) = .clean 0 ∧
    wbits W.boxWord 63 62 = 1 ∧ mayAppend (wbits W.boxWord 31 19) (W.mail [1]).src.toNat = true ∧
    pushWell (W.mail [1]) = true ∧ pushLen (W.mail [1]) ≤ 112 ∧ bit W.boxWord.toNat 61 = true ∧
    pushChk (W.mail [1]) = false ∧ placement (8 * 2 ^ wbits W.boxWord 18 15) 0 0 (recordBytesOf (pushLen (W.mail [1]))) 16 = some 0 ∧
    0 + 1 < W.box.rd F.CORE_PART_MBX_BASE 0 + wbits W.boxWord 14 0 := by decide +kernel

theorem witness_GddrOperationsAreServed : W.opened.groupOn 1 = true ∧ (W.opened.g6g 1).queue = [] ∧
    (W.g6q W.g6Write).g6Awake 1 = true ∧ ((W.g6q W.g6Write).g6g 1).queue = [⟨W.g6Write, 0, 0, false⟩] ∧
    (W.g6q W.g6Write).g6Refusal 1 W.g6Write = none ∧ (W.g6q W.g6Write).flips = [] ∧ W.g6Write.op = 2 ∧
    W.g6Write.hi % 4 = 0 ∧ (W.g6q W.g6Half).g6Refusal 1 W.g6Half = none ∧ W.g6Half.op = 2 ∧ W.g6Half.hi % 4 = 2 ∧
    (W.g6q W.g6ReadPkt).g6Refusal 1 W.g6ReadPkt = none ∧ W.g6ReadPkt.op = 3 ∧
    (W.g6q W.g6AddPkt).g6Refusal 1 W.g6AddPkt = none ∧ W.g6AddPkt.op = 4 ∧
    (W.g6q W.g6AddPkt).g6Refusal 0 W.g6AddPkt = some rsnAddrError ∧
    (1#10 &&& ~~~(BitVec.ofNat 10 (W.opened.rd F.MEM_LANE_MASK_EDC_OFF 1)) != 0) = true := by decide +kernel

theorem witness_GddrGroupsAreKeptUp : (W.opened.g6g 1).window < 65536 ∧
    65536 ≤ ((W.opened.onG6 1 (fun x => { x with window := 65536 })).g6g 1).window ∧ W.opened.groupOn 1 = true ∧
    (W.opened.wr F.CLK_STAT_G6_LOCK 3).g6Awake 1 = true ∧ (W.opened.wr F.CLK_STAT_G6_LOCK 3).on F.MEM_SCRUB_CFG_EN 1 = true ∧
    (W.opened.wr F.CLK_STAT_G6_LOCK 3).g6Failed 1 = false ∧ W.opened.flips = [] ∧
    ((W.opened.wr F.CLK_STAT_G6_LOCK 3).setFlip (W.opened.g6Burst 1 0 + 120) 4).g6Decode 1 (W.opened.g6Burst 1 0 + 120) =
      .corrected 0 4 ∧
    bit ((W.opened.wr F.CLK_STAT_G6_LOCK 1).rd F.CLK_STAT_G6_LOCK) 1 = false ∧
    (W.opened.wr F.KILN_CTRL_G6_AUTO 1).on F.KILN_CTRL_G6_AUTO = true ∧ W.opened.on F.KILN_CTRL_G6_AUTO = false ∧
    W.opened.on F.MEM_STAT_SELF_REF 1 = false ∧ (W.opened.g6g 1).queue = [] := by decide +kernel

theorem witness_DomainsAreGatedAndWake : W.opened.coreOn 1023 = true ∧ W.opened.on F.CORE_STAT_LOADED 1023 = false ∧
    W.opened.gated (.core 1023) = false ∧ W.asleep.gated (.core 5) = true ∧ W.asleep.gated (.engine 7) = true ∧
    W.asleep.gated (.group 1) = true ∧ W.asleep.kiln.waking.contains (.group 1) = false ∧
    W.asleep.kiln.waking.contains (.core 6) = true := by decide +kernel

theorem witness_TransmitPortsSendInOrder : W.ready.txReady 0 = false ∧ W.port.txReady 3 = true ∧
    W.port.txLocked 3 = true ∧ (W.port.txp 3).held = false ∧ (W.port.txp 3).wait = [] ∧ (W.port.txp 3).next = [] ∧
    (W.port.txp 3).relay = [] ∧ (W.port.txp 3).blocks = [⟨.result, 2, 0x31, [1, 2]⟩] ∧ W.port.net.stopped = false ∧
    W.port.running = false ∧ (W.port.wr F.CHIP_CTRL_RUN_EN 1).running = true ∧
    (W.port.txp 3).frames.lookup 2 = none ∧ W.port.txOn 3 = true ∧
    (W.port.nextBlock 3) = some ⟨.result, 2, 0x31, [1, 2]⟩ := by decide +kernel
theorem witness_TransmitPortsSendInOrder_relay : ((W.port.onTx 3 (fun t => { t with
      relay := [⟨0, 1, 0x2A, 4, [], true, true⟩] })).txp 3).relay = [⟨0, 1, 0x2A, 4, [], true, true⟩] ∧
    ((W.port.onTx 3 (fun t => { t with next := [.frameEnd 2 5], frames := [(2, 5)] })).txp 3).next = [.frameEnd 2 5] := by
  decide +kernel

theorem witness_FusesOnlyBlowAndTheQueueStands : State.reset.progSound ∧ (W.blowing 3).progSound ∧
    step { W.blowing 3 with pending := [.secProgDone true] } =
      .next { ((W.blowing 3).wr F.SEC_PROG_BUSY 0).wr F.SEC_PROG_STATUS 0 with
        sec := { (W.blowing 3).sec with prog := none }, fuse := { (W.blowing 3).fuse with rollback := 3 } } := by
  refine ⟨?_, ?_, rfl⟩
  · intro k v h; simp [State.reset, SecSt.fresh] at h
  · intro k v h; cases h; decide

theorem witness_I3cTransfersReachTheWindow : W.bus.cmd.replyWait = [] ∧
    ({ W.bus with cmd := { W.bus.cmd with replies := [[1], [2], [3], [4]], replyWait := [[5]] } }).addressed = true ∧ W.ready.addressed = false ∧ W.bus.addressed = true ∧ W.bus.cmd.hdr = false ∧
    isQuench W.cIdent = false ∧ W.bus.rd F.KILN_STAT_STATE ≠ 3 ∧ 20 ≤ W.cIdent.bytes.length ∧
    W.cIdent.path = .i3cSdr ∧ W.bus.cmd.fifo.length < 4 ∧ W.bus.cmd.replies = [] ∧ W.bus.on F.I3C_STAT_IBI_EN = true ∧
    ({ W.bus with cmd := { W.bus.cmd with ibiReply := 1, replies := [[1]] } }).cmd.event = some 0xA0 ∧ W.bus.sdr = true ∧
    W.bus.agreed 1 = true ∧ W.bus.onBus = true ∧ W.bus.cmd.event = none ∧ isQuench ⟨.i3cSdr, [1]⟩ = false ∧
    isQuench ⟨.i3cHdr, List.replicate 20 0⟩ = false := by decide +kernel

theorem witness_CommonCommandsActAndAnswer : W.bus.sdr = true ∧ W.bus.cmd.replyWait = [] ∧ W.bus.on F.I3C_STAT_DA_VALID = true ∧ W.bus.onBus = true ∧
    W.bus.cmd.rstact = 0 ∧ State.reset.sdr = false ∧ (W.bus.wr F.I3C_STAT_IBI_EN 0).on F.I3C_STAT_IBI_EN = false ∧
    ({ W.bus with cmd := { W.bus.cmd with rstact := 2 } }).onBus = true := by decide +kernel

theorem witness_ResetsAndBootStagesFollowTheirOrder : State.reset.boot.up = false ∧ State.reset.kiln.clockLost = false ∧
    State.reset.kiln.offState = false ∧ W.ready.boot.up = true ∧ W.boot.booting = true ∧ W.boot.boot.stage = 1 ∧
    W.boot.fuse.consistent = true ∧ W.lost.kiln.clockLost = true ∧
    W.lost.kiln.offState = false ∧ W.lost.pins.rails = 0x7F ∧ W.lost.pins.resetN = true ∧ W.off.kiln.offState = true ∧
    W.off.pins.rails = 0x7F ∧ W.off.pins.resetN = true ∧ W.tripped.kiln.tripped = true ∧ W.ready.booting = false ∧
    (W.ready.wr F.KILN_STAT_STATE 3).rd F.KILN_STAT_STATE = 3 ∧ W.ready.rd F.KILN_STAT_STATE < 2 := by decide +kernel
theorem witness_ResetsAndBootStagesFollowTheirOrder_fuses : W.boot.fuse.crcOk = true := by
  have h : W.boot.fuse = FuseSt.plain := rfl
  rw [h]; exact plain_crc

theorem witness_OwlCollectsAndReacts : W.opened.offered = none ∧ W.staged.offered = some W.msg ∧
    W.staged.owl.fifo.length < 64 ∧ W.staged.owl.active = [] ∧ W.queued.owl.fifo = [W.msg] ∧ W.queued.reactionOf W.msg = 0 ∧
    W.msg.kind ≠ 0x10 ∧ W.msg.forced = false ∧ W.queued.entryOf W.msg.src W.msg.kind = none ∧
    W.queued.freeEntry = some 0 ∧ W.fault.entryOf 0x700 0x31 = some 0 ∧ W.queued.owl.log.length < 256 := by decide +kernel
theorem witness_OwlCollectsAndReacts_full : 64 ≤ ({ W.staged with owl := { W.staged.owl with
      fifo := List.replicate 64 W.msg } }).owl.fifo.length ∧
    ({ W.staged with owl := { W.staged.owl with fifo := List.replicate 64 W.msg } }).offered = some W.msg ∧
    W.reacting.owl.active.find? (fun r => r.slot == 15) = some ⟨15, W.msg, 3⟩ ∧ W.reacting.reacted ⟨15, W.msg, 3⟩ = true ∧
    W.watched.boot.up = true ∧ W.watched.boot.fw.isSome = true ∧ W.watched.on F.OWL_WDOG_EN = true ∧
    W.watched.owl.barked = false ∧ W.watched.owl.fifo.length < 64 ∧ W.watched.owl.active = [] ∧
    (0x7400110000000000 : BitVec 64).getLsbD 40 = true ∧ W.ready.sourceOn 0x740 = true := by decide +kernel

theorem witness_PowerWindowsMeasureAndCorrect : W.opened.running = true ∧ W.opened.on F.KILN_STAT_RECAL_BUSY = false ∧
    W.opened.kiln.recal = none ∧ (W.recal 0).kiln.recal = some ⟨0, List.replicate 9 1, List.replicate 9 0⟩ ∧
    (W.recal 1).kiln.recal = some ⟨1, List.replicate 9 1, List.replicate 9 0⟩ ∧ W.opened.engineOn 7 = true ∧
    W.opened.kiln.droop.contains 7 = false ∧
    ({ W.opened with kiln := { W.opened.kiln with droop := [7] } }).kiln.droop.contains 7 = true := by decide +kernel

theorem witness_ThermalReportsAndIdlingAct : (List.replicate 28 (1600 : Int)).length = 28 ∧
    W.young.tileOn 1087 = true ∧ 1 < W.young.liveBin 1087 ∧ W.young.on F.SPARE_CTRL_AGE_EN = false ∧
    W.ready.tileOn 1088 = false ∧ W.idle.running = true ∧ W.idle.on F.KILN_CTRL_AUTO_IDLE = true ∧
    W.idle.rd F.KILN_STAT_STATE = 0 ∧ W.idle.time.phase = .opened ∧ W.idle.freeRun = false ∧ W.idle.allDone = true ∧
    4 ≤ span (W.idle.startOf (W.idle.step + 1)) W.idle.grain ∧ W.ready.rd F.KILN_STAT_STATE ≠ 1 ∧
    (W.ready.wr F.KILN_STAT_STATE 1).rd F.KILN_STAT_STATE = 1 := by decide +kernel

theorem witness_MirrorBlocksAreSentAndChecked_step : W.send.mirrorSends = true ∧
    W.send.pair.blockNext < W.send.time.winClosed ∧ W.send.standby = false ∧ W.send.pair.editsOut = [] ∧
    W.send.pair.anchors = [] ∧ W.send.pair.overload = [] ∧ W.send.pair.roleOut = none ∧ W.send.pair.windows = [] ∧
    W.send.txReady W.send.mirrorTx = true ∧ W.send.txLocked W.send.mirrorTx = true ∧
    W.send.txFits W.send.mirrorTx 28 = true ∧ (W.send.txp W.send.mirrorTx).waits .mirror = false := by decide +kernel
theorem witness_MirrorBlocksAreSentAndChecked_standby : (W.send.wr F.PAIR_STAT_ROLE 1).standby = true ∧
    (W.send.wr F.PAIR_STAT_ROLE 1).mirrorSends = true ∧ W.ready.mirrorSends = false ∧ W.ready.mirroring = false := by
  decide +kernel
theorem witness_MirrorBlocksAreSentAndChecked_frame :
    ({ W.send with pair := { W.send.pair with frames := [(0, [])] } }).pair.frames = [(0, [])] ∧
    ({ W.send with pair := { W.send.pair with frames := [(0, [])] } }).ash.recs = [] := by decide +kernel
theorem witness_MirrorBlocksAreSentAndChecked_agree : W.agree.mirrorSends = true ∧ W.agree.running = false ∧
    W.agree.txReady W.agree.mirrorTx = true ∧ W.agree.txLocked W.agree.mirrorTx = true ∧
    W.agree.txFits W.agree.mirrorTx 100 = true ∧ (W.agree.txp W.agree.mirrorTx).waits .mirror = false := by decide +kernel
theorem witness_MirrorBlocksAreSentAndChecked_stream : (W.send.txp W.send.mirrorTx).blocks = [] ∧
    (W.send.txp W.send.mirrorTx).wait = [] ∧ W.send.rd F.PAIR_CKPT_CFG_STREAM_MBPS ≠ 0 := by decide +kernel
theorem witness_MirrorBlocksAreSentAndChecked_receive :
    (set F.CSIRX_PORT_CFG_EN 1 W.send 5).mirroring = true ∧
    (set F.CSIRX_PORT_CFG_EN 1 W.send 5).rxReady (set F.CSIRX_PORT_CFG_EN 1 W.send 5).mirrorRx = true ∧
    W.send.rxReady W.send.mirrorRx = false ∧
    (List.replicate 15 (0 : Byte)).length < 16 ∧ byteField (List.replicate 16 (0 : Byte)) 12 2 = 0 ∧
    byteField (List.replicate 16 (0 : Byte)) 14 1 < 8 ∧ byteField (List.replicate 16 (0 : Byte)) 15 1 = 0 ∧
    (List.replicate 16 (0 : Byte)).length = 16 ∧ 16 < (List.replicate 17 (0 : Byte)).length ∧
    byteField (List.replicate 17 (0 : Byte)) 12 2 = 0 := by decide +kernel

theorem witness_PartnersWatchEachOther_hb : (true ≠ W.pair.pins.hbIn) ∧ W.watch.mirroring = true ∧
    W.watch.rd F.PAIR_STAT_SB_STATE = 1 ∧ W.silent.mirroring = true ∧ W.silent.rd F.PAIR_STAT_SB_STATE = 2 ∧
    W.silent.on F.PAIR_STAT_FENCE_IN = false ∧ W.ready.mirroring = false := by decide +kernel
theorem witness_PartnersWatchEachOther_takeover : (W.silent.wr F.PAIR_STAT_FENCE_IN 1).on F.PAIR_STAT_FENCE_IN = true ∧
    W.silent.on F.PAIR_STAT_ROLE = true ∧ W.silent.allReady = true ∧ W.silent.rd F.PAIR_STAT_PHASE = 0 ∧
    W.silent.pair.kept = [] ∧ W.silent.cmd.deferred = [] ∧ W.alone.rd F.PAIR_STAT_SB_STATE = 3 ∧
    W.alone.on F.PAIR_STAT_ROLE = true ∧ W.alone.allReady = true ∧ W.alone.rd F.PAIR_STAT_PHASE = 0 ∧
    W.alone.pair.kept = [] ∧ W.alone.cmd.deferred = [] ∧
    (W.alone.wr F.PAIR_STAT_PHASE 2).rd F.PAIR_STAT_PHASE ≠ 0 ∧ W.watch.rd F.PAIR_STAT_SB_STATE ≠ 3 := by decide +kernel
theorem witness_PartnersWatchEachOther_align : W.follow.mirroring = true ∧ W.follow.standby = true ∧
    W.follow.running = true ∧ W.follow.rd F.PAIR_STAT_PHASE = 0 ∧ W.follow.pair.aligned.contains W.follow.step = false ∧
    W.follow.step < W.follow.time.winClosed ∧ W.follow.pair.align = [] ∧
    W.follow.alignSources.all (W.follow.meets [(0x100, 1)]) = false ∧
    ({ W.follow with pair := { W.follow.pair with align := [(0, [(0x100, 1)])] } }).step = 0 ∧
    (W.ready.mirroring && W.ready.standby && W.ready.running) = false := by decide +kernel
theorem witness_PartnersWatchEachOther_copy : W.away.time.phase = .away ∧ W.away.rd F.PAIR_STAT_PHASE = 1 ∧
    W.away.pair.resync = false ∧ W.away.pair.restoring = false ∧ W.away.pair.joining = false ∧ W.away.pair.copying.isSome = true ∧ W.ready.time.phase ≠ .away := by decide +kernel
theorem witness_PartnersWatchEachOther_rejoin : W.replays.rd F.PAIR_STAT_PHASE = 2 ∧ W.replays.time.phase = .opened ∧
    W.replays.time.winClosed = W.replays.step + 1 ∧ W.replays.tinder.closes = [] ∧ W.replays.tinder.inputs = [] ∧
    W.replays.pair.restoring = false ∧ W.replays.pair.replay = [] ∧ reached W.replays.grain (W.replays.winStart (W.replays.step + 2)) = false ∧
    W.replays.rd F.PAIR_STAT_SB_STATE ≠ 4 ∧ W.ready.rd F.PAIR_STAT_PHASE ≠ 2 := by decide +kernel

theorem witness_PairCommandsSetRoleAndMirror_role : Ready W.ready (W.cPar4 0x38 0x100) ∧ (W.cPar4 0x38 0x100).op = 0x38 ∧
    pairOp.reason W.ready.took (W.cPar4 0x38 0x100) = none ∧ (W.cPar4 0x38 0x100).par 0 1 = 0 ∧
    (W.cPar4 0x38 0x100).par 1 1 = 1 ∧ W.ready.running = false ∧ Ready W.leader (W.cPar4 0x38 0x100) ∧
    W.leader.running = true ∧ pairOp.reason W.leader.took (W.cPar4 0x38 0x100) = none := by unfold Ready; decide +kernel
theorem witness_PairCommandsSetRoleAndMirror_mirror : Ready W.ready (W.cPar4 0x38 0x101) ∧ W.ready.mirroring = false ∧
    pairOp.reason W.ready.took (W.cPar4 0x38 0x101) = none ∧ (W.cPar4 0x38 0x101).par 0 1 = 1 ∧
    (W.cPar4 0x38 0x101).par 1 1 = 1 ∧ Ready W.agree (W.cPar4 0x38 1) ∧ W.agree.mirroring = true ∧
    pairOp.reason W.agree.took (W.cPar4 0x38 1) = none ∧ (W.cPar4 0x38 1).par 1 1 = 0 := by unfold Ready; decide +kernel
theorem witness_PairCommandsSetRoleAndMirror_resync : Ready W.alone (W.cPar4 0x38 2) ∧ (W.cPar4 0x38 2).par 0 1 = 2 ∧
    pairOp.reason W.alone.took (W.cPar4 0x38 2) = none := by unfold Ready; decide +kernel
theorem witness_PairCommandsSetRoleAndMirror_failover : Ready W.alone (W.cmd0 0x39) ∧ (W.cmd0 0x39).op = 0x39 ∧
    failoverOp.reason W.alone.took (W.cmd0 0x39) = none ∧ W.alone.rd F.PAIR_STAT_PHASE = 0 ∧ W.alone.pair.kept = [] ∧
    Ready (W.alone.wr F.PAIR_STAT_PHASE 2) (W.cmd0 0x39) ∧
    failoverOp.reason (W.alone.wr F.PAIR_STAT_PHASE 2).took (W.cmd0 0x39) = none := by unfold Ready; decide +kernel

theorem witness_SwapsAndDomainResetsAct_swap : Ready W.mapped (W.cPar4 0x3A 1023) ∧ (W.cPar4 0x3A 1023).op = 0x3A ∧
    spareOp.reason W.mapped.took (W.cPar4 0x3A 1023) = none ∧ (W.cPar4 0x3A 1023).par 0 2 = 1023 ∧
    W.mapped.took.swapColumns 1023 = [] ∧ W.mapped.took.coreOn 1023 = true := by unfold Ready; decide +kernel
theorem witness_SwapsAndDomainResetsAct_spare :
    W.mapped.took.swapPossible ⟨1023, W.mapped.took.swapColumns 1023, 0, false, none, true⟩ = true := by
  have h := spareFor_isSome (s := W.mapped.took) (n := 1023) (p := 834) (by decide +kernel) (by decide +kernel)
    (by decide +kernel)
  unfold State.swapPossible
  dsimp only
  rw [witness_SwapsAndDomainResetsAct_swap.2.2.2.2.1, if_pos rfl, h, witness_SwapsAndDomainResetsAct_swap.2.2.2.2.2]
  rfl
theorem witness_SwapsAndDomainResetsAct_nospare : Ready W.spent (W.cPar4 0x3A 1023) ∧
    spareOp.reason W.spent.took (W.cPar4 0x3A 1023) = none ∧ W.spent.took.swapColumns 1023 = [] := by
  unfold Ready; decide +kernel
theorem witness_SwapsAndDomainResetsAct_noneleft :
    W.spent.took.swapPossible ⟨1023, W.spent.took.swapColumns 1023, 0, false, none, true⟩ = false := by
  have h := spareFor_none (s := W.spent.took) (n := 1023) (by decide +kernel)
  unfold State.swapPossible
  dsimp only
  rw [witness_SwapsAndDomainResetsAct_nospare.2.2, if_pos rfl, h]
  exact Bool.and_false _
theorem witness_SwapsAndDomainResetsAct_copy : (W.swapping.running = false ∧ W.swapping.time.phase = .off ∧
    W.swapping.spare.window = none ∧ W.swapping.spare.queue = [W.swap] ∧ W.swap.slot = none ∧ W.swap.reply = false ∧
    W.swapping.swapSettled W.swap = true ∧ ({ W.swapping with net := { W.swapping.net with tids := [
      { W.tid with agent := 1023 }] } }).swapSettled W.swap = false ∧ W.swap.columns = [] ∧ W.swap.source = 0 ∧ W.ready.swapNow = none) ∧
    (W.swapping.spareFor W.swap.core).isSome = true :=
  ⟨by decide +kernel, spareFor_isSome (s := W.swapping) (n := 1023) (p := 834) (by decide +kernel) (by decide +kernel)
    (by decide +kernel)⟩
theorem witness_SwapsAndDomainResetsAct_failed :
    (W.spent.running = false ∧ W.spent.time.phase = .off ∧ W.swap.columns = [] ∧
      W.ready.swapPossible { W.swap with columns := [(7, 17)] } = false) ∧
    ({ W.spent with spare := { W.spent.spare with queue := [W.swap] } }).spareFor W.swap.core = none :=
  ⟨by decide +kernel, spareFor_none (n := 1023) (by decide +kernel)⟩
theorem witness_SwapsAndDomainResetsAct_reset : Ready W.ready (W.cPar4 0x3D 0x3FF0000) ∧ (W.cPar4 0x3D 0x3FF0000).op = 0x3D ∧
    domainOp.reason W.ready.took (W.cPar4 0x3D 0x3FF0000) = none ∧ (W.cPar4 0x3D 0x3FF0000).par 0 1 = 0 ∧
    (W.cPar4 0x3D 0x3FF0000).par 2 2 = 1023 ∧ (W.cPar4 0x3D 0x70001).par 0 1 = 1 ∧
    domainOp.reason W.ready.took (W.cPar4 0x3D 0x70001) = none ∧ (W.cPar4 0x3D 0x10002).par 0 1 = 2 ∧
    domainOp.reason W.ready.took (W.cPar4 0x3D 0x10002) = none ∧ (W.cPar4 0x3D 0x50003).par 0 1 = 3 ∧
    domainOp.reason W.ready.took (W.cPar4 0x3D 0x50003) = none ∧ (W.cPar4 0x3D 0x30004).par 0 1 = 4 ∧
    domainOp.reason W.ready.took (W.cPar4 0x3D 0x30004) = none := by unfold Ready; decide +kernel

theorem witness_FirmwareAndAttestationAreSigned_verify : Ready W.mem (W.cFw 0) ∧ (W.cFw 0).op = 0x3C ∧
    fwOp.reason W.mem.took (W.cFw 0) = none ∧ (W.cFw 0).par 12 1 = 0 ∧ Ready W.mem (W.cFw 1) ∧
    fwOp.reason W.mem.took (W.cFw 1) = none ∧ (W.cFw 1).par 12 1 = 1 := by unfold Ready; decide +kernel
theorem witness_FirmwareAndAttestationAreSigned_refused :
    (W.mem.took.fwVerify ((W.cFw 1).par 0 8) ((W.cFw 1).par 8 4)).1 = .inr (0x0A11, []) := by decide +kernel
theorem witness_FirmwareAndAttestationAreSigned_write : W.written.cmd.deferred = [⟨0x3C, 0, true, .i3cSdr, 0⟩] ∧
    W.written.boot.update = some (0x1000000000, 256, 1) ∧ W.written.boot.source = 0 ∧
    ({ W.written with boot := { W.written.boot with source := 1 } }).boot.source = 1 ∧ W.ready.boot.update = none := by
  decide +kernel
theorem witness_FirmwareAndAttestationAreSigned_attest : Ready W.mem W.cAttest ∧ W.cAttest.op = 0x03 ∧
    attestOp.reason W.mem.took W.cAttest = none ∧ W.cAttest.par 32 8 = 0x1000000000 ∧ W.mem.sec.attest = none := by
  unfold Ready; decide +kernel
theorem witness_FirmwareAndAttestationAreSigned_report : W.report.cmd.deferred = [⟨0x03, 0, true, .i3cSdr, 0⟩] ∧
    W.report.sec.attest = some ⟨[], 0x1000000000⟩ ∧ W.report.g6Failed (W.report.g6Group 0x1000000000) = false ∧
    W.report.g6Failed (W.report.g6Group (0x1000000000 + 128)) = false ∧ W.report.g6Has 0x1000000000 = true ∧
    W.report.g6Has (0x1000000000 + 371) = true ∧
    (W.report.wr F.MEM_STAT_FAILED 1 0).g6Failed ((W.report.wr F.MEM_STAT_FAILED 1 0).g6Group 0x1000000000) = true := by
  decide +kernel

theorem witness_LearningAndSnapshotsFollowTheirBoundaries_stand : Ready W.ready (W.cPar4 0x30 7) ∧
    (W.cPar4 0x30 7).op = 0x30 ∧ learnOp.reason W.ready.took (W.cPar4 0x30 7) = none ∧ (W.cPar4 0x30 7).par 0 1 = 7 ∧
    (W.cPar4 0x30 7).par 1 1 = 0 ∧ W.ready.running = false ∧ Ready W.learns (W.cPar4 0x30 0x107) ∧
    learnOp.reason W.learns.took (W.cPar4 0x30 0x107) = none ∧ (W.cPar4 0x30 0x107).par 1 1 = 1 ∧
    W.learns.rd F.LRN_REGION_STATE 0 7 ≠ 0 ∧ W.learns.running = false ∧ (W.cPar4 0x30 0x207).par 1 1 = 2 ∧
    learnOp.reason W.learns.took (W.cPar4 0x30 0x207) = none ∧ (W.cPar4 0x30 0x307).par 1 1 = 3 ∧
    learnOp.reason W.learns.took (W.cPar4 0x30 0x307) = none := by unfold Ready; decide +kernel
theorem witness_LearningAndSnapshotsFollowTheirBoundaries_runs : Ready W.epochs (W.cPar4 0x30 0x307) ∧
    learnOp.reason W.epochs.took (W.cPar4 0x30 0x307) = none ∧ W.epochs.running = true ∧
    W.epochs.rd F.LRN_REGION_EPOCH_STEPS 0 7 ≠ 0 ∧ W.epochs.time.phase ≠ .armed := by unfold Ready; decide +kernel
theorem witness_LearningAndSnapshotsFollowTheirBoundaries_snapshot : Ready W.partition W.cSnap ∧ W.cSnap.op = 0x31 ∧
    snapshotOp.reason W.partition.took W.cSnap = none ∧ W.partition.running = false ∧ W.cSnap.par 0 1 = 7 := by
  unfold Ready; decide +kernel
theorem witness_LearningAndSnapshotsFollowTheirBoundaries_copy : W.copying.learn.snap = some W.snap ∧
    W.snap.copying = true ∧ W.snap.dest < 128 ∧ W.copying.cmd.deferred = [⟨0x31, 0, true, .i3cSdr, 0⟩] ∧
    (W.copying.wr F.LRN_REGION_SNAP_HOLD 1 0 7).rd F.LRN_REGION_SNAP_HOLD 0 W.snap.region ≠ 0 ∧ W.copying.cmd.replies = [] ∧
    W.copying.cmd.replyWait = [] ∧ W.copying.g6 = [] ∧ W.copying.rd F.LRN_REGION_SNAP_HOLD 0 W.snap.region = 0 ∧
    W.ready.learn.snap = none := by decide +kernel

theorem witness_FusesAndUnlockFollowTheirRules_prog : W.ready.running = false ∧ W.ready.on F.SEC_PROG_BUSY = false ∧
    W.opened.running = true ∧ (W.blowing 5).on F.CHIP_CTRL_CHECK_BUSY = false ∧ W.ready.fuse.slotValid.getLsbD 3 = false ∧ W.ready.sec.prog = none ∧
    (W.blowing 5).sec.prog = some (1, 0, 5) := by decide +kernel
theorem witness_FusesAndUnlockFollowTheirRules_unlock : W.ready.sec.fails < 8 ∧ W.ready.sec.chal = none ∧
    8 ≤ ({ W.ready with sec := { W.ready.sec with fails := 8 } }).sec.fails := by decide +kernel
theorem witness_FusesAndUnlockFollowTheirRules_opens : ∃ b ch : List Byte, W.unlocking.sec.chal = some ch ∧
    W.unlocking.fuse.debugLock = false ∧ b.length = 96 ∧ W.unlocking.debugKey (b.take 32) = true ∧
    Ed.verify (b.take 32) ch (b.drop 32) = true := by
  exact ⟨W.ident ++ W.ident ++ List.replicate 32 0, List.replicate 48 0, by decide +kernel⟩

/-- A stage's findings without any defect. -/
def found : StageResult where
  pllA := true
  pllB := true
  mgmtBad := 0
  defectCores := []
  repaired := 0
  bufferDead := false
  spareWires := 0
  columns := []
  linkDead := false
  g6Trained := 3
  positions := []
  dbiLanes := []
  rxLanes := List.replicate 6 0xF
  txTrained := 0xF
  millis := 30

/-! ### Well-formed and ill-formed commands, one ill-formed for each check -/

theorem test_wf_well : (Instr.packetInject W.spike).wf = true ∧ (Instr.ident W.cIdent).wf = true ∧
    (Instr.bootStageEnd found).wf = true ∧ (Instr.cordBegin [⟨1087, 4, 3, 1023, 1⟩]).wf = true := by decide +kernel
theorem test_wf_packet_len : (Instr.packetInject { W.spike with data := [0] }).wf = false := by decide
theorem test_wf_command_short : (Instr.ident ⟨.i3cSdr, List.replicate 19 0⟩).wf = false := by decide
theorem test_wf_command_long : (HostCmd.mk .i3cSdr (List.replicate 65536 0)).wf = false := by
  unfold HostCmd.wf
  rw [List.length_replicate]
  decide
theorem test_wf_lane_fault : LaneFault.wf ⟨1088, 1, 0, 0, 1⟩ = false ∧ LaneFault.wf ⟨0, 0, 0, 0, 1⟩ = false ∧
    LaneFault.wf ⟨0, 5, 0, 0, 1⟩ = false ∧ LaneFault.wf ⟨0, 1, 4, 0, 1⟩ = false ∧ LaneFault.wf ⟨0, 1, 0, 1024, 1⟩ = false ∧
    LaneFault.wf ⟨0, 1, 0, 0, 0⟩ = false := by decide
theorem test_wf_domain : (Instr.domainWake (.core 1024)).wf = false ∧ (Instr.domainWake (.engine 8)).wf = false ∧
    (Instr.domainWakeDone (.group 2)).wf = false := by decide
theorem test_wf_stage : (Instr.bootStageEnd { found with defectCores := [1088] }).wf = false ∧
    (Instr.bootStageEnd { found with columns := [(8, 0)] }).wf = false ∧
    (Instr.bootStageEnd { found with columns := [(0, 17)] }).wf = false ∧
    (Instr.bootStageEnd { found with positions := [(2, 0)] }).wf = false ∧
    (Instr.bootStageEnd { found with positions := [(0, 80)] }).wf = false ∧
    (Instr.bootStageEnd { found with dbiLanes := [(0, 10)] }).wf = false ∧
    (Instr.bootStageEnd { found with rxLanes := [] }).wf = false := by decide
theorem test_wf_numbers : (Instr.syncInEdge 3200).wf = false ∧ (Instr.dinDebounceExpired 16 ⟨true, 0⟩).wf = false ∧
    (Instr.streamLossTimeout 48).wf = false ∧ (Instr.tndChanBWrite 4096 0).wf = false ∧
    (Instr.landingTokenArrive 0 false 0).wf = false ∧ (Instr.landingTokenArrive 0 false 64).wf = false ∧
    (Instr.denRelease 1024).wf = false ∧ (Instr.resultRecordEmit 256).wf = false ∧ (Instr.actRecheck ⟨16, true⟩).wf = false ∧
    (Instr.cordLoadMaskWrite 16 0).wf = false ∧ (Instr.cordTableBcWrite 1024 0).wf = false ∧
    (Instr.g6Refresh ⟨2, false⟩).wf = false ∧ (Instr.txPacketStart 4).wf = false ∧ (Instr.csirxRetrain 6 0).wf = false ∧
    (Instr.reactionComplete 16).wf = false ∧ (Instr.powerWindowEnd [] 0).wf = false ∧ (Instr.droopDetect 8).wf = false ∧
    (Instr.ageingMeasure 1088 true).wf = false ∧ (Instr.railOutOfRange 7).wf = false := by decide
theorem test_wf_headers : (Instr.rxPacketHeader 0 .good 16 0 0).wf = false ∧ (Instr.rxPacketHeader 0 .good 0 64 0).wf = false ∧
    (Instr.rxPacketHeader 0 .good 0 0 65536).wf = false := by decide
theorem test_wf_readings : (Instr.thermalReport (List.replicate 27 0)).wf = false ∧
    (Instr.thermalReport (List.replicate 28 32768)).wf = false := by decide
theorem test_wf_registers : (Instr.registerWrite 4 .whole 0).wf = false ∧ (Instr.registerWrite 2 .low 0).wf = false := by
  decide

/-! ### Values that the spec prints -/

/-- The check value of R326 of 12_command_interface.md over the ASCII string "123456789". -/
theorem test_crc32c_check : crc32c [0x31, 0x32, 0x33, 0x34, 0x35, 0x36, 0x37, 0x38, 0x39] = 0xE3069283#32 := by
  decide +kernel

/-- A header laid out by hand from the table of R189 of 07_event_network.md: operation 1, to core 5 from Tinder, tag 9,
axon 0x1234, payload 0xAB, no flits. -/
theorem test_header_layout : Packet.header ⟨1, 5, 0x1F22, 9, 0x1234, 0xAB, 0, []⟩ =
    0b0001_0000000000101_1111100100010_001001_0001001000110100_10101011_0000#64 := by decide

/-- IDCODE of a die of revision 1 (17_security.md R458). -/
theorem test_idcode : (nextOf (exec .idcode State.reset)).map (fun t => t.cmd.jtagOut) = some [0x4B, 0x8D, 0xA0, 0x14] := by
  decide

/-- The address that R279 of 10_memory_system.md works out, on two groups of 16 Gb devices. -/
theorem test_dram_place :
    let s := set F.MEM_CFG_DENSITY 1 (set F.MEM_CFG_DENSITY 1 W.ready) 1
    (s.g6Group 0x104ABCDEC8, g6Beat 0x104ABCDEC8, s.g6Index 0x104ABCDEC8, s.g6Dram 1 0x4ABCDE) =
      (1, 9, 0x4ABCDE, ⟨0x1E, 3, 0, 0x12AF⟩) := by decide +kernel

/-- SETMWL takes 20 and ignores 19 (12_command_interface.md R319). -/
theorem test_setmwl : (nextOf (exec (.setmwl 20) W.ready)).map (fun t => t.rd F.I3C_LEN_MWL) = some 20 ∧
    nextOf (exec (.setmwl 19) W.ready) = some W.ready := by decide +kernel

/-- A write to the quench pin disarms and stops (12_command_interface.md R344). -/
theorem test_quench_pin : (nextOf (exec .quenchNLow W.act)).map
    (fun t => (t.running, t.rd F.ACT_STAT_LEVEL, t.rd F.ACT_ARM_ARM, t.rd F.CHIP_CTRL_QUENCHED)) = some (false, 0, 0, 1) := by
  decide +kernel

/-- A saturated counter stays where it is (00_scope.md R9): RUNT has 16 bits. -/
theorem test_counter_saturates : (nextOf (exec (.i3cPrivateWrite [1] false true) (set F.I3C_CNT_RUNT 65535 W.bus))).map
    (fun t => t.rd F.I3C_CNT_RUNT) = some 65535 := by decide +kernel

/-- The balls that R476 and R477 of 18_electrical_and_package.md name: RX4_D2_P at D18, TX1_CLK_N at AU15, G6B_D2_DQ10 at
AD38. -/
theorem test_balls : (Ball.mk 4 18).use = .lane false 4 3 false ∧ (Ball.mk 35 15).use = .lane true 1 0 true ∧
    (Ball.mk 23 38).use = .g6 1 2 (.dq 10) := by decide

/-- The totals of R477 of 18_electrical_and_package.md for VSS and VDD_CORE. -/
theorem test_ball_totals :
    let us := (List.range 1681).map (fun i => (Ball.mk (i / 41 + 1) (i % 41 + 1)).use)
    (us.filter (· == .vss)).length = 632 ∧ (us.filter (· == .supply .vddCore)).length = 217 := by decide +kernel

/-- In reset every output is high-impedance; from power-good the ACT lines are driven low (06 R182, 18 R475). -/
theorem test_act_driven : State.reset.pinDrive (.act 5) = .highZ ∧ W.ready.pinDrive (.act 5) = .low := by decide +kernel

/-- Commands leave the queue in the order in which they came. -/
theorem test_queue_order : (nextOf (step { W.bus with pending := [.enthdr0, .hdrExit] })).map
    (fun t => (t.cmd.hdr, t.pending)) = some (true, [.hdrExit]) := by decide +kernel

end Sys2Proof.Tests
end

section
/-!
SUPPORT. Frames: what stays as it was along writes of registers and along the grains that a command passes over.
-/
namespace Sys2Proof.Machine

section OnlyWrites
variable {ks ls : List Key} {s t u : State}

/-- What reads a register outside the frame reads what it read before. -/
theorem OnlyWrites.rd_eq (h : OnlyWrites ks s t) (f : Fld) (hf : f.key 0 0 ∉ ks := by decide) : t.rd f = s.rd f :=
  h f 0 0 hf

theorem OnlyWrites.refl (ks : List Key) (s : State) : OnlyWrites ks s s := fun _ _ _ _ => rfl

theorem OnlyWrites.trans (hst : OnlyWrites ks s t) (htu : OnlyWrites ks t u) : OnlyWrites ks s u :=
  fun f c i hf => (htu f c i hf).trans (hst f c i hf)

theorem OnlyWrites.mono (h : OnlyWrites ks s t) (hsub : ks ⊆ ls) : OnlyWrites ls s t :=
  fun f c i hf => h f c i (fun hk => hf (hsub hk))

/-- One more write to a register of the frame keeps it. -/
theorem OnlyWrites.wr (h : OnlyWrites ks s t) (f : Fld) (v u i : Nat) (hf : f.key u i ∈ ks) :
    OnlyWrites ks s (t.wr f v u i) :=
  fun g c j hg => (State.rd_wr_ne t f g v u i c j (fun e => hg (e ▸ hf))).trans (h g c j hg)

theorem OnlyWrites.inc (h : OnlyWrites ks s t) (f : Fld) (n u i : Nat) (hf : f.key u i ∈ ks) :
    OnlyWrites ks s (t.inc f n u i) :=
  h.wr f _ u i hf

/-- A frame says nothing of the state beside the registers. -/
theorem OnlyWrites.of_regs (h : OnlyWrites ks s t) (hr : u.regs = t.regs) : OnlyWrites ks s u :=
  fun f c i hf => (State.rd_of_regs hr f c i).trans (h f c i hf)

end OnlyWrites

/-- From `s` to `t` nothing changed but registers and the time record. -/
def RegsTimeFrame (s t : State) : Prop := t = { s with regs := t.regs, time := t.time }

/-- From `s` to `t` nothing changed but what a later grain changes (`State.toGrain`): registers, the time record, pins,
the actuation record and the number of missing heartbeats counted. -/
def GrainFrame (s t : State) : Prop :=
  t = { s with regs := t.regs, time := t.time, pins := t.pins, ash := t.ash,
               pair := { s.pair with gaps := t.pair.gaps } }

section Frames
variable {s t u : State}

theorem RegsTimeFrame.refl (s : State) : RegsTimeFrame s s := rfl

theorem RegsTimeFrame.trans (hst : RegsTimeFrame s t) (htu : RegsTimeFrame t u) : RegsTimeFrame s u := by
  unfold RegsTimeFrame at *
  rw [htu, hst]

theorem RegsTimeFrame.wr (h : RegsTimeFrame s t) (f : Fld) (v u i : Nat) : RegsTimeFrame s (t.wr f v u i) :=
  h.trans rfl

theorem RegsTimeFrame.inc (h : RegsTimeFrame s t) (f : Fld) (n u i : Nat) : RegsTimeFrame s (t.inc f n u i) :=
  h.wr f _ u i

theorem RegsTimeFrame.with_time (h : RegsTimeFrame s t) (x : TimeSt) : RegsTimeFrame s { t with time := x } :=
  h.trans rfl

theorem RegsTimeFrame.grainFrame (h : RegsTimeFrame s t) : GrainFrame s t := by
  unfold RegsTimeFrame at h
  unfold GrainFrame
  rw [h]

theorem GrainFrame.trans (hst : GrainFrame s t) (htu : GrainFrame t u) : GrainFrame s u := by
  unfold GrainFrame at *
  rw [htu, hst]

end Frames

/-- Missing heartbeats are counted in HB_GAP and in the number of those already counted, or nothing happens. -/
theorem State.countGaps_cases (s : State) :
    s.countGaps = s ∨ ∃ n k, s.countGaps = { s.inc F.PAIR_CNT0_HB_GAP n with pair := { s.pair with gaps := k } } := by
  unfold State.countGaps
  extract_lets gone
  split
  · exact .inr ⟨_, _, rfl⟩
  · exact .inl rfl

theorem State.countGaps_time (s : State) : s.countGaps.time = s.time := by
  rcases s.countGaps_cases with h | ⟨n, k, h⟩ <;> rw [h]
  rw [State.inc_time]

theorem State.countGaps_grainFrame (s : State) : GrainFrame s s.countGaps := by
  rcases s.countGaps_cases with h | ⟨n, k, h⟩ <;> rw [h] <;> rfl

theorem State.countGaps_onlyWrites (s : State) : OnlyWrites grainKeys s s.countGaps := by
  rcases s.countGaps_cases with h | ⟨n, k, h⟩
  · rw [h]; exact OnlyWrites.refl _ s
  · rw [h]; exact OnlyWrites.of_regs ((OnlyWrites.refl _ s).inc F.PAIR_CNT0_HB_GAP n 0 0 (by decide)) rfl

/-- What passes on the way to a later grain: an awaited write of ACT_ARM, the counter itself, pins, a correction that
slewing consumes toward zero and never past it (R36), and the count of missing heartbeats. -/
theorem State.toGrain_eq (s : State) (g : Nat) :
    ∃ (arm : State) (pins : PinSt) (ash : AshSt) (slew : Int),
      (arm = s ∨ ∃ v, arm = s.wr F.ACT_ARM_ARM v) ∧ slew.natAbs ≤ s.time.slew.natAbs ∧
      s.toGrain g = State.countGaps { arm.wr F.TIME_GRAIN_GRAIN g with
        pins := pins, ash := ash, time := { s.time with slew := slew } } := by
  unfold State.toGrain
  extract_lets k arm left t
  refine ⟨arm, _, _, left, ?_, ?_, rfl⟩
  · cases hv : s.ash.armNext with
    | none => exact .inl (by simp only [arm, hv])
    | some v => exact .inr ⟨v, by simp only [arm, hv]⟩
  · simp only [left]
    split <;> omega

theorem State.toGrain_grainFrame (s : State) (g : Nat) : GrainFrame s (s.toGrain g) := by
  obtain ⟨arm, pins, ash, slew, harm, -, h⟩ := s.toGrain_eq g
  rw [h]
  refine GrainFrame.trans ?_ (State.countGaps_grainFrame _)
  rcases harm with rfl | ⟨v, rfl⟩ <;> rfl

theorem State.toGrain_onlyWrites (s : State) (g : Nat) : OnlyWrites grainKeys s (s.toGrain g) := by
  obtain ⟨arm, pins, ash, slew, harm, -, h⟩ := s.toGrain_eq g
  have hw : OnlyWrites grainKeys s arm := by
    rcases harm with rfl | ⟨v, rfl⟩
    · exact OnlyWrites.refl _ arm
    · exact (OnlyWrites.refl _ s).wr F.ACT_ARM_ARM v 0 0 (by decide)
  rw [h]
  refine OnlyWrites.trans ?_ (State.countGaps_onlyWrites _)
  exact OnlyWrites.of_regs (hw.wr F.TIME_GRAIN_GRAIN g 0 0 (by decide)) rfl

theorem State.toGrain_slew_natAbs_le (s : State) (g : Nat) :
    (s.toGrain g).time.slew.natAbs ≤ s.time.slew.natAbs := by
  obtain ⟨arm, pins, ash, slew, -, hslew, h⟩ := s.toGrain_eq g
  rw [h, State.countGaps_time]
  exact hslew

theorem State.advance_grainFrame (s : State) (g : Nat) : GrainFrame s (s.advance g) := by
  unfold State.advance
  split
  · exact (RegsTimeFrame.refl s).grainFrame
  · exact s.toGrain_grainFrame _

theorem State.advance_onlyWrites (s : State) (g : Nat) : OnlyWrites grainKeys s (s.advance g) := by
  unfold State.advance
  split
  · exact OnlyWrites.refl _ s
  · exact s.toGrain_onlyWrites _

theorem State.advance_slew_natAbs_le (s : State) (g : Nat) :
    (s.advance g).time.slew.natAbs ≤ s.time.slew.natAbs := by
  unfold State.advance
  split
  · exact le_rfl
  · exact s.toGrain_slew_natAbs_le _

end Sys2Proof.Machine
end

section
/-!
Edges of SYNC_IN (02_time_and_ordering.md R36, R37): what a missing edge, a far edge and a near edge leave behind.

The state before the time record is replaced is named by an equation (`u = …`): the proofs rewrite with it, since the
root positions of an edge are numbers that no proof should evaluate.
-/
namespace Sys2Proof.Machine

/-- LOSS set and then LOCKED cleared are read back. -/
theorem State.rd_loss_locked (s : State) :
    ((s.wr F.TIME_SYNC_STAT_LOSS 1).wr F.TIME_SYNC_STAT_LOCKED 0).rd F.TIME_SYNC_STAT_LOSS = 1 ∧
      ((s.wr F.TIME_SYNC_STAT_LOSS 1).wr F.TIME_SYNC_STAT_LOCKED 0).rd F.TIME_SYNC_STAT_LOCKED = 0 := by
  refine ⟨?_, State.rd_wr_self ..⟩
  rw [State.rd_wr_ne _ _ _ _ _ _ _ _ (by decide), State.rd_wr_self]
  rfl

section Missing
variable {s : State}

/-- Where edges are expected, a missing one costs the lock at its limit and keeps the grid (R37). -/
theorem State.syncMissing_of_known (hm : s.rd F.TIME_CTRL_SYNC_MODE ≠ 0) (hk : s.time.syncKnown = true) :
    ∃ u : State, u = ((s.advance s.syncLimit).wr F.TIME_SYNC_STAT_LOSS 1).wr F.TIME_SYNC_STAT_LOCKED 0 ∧
      s.syncMissing = { u with time := { u.time with
        syncExpect := (s.time.syncExpect + s.syncStep) % rootScale } } := by
  refine ⟨_, rfl, ?_⟩
  unfold State.syncMissing
  rw [if_neg (by simp [hm, hk])]

/-- A missing edge sets LOSS, clears LOCKED and moves the expected edge one period on (R37). -/
theorem State.syncMissing_loses_lock (hm : s.rd F.TIME_CTRL_SYNC_MODE ≠ 0) (hk : s.time.syncKnown = true) :
    s.syncMissing.rd F.TIME_SYNC_STAT_LOSS = 1 ∧ s.syncMissing.rd F.TIME_SYNC_STAT_LOCKED = 0 ∧
      s.syncMissing.time.syncExpect = (s.time.syncExpect + s.syncStep) % rootScale := by
  obtain ⟨u, hu, h⟩ := State.syncMissing_of_known hm hk
  obtain ⟨hloss, hlocked⟩ := State.rd_loss_locked (s.advance s.syncLimit)
  rw [← hu] at hloss hlocked
  rw [h]
  exact ⟨hloss, hlocked, rfl⟩

/-- A missing edge starts no correction: one under way is only consumed. -/
theorem State.syncMissing_slew_natAbs_le (hm : s.rd F.TIME_CTRL_SYNC_MODE ≠ 0) (hk : s.time.syncKnown = true) :
    s.syncMissing.time.slew.natAbs ≤ s.time.slew.natAbs := by
  obtain ⟨u, hu, h⟩ := State.syncMissing_of_known hm hk
  have hslew : u.time.slew.natAbs ≤ s.time.slew.natAbs := by
    rw [hu, State.wr_time, State.wr_time]
    exact s.advance_slew_natAbs_le _
  rw [h]
  exact hslew

theorem State.syncMissing_onlyWrites (hm : s.rd F.TIME_CTRL_SYNC_MODE ≠ 0) (hk : s.time.syncKnown = true) :
    OnlyWrites ([F.TIME_SYNC_STAT_LOSS.key 0 0, F.TIME_SYNC_STAT_LOCKED.key 0 0] ++ grainKeys) s s.syncMissing := by
  obtain ⟨u, hu, h⟩ := State.syncMissing_of_known hm hk
  have hadv := (s.advance_onlyWrites s.syncLimit).mono
    (List.subset_append_right [F.TIME_SYNC_STAT_LOSS.key 0 0, F.TIME_SYNC_STAT_LOCKED.key 0 0] grainKeys)
  rw [h]
  refine OnlyWrites.of_regs (t := u) ?_ rfl
  rw [hu]
  exact (hadv.wr F.TIME_SYNC_STAT_LOSS 1 0 0 (by decide)).wr F.TIME_SYNC_STAT_LOCKED 0 0 0 (by decide)

theorem State.syncMissing_grainFrame (hm : s.rd F.TIME_CTRL_SYNC_MODE ≠ 0) (hk : s.time.syncKnown = true) :
    GrainFrame s s.syncMissing := by
  obtain ⟨u, hu, h⟩ := State.syncMissing_of_known hm hk
  have hframe : RegsTimeFrame (s.advance s.syncLimit) u := by
    rw [hu]; exact ((RegsTimeFrame.refl _).wr ..).wr ..
  rw [h]
  exact (s.advance_grainFrame _).trans (hframe.with_time _).grainFrame

end Missing

section Measure
variable {s : State} {p : Nat}

/-- A far edge writes PHASE_ERR, sets LOSS, clears LOCKED and starts the grid of expected edges anew (R37). -/
theorem State.syncMeasure_of_far
    (hfar : s.rd F.TIME_SYNC_CFG_MAX_ERR * 3200 < (rootSpan p s.time.syncExpect).natAbs) :
    ∃ (err : Nat) (u : State),
      u = ((s.wr F.TIME_SYNC_STAT_PHASE_ERR err).wr F.TIME_SYNC_STAT_LOSS 1).wr F.TIME_SYNC_STAT_LOCKED 0 ∧
      s.syncMeasure p = { u with time := { u.time with syncExpect := (p + s.syncStep) % rootScale } } := by
  refine ⟨uns 16 (max (-32767) (min 32767 (rootSpan p s.time.syncExpect))), _, rfl, ?_⟩
  unfold State.syncMeasure
  exact if_pos hfar

/-- A near edge writes PHASE_ERR, sets or clears LOCKED by its error and keeps the grid; in mode 3 it starts a
correction (R36). -/
theorem State.syncMeasure_of_near
    (hnear : (rootSpan p s.time.syncExpect).natAbs ≤ s.rd F.TIME_SYNC_CFG_MAX_ERR * 3200) :
    ∃ (err : Nat) (u : State),
      u = (s.wr F.TIME_SYNC_STAT_PHASE_ERR err).wrB F.TIME_SYNC_STAT_LOCKED
        (decide ((rootSpan p s.time.syncExpect).natAbs ≤ 32)) ∧
      s.syncMeasure p = { u with time := { u.time with
        syncExpect := (s.time.syncExpect + s.syncStep) % rootScale
        slew := if s.rd F.TIME_CTRL_SYNC_MODE = 3 then rootSpan p s.time.syncExpect else u.time.slew } } := by
  refine ⟨uns 16 (max (-32767) (min 32767 (rootSpan p s.time.syncExpect))), _, rfl, ?_⟩
  unfold State.syncMeasure
  exact if_neg (Nat.not_lt.mpr hnear)

/-- What a far edge leaves in LOSS, LOCKED and the time record: no correction is started. -/
theorem State.syncMeasure_far_loses_lock
    (hfar : s.rd F.TIME_SYNC_CFG_MAX_ERR * 3200 < (rootSpan p s.time.syncExpect).natAbs) :
    (s.syncMeasure p).rd F.TIME_SYNC_STAT_LOSS = 1 ∧ (s.syncMeasure p).rd F.TIME_SYNC_STAT_LOCKED = 0 ∧
      (s.syncMeasure p).time = { s.time with syncExpect := (p + s.syncStep) % rootScale } := by
  obtain ⟨err, u, hu, h⟩ := State.syncMeasure_of_far hfar
  obtain ⟨hloss, hlocked⟩ := State.rd_loss_locked (s.wr F.TIME_SYNC_STAT_PHASE_ERR err)
  rw [← hu] at hloss hlocked
  have htime : u.time = s.time := by rw [hu, State.wr_time, State.wr_time, State.wr_time]
  rw [h, htime]
  exact ⟨hloss, hlocked, rfl⟩

/-- What a near edge leaves in LOCKED and the grid. -/
theorem State.syncMeasure_near_locked
    (hnear : (rootSpan p s.time.syncExpect).natAbs ≤ s.rd F.TIME_SYNC_CFG_MAX_ERR * 3200) :
    (s.syncMeasure p).rd F.TIME_SYNC_STAT_LOCKED = (if (rootSpan p s.time.syncExpect).natAbs ≤ 32 then 1 else 0) ∧
      (s.syncMeasure p).time.syncExpect = (s.time.syncExpect + s.syncStep) % rootScale := by
  obtain ⟨err, u, hu, h⟩ := State.syncMeasure_of_near hnear
  have hlocked : u.rd F.TIME_SYNC_STAT_LOCKED =
      b2n (decide ((rootSpan p s.time.syncExpect).natAbs ≤ 32)) % 2 ^ F.TIME_SYNC_STAT_LOCKED.width := by
    rw [hu]; exact State.rd_wr_self ..
  rw [h]
  refine ⟨hlocked.trans ?_, rfl⟩
  by_cases hlock : (rootSpan p s.time.syncExpect).natAbs ≤ 32 <;> simp only [hlock] <;> decide

theorem State.syncMeasure_far_onlyWrites
    (hfar : s.rd F.TIME_SYNC_CFG_MAX_ERR * 3200 < (rootSpan p s.time.syncExpect).natAbs) :
    OnlyWrites [F.TIME_SYNC_STAT_PHASE_ERR.key 0 0, F.TIME_SYNC_STAT_LOSS.key 0 0, F.TIME_SYNC_STAT_LOCKED.key 0 0]
      s (s.syncMeasure p) := by
  obtain ⟨err, u, hu, h⟩ := State.syncMeasure_of_far hfar
  rw [h]
  refine OnlyWrites.of_regs (t := u) ?_ rfl
  rw [hu]
  exact (((OnlyWrites.refl _ s).wr F.TIME_SYNC_STAT_PHASE_ERR _ 0 0 (by decide)).wr F.TIME_SYNC_STAT_LOSS 1 0 0
    (by decide)).wr F.TIME_SYNC_STAT_LOCKED 0 0 0 (by decide)

/-- A near edge leaves LOSS as it was. -/
theorem State.syncMeasure_near_onlyWrites
    (hnear : (rootSpan p s.time.syncExpect).natAbs ≤ s.rd F.TIME_SYNC_CFG_MAX_ERR * 3200) :
    OnlyWrites [F.TIME_SYNC_STAT_PHASE_ERR.key 0 0, F.TIME_SYNC_STAT_LOCKED.key 0 0] s (s.syncMeasure p) := by
  obtain ⟨err, u, hu, h⟩ := State.syncMeasure_of_near hnear
  rw [h]
  refine OnlyWrites.of_regs (t := u) ?_ rfl
  rw [hu]
  exact ((OnlyWrites.refl _ s).wr F.TIME_SYNC_STAT_PHASE_ERR _ 0 0 (by decide)).wr F.TIME_SYNC_STAT_LOCKED _ 0 0
    (by decide)

end Measure

/-- Far or near, a measured edge writes nothing but TIME_SYNC_STAT. -/
theorem State.syncMeasure_onlyWrites (s : State) (p : Nat) :
    OnlyWrites [F.TIME_SYNC_STAT_PHASE_ERR.key 0 0, F.TIME_SYNC_STAT_LOSS.key 0 0, F.TIME_SYNC_STAT_LOCKED.key 0 0]
      s (s.syncMeasure p) := by
  rcases lt_or_ge (s.rd F.TIME_SYNC_CFG_MAX_ERR * 3200) (rootSpan p s.time.syncExpect).natAbs with hfar | hnear
  · exact State.syncMeasure_far_onlyWrites hfar
  · exact (State.syncMeasure_near_onlyWrites hnear).mono (by decide)

theorem State.syncMeasure_regsTimeFrame (s : State) (p : Nat) : RegsTimeFrame s (s.syncMeasure p) := by
  rcases lt_or_ge (s.rd F.TIME_SYNC_CFG_MAX_ERR * 3200) (rootSpan p s.time.syncExpect).natAbs with hfar | hnear
  · obtain ⟨err, u, hu, h⟩ := State.syncMeasure_of_far hfar
    have hframe : RegsTimeFrame s u := by rw [hu]; exact (((RegsTimeFrame.refl s).wr ..).wr ..).wr ..
    rw [h]; exact hframe.with_time _
  · obtain ⟨err, u, hu, h⟩ := State.syncMeasure_of_near hnear
    have hframe : RegsTimeFrame s u := by rw [hu]; exact ((RegsTimeFrame.refl s).wr ..).wr ..
    rw [h]; exact hframe.with_time _

/-- An edge is measured where one is expected and no load edge is awaited (R36): it is counted first. -/
theorem State.syncEdge_of_known {s : State} {pos : Nat} (hm : s.rd F.TIME_CTRL_SYNC_MODE ≠ 0)
    (hk : s.time.syncKnown = true) (ha : s.time.syncArmed = false ∨ s.running = true) :
    s.syncEdge pos = (s.inc F.TIME_SYNC_STAT_EDGE_CNT).syncMeasure (s.grain * 3200 + pos % 3200) := by
  have hload : ¬ (s.time.syncArmed && !s.running) = true := by
    rcases ha with ha | ha <;> simp [ha]
  unfold State.syncEdge
  extract_lets p t load u v
  rw [if_neg hm, if_neg hload, if_neg (by simp [hk])]

theorem exec_syncEdgeMissing (s : State) : exec .syncEdgeMissing s = .next s.syncMissing := rfl

theorem exec_syncInEdge (pos : Nat) (s : State) : exec (.syncInEdge pos) s = .next (s.syncEdge pos) := rfl

/-- Settles O9: a missing edge advances to its limit and loses lock on the kept grid; a measured edge is counted, and
what it does then turns on whether its error exceeds MAX_ERR. -/
theorem missedAndFarSyncEdgesLoseLock : Obligations.MissedAndFarSyncEdgesLoseLock := by
  unfold Obligations.MissedAndFarSyncEdgesLoseLock
  intro s hm hk
  constructor
  · -- The missing edge.
    obtain ⟨hloss, hlocked, hexpect⟩ := State.syncMissing_loses_lock hm hk
    have hw := State.syncMissing_onlyWrites hm hk
    rw [State.syncStep] at hexpect
    exact ⟨s.syncMissing, exec_syncEdgeMissing s, hloss, hlocked, hw.rd_eq F.TIME_SYNC_STAT_PHASE_ERR, hexpect,
      .inr (State.syncMissing_slew_natAbs_le hm hk), State.syncMissing_grainFrame hm hk, hw⟩
  · -- The measured edge; `c` is the state that has counted it.
    intro pos ha p e
    obtain ⟨c, hc⟩ : ∃ c, c = s.inc F.TIME_SYNC_STAT_EDGE_CNT := ⟨_, rfl⟩
    have hcount : OnlyWrites [F.TIME_SYNC_STAT_EDGE_CNT.key 0 0] s c := by
      rw [hc]; exact (OnlyWrites.refl _ s).inc F.TIME_SYNC_STAT_EDGE_CNT 1 0 0 (by decide)
    have hframe : RegsTimeFrame s c := by rw [hc]; exact (RegsTimeFrame.refl s).inc ..
    have htime : c.time = s.time := by rw [hc, State.inc_time]
    have hmax := hcount.rd_eq F.TIME_SYNC_CFG_MAX_ERR
    have hstep : c.syncStep = s.rd F.TIME_SYNC_CFG_SYNC_PERIOD * 3200 := by
      rw [State.syncStep, hcount.rd_eq F.TIME_SYNC_CFG_SYNC_PERIOD]
    have herr : rootSpan p c.time.syncExpect = e := by rw [htime]
    refine ⟨c.syncMeasure p, ?_, fun hfar => ?_, fun hnear => ?_, hframe.trans (c.syncMeasure_regsTimeFrame p), ?_⟩
    · rw [exec_syncInEdge, State.syncEdge_of_known hm hk ha, hc]
    · rw [← hmax, ← herr] at hfar
      obtain ⟨hloss, hlocked, ht⟩ := State.syncMeasure_far_loses_lock hfar
      rw [ht, htime, hstep]
      exact ⟨hloss, hlocked, rfl, rfl⟩
    · rw [← hmax, ← herr] at hnear
      obtain ⟨hlocked, hexpect⟩ := State.syncMeasure_near_locked hnear
      have hloss := (State.syncMeasure_near_onlyWrites hnear).rd_eq F.TIME_SYNC_STAT_LOSS
      rw [hexpect, htime, hstep]
      exact ⟨hloss.trans (hcount.rd_eq F.TIME_SYNC_STAT_LOSS), herr ▸ hlocked, rfl⟩
    · exact (hcount.mono (by decide)).trans ((c.syncMeasure_onlyWrites p).mono (by decide))

end Sys2Proof.Machine
end

section
/-!
The header flit (07_event_network.md R189): each field read from a header is the packet's own, and the fields of a word
laid side by side are the word again.
-/
namespace Sys2Proof

section Fields
/-! A field is reached by dropping those below it, from the length up; the count of `iterate` is how many they are. -/
variable (p : Packet)

@[simp] theorem Packet.header_len : p.header.extractLsb' 0 4 = p.len :=
  BitVec.extractLsb'_append_eq_right

@[simp] theorem Packet.header_pay : p.header.extractLsb' 4 8 = p.pay := by
  rw [header, BitVec.extractLsb'_append_eq_of_le (by decide)]
  exact BitVec.extractLsb'_append_eq_right

@[simp] theorem Packet.header_arg : p.header.extractLsb' 12 16 = p.arg := by
  rw [header]
  iterate 2 rw [BitVec.extractLsb'_append_eq_of_le (by decide)]
  exact BitVec.extractLsb'_append_eq_right

@[simp] theorem Packet.header_tag : p.header.extractLsb' 28 6 = p.tag := by
  rw [header]
  iterate 3 rw [BitVec.extractLsb'_append_eq_of_le (by decide)]
  exact BitVec.extractLsb'_append_eq_right

@[simp] theorem Packet.header_src : p.header.extractLsb' 34 13 = p.src := by
  rw [header]
  iterate 4 rw [BitVec.extractLsb'_append_eq_of_le (by decide)]
  exact BitVec.extractLsb'_append_eq_right

@[simp] theorem Packet.header_dest : p.header.extractLsb' 47 13 = p.dest := by
  rw [header]
  iterate 5 rw [BitVec.extractLsb'_append_eq_of_le (by decide)]
  exact BitVec.extractLsb'_append_eq_right

/-- OP is the high part of what stands above the source: the destination need not be dropped. -/
@[simp] theorem Packet.header_op : p.header.extractLsb' 60 4 = p.op := by
  rw [header]
  iterate 5 rw [BitVec.extractLsb'_append_eq_of_le (by decide)]
  exact BitVec.extractLsb'_append_eq_left

end Fields

/-- Every field of the packet read back is the packet's own. -/
@[simp] theorem Packet.ofHeader_header (p : Packet) : ofHeader p.header p.data = p := by
  simp only [ofHeader, header_op, header_dest, header_src, header_tag, header_arg, header_pay, header_len]

/-- The seven fields are adjacent, each beginning where the next lower one ends, so that they join to bits [63:0]. -/
@[simp] theorem Packet.header_ofHeader (w : Word) (ds : List Word) : (ofHeader w ds).header = w := by
  unfold header ofHeader
  iterate 6 rw [BitVec.extractLsb'_append_extractLsb'_eq_extractLsb' (by rfl)]
  exact BitVec.extractLsb'_eq_self

/-- Settles O46: field by field, and the two directions between a header flit and its packet. -/
theorem headerFlitsHaveTheirFields : Obligations.HeaderFlitsHaveTheirFields := by
  unfold Obligations.HeaderFlitsHaveTheirFields
  exact ⟨fun p => ⟨p.header_op, p.header_dest, p.header_src, p.header_tag, p.header_arg, p.header_pay, p.header_len,
    p.ofHeader_header⟩, Packet.header_ofHeader⟩

end Sys2Proof
end

section
/-!
Reading a register field past writes of other fields, whatever the unit and the copy, and through a change of the state
beside the registers.
-/
namespace Sys2Proof.Machine

/-- Two fields of different registers, or with different low bits, have different keys in every unit and copy. -/
def Fld.apart (f g : Fld) : Bool := f.reg.num != g.reg.num || f.lo != g.lo

theorem Fld.key_ne_of_apart {f g : Fld} (h : f.apart g = true) (u i v j : Nat) : f.key u i ≠ g.key v j := by
  rw [Ne, Fld.key_eq_iff]
  rintro ⟨hr, hl, -⟩
  simp [Fld.apart, hr, hl] at h

section
variable {f g : Fld} (s : State) (v u i u' i' : Nat)

theorem State.rd_wr_apart (h : g.apart f = true) : (s.wr f v u i).rd g u' i' = s.rd g u' i' :=
  State.rd_wr_ne _ _ _ _ _ _ _ _ (Fld.key_ne_of_apart h u' i' u i)

theorem State.rd_wrB_apart (b : Bool) (h : g.apart f = true) : (s.wrB f b u i).rd g u' i' = s.rd g u' i' :=
  State.rd_wr_apart s _ u i u' i' h

theorem State.rd_inc_apart (h : g.apart f = true) : (s.inc f v u i).rd g u' i' = s.rd g u' i' :=
  State.rd_wr_apart s _ u i u' i' h

theorem State.rd_top_apart (h : g.apart f = true) : (s.top f v u i).rd g u' i' = s.rd g u' i' :=
  State.rd_wr_apart s _ u i u' i' h

end

theorem State.on_of_rd {s t : State} {f : Fld} {u i : Nat} (h : t.rd f u i = s.rd f u i) : t.on f u i = s.on f u i := by
  unfold State.on; rw [h]

theorem State.on_of_regs {s t : State} (h : t.regs = s.regs) (f : Fld) (u i : Nat) : t.on f u i = s.on f u i :=
  State.on_of_rd (State.rd_of_regs h f u i)

theorem State.on_eq_true_iff {s : State} {f : Fld} {u i : Nat} : s.on f u i = true ↔ s.rd f u i ≠ 0 := by
  simp [State.on]

theorem State.on_eq_false_iff {s : State} {f : Fld} {u i : Nat} : s.on f u i = false ↔ s.rd f u i = 0 := by
  simp [State.on]

/-- A register field of a state that is written out. -/
theorem State.rd_mk (fuse : FuseSt) (pins : PinSt) (regs : List (Key × Nat)) (mem : List Host.Cell)
    (flips : List (Nat × Code)) (time : TimeSt) (cores : List (Nat × CoreSt)) (net : NetSt) (tinder : TinderSt)
    (ash : AshSt) (drey : DreySt) (g6 : List (Nat × G6St)) (rx : List (Nat × RxSt)) (ctx : List (Nat × CtxSt))
    (tx : List (Nat × TxSt)) (owl : OwlSt) (cord : CordSt) (learn : LearnSt) (cmd : CmdSt) (pair : PairSt) (boot : BootSt)
    (spare : SpareSt) (kiln : KilnSt) (sec : SecSt) (free : Nat) (pending : List Instr) (f : Fld) (u i : Nat) :
    (State.mk fuse pins regs mem flips time cores net tinder ash drey g6 rx ctx tx owl cord learn cmd pair boot spare kiln
      sec free pending).rd f u i = Sparse.get regs (f.key u i) f.rst := rfl

/-- With `State.rd_mk`: the register fields of a state are those of the state that its registers come from. -/
theorem State.get_regs (s : State) (f : Fld) (u i : Nat) : Sparse.get s.regs (f.key u i) f.rst = s.rd f u i := rfl

/-- A one-bit field that was set or cleared. -/
theorem State.on_wrB_self (s : State) (f : Fld) (b : Bool) (u i : Nat) (h : f.width = 1) : (s.wrB f b u i).on f u i = b := by
  rw [State.on, State.wrB, State.rd_wr_self, h]
  cases b <;> rfl

/-- A field that holds more bits than a value reads it back whole. -/
theorem State.rd_wr_of_lt (s : State) (f : Fld) {v : Nat} (u i : Nat) (h : v < 2 ^ f.width) : (s.wr f v u i).rd f u i = v := by
  rw [State.rd_wr_self, Nat.mod_eq_of_lt h]

end Sys2Proof.Machine
end

section
/-! The queue and the grain that passes when no command waits (02_time_and_ordering.md R35). -/
namespace Sys2Proof.Machine

/-- Settles O1: the front command, on the queue's rest. -/
theorem stepTakesTheFrontCommand : Obligations.StepTakesTheFrontCommand := by
  unfold Obligations.StepTakesTheFrontCommand
  intro c rest s hq
  rw [step, hq]

/-- With no command waiting the step is the idle one. -/
theorem step_of_empty {s : State} (hq : s.pending = []) : step s = .next s.idle := by rw [step, hq]

section
variable (s : State) (g : Nat)

theorem State.countGaps_pins : s.countGaps.pins = s.pins := by
  rcases s.countGaps_cases with h | ⟨n, k, h⟩ <;> rw [h]
  rfl

theorem State.countGaps_ash : s.countGaps.ash = s.ash := by
  rcases s.countGaps_cases with h | ⟨n, k, h⟩ <;> rw [h]
  rfl

theorem State.countGaps_rd {f : Fld} (u i : Nat) (h : f.apart F.PAIR_CNT0_HB_GAP = true) :
    s.countGaps.rd f u i = s.rd f u i := by
  rcases s.countGaps_cases with h' | ⟨n, k, h'⟩ <;> rw [h']
  exact State.rd_inc_apart s n 0 0 u i h

/-- Missing heartbeats are counted of a lost partner alone. -/
theorem State.countGaps_of_watching {s : State}
    (h : s.on F.PAIR_CFG_MIRROR_EN = false ∨ s.rd F.PAIR_STAT_SB_STATE < 3) : s.countGaps = s := by
  unfold State.countGaps
  refine if_neg ?_
  rintro ⟨hm, hs, -⟩
  rcases h with h | h
  · simp [h] at hm
  · omega

/-- The state at a later grain before missing heartbeats are counted: the write of ACT_ARM that was awaited, and GRAIN. -/
def State.atGrain : State :=
  (match s.ash.armNext with | some v => s.wr F.ACT_ARM_ARM v | none => s).wr F.TIME_GRAIN_GRAIN g

theorem State.toGrain_atGrain : ∃ (t : State), s.toGrain g = t.countGaps ∧ t.regs = (s.atGrain g).regs ∧
    t.pins = { s.pins with syncOut := false, quenchN := true } ∧ t.ash = { s.ash with armNext := none } ∧
    t.time.phase = s.time.phase := by
  refine ⟨_, rfl, ?_, rfl, rfl, rfl⟩
  rfl

theorem State.atGrain_rd {f : Fld} (u i : Nat) (hg : f.apart F.TIME_GRAIN_GRAIN = true)
    (ha : f.apart F.ACT_ARM_ARM = true) : (s.atGrain g).rd f u i = s.rd f u i := by
  unfold State.atGrain
  rw [State.rd_wr_apart _ _ _ _ _ _ hg]
  cases s.ash.armNext with
  | none => rfl
  | some v => exact State.rd_wr_apart _ _ _ _ _ _ ha

theorem State.toGrain_grain : (s.toGrain g).grain = g % 2 ^ 64 := by
  obtain ⟨t, h, hr, -⟩ := s.toGrain_atGrain g
  rw [State.grain, h, State.countGaps_rd _ _ _ (by decide), State.rd_of_regs hr]
  exact State.rd_wr_self ..

theorem State.toGrain_pins : (s.toGrain g).pins = { s.pins with syncOut := false, quenchN := true } := by
  obtain ⟨t, h, -, hp, -⟩ := s.toGrain_atGrain g
  rw [h, State.countGaps_pins, hp]

theorem State.toGrain_ash : (s.toGrain g).ash = { s.ash with armNext := none } := by
  obtain ⟨t, h, -, -, ha, -⟩ := s.toGrain_atGrain g
  rw [h, State.countGaps_ash, ha]

theorem State.toGrain_phase : (s.toGrain g).time.phase = s.time.phase := by
  obtain ⟨t, h, -, -, -, hp⟩ := s.toGrain_atGrain g
  rw [h, State.countGaps_time, hp]

/-- A later grain leaves every register but GRAIN, ACT_ARM and the count of missing heartbeats. -/
theorem State.toGrain_rd {f : Fld} (u i : Nat) (hg : f.apart F.TIME_GRAIN_GRAIN = true) (ha : f.apart F.ACT_ARM_ARM = true)
    (hc : f.apart F.PAIR_CNT0_HB_GAP = true) : (s.toGrain g).rd f u i = s.rd f u i := by
  obtain ⟨t, h, hr, -⟩ := s.toGrain_atGrain g
  rw [h, State.countGaps_rd _ _ _ hc, State.rd_of_regs hr, State.atGrain_rd _ _ _ _ hg ha]

theorem State.toGrain_gap (h : s.on F.PAIR_CFG_MIRROR_EN = false ∨ s.rd F.PAIR_STAT_SB_STATE < 3) :
    (s.toGrain g).rd F.PAIR_CNT0_HB_GAP = s.rd F.PAIR_CNT0_HB_GAP := by
  obtain ⟨t, ht, hr, -⟩ := s.toGrain_atGrain g
  have hrd : ∀ f : Fld, f.apart F.TIME_GRAIN_GRAIN = true → f.apart F.ACT_ARM_ARM = true → t.rd f = s.rd f :=
    fun f hg ha => (State.rd_of_regs hr f 0 0).trans (s.atGrain_rd g 0 0 hg ha)
  rw [ht, State.countGaps_of_watching, hrd _ (by decide) (by decide)]
  rwa [State.on_of_rd (hrd F.PAIR_CFG_MIRROR_EN (by decide) (by decide)), hrd _ (by decide) (by decide)]

theorem State.toGrain_arm {v : Nat} (h : s.ash.armNext = some v) : (s.toGrain g).rd F.ACT_ARM_ARM = v % 2 ^ 16 := by
  obtain ⟨t, ht, hr, -⟩ := s.toGrain_atGrain g
  rw [ht, State.countGaps_rd _ _ _ (by decide), State.rd_of_regs hr, State.atGrain, h,
    State.rd_wr_apart _ _ _ _ _ _ (by decide)]
  exact State.rd_wr_self ..

end

/-- A sequencer that waits neither for step 0 nor for a grant does nothing at a grain edge. -/
theorem State.edge_of_not_waiting {s : State} (ha : s.time.phase ≠ .armed) (hb : s.time.phase ≠ .between) :
    s.edge = s := by
  unfold State.edge
  split
  · exact absurd ‹_› ha
  · exact absurd ‹_› hb
  · rfl

/-- Settles O2: the idle step is one grain edge. -/
theorem emptyQueuePassesOneGrain : Obligations.EmptyQueuePassesOneGrain := by
  unfold Obligations.EmptyQueuePassesOneGrain
  intro s hq
  refine ⟨fun hc ha hb => ?_, fun hc => ?_⟩
  · have hidle : s.idle = s.toGrain ((s.grain + 1) % 2 ^ 64) := by
      rw [State.idle, if_pos hc, State.edge_of_not_waiting] <;> rwa [State.toGrain_phase]
    refine ⟨s.toGrain ((s.grain + 1) % 2 ^ 64), by rw [step_of_empty hq, hidle], ?_, ?_, ?_, s.toGrain_onlyWrites _,
      s.toGrain_gap _, fun v hv => ⟨s.toGrain_arm _ hv, ?_⟩⟩
    · rw [State.toGrain_grain, Nat.mod_mod]
    · rw [State.toGrain_pins]
    · exact s.toGrain_grainFrame _
    · rw [State.toGrain_ash]
  · rw [step_of_empty hq, State.idle, hc]
    rfl

end Sys2Proof.Machine
end

section
/-! What memory reads after bytes and words have been stored (10_memory_system.md R274, 00_scope.md R3). -/
namespace Sys2Proof.Machine

/-- The bytes of a number spell it again, cut to their number. -/
theorem ofBytes_toBytes (n : Nat) : ∀ v, ofBytes (toBytes n v) = v % 2 ^ (8 * n) := by
  induction n with
  | zero => intro v; simp [toBytes, ofBytes, Nat.mod_one]
  | succ n ih =>
    intro v
    have hcons : toBytes (n + 1) v = BitVec.ofNat 8 v :: toBytes n (v / 2 ^ 8) := by
      simp only [toBytes, List.range_succ_eq_map, List.map_cons, List.map_map, Nat.mul_zero, Nat.pow_zero, Nat.div_one]
      refine congrArg _ (List.map_congr_left fun k _ => ?_)
      simp only [Function.comp_apply, Nat.div_div_eq_div_mul, ← Nat.pow_add]
      rw [Nat.mul_succ, Nat.add_comm]
    rw [hcons, ofBytes, List.foldr_cons, ← ofBytes, ih, BitVec.toNat_ofNat]
    rw [Nat.mul_succ, Nat.pow_add, Nat.mul_comm (2 ^ (8 * n)), Nat.mod_mul]

theorem toBytes_length (n v : Nat) : (toBytes n v).length = n := by simp [toBytes]

section
variable (s : State)

/-- Bytes stored leave every byte before and after them. -/
theorem State.byte_setBytes_of_outside (vs : List Byte) : ∀ (s : State) (a b : Nat), (b < a ∨ a + vs.length ≤ b) →
    (s.setBytes a vs).byte b = s.byte b := by
  induction vs with
  | nil => exact fun _ _ _ _ => rfl
  | cons v vs ih =>
    intro s a b h
    rw [List.length_cons] at h
    rw [State.setBytes, ih _ _ _ (by omega), State.byte_setByte_ne _ _ (by omega)]

/-- Bytes stored are read back. -/
theorem State.byte_setBytes (vs : List Byte) : ∀ (s : State) (a k : Nat) (h : k < vs.length),
    (s.setBytes a vs).byte (a + k) = vs[k] := by
  induction vs with
  | nil => exact fun _ _ _ h => absurd h (Nat.not_lt_zero _)
  | cons v vs ih =>
    intro s a k h
    cases k with
    | zero => rw [State.setBytes, State.byte_setBytes_of_outside _ _ _ _ (by omega), Nat.add_zero,
        State.byte_setByte_self, List.getElem_cons_zero]
    | succ k =>
      rw [List.length_cons] at h
      have hk := ih (s.setByte a v) (a + 1) k (by omega)
      rwa [Nat.add_right_comm, Nat.add_assoc] at hk

/-- The bytes read where bytes have been stored. -/
theorem State.bytes_setBytes (a : Nat) (vs : List Byte) : (s.setBytes a vs).bytes a vs.length = vs := by
  refine List.ext_getElem (by simp [State.bytes]) fun k hk hk' => ?_
  simp only [State.bytes, List.getElem_map, List.getElem_range]
  exact State.byte_setBytes vs s a k hk'

/-- The upset bits are no bytes. -/
theorem State.byte_setWord (a b : Nat) (w : Word) : (s.setWord a w).byte b = (s.setBytes a (toBytes 8 w.toNat)).byte b :=
  rfl

theorem State.byte_setWord_of_outside {a b : Nat} (w : Word) (h : b < a ∨ a + 8 ≤ b) :
    (s.setWord a w).byte b = s.byte b := by
  rw [State.byte_setWord, State.byte_setBytes_of_outside _ _ _ _ (by rwa [toBytes_length])]

/-- Words of the same bytes are equal. -/
theorem State.word_of_bytes {s t : State} {a : Nat} (h : t.bytes a 8 = s.bytes a 8) : t.word a = s.word a := by
  rw [State.word, State.word, h]

theorem State.word_of_byte {s t : State} {a : Nat} (h : ∀ k < 8, t.byte (a + k) = s.byte (a + k)) : t.word a = s.word a :=
  State.word_of_bytes (List.map_congr_left fun k hk => h k (List.mem_range.mp hk))

/-- A word stored is read back. -/
@[simp] theorem State.word_setWord_self (a : Nat) (w : Word) : (s.setWord a w).word a = w := by
  have hb : (s.setWord a w).bytes a 8 = toBytes 8 w.toNat := by
    have h := s.bytes_setBytes a (toBytes 8 w.toNat)
    rwa [toBytes_length] at h
  rw [State.word, hb, ofBytes_toBytes, Nat.mod_eq_of_lt w.isLt, BitVec.ofNat_toNat, BitVec.setWidth_eq]

/-- A word stored leaves every word that shares no byte with it. -/
theorem State.word_setWord_of_apart {a b : Nat} (w : Word) (h : b + 8 ≤ a ∨ a + 8 ≤ b) :
    (s.setWord a w).word b = s.word b :=
  State.word_of_byte fun k hk => s.byte_setWord_of_outside w (by omega)

@[simp] theorem State.flip_setWord_self (a : Nat) (w : Word) : (s.setWord a w).flip a = 0 := State.flip_setFlip_self _ a 0

end

/-- Words stored from `a` on, the first of them as the one with number `n`. -/
def State.setWordsFrom (s : State) (a n : Nat) (ws : List Word) : State :=
  (ws.zipIdx n).foldl (fun t p => t.setWord (a + 8 * p.2) p.1) s

theorem State.setWords_eq (s : State) (a : Nat) (ws : List Word) : s.setWords a ws = s.setWordsFrom a 0 ws := rfl

theorem State.setWordsFrom_cons (s : State) (a n : Nat) (w : Word) (ws : List Word) :
    s.setWordsFrom a n (w :: ws) = (s.setWord (a + 8 * n) w).setWordsFrom a (n + 1) ws := by
  rw [State.setWordsFrom, List.zipIdx_cons, List.foldl_cons, State.setWordsFrom]

theorem State.byte_setWordsFrom_of_outside (a : Nat) (ws : List Word) : ∀ (s : State) (n b : Nat),
    (b < a + 8 * n ∨ a + 8 * (n + ws.length) ≤ b) → (s.setWordsFrom a n ws).byte b = s.byte b := by
  induction ws with
  | nil => exact fun _ _ _ _ => rfl
  | cons w ws ih =>
    intro s n b h
    rw [List.length_cons] at h
    rw [State.setWordsFrom_cons, ih _ _ _ (by omega), State.byte_setWord_of_outside _ _ (by omega)]

theorem State.word_setWordsFrom (a : Nat) (ws : List Word) : ∀ (s : State) (n k : Nat) (h : k < ws.length),
    (s.setWordsFrom a n ws).word (a + 8 * (n + k)) = ws[k] := by
  induction ws with
  | nil => exact fun _ _ _ h => absurd h (Nat.not_lt_zero _)
  | cons w ws ih =>
    intro s n k h
    rw [State.setWordsFrom_cons]
    cases k with
    | zero =>
      have hrest := State.word_of_byte (s := s.setWord (a + 8 * n) w) (a := a + 8 * n) fun k hk =>
        State.byte_setWordsFrom_of_outside a ws (s.setWord (a + 8 * n) w) (n + 1) (a + 8 * n + k) (by omega)
      rw [List.getElem_cons_zero, Nat.add_zero n, hrest, State.word_setWord_self]
    | succ k =>
      rw [List.length_cons] at h
      have hk := ih (s.setWord (a + 8 * n) w) (n + 1) k (by omega)
      rwa [Nat.add_right_comm] at hk

/-- Settles O4: the form kept, and what is read, after one byte, a run of bytes, one word and a run of words. -/
theorem memoryKeepsItsCanonicalForm : Obligations.MemoryKeepsItsCanonicalForm := by
  unfold Obligations.MemoryKeepsItsCanonicalForm
  intro s a hwf
  refine ⟨fun v => ⟨s.setByte_wf a v hwf, s.byte_setByte_self a v, fun b hb => s.byte_setByte_ne v hb⟩,
    fun vs => ⟨State.setBytes_wf vs s a hwf, State.byte_setBytes vs s a, State.byte_setBytes_of_outside vs s a⟩,
    fun w => ⟨s.setWord_wf a w hwf, s.word_setWord_self a w, s.flip_setWord_self a w,
      fun b hb => s.byte_setWord_of_outside w hb⟩,
    fun ws => ⟨s.setWords_wf a ws hwf, fun k hk => ?_, fun b hb => ?_⟩⟩
  · have h := State.word_setWordsFrom a ws s 0 k hk
    rwa [Nat.zero_add, ← State.setWords_eq] at h
  · rw [State.setWords_eq]
    exact State.byte_setWordsFrom_of_outside a ws s 0 b (by omega)

end Sys2Proof.Machine
end

section
/-! Messages staged for the fault chain (15_faults.md R402, R403). -/
namespace Sys2Proof.Machine

/-- A message of that source and kind is staged. -/
def State.Stages (s : State) (src kind : Nat) : Prop := ∃ m ∈ s.owl.staged, m.kind = kind ∧ m.src = src

theorem mem_mergeMsg (m : Msg) (ms : List Msg) : ∃ e ∈ mergeMsg m ms, e.kind = m.kind ∧ e.src = m.src := by
  induction ms with
  | nil => exact ⟨m, List.mem_singleton_self m, rfl, rfl⟩
  | cons e t ih =>
    unfold mergeMsg
    split
    · rename_i h
      exact ⟨_, List.mem_cons_self, h.2, h.1⟩
    · obtain ⟨x, hx, h⟩ := ih
      exact ⟨x, List.mem_cons_of_mem _ hx, h⟩

/-- Merging keeps the source and the kind of every message that is staged. -/
theorem mem_mergeMsg_of_mem (m : Msg) {x : Msg} {ms : List Msg} (h : x ∈ ms) :
    ∃ e ∈ mergeMsg m ms, e.kind = x.kind ∧ e.src = x.src := by
  induction ms with
  | nil => exact absurd h List.not_mem_nil
  | cons e t ih =>
    unfold mergeMsg
    rcases List.mem_cons.mp h with rfl | h
    · split <;> exact ⟨_, List.mem_cons_self, rfl, rfl⟩
    · split
      · exact ⟨x, List.mem_cons_of_mem _ h, rfl, rfl⟩
      · obtain ⟨y, hy, hk⟩ := ih h
        exact ⟨y, List.mem_cons_of_mem _ hy, hk⟩

theorem State.report_stages (s : State) (src kind cls a : Nat) : (s.report src kind cls a).Stages src kind :=
  mem_mergeMsg ⟨src, kind, cls, a % 2 ^ 32, false, 0⟩ s.owl.staged

theorem State.Stages.report {s : State} {src kind : Nat} (h : s.Stages src kind) (src' kind' cls a : Nat) :
    (s.report src' kind' cls a).Stages src kind := by
  obtain ⟨m, hm, hk, hs⟩ := h
  obtain ⟨e, he, hek, hes⟩ := mem_mergeMsg_of_mem ⟨src', kind', cls, a % 2 ^ 32, false, 0⟩ hm
  exact ⟨e, he, hek.trans hk, hes.trans hs⟩

end Sys2Proof.Machine
end

section
/-! Forced closes (02_time_and_ordering.md R45, R58, R59, R63). -/
namespace Sys2Proof.Machine

theorem State.advance_spare (s : State) (g : Nat) : (s.advance g).spare = s.spare := by
  rw [s.advance_grainFrame g]

/-- What a unit is masked and reported with. -/
def State.maskOne (s : State) (n : Nat) : State := (s.wr F.CORE_STAT_DONE_MASKED 1 n).report (s.tileOf n) 0x10 3 n

theorem State.maskUnfinished_eq (s : State) : s.maskUnfinished = s.unfinished.foldl State.maskOne s := rfl

theorem State.tileOf_maskOne (s : State) (n m : Nat) : (s.maskOne n).tileOf m = s.tileOf m :=
  State.rd_wr_apart (f := F.CORE_STAT_DONE_MASKED) (g := F.SPARE_MAP_TILE) s 1 n 0 (m / 128) m (by decide)

theorem State.on_maskOne (s : State) (n m : Nat) :
    (s.maskOne n).on F.CORE_STAT_DONE_MASKED m = (decide (m = n) || s.on F.CORE_STAT_DONE_MASKED m) := by
  have h : (s.maskOne n).rd F.CORE_STAT_DONE_MASKED m = (s.wr F.CORE_STAT_DONE_MASKED 1 n).rd F.CORE_STAT_DONE_MASKED m := rfl
  by_cases hm : m = n
  · rw [State.on, h, hm, State.rd_wr_self]
    simp
    decide
  · rw [State.on, h, State.rd_wr_ne _ _ _ _ _ _ _ _ (by simp [Fld.key_eq_iff, hm])]
    simp [hm, State.on]

theorem State.foldl_maskOne_spare (ns : List Nat) : ∀ s : State, (ns.foldl State.maskOne s).spare = s.spare := by
  induction ns with
  | nil => exact fun _ => rfl
  | cons n ns ih => exact fun s => ih (s.maskOne n)

/-- Masking units keeps what was masked and staged before. -/
theorem State.foldl_maskOne_keeps (ns : List Nat) : ∀ (s : State) (m src : Nat),
    (s.on F.CORE_STAT_DONE_MASKED m = true → (ns.foldl State.maskOne s).on F.CORE_STAT_DONE_MASKED m = true) ∧
      (s.Stages src 0x10 → (ns.foldl State.maskOne s).Stages src 0x10) := by
  induction ns with
  | nil => exact fun _ _ _ => ⟨id, id⟩
  | cons n ns ih =>
    intro s m src
    obtain ⟨hon, hst⟩ := ih (s.maskOne n) m src
    refine ⟨fun h => hon ?_, fun h => hst (State.Stages.report (s := s.wr F.CORE_STAT_DONE_MASKED 1 n) h _ _ _ _)⟩
    rw [State.on_maskOne, h, Bool.or_true]

/-- Every unit of the list is masked and reported from its tile. -/
theorem State.foldl_maskOne_masks (ns : List Nat) : ∀ (s : State) (n : Nat), n ∈ ns →
    (ns.foldl State.maskOne s).on F.CORE_STAT_DONE_MASKED n = true ∧ (ns.foldl State.maskOne s).Stages (s.tileOf n) 0x10 := by
  induction ns with
  | nil => exact fun _ _ h => absurd h List.not_mem_nil
  | cons k ns ih =>
    intro s n hn
    by_cases hmem : n ∈ ns
    · rw [← s.tileOf_maskOne k n]
      exact ih (s.maskOne k) n hmem
    · obtain rfl : n = k := (List.mem_cons.mp hn).resolve_right hmem
      obtain ⟨hon, hst⟩ := State.foldl_maskOne_keeps ns (s.maskOne n) n (s.tileOf n)
      refine ⟨hon ?_, hst (State.report_stages _ _ _ _ _)⟩
      rw [State.on_maskOne, decide_eq_true rfl, Bool.true_or]

/-- A boundary with no swap waiting closes the step. -/
theorem State.boundary_of_no_swap {s : State} (h : s.spare.queue = []) (how : Close) :
    s.boundary how = (s.closeStep how).begin := by
  unfold State.boundary; rw [h]

theorem State.forceClose_of_no_swap {s : State} (h : s.spare.queue = []) :
    s.forceClose = (s.maskUnfinished.closeStep .forced).begin := by
  have hm : s.maskUnfinished.spare.queue = [] := by rw [State.maskUnfinished_eq, State.foldl_maskOne_spare, h]
  exact State.boundary_of_no_swap hm .forced

theorem State.maskUnfinished_of_finished {s : State} (h : s.unfinished = []) : s.maskUnfinished = s := by
  rw [State.maskUnfinished_eq, h]; rfl

/-- The last free-run grain of a step, where a limit is set and no standby replays. -/
theorem State.freeEnd_of_limit {s : State} (hl : s.rd F.TIME_CTRL_FREE_LIMIT ≠ 0) (hp : s.rd F.PAIR_STAT_PHASE ≠ 2) :
    s.freeEnd = some ((s.time.begun + 1000 * s.rd F.TIME_CTRL_FREE_LIMIT) % 2 ^ 64) := by
  rw [State.freeEnd, if_neg (by simp [hl, hp])]

section
variable {s : State}

theorem State.hangOut_of_unfinished (h : s.time.phase = .hang) (hu : s.unfinished ≠ []) :
    s.hangOut = (s.advance ((s.time.hangFrom + s.rd F.TIME_CTRL_HANG_LIMIT) % 2 ^ 64)).forceClose := by
  rw [State.hangOut, if_neg (by simp [h]), if_neg hu]

theorem State.hangOut_of_finished (h : s.time.phase = .hang) (hu : s.unfinished = []) (hg : s.grain ≠ s.time.hangFrom) :
    s.hangOut = (s.advance ((s.grain + 1) % 2 ^ 64)).forceClose := by
  rw [State.hangOut, if_neg (by simp [h]), if_pos hu, if_neg hg]

/-- FREE_LIMIT passes over a step that is not done. -/
theorem State.freeLimit_of_not_done {g : Nat} (hf : s.freeRun = true) (hp : s.time.phase = .opened) (he : s.freeEnd = some g)
    (hd : (s.advance g).allDone = false) : s.freeLimit =
      if (s.advance g).unfinished = [] then (s.advance g).forceClose
      else { s.advance g with time := { (s.advance g).time with phase := .hang, hangFrom := g } } := by
  rw [State.freeLimit, if_neg (by simp [hf, hp]), he]
  simp only [hd, Bool.false_and, Bool.false_eq_true, if_false]

end

/-- What a filter lets through that no entry of a key passes does not change when that key is set. -/
theorem Sparse.filter_set {K V : Type} [DecidableEq K] [DecidableEq V] (lt : K → K → Bool) (m : List (K × V)) (k : K)
    (d v : V) (p : K × V → Bool) (h : ∀ x, p (k, x) = false) : (Sparse.set lt m k d v).filter p = m.filter p := by
  have hdrop : (Sparse.drop m k).filter p = m.filter p := by
    rw [Sparse.drop, List.filter_filter]
    refine List.filter_congr fun e _ => ?_
    by_cases he : e.1 = k
    · rw [show e = (k, e.2) from Prod.ext he rfl, h, Bool.false_and]
    · simp [he]
  have hput : ∀ l : List (K × V), (Sparse.put lt l k v).filter p = l.filter p := by
    intro l
    induction l with
    | nil => simp [Sparse.put, h]
    | cons e t ih =>
      unfold Sparse.put
      split
      · rw [List.filter_cons, h, if_neg Bool.false_ne_true]
      · rw [List.filter_cons, List.filter_cons, ih]
  unfold Sparse.set
  split
  · exact hdrop
  · rw [hput, hdrop]

/-- The units at which a field is set are the same after a write of another field. -/
theorem State.unitsOn_wr_apart {f g : Fld} (s : State) (v u i : Nat) (h : g.apart f = true) :
    (s.wr f v u i).unitsOn g = s.unitsOn g := by
  refine congrArg _ (Sparse.filter_set _ _ _ _ _ _ fun x => ?_)
  have hkey : ¬(f.reg.num = g.reg.num ∧ f.lo = g.lo) := fun ⟨hr, hl⟩ => by simp [Fld.apart, hr, hl] at h
  by_cases hr : f.reg.num = g.reg.num <;> simp [Fld.key, hr]
  exact fun hl => absurd ⟨hr, hl⟩ hkey

theorem State.unitsOn_of_regs {s t : State} (h : t.regs = s.regs) (g : Fld) : t.unitsOn g = s.unitsOn g := by
  unfold State.unitsOn; rw [h]

section
variable (s : State) (g : Nat) {f : Fld}

theorem State.toGrain_unitsOn (hg : f.apart F.TIME_GRAIN_GRAIN = true) (ha : f.apart F.ACT_ARM_ARM = true)
    (hc : f.apart F.PAIR_CNT0_HB_GAP = true) : (s.toGrain g).unitsOn f = s.unitsOn f := by
  obtain ⟨t, ht, hr, -⟩ := s.toGrain_atGrain g
  have hat : (s.atGrain g).unitsOn f = s.unitsOn f := by
    unfold State.atGrain
    rw [State.unitsOn_wr_apart _ _ _ _ hg]
    cases s.ash.armNext with
    | none => rfl
    | some v => exact State.unitsOn_wr_apart _ _ _ _ ha
  rw [ht, ← hat, ← State.unitsOn_of_regs hr]
  rcases t.countGaps_cases with h | ⟨n, k, h⟩ <;> rw [h]
  exact State.unitsOn_wr_apart _ _ _ _ hc

theorem State.advance_unitsOn (hg : f.apart F.TIME_GRAIN_GRAIN = true) (ha : f.apart F.ACT_ARM_ARM = true)
    (hc : f.apart F.PAIR_CNT0_HB_GAP = true) : (s.advance g).unitsOn f = s.unitsOn f := by
  unfold State.advance
  split
  · rfl
  · exact s.toGrain_unitsOn _ hg ha hc

end

/-- A later grain leaves every register but GRAIN, ACT_ARM and the count of missing heartbeats. -/
theorem State.advance_rd (s : State) (g : Nat) {f : Fld} (u i : Nat) (hg : f.apart F.TIME_GRAIN_GRAIN = true)
    (ha : f.apart F.ACT_ARM_ARM = true) (hc : f.apart F.PAIR_CNT0_HB_GAP = true) : (s.advance g).rd f u i = s.rd f u i := by
  unfold State.advance
  split
  · rfl
  · exact s.toGrain_rd _ u i hg ha hc

theorem State.advance_on (s : State) (g : Nat) {f : Fld} (u i : Nat) (hg : f.apart F.TIME_GRAIN_GRAIN = true)
    (ha : f.apart F.ACT_ARM_ARM = true) (hc : f.apart F.PAIR_CNT0_HB_GAP = true) : (s.advance g).on f u i = s.on f u i :=
  State.on_of_rd (s.advance_rd g u i hg ha hc)

theorem State.advance_liveCores (s : State) (g : Nat) : (s.advance g).liveCores = s.liveCores := by
  have hf : (s.advance g).fuse = s.fuse := by rw [s.advance_grainFrame g]
  have hloaded : (s.advance g).loaded = s.loaded := by
    rw [State.loaded, State.loaded, s.advance_unitsOn g (by decide) (by decide) (by decide)]
    exact List.filter_congr fun n _ => by simp only [State.coreOn, State.engineOn, hf]
  rw [State.liveCores, State.liveCores, hloaded]
  exact List.filter_congr fun n _ => by rw [s.advance_on g n 0 (by decide) (by decide) (by decide)]

theorem State.advance_cordDone (s : State) (g n : Nat) : (s.advance g).cordDone n = s.cordDone n := by
  have hf := s.advance_grainFrame g
  have hcord : (s.advance g).cord = s.cord := by rw [hf]
  have hcore : (s.advance g).core n = s.core n := by rw [State.core, State.core, hf]
  have htile : (s.advance g).tileOf n = s.tileOf n := s.advance_rd g _ _ (by decide) (by decide) (by decide)
  simp only [State.cordDone, State.supplies, State.receives, hcord, hcore, htile,
    s.advance_on g (f := F.CORD_PORT_CNT_LOCAL_IN) _ _ (by decide) (by decide) (by decide),
    s.advance_on g (f := F.CORD_PORT_CNT_LOCAL_OUT) _ _ (by decide) (by decide) (by decide),
    s.advance_rd g (f := F.CORD_CTRL_RUNS) _ _ (by decide) (by decide) (by decide)]

/-- The units whose updates are unfinished stay the same while grains pass. -/
theorem State.advance_unfinished (s : State) (g : Nat) : (s.advance g).unfinished = s.unfinished := by
  rw [State.unfinished, State.unfinished, s.advance_liveCores g]
  refine List.filter_congr fun n _ => ?_
  rw [s.advance_cordDone g n, s.advance_on g (f := F.CORE_STAT_UPD_BUSY) _ _ (by decide) (by decide) (by decide),
    s.advance_on g (f := F.CORE_STAT_DONE_MASKED) _ _ (by decide) (by decide) (by decide)]

/-- The state after a forced close was counted, before its report. -/
def State.countedForced (s : State) : State :=
  ((((s.wr F.TIME_OVL_STAT_LAST_CLOSE 2).wr F.TIME_OVL_STAT_LAST_STRETCH (min s.lateness 0x1FFF)).top
      F.TIME_OVL_STAT_MAX_STRETCH s.lateness).inc F.TIME_STRETCH_CNT_CNT).inc F.TIME_FORCED_CNT_CNT

theorem State.countClose_forced (s : State) : (s.countClose .forced).regs = s.countedForced.regs ∧
    (s.countClose .forced).owl = (s.countedForced.report 0x740 0x21 2 s.step).owl := by
  unfold State.countClose
  extract_lets late s1 s2 s3
  have h2 : s2 = s1.inc F.TIME_STRETCH_CNT_CNT := if_neg (by decide)
  have h3 : s3 = (s2.inc F.TIME_FORCED_CNT_CNT).report srcCollier 0x21 2 s.step := if_pos rfl
  have h1 : s2.inc F.TIME_FORCED_CNT_CNT = s.countedForced := by rw [h2]; rfl
  rw [h1] at h3
  clear_value s3
  rw [h3]
  constructor
  · simp only [State.report_regs]
  · simp only [srcCollier]

theorem State.countClose_forced_rd (s : State) (f : Fld) (u i : Nat) :
    (s.countClose .forced).rd f u i = s.countedForced.rd f u i := State.rd_of_regs s.countClose_forced.1 f u i

theorem State.countClose_forced_stages (s : State) : (s.countClose .forced).Stages 0x740 0x21 := by
  have h := State.report_stages s.countedForced 0x740 0x21 2 s.step
  unfold State.Stages at *
  rwa [s.countClose_forced.2]

theorem State.countedForced_rd (s : State) :
    s.countedForced.rd F.TIME_OVL_STAT_LAST_CLOSE = 2 ∧
      s.countedForced.rd F.TIME_FORCED_CNT_CNT = min (s.rd F.TIME_FORCED_CNT_CNT + 1) (2 ^ 32 - 1) ∧
      s.countedForced.rd F.TIME_STRETCH_CNT_CNT = min (s.rd F.TIME_STRETCH_CNT_CNT + 1) (2 ^ 32 - 1) := by
  unfold State.countedForced
  refine ⟨?_, ?_, ?_⟩
  · rw [State.rd_inc_apart _ _ _ _ _ _ (by decide), State.rd_inc_apart _ _ _ _ _ _ (by decide),
      State.rd_top_apart _ _ _ _ _ _ (by decide), State.rd_wr_apart _ _ _ _ _ _ (by decide),
      State.rd_wr_of_lt _ _ _ _ (by decide)]
  · rw [State.rd_inc, State.rd_inc_apart _ _ _ _ _ _ (by decide), State.rd_top_apart _ _ _ _ _ _ (by decide),
      State.rd_wr_apart _ _ _ _ _ _ (by decide), State.rd_wr_apart _ _ _ _ _ _ (by decide)]
    rfl
  · rw [State.rd_inc_apart _ _ _ _ _ _ (by decide), State.rd_inc, State.rd_top_apart _ _ _ _ _ _ (by decide),
      State.rd_wr_apart _ _ _ _ _ _ (by decide), State.rd_wr_apart _ _ _ _ _ _ (by decide)]
    rfl

theorem exec_hangLimitExpired (s : State) : exec .hangLimitExpired s = .next s.hangOut := rfl

theorem exec_freeLimitExpired (s : State) : exec .freeLimitExpired s = .next s.freeLimit := rfl

/-- Settles O6: the wait and the mask, the limit of a free-run step, and what a forced close counts and reports. -/
theorem forcedClosesMaskAndReport : Obligations.ForcedClosesMaskAndReport := by
  unfold Obligations.ForcedClosesMaskAndReport
  intro s hq h f
  have hadv : ∀ g, (s.advance g).spare.queue = [] := fun g => by rw [State.advance_spare, hq]
  refine ⟨fun hp hu => ?_, fun hf hp hl hpair hd => ⟨fun hu => ?_, fun hu => ?_⟩, fun hp hu hg => ?_, fun n hn => ?_, ?_⟩
  · rw [exec_hangLimitExpired, State.hangOut_of_unfinished hp hu, State.forceClose_of_no_swap (hadv _)]
  · rw [exec_freeLimitExpired, State.freeLimit_of_not_done hf hp (State.freeEnd_of_limit hl hpair) hd, if_pos hu,
      State.forceClose_of_no_swap (hadv _), State.maskUnfinished_of_finished hu]
  · rw [exec_freeLimitExpired, State.freeLimit_of_not_done hf hp (State.freeEnd_of_limit hl hpair) hd, if_neg hu]
    exact ⟨_, rfl, rfl, rfl, rfl⟩
  · rw [exec_hangLimitExpired, State.hangOut_of_finished hp hu hg, State.forceClose_of_no_swap (hadv _),
      State.maskUnfinished_of_finished ((s.advance_unfinished _).trans hu)]
  · exact State.foldl_maskOne_masks _ s n hn
  · obtain ⟨hlast, hforced, hstretch⟩ := s.countedForced_rd
    simp only [State.countClose_forced_rd]
    exact ⟨hlast, hforced, hstretch, s.countClose_forced_stages⟩

end Sys2Proof.Machine
end

section
/-! What a reply leaves alone (12_command_interface.md R327, R329). -/
namespace Sys2Proof.Machine

/-- The fields that a reply may write: the counts and the last command of R328, and the drops of a TX port. -/
def replyFlds : List Fld :=
  [F.CMD_CNT_NOT_OK, F.CMD_LAST_REASON, F.CMD_LAST_OPCODE, F.CMD_LAST_STATUS, F.CSITX_DROP_CNT_BLK_DROP]

/-- A field is none of those. -/
def Fld.apartFrom (f : Fld) (gs : List Fld) : Bool := gs.all (fun g => f.apart g)

section
variable (s : State) {f : Fld} (u i : Nat)

theorem State.emitBlock_rd (p vc dt : Nat) (b : List Byte) (cls : TxClass) (h : f.apart F.CSITX_DROP_CNT_BLK_DROP = true) :
    (s.emitBlock p vc dt b cls).rd f u i = s.rd f u i := by
  have hinc := State.rd_inc_apart s 1 p 0 u i h
  unfold State.emitBlock
  split
  · rfl
  split
  · exact hinc
  split
  · split
    · rfl
    · exact hinc
  split <;> rfl

/-- A block addressed to a port changes that port's record and its count of drops. -/
theorem State.emitBlock_frame (p vc dt : Nat) (b : List Byte) (cls : TxClass) :
    s.emitBlock p vc dt b cls =
      { s with regs := (s.emitBlock p vc dt b cls).regs, tx := (s.emitBlock p vc dt b cls).tx } := by
  unfold State.emitBlock
  split
  · rfl
  split
  · rfl
  split
  · split <;> rfl
  split <;> rfl

/-- The state once the status of a reply was counted (12 R328). -/
def State.noted (word0 reason : Nat) : State :=
  if statusOf reason = 0 then s
  else (((s.inc F.CMD_CNT_NOT_OK).wr F.CMD_LAST_REASON reason).wr F.CMD_LAST_OPCODE (bits word0 23 16)).wr
    F.CMD_LAST_STATUS (statusOf reason)

theorem State.noted_rd (word0 reason : Nat) (h : f.apartFrom replyFlds = true) :
    (s.noted word0 reason).rd f u i = s.rd f u i := by
  simp only [Fld.apartFrom, replyFlds, List.all_cons, Bool.and_eq_true] at h
  obtain ⟨h1, h2, h3, h4, -⟩ := h
  unfold State.noted
  split
  · rfl
  · rw [State.rd_wr_apart _ _ _ _ _ _ h4, State.rd_wr_apart _ _ _ _ _ _ h3, State.rd_wr_apart _ _ _ _ _ _ h2,
      State.rd_inc_apart _ _ _ _ _ _ h1]

theorem State.noted_frame (word0 reason : Nat) : s.noted word0 reason = { s with regs := (s.noted word0 reason).regs } := by
  unfold State.noted
  split <;> rfl

/-- A reply is none, a block on a TX port, or one more in the reply FIFO. -/
theorem State.sendReply_cases (path : CmdPath) (word0 : Nat) (ack : Bool) (reason : Nat) (data : List Byte) :
    s.sendReply path word0 ack reason data = s.noted word0 reason ∨
      (∃ p vc dt b cls, s.sendReply path word0 ack reason data = (s.noted word0 reason).emitBlock p vc dt b cls) ∨
      ∃ b, s.sendReply path word0 ack reason data = { s.noted word0 reason with
        cmd := CmdSt.place { (s.noted word0 reason).cmd with replyWait := (s.noted word0 reason).cmd.replyWait ++ [b] } } := by
  unfold State.sendReply
  extract_lets st s1 b
  have h1 : s1 = s.noted word0 reason := rfl
  clear_value s1
  subst h1
  split
  · exact .inl rfl
  cases path with
  | inband =>
    dsimp only
    split
    · exact .inr (.inl ⟨_, _, _, _, _, rfl⟩)
    · exact .inl rfl
  | i3cSdr => exact .inr (.inr ⟨_, rfl⟩)
  | i3cHdr => exact .inr (.inr ⟨_, rfl⟩)

theorem State.sendReply_rd (path : CmdPath) (word0 : Nat) (ack : Bool) (reason : Nat) (data : List Byte)
    (h : f.apartFrom replyFlds = true) : (s.sendReply path word0 ack reason data).rd f u i = s.rd f u i := by
  have hdrop : f.apart F.CSITX_DROP_CNT_BLK_DROP = true := by
    simp only [Fld.apartFrom, replyFlds, List.all_cons, Bool.and_eq_true] at h
    exact h.2.2.2.2.1
  rcases s.sendReply_cases path word0 ack reason data with hr | ⟨p, vc, dt, b, cls, hr⟩ | ⟨b, hr⟩ <;> rw [hr]
  · exact s.noted_rd u i word0 reason h
  · rw [State.emitBlock_rd _ _ _ _ _ _ _ _ hdrop, s.noted_rd u i word0 reason h]
  · exact s.noted_rd u i word0 reason h

/-- Beside registers, a reply changes the command window's record and those of the TX ports alone. -/
theorem State.sendReply_frame (path : CmdPath) (word0 : Nat) (ack : Bool) (reason : Nat) (data : List Byte) :
    ∃ regs tx cmd, s.sendReply path word0 ack reason data = { s with regs := regs, tx := tx, cmd := cmd } := by
  rcases s.sendReply_cases path word0 ack reason data with hr | ⟨p, vc, dt, b, cls, hr⟩ | ⟨b, hr⟩ <;>
    rw [hr, s.noted_frame word0 reason]
  · exact ⟨_, _, _, rfl⟩
  · rw [State.emitBlock_frame]
    exact ⟨_, _, _, rfl⟩
  · exact ⟨_, _, _, rfl⟩

/-- Finishing a command answers it, if it waits. -/
theorem State.finish_cases (op reason : Nat) (data : List Byte) : s.finish op reason data = s ∨
    ∃ (ds : List Deferred) (d : Deferred), s.finish op reason data =
      ({ s with cmd := { s.cmd with deferred := ds } }).sendReply d.path d.word0 d.ack reason data := by
  unfold State.finish
  split
  · exact .inl rfl
  · exact .inr ⟨_, _, rfl⟩

theorem State.finish_rd (op reason : Nat) (data : List Byte) (h : f.apartFrom replyFlds = true) :
    (s.finish op reason data).rd f u i = s.rd f u i := by
  rcases s.finish_cases op reason data with hf | ⟨ds, d, hf⟩ <;> rw [hf]
  rw [State.sendReply_rd _ _ _ _ _ _ _ _ h]
  rfl

theorem State.finish_frame (op reason : Nat) (data : List Byte) :
    ∃ regs tx cmd, s.finish op reason data = { s with regs := regs, tx := tx, cmd := cmd } := by
  rcases s.finish_cases op reason data with hf | ⟨ds, d, hf⟩ <;> rw [hf]
  · exact ⟨_, _, _, rfl⟩
  · obtain ⟨regs, tx, cmd, h⟩ := State.sendReply_frame { s with cmd := { s.cmd with deferred := ds } } d.path d.word0 d.ack
      reason data
    exact ⟨regs, tx, cmd, h⟩

theorem State.finish_time (op reason : Nat) (data : List Byte) : (s.finish op reason data).time = s.time := by
  obtain ⟨regs, tx, cmd, h⟩ := s.finish_frame op reason data
  rw [h]

/-- The pending configuration event outlives a reply. -/
theorem State.finish_ibiCfg (op reason : Nat) (data : List Byte) : (s.finish op reason data).cmd.ibiCfg = s.cmd.ibiCfg := by
  rcases s.finish_cases op reason data with hf | ⟨ds, d, hf⟩ <;> rw [hf]
  rcases State.sendReply_cases { s with cmd := { s.cmd with deferred := ds } } d.path d.word0 d.ack reason data with
    hr | ⟨p, vc, dt, b, cls, hr⟩ | ⟨b, hr⟩ <;> rw [hr, State.noted_frame]
  · rw [State.emitBlock_frame]
  · rfl

end

end Sys2Proof.Machine
end

section
/-! RUN_EN and the configuration check (12_command_interface.md R336, R337). -/
namespace Sys2Proof.Machine

section
variable {s : State}

theorem State.runWrite_start (hst : 8 ≤ s.boot.stage) (hc : s.on F.CHIP_CTRL_CHECK_BUSY = false) (hr : s.running = false) :
    s.runWrite true = s.checkStart := by
  rw [State.runWrite, if_neg (by simp [hc]; omega), if_pos rfl, if_neg (by simp [hr])]

theorem State.runWrite_stop (hst : 8 ≤ s.boot.stage) (hc : s.on F.CHIP_CTRL_CHECK_BUSY = false) (hr : s.running = true) :
    s.runWrite false = s.disable := by
  rw [State.runWrite, if_neg (by simp [hc]; omega), if_neg Bool.false_ne_true, if_pos hr]

/-- A write of what RUN_EN holds. -/
theorem State.runWrite_same : s.runWrite s.running = s := by
  unfold State.runWrite
  cases s.running <;> simp

theorem State.runWrite_ignored (h : s.boot.stage < 8 ∨ s.on F.CHIP_CTRL_CHECK_BUSY = true) (v : Bool) : s.runWrite v = s := by
  rw [State.runWrite, if_pos h]

theorem State.checkStart_regs : s.checkStart.regs = (s.wr F.CHIP_CTRL_CHECK_BUSY 1).regs := rfl

end

theorem exec_runEnWrite (v : Bool) (s : State) : exec (.runEnWrite v) s = .next (s.runWrite v) := rfl

/-- Settles O7: the four cases of a write of RUN_EN. -/
theorem runEnableWritesStartAndStop : Obligations.RunEnableWritesStartAndStop := by
  unfold Obligations.RunEnableWritesStartAndStop
  intro s
  simp only [exec_runEnWrite]
  refine ⟨fun hst hc hr => ⟨⟨_, rfl, ?_⟩, ?_⟩, fun hst hc hr => ⟨?_, ?_⟩, fun h v => by rw [State.runWrite_ignored h]⟩
  · rw [State.runWrite_start hst hc hr]
    have hrd := fun f => State.rd_of_regs (s := s.wr F.CHIP_CTRL_CHECK_BUSY 1) (t := s.checkStart) rfl f 0 0
    refine ⟨?_, ?_, rfl, rfl, OnlyWrites.of_regs ((OnlyWrites.refl _ s).wr F.CHIP_CTRL_CHECK_BUSY 1 0 0 (by decide)) rfl⟩
    · rw [hrd, State.rd_wr_of_lt _ _ _ _ (by decide)]
    · rw [← hr]
      exact State.on_of_rd ((hrd _).trans (State.rd_wr_apart _ _ _ _ _ _ (by decide)))
  · rw [← hr, State.runWrite_same]
  · rw [State.runWrite_stop hst hc hr]
    rfl
  · rw [← hr, State.runWrite_same]

/-- What the check finds is what it examined. -/
theorem State.checkDone_pass {s : State} (hc : s.on F.CHIP_CTRL_CHECK_BUSY = true)
    (hf : firstFailure (s.examined.2.checkClasses s.examined.1) = none) : s.checkDone = s.examined.2.checkPass := by
  unfold State.checkDone
  rw [if_neg (by simp [hc])]
  extract_lets t im
  have him : im = s.examined := rfl
  rw [him, hf]

/-- The state in which a failed check is recorded: 40 ms after the start where no agreement record came (R340). -/
def State.failsAt (s : State) (x : Nat × Nat × Nat) : State :=
  if x.1 = 8 ∧ x.2.1 = 7 then s.examined.2.advance ((s.time.checkAt + 40000) % 2 ^ 64) else s.examined.2

theorem State.checkDone_fail {s : State} {x : Nat × Nat × Nat} (hc : s.on F.CHIP_CTRL_CHECK_BUSY = true)
    (hf : firstFailure (s.examined.2.checkClasses s.examined.1) = some x) : s.checkDone = (s.failsAt x).checkFail x := by
  unfold State.checkDone
  rw [if_neg (by simp [hc])]
  extract_lets t im
  have him : im = s.examined := rfl
  rw [him, hf]
  rfl

theorem State.failsAt_rd (s : State) (x : Nat × Nat × Nat) {f : Fld} (u i : Nat) (hg : f.apart F.TIME_GRAIN_GRAIN = true)
    (ha : f.apart F.ACT_ARM_ARM = true) (hc : f.apart F.PAIR_CNT0_HB_GAP = true) :
    (s.failsAt x).rd f u i = s.examined.2.rd f u i := by
  unfold State.failsAt
  split
  · exact State.advance_rd _ _ u i hg ha hc
  · rfl

section
variable (s : State)

/-- What the rise of RUN_EN leaves in the registers that say so, and in the sequencer. -/
theorem State.rise_runs : s.rise.rd F.CHIP_CTRL_RUN_EN = 1 ∧ s.rise.rd F.CHIP_CTRL_CHECK_BUSY = 0 ∧
    s.rise.rd F.TIME_STEP_STEP = 0 ∧ s.rise.rd F.TIME_FRAME_FRAME = 0 ∧ s.rise.time.phase = .armed ∧
    s.rise.time.winClosed = 0 := by
  unfold State.rise
  extract_lets s1 cores s2 s3 s4 s5 s6 s7 no time ash cord sec s8
  have h7 : ∀ f : Fld, f.apart F.KILN_STAT_STATE = true → s7.rd f = s6.rd f := by
    intro f hf
    simp only [s7]
    split
    · exact State.rd_wr_apart _ _ _ _ _ _ hf
    · rfl
  clear_value s7
  have h8 : ∀ f : Fld, s8.rd f = s7.rd f := fun f => State.rd_of_regs (t := s8) (s := s7) rfl f 0 0
  refine ⟨?_, ?_, ?_, ?_, rfl, rfl⟩ <;> rw [h8, h7 _ (by decide)] <;> simp only [s6]
  · rw [State.rd_wr_apart _ _ _ _ _ _ (by decide), State.rd_wr_apart _ _ _ _ _ _ (by decide),
      State.rd_wr_apart _ _ _ _ _ _ (by decide), State.rd_wr_of_lt _ _ _ _ (by decide)]
  · rw [State.rd_wr_apart _ _ _ _ _ _ (by decide), State.rd_wr_apart _ _ _ _ _ _ (by decide),
      State.rd_wr_apart _ _ _ _ _ _ (by decide), State.rd_wr_apart _ _ _ _ _ _ (by decide),
      State.rd_wr_of_lt _ _ _ _ (by decide)]
  · rw [State.rd_wr_apart _ _ _ _ _ _ (by decide), State.rd_wr_apart _ _ _ _ _ _ (by decide),
      State.rd_wr_of_lt _ _ _ _ (by decide)]
  · rw [State.rd_wr_apart _ _ _ _ _ _ (by decide), State.rd_wr_of_lt _ _ _ _ (by decide)]

theorem State.checkPass_of_not_joining (h : s.joins = false) :
    s.checkPass = s.rise.finish 0x18 0 (toBytes 8 s.originGrain) := by
  unfold State.checkPass
  rw [h]
  rfl

/-- The state after a failed check was recorded, before ENABLE is answered. -/
def State.checkFailed (x : Nat × Nat × Nat) : State :=
  let t := ((s.wr F.CHIP_CTRL_CHECK_BUSY 0).wr F.CHIP_CFG_REASON_CLASS x.1).wr F.CHIP_CFG_REASON_DETAIL x.2.1
  let u := t.wr F.CHIP_CFG_REASON_INDEX ((if x.1 = 7 then queueIndex x.2.2 else x.2.2) % 65536)
  if x.1 = 7 then u.wr F.DREY_CFG_QID_QID x.2.2 else u

theorem State.checkFail_eq (x : Nat × Nat × Nat) : ∃ data, s.checkFail x =
    ({ s.checkFailed x with cmd := { (s.checkFailed x).cmd with ibiCfg := true } }).finish 0x18 (256 * x.1 + x.2.1) data :=
  ⟨_, rfl⟩

theorem State.checkFailed_rd (x : Nat × Nat × Nat) :
    (s.checkFailed x).rd F.CHIP_CTRL_RUN_EN = s.rd F.CHIP_CTRL_RUN_EN ∧ (s.checkFailed x).rd F.CHIP_CTRL_CHECK_BUSY = 0 ∧
      (s.checkFailed x).rd F.CHIP_CFG_REASON_CLASS = x.1 % 256 ∧ (s.checkFailed x).rd F.CHIP_CFG_REASON_DETAIL = x.2.1 % 256 ∧
      (s.checkFailed x).rd F.CHIP_CFG_REASON_INDEX = (if x.1 = 7 then queueIndex x.2.2 else x.2.2) % 65536 := by
  unfold State.checkFailed
  extract_lets t u
  have hu : ∀ f : Fld, f.apart F.DREY_CFG_QID_QID = true →
      (if x.1 = 7 then u.wr F.DREY_CFG_QID_QID x.2.2 else u).rd f = u.rd f := by
    intro f hf
    split
    · exact State.rd_wr_apart _ _ _ _ _ _ hf
    · rfl
  refine ⟨?_, ?_, ?_, ?_, ?_⟩ <;> rw [hu _ (by decide)] <;> simp only [u, t]
  · rw [State.rd_wr_apart _ _ _ _ _ _ (by decide), State.rd_wr_apart _ _ _ _ _ _ (by decide),
      State.rd_wr_apart _ _ _ _ _ _ (by decide), State.rd_wr_apart _ _ _ _ _ _ (by decide)]
  · rw [State.rd_wr_apart _ _ _ _ _ _ (by decide), State.rd_wr_apart _ _ _ _ _ _ (by decide),
      State.rd_wr_apart _ _ _ _ _ _ (by decide), State.rd_wr_of_lt _ _ _ _ (by decide)]
  · rw [State.rd_wr_apart _ _ _ _ _ _ (by decide), State.rd_wr_apart _ _ _ _ _ _ (by decide)]
    exact State.rd_wr_self ..
  · rw [State.rd_wr_apart _ _ _ _ _ _ (by decide)]
    exact State.rd_wr_self ..
  · exact State.rd_wr_of_lt _ _ _ _ (Nat.mod_lt _ (by decide))

end

theorem exec_configCheckDone (s : State) : exec .configCheckDone s = .next s.checkDone := rfl

/-- Settles O8: no check, a check that passes, and a check that fails. -/
theorem configurationCheckEnds : Obligations.ConfigurationCheckEnds := by
  unfold Obligations.ConfigurationCheckEnds
  intro s
  simp only [exec_configCheckDone]
  refine ⟨fun hc => ?_, fun hc hf hj => ⟨_, rfl, ?_⟩, fun x hc hf => ⟨_, rfl, ?_⟩⟩
  · rw [State.checkDone, if_pos (by simp [hc])]
  · obtain ⟨hrun, hbusy, hstep, hframe, hphase, hwin⟩ := s.examined.2.rise_runs
    rw [State.checkDone_pass hc hf, State.checkPass_of_not_joining _ hj, State.running, State.on, State.step, State.frame,
      State.finish_rd _ _ _ _ _ _ (by decide), State.finish_rd _ _ _ _ _ _ (by decide),
      State.finish_rd _ _ _ _ _ _ (by decide), State.finish_rd _ _ _ _ _ _ (by decide), State.finish_time, hrun]
    exact ⟨rfl, hbusy, hstep, hframe, hphase, hwin⟩
  · rw [State.checkDone_fail hc hf]
    obtain ⟨data, he⟩ := (s.failsAt x).checkFail_eq x
    obtain ⟨hrun, hbusy, hcls, hdet, hidx⟩ := (s.failsAt x).checkFailed_rd x
    have hrd : ∀ f : Fld, f.apartFrom replyFlds = true →
        ((s.failsAt x).checkFail x).rd f = ((s.failsAt x).checkFailed x).rd f := by
      intro f h
      rw [he, State.finish_rd _ _ _ _ _ _ h]
      rfl
    rw [hrd _ (by decide), hrd _ (by decide), hrd _ (by decide), hrd _ (by decide), hrd _ (by decide), hrun,
      s.failsAt_rd x 0 0 (by decide) (by decide) (by decide), he, State.finish_ibiCfg]
    exact ⟨rfl, hbusy, hcls, hdet, hidx, rfl⟩

end Sys2Proof.Machine
end

section
/-! Edges of SYNC_IN by mode (02_time_and_ordering.md R36). -/
namespace Sys2Proof.Machine

section
variable {s : State} {pos : Nat}

theorem State.syncEdge_off (hm : s.rd F.TIME_CTRL_SYNC_MODE = 0) : s.syncEdge pos = s := by
  unfold State.syncEdge
  extract_lets p
  rw [if_pos hm]

/-- The root position of a load edge: it marks the start of the grain that is loaded. -/
def State.loadPos (s : State) (pos : Nat) : Nat :=
  (s.rd F.TIME_SYNC_LOAD_LOAD * 3200 + rootScale - (3200 - pos % 3200)) % rootScale

/-- The state after the load edge has set GRAIN and disarmed the load. -/
def State.syncLoaded (s : State) : State :=
  let u := (s.inc F.TIME_SYNC_STAT_EDGE_CNT).wr F.TIME_GRAIN_GRAIN (s.rd F.TIME_SYNC_LOAD_LOAD)
  { u with time := { u.time with syncArmed := false } }

theorem State.syncEdge_load (hm : s.rd F.TIME_CTRL_SYNC_MODE ≠ 0) (ha : s.time.syncArmed = true) (hr : s.running = false) :
    s.syncEdge pos = s.syncLoaded.syncFirst (s.loadPos pos) := by
  unfold State.syncEdge
  extract_lets p t load u time v
  rw [if_neg hm, if_pos (by simp [ha, hr])]
  rfl

theorem State.syncEdge_first (hm : s.rd F.TIME_CTRL_SYNC_MODE ≠ 0) (hk : s.time.syncKnown = false)
    (ha : s.time.syncArmed = false ∨ s.running = true) :
    s.syncEdge pos = (s.inc F.TIME_SYNC_STAT_EDGE_CNT).syncFirst (s.grain * 3200 + pos % 3200) := by
  have hload : ¬ (s.time.syncArmed && !s.running) = true := by
    rcases ha with ha | ha <;> simp [ha]
  unfold State.syncEdge
  extract_lets p t load u v
  rw [if_neg hm, if_neg hload, if_pos (by simp [hk])]

end

theorem uns_lt (n : Nat) (x : Int) : uns n x < 2 ^ n := by
  have hpos : (0 : Int) < ((2 ^ n : Nat) : Int) := by exact_mod_cast Nat.two_pow_pos n
  exact (Int.toNat_lt (Int.emod_nonneg x hpos.ne')).mpr (Int.emod_lt_of_pos x hpos)

section
variable (s : State) (p : Nat)

/-- A first edge clears PHASE_ERR and LOCKED and is known from then on; it starts no correction. -/
theorem State.syncFirst_effect : (s.syncFirst p).rd F.TIME_SYNC_STAT_PHASE_ERR = 0 ∧
    (s.syncFirst p).rd F.TIME_SYNC_STAT_LOCKED = 0 ∧ (s.syncFirst p).time.syncKnown = true ∧
    (s.syncFirst p).time.syncArmed = s.time.syncArmed ∧ (s.syncFirst p).time.slew = s.time.slew := by
  have hrd := fun f => State.rd_of_regs (t := s.syncFirst p)
    (s := (s.wr F.TIME_SYNC_STAT_PHASE_ERR 0).wr F.TIME_SYNC_STAT_LOCKED 0) rfl f 0 0
  refine ⟨?_, ?_, rfl, rfl, rfl⟩ <;> rw [hrd]
  · rw [State.rd_wr_apart _ _ _ _ _ _ (by decide), State.rd_wr_of_lt _ _ _ _ (by decide)]
  · exact State.rd_wr_of_lt _ _ _ _ (by decide)

theorem State.syncFirst_onlyWrites :
    OnlyWrites [F.TIME_SYNC_STAT_PHASE_ERR.key 0 0, F.TIME_SYNC_STAT_LOCKED.key 0 0] s (s.syncFirst p) :=
  OnlyWrites.of_regs (((OnlyWrites.refl _ s).wr F.TIME_SYNC_STAT_PHASE_ERR 0 0 0 (by decide)).wr
    F.TIME_SYNC_STAT_LOCKED 0 0 0 (by decide)) rfl

theorem State.syncFirst_regsTimeFrame : RegsTimeFrame s (s.syncFirst p) :=
  RegsTimeFrame.with_time (t := (s.wr F.TIME_SYNC_STAT_PHASE_ERR 0).wr F.TIME_SYNC_STAT_LOCKED 0)
    (((RegsTimeFrame.refl s).wr ..).wr ..) _

/-- PHASE_ERR as a measured edge shows it: the error limited to the field. -/
def State.phaseErr (s : State) (p : Nat) : Nat := uns 16 (max (-32767) (min 32767 (rootSpan p s.time.syncExpect)))

theorem State.phaseErr_lt : s.phaseErr p < 2 ^ F.TIME_SYNC_STAT_PHASE_ERR.width := by
  have hw : F.TIME_SYNC_STAT_PHASE_ERR.width = 16 := rfl
  rw [hw, State.phaseErr]
  exact uns_lt 16 _

/-- Far or near, a measured edge shows its error before anything else. -/
theorem State.syncMeasure_shows : ∃ u : State, u.rd F.TIME_SYNC_STAT_PHASE_ERR = s.phaseErr p ∧ u.time = s.time ∧
    ((s.rd F.TIME_SYNC_CFG_MAX_ERR * 3200 < (rootSpan p s.time.syncExpect).natAbs ∧
        s.syncMeasure p = { u with time := { u.time with syncExpect := (p + s.syncStep) % rootScale } }) ∨
      ((rootSpan p s.time.syncExpect).natAbs ≤ s.rd F.TIME_SYNC_CFG_MAX_ERR * 3200 ∧
        s.syncMeasure p = { u with time := { u.time with
          syncExpect := (s.time.syncExpect + s.syncStep) % rootScale
          slew := if s.rd F.TIME_CTRL_SYNC_MODE = 3 then rootSpan p s.time.syncExpect else u.time.slew } })) := by
  obtain ⟨t, ht⟩ : ∃ t, t = s.wr F.TIME_SYNC_STAT_PHASE_ERR (s.phaseErr p) := ⟨_, rfl⟩
  have herr : t.rd F.TIME_SYNC_STAT_PHASE_ERR = s.phaseErr p := by rw [ht, State.rd_wr_of_lt _ _ _ _ (s.phaseErr_lt p)]
  have htime : t.time = s.time := by rw [ht, State.wr_time]
  rcases lt_or_ge (s.rd F.TIME_SYNC_CFG_MAX_ERR * 3200) (rootSpan p s.time.syncExpect).natAbs with hfar | hnear
  · refine ⟨(t.wr F.TIME_SYNC_STAT_LOSS 1).wr F.TIME_SYNC_STAT_LOCKED 0, ?_, ?_, .inl ⟨hfar, ?_⟩⟩
    · rw [State.rd_wr_apart _ _ _ _ _ _ (by decide), State.rd_wr_apart _ _ _ _ _ _ (by decide), herr]
    · rw [State.wr_time, State.wr_time, htime]
    · rw [ht]; unfold State.syncMeasure State.phaseErr; exact if_pos hfar
  · refine ⟨t.wrB F.TIME_SYNC_STAT_LOCKED (decide ((rootSpan p s.time.syncExpect).natAbs ≤ 32)), ?_, ?_,
      .inr ⟨hnear, ?_⟩⟩
    · rw [State.rd_wrB_apart _ _ _ _ _ _ (by decide), herr]
    · rw [State.wrB_time, htime]
    · rw [ht]; unfold State.syncMeasure State.phaseErr; exact if_neg (Nat.not_lt.mpr hnear)

/-- A measured edge shows the error in root cycles, limited to the field; only in mode 3 and within MAX_ERR it starts a
correction of that error. -/
theorem State.syncMeasure_effect : (s.syncMeasure p).rd F.TIME_SYNC_STAT_PHASE_ERR = s.phaseErr p ∧
      (s.syncMeasure p).time.syncKnown = s.time.syncKnown ∧
      (s.syncMeasure p).time.slew = (if s.rd F.TIME_CTRL_SYNC_MODE = 3 ∧
        (rootSpan p s.time.syncExpect).natAbs ≤ s.rd F.TIME_SYNC_CFG_MAX_ERR * 3200 then rootSpan p s.time.syncExpect
        else s.time.slew) := by
  obtain ⟨u, herr, htime, ⟨hfar, h⟩ | ⟨hnear, h⟩⟩ := s.syncMeasure_shows p <;> rw [h]
  · rw [if_neg (fun h => absurd h.2 (Nat.not_le.mpr hfar)), ← htime]
    exact ⟨herr, rfl, rfl⟩
  · refine ⟨herr, ?_, ?_⟩
    · change u.time.syncKnown = s.time.syncKnown
      rw [htime]
    · simp only [htime, hnear, and_true]

end

/-- Settles O10: no edge in mode 0; the load edge; a first edge; a measured edge. -/
theorem syncInEdgesMeasureLoadAndSlew : Obligations.SyncInEdgesMeasureLoadAndSlew := by
  unfold Obligations.SyncInEdgesMeasureLoadAndSlew
  intro s pos
  simp only [exec_syncInEdge]
  refine ⟨fun hm => by rw [State.syncEdge_off hm], fun hm => ⟨_, rfl, ?_⟩⟩
  have hcnt : F.TIME_SYNC_STAT_EDGE_CNT.plus (s.rd F.TIME_SYNC_STAT_EDGE_CNT) 1 =
      (s.rd F.TIME_SYNC_STAT_EDGE_CNT + 1) % 256 := if_pos rfl
  have hcount := (OnlyWrites.refl [F.TIME_SYNC_STAT_EDGE_CNT.key 0 0] s).inc F.TIME_SYNC_STAT_EDGE_CNT 1 0 0 (by decide)
  have hframe : RegsTimeFrame s (s.inc F.TIME_SYNC_STAT_EDGE_CNT) := (RegsTimeFrame.refl s).inc ..
  by_cases hload : s.time.syncArmed = true ∧ s.running = false
  · obtain ⟨ha, hr⟩ := hload
    obtain ⟨herr, hlock, hknown, harmed, -⟩ := s.syncLoaded.syncFirst_effect (s.loadPos pos)
    rw [State.syncEdge_load hm ha hr]
    refine ⟨?_, fun _ _ => ⟨?_, harmed, herr, hlock, hknown⟩, fun h => ?_, ?_, ?_⟩
    · rw [(s.syncLoaded.syncFirst_onlyWrites _).rd_eq F.TIME_SYNC_STAT_EDGE_CNT, ← hcnt]
      simp (disch := decide) only [State.syncLoaded, State.rd_mk, State.get_regs, State.rd_wr_apart, State.rd_inc]
    · rw [State.grain, (s.syncLoaded.syncFirst_onlyWrites _).rd_eq F.TIME_GRAIN_GRAIN]
      simp only [State.syncLoaded, State.rd_mk, State.get_regs, State.rd_wr_self]
      rfl
    · rcases h with h | h
      · rw [ha] at h; exact absurd h Bool.noConfusion
      · rw [hr] at h; exact absurd h Bool.noConfusion
    · exact (RegsTimeFrame.trans (t := s.syncLoaded) (hframe.trans rfl) (State.syncFirst_regsTimeFrame ..))
    · have hl : OnlyWrites [F.TIME_SYNC_STAT_EDGE_CNT.key 0 0, F.TIME_GRAIN_GRAIN.key 0 0] s s.syncLoaded :=
        OnlyWrites.of_regs ((hcount.mono (by decide)).wr F.TIME_GRAIN_GRAIN _ 0 0 (by decide)) rfl
      exact (hl.mono (by decide)).trans ((s.syncLoaded.syncFirst_onlyWrites _).mono (by decide))
  · have hor : s.time.syncArmed = false ∨ s.running = true := by
      rcases ha : s.time.syncArmed with _ | _
      · exact .inl rfl
      · exact .inr (by simpa [ha] using hload)
    have hcount1 : (s.inc F.TIME_SYNC_STAT_EDGE_CNT).rd F.TIME_SYNC_STAT_EDGE_CNT =
        (s.rd F.TIME_SYNC_STAT_EDGE_CNT + 1) % 256 := (State.rd_inc ..).trans hcnt
    cases hk : s.time.syncKnown with
    | false =>
      obtain ⟨herr, hlock, hknown, -, hslew⟩ :=
        (s.inc F.TIME_SYNC_STAT_EDGE_CNT).syncFirst_effect (s.grain * 3200 + pos % 3200)
      have hw := (s.inc F.TIME_SYNC_STAT_EDGE_CNT).syncFirst_onlyWrites (s.grain * 3200 + pos % 3200)
      rw [State.syncEdge_first hm hk hor]
      refine ⟨(hw.rd_eq F.TIME_SYNC_STAT_EDGE_CNT).trans hcount1, fun ha hr => absurd ⟨ha, hr⟩ hload,
        fun _ => ⟨?_, hknown, fun _ => ⟨herr, hlock, hslew⟩, fun h => Bool.noConfusion h⟩,
        hframe.trans (State.syncFirst_regsTimeFrame ..), (hcount.mono (by decide)).trans (hw.mono (by decide))⟩
      exact (hw.rd_eq F.TIME_GRAIN_GRAIN).trans (hcount.rd_eq F.TIME_GRAIN_GRAIN)
    | true =>
      obtain ⟨c, hc⟩ : ∃ c, c = s.inc F.TIME_SYNC_STAT_EDGE_CNT := ⟨_, rfl⟩
      have htime : c.time = s.time := by rw [hc, State.inc_time]
      obtain ⟨herr, hknown, hslew⟩ := c.syncMeasure_effect (s.grain * 3200 + pos % 3200)
      have hw := c.syncMeasure_onlyWrites (s.grain * 3200 + pos % 3200)
      rw [State.syncEdge_of_known hm hk hor, ← hc]
      rw [← hc] at hcount1 hcount hframe
      rw [State.phaseErr, htime] at herr
      rw [htime, hcount.rd_eq F.TIME_CTRL_SYNC_MODE, hcount.rd_eq F.TIME_SYNC_CFG_MAX_ERR] at hslew
      refine ⟨(hw.rd_eq F.TIME_SYNC_STAT_EDGE_CNT).trans hcount1, fun ha hr => absurd ⟨ha, hr⟩ hload,
        fun _ => ⟨?_, ?_, fun h => Bool.noConfusion h, fun _ => ⟨herr, hslew⟩⟩,
        hframe.trans (State.syncMeasure_regsTimeFrame ..), (hcount.mono (by decide)).trans (hw.mono (by decide))⟩
      · exact (hw.rd_eq F.TIME_GRAIN_GRAIN).trans (hcount.rd_eq F.TIME_GRAIN_GRAIN)
      · rw [hknown, htime, hk]

end Sys2Proof.Machine
end

section
/-! Contacts, parameter writes and input windows (02_time_and_ordering.md R47, R48,
06_encoders_decoders_and_actuation.md R155, R156, R166). -/
namespace Sys2Proof.Machine

/-- The pins' levels with that of DIN `d` seen anew. -/
def dinSeen (din : BitVec 16) (d : Nat) (level : Bool) : BitVec 16 :=
  (din &&& ~~~ (1 <<< d : BitVec 16)) ||| (if level then (1 <<< d : BitVec 16) else 0)

theorem getLsbD_one_shiftLeft (d e : Nat) (he : e < 16) : (1 <<< d : BitVec 16).getLsbD e = decide (e = d) := by
  rw [BitVec.natCast_eq_ofNat, BitVec.getLsbD_ofNat, Nat.one_shiftLeft, Nat.testBit_two_pow, decide_eq_true he,
    Bool.true_and, decide_eq_decide]
  exact eq_comm

theorem dinSeen_getLsbD (din : BitVec 16) (d : Nat) (level : Bool) (e : Nat) (he : e < 16) :
    (dinSeen din d level).getLsbD e = if e = d then level else din.getLsbD e := by
  have h1 := getLsbD_one_shiftLeft d e he
  rw [dinSeen, BitVec.getLsbD_or, BitVec.getLsbD_and, BitVec.getLsbD_not, h1]
  cases level
  · by_cases h : e = d <;> simp [h, he]
  · rw [if_pos rfl, h1]
    by_cases h : e = d <;> simp [h, he]

section
variable {s : State} {d : Nat} {level : Bool} {held : Nat}

/-- The state after the level of a pin was seen. -/
def State.seen (s : State) (d : Nat) (level : Bool) : State :=
  { s with pins := { s.pins with din := dinSeen s.pins.din d level } }

/-- A level that the filter's output already has, or that has not held long enough, is only seen. -/
theorem State.dinEdge_of_seen (hd : d < 16)
    (h : s.on F.TND_DIN_CFG_LEVEL 0 d = level ∨ held < s.rd F.TND_DIN_CFG_DEBOUNCE 0 d) :
    s.dinEdge d level held = s.seen d level := by
  unfold State.dinEdge
  extract_lets seen pins s0 t
  rw [if_neg (Nat.not_le.mpr hd), if_pos h]
  rfl

/-- While the model stands, or on a disabled contact, an accepted level is only shown. -/
theorem State.dinEdge_of_idle (hd : d < 16)
    (h : ¬(s.on F.TND_DIN_CFG_LEVEL 0 d = level ∨ held < s.rd F.TND_DIN_CFG_DEBOUNCE 0 d))
    (hi : s.running = false ∨ s.on F.TND_DIN_CFG_EN 0 d = false) :
    s.dinEdge d level held = (s.seen d level).wrB F.TND_DIN_CFG_LEVEL level 0 d := by
  have hr : ((s.seen d level).wrB F.TND_DIN_CFG_LEVEL level 0 d).running = s.running :=
    State.on_of_rd (State.rd_wrB_apart _ _ _ _ _ _ (by decide))
  have he : ((s.seen d level).wrB F.TND_DIN_CFG_LEVEL level 0 d).on F.TND_DIN_CFG_EN 0 d = s.on F.TND_DIN_CFG_EN 0 d :=
    State.on_of_rd (State.rd_wrB_apart _ _ _ _ _ _ (by decide))
  unfold State.dinEdge
  extract_lets seen pins s0 t
  have ht : t = (s.seen d level).wrB F.TND_DIN_CFG_LEVEL level 0 d := rfl
  rw [if_neg (Nat.not_le.mpr hd), if_neg h, ht, if_pos (by rcases hi with hi | hi <;> simp [hr, he, hi])]

end

section
variable {s : State}

theorem State.inputWindowClose_of_stopped (h : s.running = false) : s.inputWindowClose = s := by
  unfold State.inputWindowClose
  rw [if_pos (by simp [h])]

/-- In locked mode the window closes at the grain that ends it (02 R47). -/
theorem State.inputWindowClose_locked (hr : s.running = true) (hf : s.freeRun = false) (hp : s.time.phase ≠ .off)
    (ha : s.rd F.PAIR_STAT_PHASE ≠ 1) :
    s.inputWindowClose = (s.advance (s.winStart (s.time.winClosed + 1))).closeWindow := by
  unfold State.inputWindowClose
  rw [if_neg (by simp [hr, hp, ha]), hf, if_neg Bool.false_ne_true]

theorem State.begun0_of_begun (h : s.time.phase ≠ .armed) : s.begun0 = s := by
  unfold State.begun0
  rw [if_neg (by simpa using h)]

theorem State.takeInput_of_stopped (h : s.running = false) : s.takeInput = s := by
  unfold State.takeInput
  rw [if_pos (by simp [h])]

/-- With no window closed there is nothing to settle. -/
theorem State.settled_of_none (h : s.tinder.closes = []) : s.settled = s := by
  unfold State.settled; rw [h]; rfl

/-- Closed windows wait for an input that is still to come. -/
theorem State.settle_of_waiting {k n : Nat} {ns : List Nat} (hc : s.tinder.closes = n :: ns)
    (h : s.tinder.inputs.any (fun e => e.stamped && decide (e.step ≤ n)) = true) : s.settle k = s := by
  cases k with
  | zero => rfl
  | succ k =>
    unfold State.settle
    rw [hc]
    dsimp only
    rw [if_pos (by rw [h, Bool.true_or])]

end

theorem exec_dinDebounceExpired (d : Nat) (l : DinLevel) (s : State) :
    exec (.dinDebounceExpired d l) s = .next (s.dinEdge d l.level l.held) := rfl

theorem exec_tndChanBWrite (tag : Nat) (v : BitVec 64) (s : State) :
    exec (.tndChanBWrite tag v) s = .next (s.chanBWrite tag v) := rfl

theorem exec_tinderTakeInput (s : State) : exec .tinderTakeInput s = .next s.takeInput := rfl

theorem exec_inputWindowClose (s : State) : exec .inputWindowClose s = .next s.begun0.inputWindowClose := rfl

/-- Settles O11: contacts, parameter writes, inputs and windows of a device that does not take them at once. -/
theorem inputsOutsideTheRunAreDropped : Obligations.InputsOutsideTheRunAreDropped := by
  unfold Obligations.InputsOutsideTheRunAreDropped
  intro s
  simp only [exec_dinDebounceExpired, exec_tndChanBWrite, exec_tinderTakeInput, exec_inputWindowClose]
  refine ⟨fun d level held hd h => ⟨_, rfl, ?_⟩, fun tag v ht => ⟨fun hr => ⟨_, rfl, ?_⟩, fun hr => ?_⟩,
    fun hr => ⟨by rw [State.takeInput_of_stopped hr], fun hp => ?_⟩, fun hr hf ha hp hph => ⟨?_, fun u hu hc => ?_⟩⟩
  · have hdin : ∀ e < 16, (s.seen d level).pins.din.getLsbD e = if e = d then level else s.pins.din.getLsbD e :=
      fun e he => dinSeen_getLsbD _ _ _ _ he
    by_cases hseen : s.on F.TND_DIN_CFG_LEVEL 0 d = level ∨ held < s.rd F.TND_DIN_CFG_DEBOUNCE 0 d
    · rw [State.dinEdge_of_seen hd hseen]
      refine ⟨by rw [hdin d hd, if_pos rfl], fun e he hne => by rw [hdin e he, if_neg hne], ?_, rfl,
        OnlyWrites.of_regs (OnlyWrites.refl _ s) rfl⟩
      rw [State.on_of_regs (s := s) rfl]
      split
      · rename_i hheld
        exact hseen.resolve_right (Nat.not_lt.mpr hheld)
      · rfl
    · have hi : s.running = false ∨ s.on F.TND_DIN_CFG_EN 0 d = false := by
        rcases h with h | h | h | h
        · exact .inl h
        · exact .inr h
        · exact absurd (.inl h) hseen
        · exact absurd (.inr h) hseen
      have hheld : s.rd F.TND_DIN_CFG_DEBOUNCE 0 d ≤ held := Nat.not_lt.mp fun h => hseen (.inr h)
      rw [State.dinEdge_of_idle hd hseen hi]
      refine ⟨by rw [State.wrB_pins, hdin d hd, if_pos rfl], fun e he hne => by rw [State.wrB_pins, hdin e he, if_neg hne],
        ?_, rfl, ?_⟩
      · rw [State.on_wrB_self _ _ _ _ _ (by decide), if_pos hheld]
      · exact (OnlyWrites.of_regs (OnlyWrites.refl _ s) rfl).wr F.TND_DIN_CFG_LEVEL (b2n level) 0 d (List.mem_singleton_self _)
  · have hw : s.chanBWrite tag v = s.wr F.TND_CHAN_B_WORD v.toNat 0 tag := by
      rw [State.chanBWrite, State.chanBAt, if_neg (Nat.not_le.mpr ht), if_pos (by simp [hr])]
    rw [hw]
    exact ⟨State.rd_wr_of_lt _ _ _ _ v.isLt, rfl,
      (OnlyWrites.refl _ s).wr F.TND_CHAN_B_WORD v.toNat 0 tag (List.mem_singleton_self _)⟩
  · refine ⟨_, ⟨s.grain, 2, 0, tag, 4, 0, 0, 0, (max 0 (s.stepOf s.grain)).toNat, false, false, v⟩, rfl, ?_⟩
    rw [State.chanBWrite, State.chanBAt, if_neg (Nat.not_le.mpr ht), if_neg (by simp [hr])]
    exact ⟨rfl, rfl, rfl, rfl, rfl⟩
  · rw [State.begun0_of_begun hp, State.inputWindowClose_of_stopped hr]
  · rw [State.begun0_of_begun ha, State.inputWindowClose_locked hr hf hp hph]
  · unfold State.closeWindow
    extract_lets n wins time tin
    rw [hc, List.nil_append]
    exact State.settle_of_waiting (n := n) (ns := []) rfl hu

end Sys2Proof.Machine
end

section
/-! A contact edge that Tinder takes (02_time_and_ordering.md R48, R49, 06_encoders_decoders_and_actuation.md R156, R166). -/
namespace Sys2Proof.Machine

section
variable {s : State} {e : Input}

/-- Without the pair the journal takes nothing. -/
theorem State.journalPut_of_alone (h : s.mirroring = false) (j : JEntry) : s.journalPut j = s := by
  unfold State.journalPut
  rw [if_pos (by simp [h])]

theorem State.meter_of_unmetered (h : (s.chan e.tag).meter = false) : s.meter e = s := by
  unfold State.meter
  rw [if_pos (by simp [h])]

/-- Without the pair and metering, an input goes to its encoder. -/
theorem State.admitInput_of_alone (hm : s.mirroring = false) (hc : (s.chan e.tag).meter = false) :
    s.admitInput e = s.encode e := by
  unfold State.admitInput
  rw [State.journalPut_of_alone hm, ite_self, State.meter_of_unmetered hc]

theorem State.encode_disabled (h : (s.chan e.tag).en = false) : s.encode e = s.tndDisc := by
  unfold State.encode
  extract_lets c
  rw [if_pos (by simp [c, h])]

/-- A contact edge on a channel of contact edges emits one event. -/
theorem State.encode_edge (h : (s.chan e.tag).en = true) (henc : (s.chan e.tag).enc = 9) (hk : e.kind = 1) :
    s.encode e = s.tndEmit (s.chan e.tag) e.step 0
      (if e.v = 0 then (s.chan e.tag).axon + 1 else (s.chan e.tag).axon) 1 := by
  unfold State.encode
  extract_lets c
  rw [if_neg (by simp [c, h])]
  simp only [c, henc, hk]

/-- The event that Tinder emits for step `n`. -/
def tndPacket (c : Chan) (tag axon pay : Nat) : Packet :=
  ⟨1, BitVec.ofNat 13 c.dest, BitVec.ofNat 13 agTinder, BitVec.ofNat 6 tag, BitVec.ofNat 16 axon, BitVec.ofNat 8 pay, 0, []⟩

/-- An event for the current step is ready at once. -/
theorem State.tndEmit_now {n : Nat} (c : Chan) (axon pay : Nat) (h : n = s.step) : s.tndEmit c n 0 axon pay =
    { s.inc F.TND_CNT_EVENTS with tinder := { s.tinder with
        ready := s.tinder.ready ++ [⟨n + 1, tndPacket c (n + 1) axon pay⟩] } } := by
  unfold State.tndEmit
  extract_lets tag k t
  rw [if_pos (by simp only [tag, h]; omega)]
  rfl

/-- A single waiting input whose window is open is the one that Tinder takes. -/
theorem State.firstInput_takeable (hm : s.mirroring = false) (hi : s.tinder.inputs = [e]) (hw : e.step ≤ s.time.winClosed)
    (ha : s.awaitsWrite e = false) : firstInput s.takeable = some e := by
  have hal : s.awaitsAlign e = false := by simp [State.awaitsAlign, hm]
  simp [State.takeable, hi, hw, hal, ha, firstInput]

/-- The state without the input that Tinder takes. -/
def State.without (s : State) : State := { s with tinder := { s.tinder with inputs := [] } }

/-- A single contact edge of the current step, with no close pending, is encoded. -/
theorem State.takeInput_of_edge (hr : s.running = true) (hm : s.mirroring = false) (hi : s.tinder.inputs = [e])
    (hh : s.tinder.hold = []) (hcl : s.tinder.closing = none) (ha : s.awaitsWrite e = false)
    (hst : s.tinder.stopStep = none) (hk : e.kind = 1) (hset : e.set = false) (hstep : e.step = s.step)
    (hw : s.step ≤ s.time.winClosed) (hmet : (s.chan e.tag).meter = false) :
    s.takeInput = (s.without.encode e).settled := by
  have hdrop : dropFirst (fun x => x == e) s.tinder.inputs = [] := by rw [hi]; exact if_pos (beq_self_eq_true e)
  unfold State.takeInput
  rw [if_neg (by simp [hr, hcl, State.holdFull, hh]), State.firstInput_takeable hm hi (hstep ▸ hw) ha]
  dsimp only
  rw [hset, Bool.false_and, if_neg Bool.false_ne_true, hdrop]
  have hs1 : { s with tinder := { s.tinder with inputs := [] } } = s.without := rfl
  have hstop : s.without.stoppedAt e.step = false := by simp [State.stoppedAt, State.without, hst]
  have hlate : s.without.lateInput e = false := by
    have : s.without.step = s.step := rfl
    simp [State.lateInput, hset, hstep, this]
  rw [hs1, if_neg (by omega), if_neg (by simp [hstop]), if_neg (by simp [hlate]),
    State.admitInput_of_alone (s := s.without) hm hmet]

end

/-- Settles O12: the edge is the input that is taken; its channel encodes it or discards it. -/
theorem contactEdgesBecomeEvents : Obligations.ContactEdgesBecomeEvents := by
  unfold Obligations.ContactEdgesBecomeEvents
  intro s e hr hm hi hh hc hcl ha hst hk hset hstep hw hmet _
  simp only [exec_tinderTakeInput]
  have htake := State.takeInput_of_edge hr hm hi hh hcl ha hst hk hset hstep hw hmet
  refine ⟨fun hen henc => ⟨_, tndPacket (s.chan e.tag) (s.step + 1)
      (if e.v = 0 then (s.chan e.tag).axon + 1 else (s.chan e.tag).axon) 1, rfl, ?_⟩, fun hen => ⟨_, rfl, ?_⟩⟩
  · have henc' := State.encode_edge (s := s.without) hen henc hk
    rw [State.tndEmit_now (s := s.without) _ _ _ hstep, hstep] at henc'
    rw [htake, henc', State.settled_of_none (by exact hc)]
    refine ⟨rfl, rfl, rfl, rfl, BitVec.toNat_ofNat .., BitVec.toNat_ofNat .., rfl, rfl, ?_, ?_, rfl, ?_⟩
    · rw [tndPacket, BitVec.toNat_ofNat]
      split <;> rfl
    · exact State.rd_inc s.without F.TND_CNT_EVENTS 1 0 0
    · exact OnlyWrites.of_regs ((OnlyWrites.refl _ s.without).inc F.TND_CNT_EVENTS 1 0 0 (List.mem_singleton_self _)) rfl
  · rw [htake, State.encode_disabled (s := s.without) hen, State.settled_of_none (s := s.without.tndDisc) hc]
    exact ⟨State.rd_inc s.without F.TND_CNT_DISC 1 0 0, rfl,
      (OnlyWrites.refl _ s.without).inc F.TND_CNT_DISC 1 0 0 (List.mem_singleton_self _)⟩

end Sys2Proof.Machine
end

section
/-! The headers of replay records (06_encoders_decoders_and_actuation.md R167, 02_time_and_ordering.md R481). -/
namespace Sys2Proof.Machine

theorem exec_replayRecordRead (s : State) : exec .replayRecordRead s = execReplayRecordRead s := rfl

section
variable {s t : State} {h : Word}

theorem execReplayRecordRead_of_idle (hi : s.running = false ∨ s.freeRun = false ∨ s.tinder.winOpen = false) :
    execReplayRecordRead s = .next s := by
  unfold execReplayRecordRead
  rw [if_neg (by rcases hi with h | h | h <;> simp [h])]

theorem execReplayRecordRead_of_replaying (hr : s.running = true) (hf : s.freeRun = true) (hw : s.tinder.winOpen = true)
    (hp : s.rd F.PAIR_STAT_PHASE ≠ 2) (he : s.on F.TND_CTRL_REPLAY_EN = true) (hd : s.on F.TND_STAT_REPLAY_DONE = false) :
    execReplayRecordRead s = .next s.replayRead := by
  unfold execReplayRecordRead
  rw [if_pos (by simp [hr, hf, hw]), if_neg hp, if_pos (by simp [he, hd])]

/-- The end of the replay region, rounded down to whole words. -/
def State.replayStop (s : State) : Nat := s.rd F.TND_REPLAY_END_ADDR / 8 * 8

theorem State.replayRead_at_end (ha : s.replayStop ≤ s.tinder.replayAt) : s.replayRead = s.replayEnd := by
  unfold State.replayRead
  exact if_pos ha

theorem State.replayRead_unreadable (ha : s.tinder.replayAt < s.replayStop)
    (hw : s.replayWord s.tinder.replayAt = (none, t)) : s.replayRead = t.tndDisc.replayEnd := by
  unfold State.replayRead
  extract_lets a last
  have hat : ¬ a ≥ last := Nat.not_le.mpr ha
  rw [if_neg hat, hw]

theorem State.replayRead_later (ha : s.tinder.replayAt < s.replayStop)
    (hw : s.replayWord s.tinder.replayAt = (some h, t)) (hn : t.time.winClosed < bits h.toNat 47 0) :
    s.replayRead = t.closeWindow := by
  unfold State.replayRead
  extract_lets a last
  have hat : ¬ a ≥ last := Nat.not_le.mpr ha
  rw [if_neg hat, hw]
  exact if_pos hn

/-- The state past a record of an earlier step. -/
def State.replaySkipped (t : State) (a : Nat) : State :=
  { t.inc F.TIME_LATE_IN_CNT_CNT with tinder := { (t.inc F.TIME_LATE_IN_CNT_CNT).tinder with replayAt := a } }

theorem State.replayRead_earlier (ha : s.tinder.replayAt < s.replayStop)
    (hw : s.replayWord s.tinder.replayAt = (some h, t)) (hn : bits h.toNat 47 0 < t.time.winClosed) {a : Nat}
    (hat : a = s.tinder.replayAt + 8 + 8 * bits h.toNat 63 48) :
    s.replayRead = if s.replayStop ≤ a then (t.replaySkipped a).replayEnd else t.replaySkipped a := by
  subst hat
  unfold State.replayRead
  extract_lets a0 last
  have hle : ¬ a0 ≥ last := Nat.not_le.mpr ha
  rw [if_neg hle, hw]
  dsimp only
  rw [if_neg (Nat.not_lt.mpr hn.le), if_pos hn]
  rfl

end

/-- Settles O13: what holds the record back, the end of the region, and the three headers. -/
theorem replayRecordsFeedTheOpenStep : Obligations.ReplayRecordsFeedTheOpenStep := by
  unfold Obligations.ReplayRecordsFeedTheOpenStep
  intro s
  simp only [exec_replayRecordRead]
  refine ⟨execReplayRecordRead_of_idle, fun hr hf hw hp he hd => ?_⟩
  rw [execReplayRecordRead_of_replaying hr hf hw hp he hd]
  refine ⟨fun ha => ?_, fun t ha hrd => ?_, fun t h ha hrd => ⟨fun hn => ?_, fun hn => ?_⟩⟩
  · rw [State.replayRead_at_end ha]; rfl
  · rw [State.replayRead_unreadable ha hrd]; rfl
  · rw [State.replayRead_later ha hrd hn]
  · rw [State.replayRead_earlier ha hrd hn rfl]; rfl

end Sys2Proof.Machine
end

section
/-! RX ports: bursts, headers and packet ends (11_csi2_ports.md R294 to R297). -/
namespace Sys2Proof.Machine

section
variable (s : State) (p : Nat)

theorem State.onRx_frame (f : RxSt → RxSt) : s.onRx p f = { s with rx := (s.onRx p f).rx } := rfl

@[simp] theorem State.rxp_onRx (f : RxSt → RxSt) : (s.onRx p f).rxp p = f (s.rxp p) := Sparse.get_set_self ..

theorem State.onTx_frame (f : TxSt → TxSt) : s.onTx p f = { s with tx := (s.onTx p f).tx } := rfl

@[simp] theorem State.txp_onTx (f : TxSt → TxSt) : (s.onTx p f).txp p = f (s.txp p) := Sparse.get_set_self ..

/-- Changing one port's record after another touches the ports' records only. -/
theorem State.foldl_onTx_frame (f : TxSt → TxSt) (qs : List Nat) :
    ∀ s : State, ∃ tx, qs.foldl (fun s q => s.onTx q f) s = { s with tx := tx } := by
  induction qs with
  | nil => exact fun s => ⟨s.tx, rfl⟩
  | cons q qs ih =>
    intro s
    obtain ⟨tx, h⟩ := ih (s.onTx q f)
    exact ⟨tx, h⟩

theorem State.relayWhole_frame (b : List Byte) (ok : Bool) : ∃ tx, s.relayWhole p b ok = { s with tx := tx } :=
  State.foldl_onTx_frame _ _ s

/-- A packet that is cut off leaves its port, and what the relays hold of it. -/
theorem State.rxCut_eq : ∃ tx, ((s.rxp p).cur = none → tx = s.tx) ∧
    s.rxCut p = State.onRx { s with tx := tx } p (fun x => { x with cur := none }) := by
  unfold State.rxCut
  cases h : (s.rxp p).cur with
  | none => exact ⟨s.tx, fun _ => rfl, rfl⟩
  | some k =>
    obtain ⟨tx, htx⟩ := s.relayWhole_frame p [] false
    exact ⟨tx, nofun, by rw [Option.isSome_some, if_pos rfl, htx]⟩

/-- The registers after the end of a burst. -/
def State.burstCounted (sotErr : Bool) : State :=
  if sotErr && s.rxReady p then s.inc F.CSIRX_ERR_CNT_SOT_ERR 1 p else s

theorem State.burstCounted_frame (e : Bool) : s.burstCounted p e = { s with regs := (s.burstCounted p e).regs } := by
  unfold State.burstCounted; split <;> rfl

theorem State.burstEnd_eq (e : Bool) : ∃ tx, ((s.rxp p).cur = none → tx = s.tx) ∧ s.burstEnd p e =
    State.onRx (State.onRx { s.burstCounted p e with tx := tx } p (fun x => { x with cur := none })) p
      (fun x => { x with discarding := false }) := by
  obtain ⟨tx, htx, h⟩ := (s.burstCounted p e).rxCut_eq p
  rw [s.burstCounted_frame p e] at htx
  refine ⟨tx, htx, ?_⟩
  rw [← h]; rfl

theorem exec_hsBurstEnd (e : Bool) : exec (.hsBurstEnd p e) s = .next (s.burstEnd p e) := rfl

theorem exec_rxPacketHeader (e : EccResult) (vc dt wc : Nat) :
    exec (.rxPacketHeader p e vc dt wc) s = .next (s.rxHeader p e vc dt wc) := rfl

theorem exec_rxPacketEnd (b : List Byte) (ok : Bool) : exec (.rxPacketEnd p b ok) s = .next (s.rxEnd p b ok) := rfl

/-- What takes a long packet of a port: a context, the in-band command channel or the mirror link. -/
def State.takesLong (vc dt : Nat) : Bool := (s.taker p vc dt).isSome || s.inbandVc p vc || s.mirrorVc p vc dt

/-- The record of a packet under way whose header has come. -/
def State.headOf (vc dt wc : Nat) : IngPkt :=
  ⟨vc, dt, wc, s.grain, s.takesLong p vc dt && decide (wc ≤ 16384), s.inbandVc p vc⟩

/-- The state with a good header counted and its packet under way. -/
def State.rxUnderWay (vc dt wc : Nat) : State :=
  (s.inc F.CSIRX_PORT_CNT_PKTS 1 p).onRx p (fun x => { x with cur := some (s.headOf p vc dt wc) })

end

section
variable {s : State} {p vc dt wc : Nat}

theorem State.rxHeader_ignored (h : s.rxReady p = false ∨ (s.rxp p).discarding = true) (e : EccResult) :
    s.rxHeader p e vc dt wc = s := by
  unfold State.rxHeader
  rw [if_pos (by rcases h with h | h <;> simp [h])]

theorem State.rxHeader_bad (hr : s.rxReady p = true) (hd : (s.rxp p).discarding = false) :
    s.rxHeader p .bad vc dt wc =
      (s.inc F.CSIRX_ERR_CNT_HDR_ERR 1 p).onRx p (fun x => { x with discarding := true, cur := none }) := by
  unfold State.rxHeader
  rw [if_neg (by simp [hr, hd])]

/-- The state in which a header that can be trusted is examined. -/
def State.eccCounted (s : State) (p : Nat) (e : EccResult) : State :=
  if e = .corrected then s.inc F.CSIRX_ERR_CNT_ECC_CORR 1 p else s

theorem State.rxHeader_trusted (hr : s.rxReady p = true) (hd : (s.rxp p).discarding = false) {e : EccResult}
    (he : e ≠ .bad) : s.rxHeader p e vc dt wc = (s.eccCounted p e).rxGood p vc dt wc := by
  unfold State.rxHeader
  rw [if_neg (by simp [hr, hd])]
  cases e with
  | good => rfl
  | corrected => rfl
  | bad => exact absurd rfl he

/-- A long packet that nothing relays. -/
theorem State.rxGood_long (hdt : 16 ≤ dt) (hrel : s.relaysOf p vc = []) : s.rxGood p vc dt wc =
    if s.takesLong p vc dt = false then (s.rxUnderWay p vc dt wc).inc F.CSIRX_PORT_CNT_NOCTX 1 p
    else if 16384 < wc then (s.rxUnderWay p vc dt wc).inc F.CSIRX_PORT_CNT_ING_DROP 1 p
    else s.rxUnderWay p vc dt wc := by
  unfold State.rxGood
  extract_lets s1 relays relay kept s2
  rw [if_neg (Nat.not_lt.mpr hdt)]
  have hrelays : relays = [] := hrel
  have hrelay : relay s2 = s2 := by simp only [relay, hrelays, List.foldl_nil]
  have hkept : kept = s.takesLong p vc dt := rfl
  rw [hrelay, hrelays, hkept]
  cases s.takesLong p vc dt <;> rfl

end

section
variable (s : State) (p : Nat) (e : EccResult)

theorem State.eccCounted_frame : s.eccCounted p e = { s with regs := (s.eccCounted p e).regs } := by
  unfold State.eccCounted; split <;> rfl

theorem State.eccCounted_onlyWrites : OnlyWrites [F.CSIRX_ERR_CNT_ECC_CORR.key p 0] s (s.eccCounted p e) := by
  unfold State.eccCounted
  split
  · exact (OnlyWrites.refl _ s).inc F.CSIRX_ERR_CNT_ECC_CORR 1 p 0 (List.mem_singleton_self _)
  · exact OnlyWrites.refl _ s

theorem State.eccCounted_rd {f : Fld} (u i : Nat) (h : f.apart F.CSIRX_ERR_CNT_ECC_CORR = true) :
    (s.eccCounted p e).rd f u i = s.rd f u i := by
  unfold State.eccCounted
  split
  · exact State.rd_inc_apart _ _ _ _ _ _ h
  · rfl

theorem State.eccCounted_relaysOf (vc : Nat) : (s.eccCounted p e).relaysOf p vc = s.relaysOf p vc := by
  have hf : (s.eccCounted p e).fuse = s.fuse := by rw [s.eccCounted_frame p e]
  simp (disch := decide) only [State.relaysOf, State.on, State.txOn, hf, State.eccCounted_rd]

theorem State.eccCounted_takesLong (vc dt : Nat) : (s.eccCounted p e).takesLong p vc dt = s.takesLong p vc dt := by
  have hf : (s.eccCounted p e).fuse = s.fuse := by rw [s.eccCounted_frame p e]
  have hrx : (s.eccCounted p e).rxOn = s.rxOn := funext fun q => by rw [State.rxOn, State.rxOn, hf]
  simp (disch := decide) only [State.takesLong, State.taker, State.ctxOf, State.inbandVc, State.mirrorVc, State.mirrorRx,
    State.mirroring, State.on, hrx, State.eccCounted_rd]

theorem State.eccCounted_headOf (vc dt wc : Nat) : (s.eccCounted p e).headOf p vc dt wc = s.headOf p vc dt wc := by
  simp (disch := decide) only [State.headOf, State.eccCounted_takesLong, State.inbandVc, State.grain, State.on,
    State.eccCounted_rd]

end

section
variable (s : State) (p : Nat) (e : EccResult) (vc dt wc : Nat)

/-- The state with a header counted by its ECC, and its packet under way. -/
def State.rxHeaded : State := (s.eccCounted p e).rxUnderWay p vc dt wc

theorem State.rxHeaded_cur : ((s.rxHeaded p e vc dt wc).rxp p).cur = some (s.headOf p vc dt wc) := by
  rw [← s.eccCounted_headOf p e]
  exact congrArg RxSt.cur (State.rxp_onRx ..)

theorem State.rxHeaded_frame : s.rxHeaded p e vc dt wc =
    { s with regs := (s.rxHeaded p e vc dt wc).regs, rx := (s.rxHeaded p e vc dt wc).rx } := by
  unfold State.rxHeaded
  rw [s.eccCounted_frame p e]; rfl

theorem State.rxHeaded_regs : (s.rxHeaded p e vc dt wc).regs = ((s.eccCounted p e).inc F.CSIRX_PORT_CNT_PKTS 1 p).regs := rfl

theorem State.rxHeaded_rd {f : Fld} (u i : Nat) (hp : f.apart F.CSIRX_PORT_CNT_PKTS = true)
    (he : f.apart F.CSIRX_ERR_CNT_ECC_CORR = true) : (s.rxHeaded p e vc dt wc).rd f u i = s.rd f u i :=
  (State.rd_of_regs (s.rxHeaded_regs p e vc dt wc) f u i).trans
    ((State.rd_inc_apart _ _ _ _ _ _ hp).trans (s.eccCounted_rd p e u i he))

theorem State.rxHeaded_pkts : (s.rxHeaded p e vc dt wc).rd F.CSIRX_PORT_CNT_PKTS p =
    min (s.rd F.CSIRX_PORT_CNT_PKTS p + 1) (2 ^ 32 - 1) := by
  refine (State.rd_of_regs (s.rxHeaded_regs p e vc dt wc) _ _ _).trans ?_
  rw [State.rd_inc, s.eccCounted_rd p e p 0 (by decide)]
  rfl

theorem State.rxHeaded_eccCorr : (s.rxHeaded p e vc dt wc).rd F.CSIRX_ERR_CNT_ECC_CORR p =
    if e = .corrected then min (s.rd F.CSIRX_ERR_CNT_ECC_CORR p + 1) 65535 else s.rd F.CSIRX_ERR_CNT_ECC_CORR p := by
  refine (State.rd_of_regs (s.rxHeaded_regs p e vc dt wc) _ _ _).trans ?_
  rw [State.rd_inc_apart _ _ _ _ _ _ (by decide)]
  unfold State.eccCounted
  split
  · exact State.rd_inc ..
  · rfl

theorem State.rxHeaded_onlyWrites : OnlyWrites [F.CSIRX_PORT_CNT_PKTS.key p 0, F.CSIRX_ERR_CNT_ECC_CORR.key p 0] s
    (s.rxHeaded p e vc dt wc) :=
  OnlyWrites.of_regs (((s.eccCounted_onlyWrites p e).mono (by simp)).inc F.CSIRX_PORT_CNT_PKTS 1 p 0 (by simp))
    (s.rxHeaded_regs p e vc dt wc)

end

/-- The state after a payload CRC has failed, or has not. -/
theorem State.crcError_eq (s : State) (p : Nat) : ∃ rx owl, s.crcError p =
    { s.inc F.CSIRX_ERR_CNT_CRC_ERR 1 p with rx := rx, owl := owl } ∧
      (Sparse.get rx p RxSt.fresh).cur = (s.rxp p).cur := by
  unfold State.crcError
  extract_lets t thr
  have ht : (t.rxp p).cur = (s.rxp p).cur := by simp only [t, State.rxp_onRx]; rfl
  split
  · exact ⟨_, _, rfl, (congrArg RxSt.cur (Sparse.get_set_self ..)).trans ht⟩
  · exact ⟨_, _, rfl, ht⟩

section
variable {s : State} {p : Nat} {b : List Byte} {ok : Bool}

theorem State.rxEnd_none (h : (s.rxp p).cur = none) : s.rxEnd p b ok = s := by
  unfold State.rxEnd; rw [h]

theorem State.rxEnd_disabled {k : IngPkt} (h : (s.rxp p).cur = some k) (hr : s.rxReady p = false) :
    s.rxEnd p b ok = s.rxCut p := by
  unfold State.rxEnd; rw [h]
  exact if_pos (by simp [hr])

/-- The state with a packet's bytes counted and its relays told. -/
def State.rxCounted (s : State) (p : Nat) (b : List Byte) : State :=
  ((s.onRx p (fun x => { x with cur := none })).inc F.CSIRX_BYTE_CNT_BYTES b.length p).act 8 1 b.length

theorem State.rxEnd_dropped {k : IngPkt} (h : (s.rxp p).cur = some k) (hr : s.rxReady p = true) (hk : k.kept = false) :
    s.rxEnd p b ok = if ok then (s.rxCounted p b).relayWhole p b ok
      else ((s.rxCounted p b).relayWhole p b ok).crcError p := by
  unfold State.rxEnd; rw [h]
  dsimp only
  rw [if_neg (by simp [hr])]
  cases ok with
  | true => rw [if_neg (by decide), if_pos (by simp [hk])]; rfl
  | false => rfl

end

/-- Settles O14: ends of bursts, headers by their ECC, and packet ends. -/
theorem receivedHeadersAreCounted : Obligations.ReceivedHeadersAreCounted := by
  unfold Obligations.ReceivedHeadersAreCounted
  intro s p
  simp only [exec_hsBurstEnd, exec_rxPacketHeader, exec_rxPacketEnd]
  refine ⟨fun h e vc dt wc => by rw [State.rxHeader_ignored h], fun e => ⟨_, rfl, ?_⟩,
    fun hr => fun hd => ⟨fun vc dt wc => ⟨_, rfl, ?_⟩, fun e vc dt wc he hdt hrel => ⟨_, rfl, ?_⟩⟩,
    fun h b ok => by rw [State.rxEnd_none h], fun k b ok h hr => ⟨_, rfl, ?_⟩, fun k b ok h hr hk => ⟨_, rfl, ?_⟩⟩
  · obtain ⟨tx, htx, h⟩ := s.burstEnd_eq p e
    rw [h]
    refine ⟨by rw [State.rxp_onRx], by rw [State.rxp_onRx, State.rxp_onRx], ?_, ?_, htx, ?_⟩
    · refine (State.rd_of_regs (s := s.burstCounted p e) rfl ..).trans ?_
      unfold State.burstCounted
      split
      · exact State.rd_inc ..
      · rfl
    · rw [s.burstCounted_frame p e]; rfl
    · refine OnlyWrites.of_regs (t := s.burstCounted p e) ?_ rfl
      unfold State.burstCounted
      split
      · exact (OnlyWrites.refl _ s).inc F.CSIRX_ERR_CNT_SOT_ERR 1 p 0 (List.mem_singleton_self _)
      · exact OnlyWrites.refl _ s
  · rw [State.rxHeader_bad hr hd]
    refine ⟨by rw [State.rxp_onRx], by rw [State.rxp_onRx], ?_, rfl, ?_⟩
    · exact State.rd_inc s F.CSIRX_ERR_CNT_HDR_ERR 1 p 0
    · exact OnlyWrites.of_regs ((OnlyWrites.refl _ s).inc F.CSIRX_ERR_CNT_HDR_ERR 1 p 0 (List.mem_singleton_self _)) rfl
  · have hhead := s.rxHeaded_cur p e vc dt wc
    have hframe := s.rxHeaded_frame p e vc dt wc
    have hpkts := s.rxHeaded_pkts p e vc dt wc
    have hecc := s.rxHeaded_eccCorr p e vc dt wc
    have honly := (s.rxHeaded_onlyWrites p e vc dt wc).mono (ls := [F.CSIRX_PORT_CNT_PKTS.key p 0,
      F.CSIRX_ERR_CNT_ECC_CORR.key p 0, F.CSIRX_PORT_CNT_NOCTX.key p 0, F.CSIRX_PORT_CNT_ING_DROP.key p 0]) (by simp)
    have hrest : ∀ f : Fld, f.apart F.CSIRX_PORT_CNT_PKTS = true → f.apart F.CSIRX_ERR_CNT_ECC_CORR = true →
        (s.rxHeaded p e vc dt wc).rd f p = s.rd f p := fun f => s.rxHeaded_rd p e vc dt wc p 0
    have hgood := State.rxGood_long (s := s.eccCounted p e) (wc := wc) hdt ((s.eccCounted_relaysOf p e vc).trans hrel)
    have hx : (s.eccCounted p e).rxUnderWay p vc dt wc = s.rxHeaded p e vc dt wc := rfl
    rw [State.rxHeader_trusted hr hd he, hgood, s.eccCounted_takesLong, hx]
    obtain ⟨x, hx⟩ : ∃ x, x = s.rxHeaded p e vc dt wc := ⟨_, rfl⟩
    rw [← hx] at hhead hframe hpkts hecc honly hrest ⊢
    have htakes : ((s.taker p vc dt).isSome || s.inbandVc p vc || s.mirrorVc p vc dt) = s.takesLong p vc dt := rfl
    rw [htakes]
    cases ht : s.takesLong p vc dt with
    | false =>
      rw [if_pos rfl, State.rd_inc_apart _ _ _ _ _ _ (by decide), State.rd_inc_apart _ _ _ _ _ _ (by decide)]
      refine ⟨?_, hpkts, hecc, fun _ => ?_, nofun, ?_, honly.inc F.CSIRX_PORT_CNT_NOCTX 1 p 0 (by simp)⟩
      · rw [State.headOf, ht] at hhead; exact hhead
      · rw [State.rd_inc, hrest _ (by decide) (by decide)]; rfl
      · rw [hframe]; rfl
    | true =>
      have hnoctx := hrest F.CSIRX_PORT_CNT_NOCTX (by decide) (by decide)
      have hdrop := hrest F.CSIRX_PORT_CNT_ING_DROP (by decide) (by decide)
      rw [if_neg (by decide)]
      rw [State.headOf, ht] at hhead
      by_cases hwc : 16384 < wc
      · rw [if_pos hwc, if_pos hwc, State.rd_inc_apart _ _ _ _ _ _ (by decide),
          State.rd_inc_apart _ _ _ _ _ _ (by decide), State.rd_inc_apart _ _ _ _ _ _ (by decide), State.rd_inc, hdrop]
        exact ⟨hhead, hpkts, hecc, nofun, fun _ => ⟨hnoctx, rfl⟩, by rw [hframe]; rfl,
          honly.inc F.CSIRX_PORT_CNT_ING_DROP 1 p 0 (by simp)⟩
      · rw [if_neg hwc, if_neg hwc]
        exact ⟨hhead, hpkts, hecc, nofun, fun _ => ⟨hnoctx, hdrop⟩, hframe, honly⟩
  · obtain ⟨tx, -, hcut⟩ := s.rxCut_eq p
    rw [State.rxEnd_disabled h hr, hcut]
    exact ⟨by rw [State.rxp_onRx], rfl⟩
  · rw [State.rxEnd_dropped h hr hk]
    obtain ⟨tx, htx⟩ := (s.rxCounted p b).relayWhole_frame p b ok
    rw [htx]
    have hcur : ((s.rxCounted p b).rxp p).cur = none :=
      congrArg RxSt.cur (State.rxp_onRx s p fun x => { x with cur := none })
    have hbytes : (s.rxCounted p b).rd F.CSIRX_BYTE_CNT_BYTES p = (s.rd F.CSIRX_BYTE_CNT_BYTES p + b.length) % 2 ^ 64 :=
      State.rd_inc (s.onRx p fun x => { x with cur := none }) F.CSIRX_BYTE_CNT_BYTES b.length p 0
    have hcrc : (s.rxCounted p b).rd F.CSIRX_ERR_CNT_CRC_ERR p = s.rd F.CSIRX_ERR_CNT_CRC_ERR p :=
      State.rd_inc_apart (s.onRx p fun x => { x with cur := none }) _ _ _ _ _ (by decide)
    have honly : OnlyWrites [F.CSIRX_BYTE_CNT_BYTES.key p 0, F.CSIRX_ERR_CNT_CRC_ERR.key p 0] s (s.rxCounted p b) :=
      OnlyWrites.of_regs ((OnlyWrites.refl _ s).inc F.CSIRX_BYTE_CNT_BYTES b.length p 0 (by simp)) rfl
    cases ok with
    | true => exact ⟨hcur, hbytes, hcrc, rfl, honly⟩
    | false =>
      obtain ⟨rx, owl, he, hrx⟩ := State.crcError_eq { s.rxCounted p b with tx := tx } p
      rw [if_neg (by decide), he]
      refine ⟨hrx.trans hcur, ?_, ?_, rfl, ?_⟩
      · exact (State.rd_inc_apart (s.rxCounted p b) _ _ _ _ _ (by decide)).trans hbytes
      · exact (State.rd_inc (s.rxCounted p b) F.CSIRX_ERR_CNT_CRC_ERR 1 p 0).trans (by rw [hcrc]; rfl)
      · exact OnlyWrites.of_regs (honly.inc F.CSIRX_ERR_CNT_CRC_ERR 1 p 0 (by simp)) rfl

end Sys2Proof.Machine
end

section
/-! Lane calibration and stream loss (11_csi2_ports.md R292, R298). -/
namespace Sys2Proof.Machine

theorem exec_csirxRetrain (s : State) (p : Nat) (lanes : BitVec 4) :
    exec (.csirxRetrain p lanes) s = .next (s.retrain p lanes) := rfl

theorem exec_streamLossTimeout (s : State) (c : Nat) : exec (.streamLossTimeout c) s = .next (s.streamLoss c) := rfl

theorem lanesAct_lt (lanes : BitVec 4) : lanesAct lanes < 8 := by
  unfold lanesAct
  split_ifs <;> decide

section
variable {s : State} {p c : Nat} {lanes : BitVec 4}

theorem State.retrain_ignored (h : s.running = true ∨ s.rxOn p = false) : s.retrain p lanes = s := by
  unfold State.retrain
  rw [if_pos (by rcases h with h | h <;> simp [h])]

theorem State.retrain_taken (hr : s.running = false) (ho : s.rxOn p = true) : s.retrain p lanes = s.rxTrain p lanes := by
  unfold State.retrain
  rw [if_neg (by simp [hr, ho])]

/-- The registers of a port whose lanes have been calibrated. -/
def State.rxTrained (s : State) (p : Nat) (lanes : BitVec 4) : State :=
  ((s.wr F.CSIRX_STAT_TRAINED 1 p).wr F.CSIRX_STAT_LANES_ACT (lanesAct lanes) p).wr F.CSIRX_STAT_LANE_OK lanes.toNat p

theorem State.rxTrain_eq (s : State) (p : Nat) (lanes : BitVec 4) : ∃ owl,
    s.rxTrain p lanes = { s.rxTrained p lanes with owl := owl } ∧
      (lanesAct lanes < lanesOf (s.rd F.CSIRX_PORT_CFG_LANES p) → (s.rxTrain p lanes).Stages (srcRx p) 0x40) := by
  unfold State.rxTrain
  extract_lets t
  split
  · exact ⟨_, rfl, fun _ => State.report_stages ..⟩
  · exact ⟨_, rfl, fun h => absurd h ‹_›⟩

theorem State.streamLoss_idle (h : s.running = false ∨ s.on F.CSIRX_CTX_CFG_LOSS_FR c = false ∨
    (s.ctxt c).lossStanding = true) : s.streamLoss c = s := by
  unfold State.streamLoss
  rw [if_pos (by rcases h with h | h | h <;> simp [h])]

/-- The grain from which a context's silence counts. -/
def State.silentSince (s : State) (c : Nat) : Nat :=
  if reached (s.ctxt c).lastAccept s.time.rise then (s.ctxt c).lastAccept else s.time.rise

/-- A stream's loss, shown and reported. -/
def State.lossShown (s : State) (c src : Nat) : State :=
  ((s.wr F.CSIRX_CTX_STAT_LOSS 1 c).onCtx c (fun x => { x with lossStanding := true })).report src 0x41 2 c

theorem State.streamLoss_lost (hr : s.running = true) (he : s.on F.CSIRX_CTX_CFG_EN c = true)
    (hl : s.on F.CSIRX_CTX_CFG_LOSS_FR c = true) (hst : (s.ctxt c).lossStanding = false) :
    ∃ g, s.streamLoss c = (s.advance g).lossShown c (srcRx (s.rd F.CSIRX_CTX_CFG_PORT c)) := by
  unfold State.streamLoss
  rw [if_neg (by simp [hr, he, hl, hst])]
  exact ⟨_, rfl⟩

end

section
variable (s : State) (c src : Nat)

theorem State.lossShown_loss : (s.lossShown c src).rd F.CSIRX_CTX_STAT_LOSS c = 1 :=
  State.rd_wr_of_lt s F.CSIRX_CTX_STAT_LOSS (v := 1) c 0 (by decide)

theorem State.lossShown_standing : ((s.lossShown c src).ctxt c).lossStanding = true :=
  congrArg CtxSt.lossStanding (Sparse.get_set_self ..)

theorem State.lossShown_frame : s.lossShown c src =
    { s with regs := (s.lossShown c src).regs, ctx := (s.lossShown c src).ctx, owl := (s.lossShown c src).owl } := rfl

theorem State.lossShown_onlyWrites : OnlyWrites [F.CSIRX_CTX_STAT_LOSS.key c 0] s (s.lossShown c src) :=
  OnlyWrites.of_regs ((OnlyWrites.refl _ s).wr F.CSIRX_CTX_STAT_LOSS 1 c 0 (List.mem_singleton_self _)) rfl

theorem State.lossShown_stages : (s.lossShown c src).Stages src 0x41 := State.report_stages ..

end

/-- A later grain, and then a change of registers, context records and staged messages. -/
theorem GrainFrame.and_frame {s u v : State} (hf : GrainFrame s u)
    (hv : v = { u with regs := v.regs, ctx := v.ctx, owl := v.owl }) :
    v = { s with regs := v.regs, time := v.time, pins := v.pins, ash := v.ash, ctx := v.ctx, owl := v.owl,
                 pair := { s.pair with gaps := v.pair.gaps } } := by
  unfold GrainFrame at hf
  rw [hv, hf]

/-- Settles O15: lanes that calibrate, and streams that stay silent. -/
theorem lanesAndStreamsAreReported : Obligations.LanesAndStreamsAreReported := by
  unfold Obligations.LanesAndStreamsAreReported
  intro s
  simp only [exec_csirxRetrain, exec_streamLossTimeout]
  refine ⟨fun p lanes h => by rw [State.retrain_ignored h], fun p lanes hr ho => ⟨_, rfl, ?_⟩,
    fun c h => by rw [State.streamLoss_idle h], fun c hr he hl hst => ⟨_, rfl, ?_⟩⟩
  · rw [State.retrain_taken hr ho]
    obtain ⟨owl, h, hst⟩ := s.rxTrain_eq p lanes
    have hact : (s.rxTrain p lanes).rd F.CSIRX_STAT_LANES_ACT p = lanesAct lanes := by
      rw [h]
      exact (State.rd_wr_apart _ _ _ _ _ _ (by decide)).trans (State.rd_wr_of_lt _ _ _ _ (lanesAct_lt lanes))
    rw [hact]
    refine ⟨?_, ?_, fun hl => by rw [hl]; rfl, fun hne h0 h1 => ?_, fun h0 h1 => ?_, fun h0 => ?_, fun hlt => ?_, ?_, ?_⟩
    · rw [h]
      refine (State.rd_wr_apart _ _ _ _ _ _ (by decide)).trans ((State.rd_wr_apart _ _ _ _ _ _ (by decide)).trans ?_)
      exact State.rd_wr_of_lt s F.CSIRX_STAT_TRAINED p 0 (by decide)
    · rw [h]
      exact State.rd_wr_of_lt _ _ _ _ lanes.isLt
    · rw [lanesAct, if_neg hne, h0, h1]; rfl
    · have hne : lanes ≠ 15 := fun h => by rw [h] at h1; exact absurd h1 (by decide)
      rw [lanesAct, if_neg hne, h0, h1]; rfl
    · have hne : lanes ≠ 15 := fun h => by rw [h] at h0; exact absurd h0 (by decide)
      rw [lanesAct, if_neg hne, h0]; rfl
    · obtain ⟨m, hm, hk, hs⟩ := hst hlt
      exact ⟨m, hm, hs, hk⟩
    · rw [h]; rfl
    · rw [h]
      exact OnlyWrites.of_regs ((((OnlyWrites.refl _ s).wr F.CSIRX_STAT_TRAINED 1 p 0 (by simp)).wr F.CSIRX_STAT_LANES_ACT
        (lanesAct lanes) p 0 (by simp)).wr F.CSIRX_STAT_LANE_OK lanes.toNat p 0 (by simp)) rfl
  · obtain ⟨g, h⟩ := State.streamLoss_lost hr he hl hst
    rw [h]
    obtain ⟨m, hm, hk, hs⟩ := (s.advance g).lossShown_stages c (srcRx (s.rd F.CSIRX_CTX_CFG_PORT c))
    have hadv := s.advance_onlyWrites g
    refine ⟨State.lossShown_loss .., State.lossShown_standing .., ⟨m, hm, hs, hk⟩, ?_,
      (hadv.mono (by simp)).trans ((State.lossShown_onlyWrites _ _ _).mono (by simp))⟩
    exact (s.advance_grainFrame g).and_frame ((s.advance g).lossShown_frame c _)

end Sys2Proof.Machine
end

section
/-! Landing tokens on the sideband (02_time_and_ordering.md R52, 07_event_network.md R198): what sending one changes. -/
namespace Sys2Proof.Machine

/-- The register fields that show the fullest token merge buffers. -/
def tokenFlds : List Fld := [F.FOX_RT_CNT_TOK_MAX, F.FOX_ES_CNT_TOK_MAX]

section
variable (s : State) (place a : Nat) (odd : Bool)

theorem State.sendToken_cases : ∃ tokens v u, ∃ f ∈ tokenFlds,
    s.sendToken place a odd = State.wr { s with net := { s.net with tokens := tokens } } f v u 0 := by
  unfold State.sendToken
  extract_lets net s1
  split
  · exact ⟨_, _, _, F.FOX_RT_CNT_TOK_MAX, by simp [tokenFlds], rfl⟩
  · exact ⟨_, _, _, F.FOX_ES_CNT_TOK_MAX, by simp [tokenFlds], rfl⟩

theorem State.sendToken_frame : ∃ regs tokens,
    s.sendToken place a odd = { s with regs := regs, net := { s.net with tokens := tokens } } := by
  obtain ⟨tokens, v, u, f, -, h⟩ := s.sendToken_cases place a odd
  exact ⟨_, tokens, h⟩

theorem State.sendToken_rd {f : Fld} (u i : Nat) (h : f.apartFrom tokenFlds = true) :
    (s.sendToken place a odd).rd f u i = s.rd f u i := by
  obtain ⟨tokens, v, w, g, hg, he⟩ := s.sendToken_cases place a odd
  rw [he]
  exact State.rd_wr_apart _ _ _ _ _ _ (List.all_eq_true.mp h g hg)

theorem State.tokenFor_frame (k : Packet) : ∃ regs tokens,
    s.tokenFor place k = { s with regs := regs, net := { s.net with tokens := tokens } } :=
  s.sendToken_frame _ _ _

theorem State.tokenFor_rd (k : Packet) {f : Fld} (u i : Nat) (h : f.apartFrom tokenFlds = true) :
    (s.tokenFor place k).rd f u i = s.rd f u i :=
  s.sendToken_rd _ _ _ u i h

end

end Sys2Proof.Machine
end

section
/-! Spikes at Ash (06_encoders_decoders_and_actuation.md R170, R171). -/
namespace Sys2Proof.Machine

theorem exec_ashRaccArrive (s : State) (k : Packet) : exec (.ashRaccArrive k) s = .next (s.ashRacc k) := rfl

/-- The state after a spike has been taken and its token sent back. -/
def State.ashTook (s : State) (k : Packet) : State := (s.taken agAsh k).ashToken k

section
variable (s : State) (k : Packet)

theorem State.ashTook_frame : ∃ regs net, s.ashTook k = { s with regs := regs, net := net } := by
  obtain ⟨regs, tokens, h⟩ := (s.taken agAsh k).tokenFor_frame ((s.taken agAsh k).placeOf agAsh) k
  exact ⟨regs, _, h⟩

theorem State.ashTook_rd {f : Fld} (u i : Nat) (h : f.apartFrom tokenFlds = true) : (s.ashTook k).rd f u i = s.rd f u i :=
  (s.taken agAsh k).tokenFor_rd _ k u i h

theorem State.ashTook_ash : (s.ashTook k).ash = s.ash := by
  obtain ⟨regs, net, h⟩ := s.ashTook_frame k; rw [h]

theorem State.ashTook_mem : (s.ashTook k).mem = s.mem := by
  obtain ⟨regs, net, h⟩ := s.ashTook_frame k; rw [h]

end

section
variable {s : State} {k : Packet} {dec : Decoder}

theorem State.ashRacc_no_line (hop : k.op = 1) (hlen : k.len = 0) (h : s.lineDecoder k.arg.toNat = none) :
    s.ashRacc k = (s.ashTook k).inc F.ASH_CNT_NOLINE := by
  unfold State.ashRacc
  extract_lets t
  rw [if_neg (by simp [hop, hlen]), h]
  rfl

theorem State.ashRacc_shed {e : Overload} (hop : k.op = 1) (hlen : k.len = 0)
    (h : s.lineDecoder k.arg.toNat = some dec) (he : s.replayed agAsh k = some e) (hd : e.discarded = true) :
    s.ashRacc k = ((s.ashTook k).replayUsed agAsh k).inc F.ASH_CNT_SHED := by
  unfold State.ashRacc
  extract_lets t
  rw [if_neg (by simp [hop, hlen]), h]
  dsimp only
  rw [he]
  exact if_pos hd

theorem State.ashRacc_now (hop : k.op = 1) (hlen : k.len = 0) (h : s.lineDecoder k.arg.toNat = some dec)
    (he : s.replayed agAsh k = none) (hd : (k.tag.toNat + 64 - s.step % 64) % 64 = 1) :
    s.ashRacc k = (s.ashTook k).ashAdd dec k := by
  unfold State.ashRacc
  extract_lets t
  rw [if_neg (by simp [hop, hlen]), h]
  dsimp only
  rw [he]
  exact if_pos hd

end

section
variable (s : State) {b line : Nat} (l : AshLine)

theorem State.setLine_frame : s.setLine b line l = { s with ash := (s.setLine b line l).ash } := by
  unfold State.setLine; split <;> rfl

theorem State.ashLine_setLine_self : (s.setLine b line l).ashLine b line = l := by
  unfold State.setLine State.ashLine
  by_cases hb : b = 0
  · simp only [hb, if_true, Sparse.get_set_self]
  · simp only [hb, if_false, Sparse.get_set_self]

/-- A line of the other bank, or another line of the bank, stays. -/
theorem State.ashLine_setLine_other {b' line' : Nat} (hb : b < 2) (hb' : b' < 2) (h : b' ≠ b ∨ line' ≠ line) :
    (s.setLine b line l).ashLine b' line' = s.ashLine b' line' := by
  have hget (m : List (Nat × AshLine)) (hl : line' ≠ line) :
      Sparse.get (Sparse.set natLt m line AshLine.fresh l) line' AshLine.fresh = Sparse.get m line' AshLine.fresh :=
    Sparse.get_set_ne _ _ _ _ _ hl
  unfold State.setLine State.ashLine
  obtain rfl | rfl : b = 0 ∨ b = 1 := by omega
  all_goals obtain rfl | rfl : b' = 0 ∨ b' = 1 := by omega
  · exact hget _ (h.resolve_left (fun hne => hne rfl))
  · rfl
  · rfl
  · exact hget _ (h.resolve_left (fun hne => hne rfl))

end

/-- Settles O16: no decoder, a replayed discard, and a spike of the current step. -/
theorem spikesReachTheLinesOfAsh : Obligations.SpikesReachTheLinesOfAsh := by
  unfold Obligations.SpikesReachTheLinesOfAsh
  intro s k hop hlen
  simp only [exec_ashRaccArrive]
  refine ⟨fun h => ⟨_, rfl, ?_⟩, fun dec e h he hd => ⟨_, rfl, ?_⟩, fun dec h he hd => ?_⟩
  · rw [State.ashRacc_no_line hop hlen h]
    refine ⟨?_, s.ashTook_ash k, s.ashTook_mem k⟩
    rw [State.rd_inc, s.ashTook_rd k 0 0 (by decide)]
    rfl
  · rw [State.ashRacc_shed hop hlen h he hd]
    refine ⟨?_, s.ashTook_ash k, s.ashTook_mem k⟩
    refine (State.rd_inc (s.ashTook k) F.ASH_CNT_SHED 1 0 0).trans ?_
    rw [s.ashTook_rd k 0 0 (by decide)]
    rfl
  · refine ⟨_, rfl, ?_⟩
    have hstep : (s.ashTook k).step = s.step := s.ashTook_rd k 0 0 (by decide)
    have hfs : (s.ashTook k).frameSteps = s.frameSteps := s.ashTook_rd k 0 0 (by decide)
    have hline : ∀ b line, (s.ashTook k).ashLine b line = s.ashLine b line := by
      intro b line; rw [State.ashLine, State.ashLine, s.ashTook_ash]
    have hb : s.step / max 1 s.frameSteps % 2 < 2 := Nat.mod_lt _ (by decide)
    rw [State.ashRacc_now hop hlen h he hd]
    simp only [State.ashAdd, hstep, hfs, hline]
    refine ⟨?_, ?_, State.ashLine_setLine_self .., fun b' line hb' hne => ?_⟩
    · rw [State.setLine_frame]
      exact s.ashTook_rd k 0 0 (by decide)
    · rw [State.setLine_frame]
      exact s.ashTook_mem k
    · exact (State.ashLine_setLine_other _ _ hb hb' hne).trans (hline b' line)

end Sys2Proof.Machine
end

section
/-! Records that leave Ash (06_encoders_decoders_and_actuation.md R169, R174, R176, R178, 13_redundant_pair.md R349). -/
namespace Sys2Proof.Machine

section
variable {s : State}

/-- What passes over grains leaves Ash's own record but for the arming that waits. -/
theorem State.advance_ash (s : State) (g : Nat) : ∃ a, (s.advance g).ash = { s.ash with armNext := a } := by
  unfold State.advance
  split
  · exact ⟨_, rfl⟩
  · exact ⟨none, s.toGrain_ash _⟩

theorem State.quiesceDone_of_none (h : s.deferredArg 0x1A = none) : s.quiesceDone = s := by
  unfold State.quiesceDone; rw [h]

theorem exec_resultRecordEmit (d : Nat) : exec (.resultRecordEmit d) s = .next (s.recordOut d).quiesceDone := rfl
theorem exec_meterHandoff : exec .meterHandoff s = .next s.meterHandoff.quiesceDone := rfl
theorem exec_membraneReadTimeout : exec .membraneReadTimeout s = .next s.readTimeout := rfl

theorem State.recordOut_none {d : Nat} (h : s.readyRec d = none) : s.recordOut d = s := by
  unfold State.recordOut; rw [h]

/-- The state without a record that leaves. -/
def State.withoutRec (s : State) (r : AshRec) : State :=
  { s with ash := { s.ash with recs := dropFirst (fun x => x == r) s.ash.recs } }

theorem State.recordOut_standby {d : Nat} {r : AshRec} (h : s.readyRec d = some r) (hs : s.standby = true) :
    s.recordOut d = (s.withoutRec r).keepRec r := by
  unfold State.recordOut; rw [h]; exact if_pos hs

theorem State.recordOut_active {d : Nat} {r : AshRec} (h : s.readyRec d = some r) (hs : s.standby = false) :
    s.recordOut d = (s.withoutRec r).emitRec r := by
  unfold State.recordOut; rw [h]; exact if_neg (by simp [hs])

end

/-- The state with packets staged at one agent. -/
def State.stageAll (s : State) (a : Nat) (ks : List Packet) : State :=
  { s with net := { s.net with staging := s.net.staging ++ ks.map (fun k => ⟨a, k, .plain, false, false⟩) } }

/-- Packets staged one after another. -/
theorem State.foldl_stage (a : Nat) (ks : List Packet) :
    ∀ s : State, ks.foldl (fun s k => s.stage a k) s = s.stageAll a ks := by
  induction ks with
  | nil => intro s; simp [State.stageAll]
  | cons k ks ih =>
    intro s
    rw [List.foldl_cons, ih]
    simp [State.stage, State.stageAll]

/-- The packets of the record that Ash spells next, and the state with them staged for queue `qid` and the record
counted. -/
def State.queueRecord (s : State) (qid : Nat) (mk : Nat → List Byte) : State :=
  (State.stageAll { s with ash := { s.ash with seq := (s.ash.seq + 1) % 2 ^ 32 } } agAsh
    (appendPackets agAsh qid (s.step % 64) (mk s.ash.seq))).inc F.ASH_REC_CNT_CNT

/-- A record whose only outlet is a queue. -/
theorem State.emitRecord_queue (s : State) {o : Outlet} (ht : o.txEn = false) (hq : o.qEn = true)
    (mk : Nat → List Byte) : s.emitRecord o mk = s.queueRecord o.qid mk := by
  unfold State.emitRecord
  extract_lets bs ash s1 placed s2 s3
  have hs2 : s2 = s1 := if_neg (by simp [ht])
  have hs3 : s3 = (appendPackets agAsh o.qid (s.step % 64) bs).foldl (fun s k => s.stage agAsh k) s2 := if_pos hq
  rw [if_pos (by simp [hq]), hs3, State.foldl_stage, hs2]
  rfl

/-- The bytes of a decoder's record under a sequence number. -/
def State.recBytes (s : State) (r : AshRec) (seq : Nat) : List Byte :=
  recordBytes r.dec (s.decoder r.dec).kind (recordFlags r.decision r.flags r.late r.part) r.frame r.grain seq
    (r.vals.map (·.getD 0))

theorem State.emitRec_queue (s : State) (r : AshRec) (ht : (s.decoder r.dec).txEn = false)
    (hq : (s.decoder r.dec).qEn = true) : s.emitRec r = s.queueRecord (s.decoder r.dec).qid (s.recBytes r) := by
  unfold State.emitRec
  extract_lets d
  exact State.emitRecord_queue s (o := d.outlet) ht hq _

section
variable (s : State) (qid : Nat) (mk : Nat → List Byte)

theorem State.queueRecord_cnt : (s.queueRecord qid mk).rd F.ASH_REC_CNT_CNT =
    min (s.rd F.ASH_REC_CNT_CNT + 1) (2 ^ 32 - 1) := by
  unfold State.queueRecord
  rw [State.rd_inc]; rfl

theorem State.queueRecord_onlyWrites : OnlyWrites [F.ASH_REC_CNT_CNT.key 0 0] s (s.queueRecord qid mk) := by
  unfold State.queueRecord
  exact (OnlyWrites.of_regs (OnlyWrites.refl _ s) rfl).inc F.ASH_REC_CNT_CNT 1 0 0 (List.mem_singleton_self _)

theorem State.queueRecord_ash : (s.queueRecord qid mk).ash = { s.ash with seq := (s.ash.seq + 1) % 2 ^ 32 } := rfl

theorem State.queueRecord_staging : (s.queueRecord qid mk).net.staging = s.net.staging ++
    (appendPackets agAsh qid (s.step % 64) (mk s.ash.seq)).map (fun k => ⟨agAsh, k, .plain, false, false⟩) := rfl

theorem State.queueRecord_frame : s.queueRecord qid mk = { s with
    regs := (s.queueRecord qid mk).regs, ash := (s.queueRecord qid mk).ash,
    net := { s.net with staging := (s.queueRecord qid mk).net.staging } } := rfl

theorem State.queueRecord_deferredArg (op : Nat) : (s.queueRecord qid mk).deferredArg op = s.deferredArg op := rfl

end

theorem pieces_nil {α : Type} : pieces 128 ([] : List α) = [] := by simp [pieces, ceilDiv]

theorem pieces_singleton {α : Type} (x : α) : pieces 128 [x] = [[x]] := by
  simp [pieces, ceilDiv, List.range_succ]

section
variable {s : State}

theorem State.meterHandoff_none (h : s.tinder.meterDue = []) : s.meterHandoff = s := by
  unfold State.meterHandoff; rw [h]

/-- The state after the ended frame has been forgotten. -/
def State.frameForgotten (s : State) (x : MeterDue) (rest : List MeterDue) : State :=
  { s with tinder := { s.tinder with
    meterDue := rest, meters := s.tinder.meters.filter (fun m => m.frame != x.frame) } }

theorem State.meterHandoff_silent {x : MeterDue} {rest : List MeterDue} (h : s.tinder.meterDue = x :: rest)
    (hs : s.standby = true ∨ s.metered = []) : s.meterHandoff = s.frameForgotten x rest := by
  unfold State.meterHandoff; rw [h]
  dsimp only
  split
  · rfl
  · rename_i hn
    rw [hs.resolve_left hn, List.map_nil, pieces_nil]; rfl

/-- One metered channel with a queue as the only outlet. -/
theorem State.meterHandoff_queue {x : MeterDue} {rest : List MeterDue} {c : Nat} (h : s.tinder.meterDue = x :: rest)
    (hs : s.standby = false) (hm : s.metered = [c]) (ht : s.on F.ASH_METER_CFG_TX_EN = false)
    (hq : s.on F.ASH_METER_CFG_Q_EN = true) : s.meterHandoff =
      (s.frameForgotten x rest).queueRecord (s.rd F.ASH_METER_CFG_QID) (fun seq =>
        recordBytes 0xFFFF 0x10 (recordFlags false x.flags false false) x.frame x.grain seq (s.meterOf c x.frame).vals) := by
  unfold State.meterHandoff; rw [h]
  dsimp only
  rw [if_neg (by simp [hs]), hm, List.map_singleton, pieces_singleton, List.foldl_cons, List.foldl_nil,
    State.emitRecord_queue _ ht hq, List.flatMap_singleton]
  rfl

theorem State.readTimeout_none (h : s.ash.recs.find? (fun r => r.closed && r.vals.any (·.isNone)) = none) :
    s.readTimeout = s := by
  unfold State.readTimeout; rw [h]

end

/-- A record that a failed read of its only value leaves. -/
def AshRec.failed (r : AshRec) : AshRec := { r with vals := [some failedRead], part := true }

/-- Deciding a record changes only its decision. -/
theorem State.decideRead_recs {s : State} {r : AshRec} (h : s.ash.recs = [r]) : ∃ b,
    (s.decideRead r.dec r.frame).ash.recs = [{ r with decision := b }] ∧
      (s.decideRead r.dec r.frame).regs = s.regs ∧ (s.decideRead r.dec r.frame).mem = s.mem := by
  unfold State.decideRead
  rw [h, List.find?_cons_of_pos (by simp)]
  dsimp only
  split
  · refine ⟨r.vals.any fun v => decide (sgn 32 (v.getD 0) ≥ r.thr), ?_, rfl, rfl⟩
    simp only [State.decided, State.onRec, h, List.map_cons, List.map_nil, and_self, if_true]
  · exact ⟨r.decision, h, rfl, rfl⟩

/-- The only waiting record with one value fails it. -/
theorem State.readFailed_single {s : State} {r : AshRec} (h : s.ash.recs = [r]) (hv : r.vals = [none]) : ∃ b,
    (s.readFailed r.dec r.frame 0 1).ash.recs = [{ r.failed with decision := b }] ∧
      (s.readFailed r.dec r.frame 0 1).regs = (s.inc F.ASH_CNT_RD_ERR).regs ∧
      (s.readFailed r.dec r.frame 0 1).mem = s.mem := by
  obtain ⟨t, ht⟩ : ∃ t, t = (s.inc F.ASH_CNT_RD_ERR).onRec r.dec r.frame (fun r =>
    { r with vals := fillVals r.vals 0 (List.replicate 1 failedRead), part := true }) := ⟨_, rfl⟩
  have hrecs : t.ash.recs = [r.failed] := by
    rw [ht]
    simp only [State.onRec, State.inc_ash, h, List.map_cons, List.map_nil, and_self, if_true, hv]
    rfl
  have hregs : t.regs = (s.inc F.ASH_CNT_RD_ERR).regs := by rw [ht]; rfl
  have hmem : t.mem = s.mem := by rw [ht]; rfl
  have hfail : s.readFailed r.dec r.frame 0 1 = t.decideRead r.dec r.frame := by
    unfold State.readFailed
    rw [h, List.find?_cons_of_pos (by simp [hv]), ht]
  obtain ⟨b, h1, h2, h3⟩ := State.decideRead_recs hrecs
  rw [hfail]
  exact ⟨b, h1, h2.trans hregs, h3.trans hmem⟩

theorem State.readTimeout_single {s : State} {r : AshRec} (h : s.ash.recs = [r]) (hc : r.closed = true)
    (hst : s.rd F.ASH_DEC_PAR_STRIDE 0 r.dec = 0) (hv : r.vals = [none]) :
    s.readTimeout = (s.advance (r.grain + 15)).readFailed r.dec r.frame 0 1 := by
  obtain ⟨u, hu⟩ : ∃ u, u = s.advance (r.grain + 15) := ⟨_, rfl⟩
  have hrecs : u.ash.recs = [r] := by
    obtain ⟨a, ha⟩ := s.advance_ash (r.grain + 15)
    rw [hu, ha]; exact h
  have hstride : (u.decoder r.dec).stride = 1 := by
    have hrd : u.rd F.ASH_DEC_PAR_STRIDE 0 r.dec = 0 := by
      rw [hu, State.advance_rd _ _ _ _ (by decide) (by decide) (by decide), hst]
    simp only [State.decoder, hrd]
  have hchunks : readChunks 1 1 = [(0, 1)] := rfl
  unfold State.readTimeout
  rw [h, List.find?_cons_of_pos (by simp [hc, hv])]
  dsimp only
  rw [← hu, hrecs, List.filter_cons_of_pos (by simp [hc, hv]), List.filter_nil, List.foldl_cons, List.foldl_nil, hstride,
    hv, List.length_singleton, hchunks, List.foldl_cons, List.foldl_nil]

/-- Settles O17: results, metering records and failed reads. -/
theorem windowsEmitTheirRecords : Obligations.WindowsEmitTheirRecords := by
  unfold Obligations.WindowsEmitTheirRecords
  intro s
  simp only [exec_resultRecordEmit, exec_meterHandoff, exec_membraneReadTimeout]
  refine ⟨fun d h hd => ?_, fun d r h hd hs => ?_, fun d r h hd hs ht hq => ⟨_, rfl, ?_⟩, fun h hd => ?_,
    fun x rest h hd => ⟨fun hs => ?_, fun c hs hm ht hq => ⟨_, rfl, ?_⟩⟩, fun h => by rw [State.readTimeout_none h],
    fun r h hc hst hv => ?_⟩
  · rw [State.recordOut_none h, State.quiesceDone_of_none hd]
  · rw [State.recordOut_standby h hs, State.quiesceDone_of_none (by exact hd)]
    rfl
  · have hdec : (s.withoutRec r).decoder r.dec = s.decoder r.dec := rfl
    have hrec : s.recordOut d = (s.withoutRec r).queueRecord (s.decoder r.dec).qid (s.recBytes r) := by
      rw [State.recordOut_active h hs, State.emitRec_queue _ _ (hdec ▸ ht) (hdec ▸ hq), hdec]
      rfl
    rw [State.quiesceDone_of_none (by rw [hrec]; exact hd), hrec]
    exact ⟨State.queueRecord_ash (s.withoutRec r) _ _, State.queueRecord_cnt (s.withoutRec r) _ _,
      State.queueRecord_staging (s.withoutRec r) _ _, State.queueRecord_frame (s.withoutRec r) _ _,
      State.queueRecord_onlyWrites (s.withoutRec r) _ _⟩
  · rw [State.meterHandoff_none h, State.quiesceDone_of_none hd]
  · rw [State.meterHandoff_silent h hs, State.quiesceDone_of_none (by exact hd)]
    rfl
  · have hm' := State.meterHandoff_queue h hs hm ht hq
    rw [State.quiesceDone_of_none (by rw [hm']; exact hd), hm']
    exact ⟨State.queueRecord_ash (s.frameForgotten x rest) _ _, State.queueRecord_cnt (s.frameForgotten x rest) _ _,
      State.queueRecord_staging (s.frameForgotten x rest) _ _, State.queueRecord_frame (s.frameForgotten x rest) _ _,
      State.queueRecord_onlyWrites (s.frameForgotten x rest) _ _⟩
  · rw [State.readTimeout_single h hc hst hv]
    obtain ⟨u, hu⟩ : ∃ u, u = s.advance (r.grain + 15) := ⟨_, rfl⟩
    obtain ⟨a, ha⟩ := s.advance_ash (r.grain + 15)
    have hmem : u.mem = s.mem := by rw [hu, s.advance_grainFrame]
    rw [← hu] at ha ⊢
    obtain ⟨b, hrecs, hregs, hm⟩ := State.readFailed_single (s := u) (by rw [ha]; exact h) hv
    refine ⟨_, _, rfl, hrecs, rfl, rfl, rfl, rfl, ?_, hm.trans hmem⟩
    rw [State.rd_of_regs hregs, State.rd_inc, hu, State.advance_rd _ _ _ _ (by decide) (by decide) (by decide)]
    rfl

end Sys2Proof.Machine
end

section
/-! One bit of a number replaced. -/
namespace Sys2Proof.Machine

theorem bit_eq_testBit (v k : Nat) : bit v k = v.testBit k := by
  rw [bit, Nat.testBit_eq_decide_div_mod_eq]; rfl

theorem bit_putBits (v a b : Nat) (x : Bool) : bit (putBits v a a (b2n x)) b = if b = a then x else bit v b := by
  have hx : b2n x % 2 ^ (a + 1 - a) = b2n x := by
    rw [Nat.add_sub_cancel_left]; cases x <;> rfl
  have hput : putBits v a a (b2n x) = 2 ^ a * (2 * (v / 2 ^ (a + 1)) + b2n x) + v % 2 ^ a := by
    rw [putBits, hx, Nat.pow_succ]; ring
  rw [bit_eq_testBit, bit_eq_testBit, hput, Nat.testBit_two_pow_mul_add _ (Nat.mod_lt _ (Nat.two_pow_pos a))]
  rcases lt_trichotomy b a with h | h | h
  · rw [if_pos h, if_neg h.ne, Nat.testBit_mod_two_pow, decide_eq_true h, Bool.true_and]
  · rw [h, if_neg (lt_irrefl a), if_pos rfl, Nat.sub_self, Nat.testBit_zero]
    cases x <;> simp [b2n]
  · obtain ⟨m, rfl⟩ : ∃ m, b = a + 1 + m := ⟨b - (a + 1), by omega⟩
    have hsub : a + 1 + m - a = m + 1 := by omega
    have hdiv : (2 * (v / 2 ^ (a + 1)) + b2n x) / 2 = v / 2 ^ (a + 1) := by unfold b2n; split <;> omega
    rw [if_neg (by omega), if_neg (by omega), hsub, Nat.testBit_succ, hdiv, Nat.testBit_div_two_pow, Nat.add_comm]

theorem bit_mod_two_pow {v w k : Nat} (h : k < w) : bit (v % 2 ^ w) k = bit v k := by
  rw [bit_eq_testBit, bit_eq_testBit, Nat.testBit_mod_two_pow, decide_eq_true h, Bool.true_and]

/-- A field of enough bits that had one bit replaced. -/
theorem bit_rd_wr_putBits (s : State) (f : Fld) (v u i a b : Nat) (x : Bool) (h : b < f.width) :
    bit ((s.wr f (putBits v a a (b2n x)) u i).rd f u i) b = if b = a then x else bit v b := by
  rw [State.rd_wr_self, bit_mod_two_pow h, bit_putBits]

end Sys2Proof.Machine
end

section
/-! The actuation lines (06_encoders_decoders_and_actuation.md R179 to R181). -/
namespace Sys2Proof.Machine

theorem exec_actAssertGrain (s : State) (l : ActLine) :
    exec (.actAssertGrain l) s = .next ((s.permitAt l.permit).actAssert l.line) := rfl
theorem exec_actPulseEnd (s : State) (a : Nat) : exec (.actPulseEnd a) s = .next (s.actPulseEnd a) := rfl
theorem exec_actRecheck (s : State) (l : ActLine) :
    exec (.actRecheck l) s = .next ((s.permitAt l.permit).actRecheck l.line) := rfl
theorem exec_actArmWrite (s : State) (v : BitVec 16) :
    exec (.actArmWrite v) s = .next { s with ash := { s.ash with armNext := some v.toNat } } := rfl

section
variable (s : State) (a : Nat)

/-- A line that is driven takes the level, and no other line moves. -/
theorem State.bit_drive (v : Bool) {b : Nat} (h : b < 16) :
    bit ((s.drive a v).rd F.ACT_STAT_LEVEL) b = if b = a then v else bit (s.rd F.ACT_STAT_LEVEL) b :=
  bit_rd_wr_putBits s F.ACT_STAT_LEVEL _ 0 0 a b v h

theorem State.drive_rd (v : Bool) {f : Fld} (u i : Nat) (h : f.apart F.ACT_STAT_LEVEL = true) :
    (s.drive a v).rd f u i = s.rd f u i :=
  State.rd_wr_apart _ _ _ _ _ _ h

theorem State.drive_onlyWrites (v : Bool) : OnlyWrites [F.ACT_STAT_LEVEL.key 0 0] s (s.drive a v) :=
  (OnlyWrites.refl _ s).wr F.ACT_STAT_LEVEL _ 0 0 (List.mem_singleton_self _)

theorem State.drive_ash (v : Bool) : (s.drive a v).ash = s.ash := rfl
theorem State.drive_pins (v : Bool) : (s.drive a v).pins = s.pins := rfl
theorem State.drive_mem (v : Bool) : (s.drive a v).mem = s.mem := rfl

theorem State.noPulse_pulseEnd : (s.noPulse a).ash.pulseEnd = s.ash.pulseEnd.filter (fun x => x.1 != a) := rfl
theorem State.noPulse_mem : (s.noPulse a).mem = s.mem := rfl
theorem State.noPulse_rd (f : Fld) (u i : Nat) : (s.noPulse a).rd f u i = s.rd f u i := rfl

end

section
variable (s : State) (g : Nat)

theorem State.advance_pins : (s.advance g).pins.permit = s.pins.permit := by
  unfold State.advance
  split
  · rfl
  · rw [s.toGrain_pins]

theorem State.advance_mem : (s.advance g).mem = s.mem := by rw [s.advance_grainFrame g]

/-- With no arming that waits, passing over grains leaves every register but GRAIN and the count of missing heartbeats. -/
theorem State.advance_rd_unarmed {s : State} {g : Nat} {f : Fld} (u i : Nat) (h : s.ash.armNext = none)
    (hg : f.apart F.TIME_GRAIN_GRAIN = true) (hc : f.apart F.PAIR_CNT0_HB_GAP = true) :
    (s.advance g).rd f u i = s.rd f u i := by
  unfold State.advance
  split
  · rfl
  · obtain ⟨t, ht, hr, -⟩ := s.toGrain_atGrain (g % 2 ^ 64)
    rw [ht, State.countGaps_rd _ _ _ hc, State.rd_of_regs hr, State.atGrain, h]
    exact State.rd_wr_apart _ _ _ _ _ _ hg

theorem State.advance_ash_unarmed {s : State} (h : s.ash.armNext = none) : (s.advance g).ash = s.ash := by
  unfold State.advance
  split
  · rfl
  · rw [s.toGrain_ash, ← h]

end

/-- The state with an assertion taken from those that are due. -/
def State.dueTaken (s : State) (a : Nat) (x : ActDue) : State :=
  State.noPulse { s with ash := { s.ash with actDue := dropFirst (fun y => y == x) s.ash.actDue } } a

section
variable (s : State) (a : Nat) (x : ActDue)

theorem State.dueTaken_decisions : (s.dueTaken a x).ash.decisions = s.ash.decisions := rfl
theorem State.dueTaken_mem : (s.dueTaken a x).mem = s.mem := rfl
theorem State.dueTaken_pins : (s.dueTaken a x).pins = s.pins := rfl
theorem State.dueTaken_regs : (s.dueTaken a x).regs = s.regs := rfl

end

/-- The state at the grain of an assertion that is due. -/
def State.asserting (s : State) (a : Nat) (x : ActDue) : State := (s.advance x.grain).dueTaken a x

section
variable {s : State} {a : Nat} {x : ActDue} {y : Decision}

theorem State.asserting_decisions : (s.asserting a x).ash.decisions = s.ash.decisions := by
  obtain ⟨n, hn⟩ := s.advance_ash x.grain
  rw [State.asserting, State.dueTaken_decisions, hn]

theorem State.asserting_mem : (s.asserting a x).mem = s.mem := by
  rw [State.asserting, State.dueTaken_mem, s.advance_mem]

theorem State.asserting_permit : (s.asserting a x).pins.permit = s.pins.permit := by
  rw [State.asserting, State.dueTaken_pins, s.advance_pins]

theorem State.asserting_rd {f : Fld} (u i : Nat) (h : s.ash.armNext = none)
    (hg : f.apart F.TIME_GRAIN_GRAIN = true) (hc : f.apart F.PAIR_CNT0_HB_GAP = true) :
    (s.asserting a x).rd f u i = s.rd f u i := by
  rw [State.asserting, State.rd_of_regs (State.dueTaken_regs ..), State.advance_rd_unarmed u i h hg hc]

theorem State.asserting_actMay (h : s.ash.armNext = none) (b : Nat) : (s.asserting a x).actMay b = s.actMay b := by
  simp (disch := decide) only [State.actMay, State.on, State.standby, State.running, State.asserting_permit,
    State.asserting_rd (s := s) (a := a) (x := x) _ _ h]

theorem State.actAssert_missing (hx : s.ash.actDue.find? (fun x => x.line == a) = some x)
    (hy : s.ash.decisions.find? (fun y => y.dec == s.rd F.ACT_CFG_DEC 0 a && y.frame == x.frame) = none) :
    s.actAssert a = ((s.asserting a x).drive a false).inc F.ACT_MISS_CNT_CNT := by
  have hdec := State.asserting_decisions (s := s) (a := a) (x := x)
  unfold State.actAssert
  unfold State.asserting at hdec ⊢
  obtain ⟨f, hf⟩ : ∃ f, f = s.advance := ⟨_, rfl⟩
  rw [← hf] at hdec ⊢
  rw [hx]
  dsimp only
  unfold State.dueTaken at hdec ⊢
  rw [hdec, hy]

/-- The state in which the pulse of a line ends at a grain. -/
def State.pulseUntil (s : State) (a g : Nat) : State :=
  { s with ash := { s.ash with pulseEnd := s.ash.pulseEnd ++ [(a, g)] } }

section
variable (s : State) (a g : Nat)

theorem State.pulseUntil_regs : (s.pulseUntil a g).regs = s.regs := rfl
theorem State.pulseUntil_mem : (s.pulseUntil a g).mem = s.mem := rfl
theorem State.pulseUntil_pins : (s.pulseUntil a g).pins = s.pins := rfl
theorem State.pulseUntil_pulseEnd : (s.pulseUntil a g).ash.pulseEnd = s.ash.pulseEnd ++ [(a, g)] := rfl

end

/-- The state after the assertion of a line whose decision is known. -/
def State.asserted (s : State) (a : Nat) (x : ActDue) (y : Decision) : State :=
  let v := y.value && (s.asserting a x).actMay a
  let t := (s.asserting a x).drive a v
  if v && !s.on F.ACT_CFG_HOLD 0 a then t.pulseUntil a ((t.grain + s.rd F.ACT_CFG_WIDTH 0 a) % 2 ^ 64) else t

theorem State.actAssert_decided (hx : s.ash.actDue.find? (fun x => x.line == a) = some x)
    (hy : s.ash.decisions.find? (fun y => y.dec == s.rd F.ACT_CFG_DEC 0 a && y.frame == x.frame) = some y) :
    s.actAssert a = s.asserted a x y := by
  have hdec := State.asserting_decisions (s := s) (a := a) (x := x)
  unfold State.actAssert State.asserted
  unfold State.asserting at hdec ⊢
  obtain ⟨f, hf⟩ : ∃ f, f = s.advance := ⟨_, rfl⟩
  rw [← hf] at hdec ⊢
  rw [hx]
  dsimp only
  unfold State.dueTaken at hdec ⊢
  rw [hdec, hy]
  dsimp only
  split
  · rename_i hv
    rw [hv]
    cases s.on F.ACT_CFG_HOLD 0 a <;> rfl
  · rename_i hv
    rw [Bool.not_eq_true] at hv
    rw [hv]
    rfl

theorem State.asserted_cases : ∃ u, (s.asserted a x y = u ∨ ∃ g, s.asserted a x y = u.pulseUntil a g) ∧
    u = (s.asserting a x).drive a (y.value && (s.asserting a x).actMay a) := by
  unfold State.asserted
  extract_lets v t
  refine ⟨t, ?_, rfl⟩
  split
  · exact .inr ⟨_, rfl⟩
  · exact .inl rfl

theorem State.asserted_regs : (s.asserted a x y).regs =
    ((s.asserting a x).drive a (y.value && (s.asserting a x).actMay a)).regs := by
  obtain ⟨u, h | ⟨g, h⟩, hu⟩ := State.asserted_cases (s := s) (a := a) (x := x) (y := y) <;> rw [h, ← hu]
  rw [State.pulseUntil_regs]

theorem State.asserted_mem : (s.asserted a x y).mem = s.mem := by
  obtain ⟨u, h | ⟨g, h⟩, hu⟩ := State.asserted_cases (s := s) (a := a) (x := x) (y := y) <;>
    rw [h]
  · rw [hu, State.drive_mem, State.asserting_mem]
  · rw [State.pulseUntil_mem, hu, State.drive_mem, State.asserting_mem]

theorem State.asserted_permit : (s.asserted a x y).pins.permit = s.pins.permit := by
  obtain ⟨u, h | ⟨g, h⟩, hu⟩ := State.asserted_cases (s := s) (a := a) (x := x) (y := y) <;>
    rw [h]
  · rw [hu, State.drive_pins, State.asserting_permit]
  · rw [State.pulseUntil_pins, hu, State.drive_pins, State.asserting_permit]

/-- Without HOLD an asserted line's pulse ends WIDTH grains later. -/
theorem State.asserted_pulse (hv : y.value = true) (hm : (s.asserting a x).actMay a = true)
    (hh : s.on F.ACT_CFG_HOLD 0 a = false) :
    (a, ((s.asserted a x y).grain + s.rd F.ACT_CFG_WIDTH 0 a) % 2 ^ 64) ∈ (s.asserted a x y).ash.pulseEnd := by
  have hg : (s.asserted a x y).grain = ((s.asserting a x).drive a true).grain := by
    rw [State.grain, State.rd_of_regs State.asserted_regs, hv, hm]; rfl
  rw [hg]
  unfold State.asserted
  extract_lets v t
  have hvt : v = true := by simp only [v, hv, hm, Bool.and_self]
  have ht : t = (s.asserting a x).drive a true := by simp only [t, hvt]
  rw [if_pos (by simp [hvt, hh]), State.pulseUntil_pulseEnd, ht]
  exact List.mem_append_right _ (List.mem_singleton_self _)

theorem State.actPulseEnd_due {z : Nat × Nat} (h : s.ash.pulseEnd.find? (fun x => x.1 == a) = some z) :
    s.actPulseEnd a = ((s.advance z.2).noPulse a).drive a false := by
  unfold State.actPulseEnd; rw [h]

theorem State.actRecheck_falls (h : s.ash.armNext = none) (hl : bit (s.rd F.ACT_STAT_LEVEL) a = true)
    (hm : s.actMay a = false) : s.actRecheck a = (s.noPulse a).drive a false := by
  unfold State.actRecheck
  rw [h]
  exact if_pos (by simp [hl, hm])

theorem State.actRecheck_stays (h : s.ash.armNext = none)
    (hl : bit (s.rd F.ACT_STAT_LEVEL) a = false ∨ s.actMay a = true) : s.actRecheck a = s := by
  unfold State.actRecheck
  rw [h]
  exact if_neg (by rcases hl with h | h <;> simp [h])

end

/-- Settles O18: an absent decision, a known one, the end of a pulse, a recheck, and ACT_ARM. -/
theorem actuationLinesRiseAndFall : Obligations.ActuationLinesRiseAndFall := by
  unfold Obligations.ActuationLinesRiseAndFall
  intro s a ha
  simp only [exec_actAssertGrain, exec_actPulseEnd, exec_actRecheck, exec_actArmWrite]
  have hother {u t : State} (v : Bool) (hl : t.rd F.ACT_STAT_LEVEL = (u.drive a v).rd F.ACT_STAT_LEVEL)
      (hu : u.rd F.ACT_STAT_LEVEL = s.rd F.ACT_STAT_LEVEL) :
      bit (t.rd F.ACT_STAT_LEVEL) a = v ∧
        ∀ b < 16, b ≠ a → bit (t.rd F.ACT_STAT_LEVEL) b = bit (s.rd F.ACT_STAT_LEVEL) b :=
    ⟨by rw [hl, u.bit_drive a v ha, if_pos rfl], fun b hb hne => by rw [hl, u.bit_drive a v hb, if_neg hne, hu]⟩
  refine ⟨fun x hx hn hy p => ⟨_, rfl, ?_⟩, fun x y hx hn hy p => ⟨_, rfl, ?_⟩, fun x hx => ⟨_, rfl, ?_⟩,
    fun p hn hl hm => ⟨_, rfl, ?_⟩, fun p hn hl => by rw [State.actRecheck_stays (s := s.permitAt p) hn hl], fun v => trivial⟩
  · rw [State.actAssert_missing (s := s.permitAt p) hx hy]
    have hrd := fun f => State.asserting_rd (s := s.permitAt p) (a := a) (x := x) (f := f) 0 0 hn
    obtain ⟨h1, h2⟩ := hother (u := (s.permitAt p).asserting a x)
      (t := (((s.permitAt p).asserting a x).drive a false).inc F.ACT_MISS_CNT_CNT) false
      (State.rd_inc_apart _ _ _ _ _ _ (by decide)) (hrd _ (by decide) (by decide))
    refine ⟨h1, ?_, h2, ?_⟩
    · rw [State.rd_inc, State.drive_rd _ _ _ _ _ (by decide), hrd _ (by decide) (by decide)]
      rfl
    · rw [State.inc_mem, State.drive_mem, State.asserting_mem]
      rfl
  · rw [State.actAssert_decided (s := s.permitAt p) hx hy]
    have hrd := fun f => State.asserting_rd (s := s.permitAt p) (a := a) (x := x) (f := f) 0 0 hn
    have hregs := State.asserted_regs (s := s.permitAt p) (a := a) (x := x) (y := y)
    have hmay := State.asserting_actMay (s := s.permitAt p) (a := a) (x := x) hn a
    obtain ⟨h1, h2⟩ := hother (u := (s.permitAt p).asserting a x) (t := (s.permitAt p).asserted a x y)
      (y.value && ((s.permitAt p).asserting a x).actMay a) (State.rd_of_regs hregs _ _ _) (hrd _ (by decide) (by decide))
    rw [hmay] at h1
    refine ⟨State.asserted_permit, h1, ?_, fun hv hm hh => State.asserted_pulse hv (hmay.trans hm) hh, h2,
      State.asserted_mem⟩
    rw [State.rd_of_regs hregs, State.drive_rd _ _ _ _ _ (by decide), hrd _ (by decide) (by decide)]
    rfl
  · rw [State.actPulseEnd_due hx]
    have hlvl : ((s.advance x.2).noPulse a).rd F.ACT_STAT_LEVEL = s.rd F.ACT_STAT_LEVEL :=
      (State.noPulse_rd _ a _ 0 0).trans (State.advance_rd s x.2 0 0 (by decide) (by decide) (by decide))
    obtain ⟨h1, h2⟩ := hother (t := ((s.advance x.2).noPulse a).drive a false) false rfl hlvl
    refine ⟨h1, fun z hz => ?_, h2, by rw [State.drive_mem, State.noPulse_mem, s.advance_mem x.2]⟩
    rw [State.drive_ash, State.noPulse_pulseEnd] at hz
    simpa using (List.mem_filter.mp hz).2
  · rw [State.actRecheck_falls (s := s.permitAt p) hn hl hm]
    obtain ⟨h1, h2⟩ := hother (t := ((s.permitAt p).noPulse a).drive a false) false rfl rfl
    exact ⟨h1, h2, rfl, (OnlyWrites.of_regs (OnlyWrites.refl _ s) rfl).trans (State.drive_onlyWrites _ a false)⟩

end Sys2Proof.Machine
end

section
/-! Packets at their injecting interface (07_event_network.md R197, R201, R205, R220, 01_architecture.md R27). -/
namespace Sys2Proof.Machine

theorem exec_packetInject (s : State) (k : Packet) : exec (.packetInject k) s = .next (s.inject k) := rfl
theorem exec_tinderInject (s : State) : exec .tinderInject s = .next s.tinderInject := rfl

/-- A packet that its source hands over without having staged it. -/
def ownEntry (k : Packet) : Staged := ⟨k.src.toNat, k, .plain, false, false⟩

section
variable {s : State} {k : Packet} {i : Nat}

theorem State.entry_of_unstaged (h : s.staged? k = none) : s.entry k = ownEntry k := by
  unfold State.entry; rw [h]; rfl

theorem State.injectDrop_edge {e : Staged} (h : inArray e.agent = false) :
    s.injectDrop e = (s.unstage e.pkt).inc F.FOX_ES_PV_ERR_DROP_CNT 1 (agentStop e.agent) (e.pkt.vc1 e.onCtl) := by
  unfold State.injectDrop
  exact if_neg (by simp [h])

theorem State.inject_reserved (h : k.reservedOp = true) : s.inject k = s.injectDrop (s.entry k) := by
  unfold State.inject
  exact if_pos (by simp [h])

/-- A request to an agent that the variant lacks is answered where it would be injected. -/
theorem State.inject_no_agent (hs : s.staged? k = none) (hr : k.reservedOp = false) (h15 : k.op ≠ 15) (h1 : k.op ≠ 1)
    (hn : k.nonPosted = true) (hb : k.dest.toNat ≠ agBroadcast) (ha : s.agentOn k.dest.toNat = false)
    (hl : s.mayLeave (s.entry k) = true) (hi : s.freeTid k.src.toNat = some i) :
    s.inject k = s.injectNack (ownEntry k) (withTid k i) := by
  have hnum : s.numbered k.src.toNat k = some (withTid k i) := by
    unfold State.numbered
    rw [if_pos hn, hi]; rfl
  unfold State.inject
  extract_lets e a d
  have he : e = ownEntry k := State.entry_of_unstaged hs
  have ha' : a = k.src.toNat := by simp only [a, he]; rfl
  have hle : s.mayLeave e = true := hl
  have h15' : (k.op == 15) = false := beq_false_of_ne h15
  rw [if_neg (by rw [hr, h15']; simp), if_neg (by simp [hle]), ha', hnum]
  dsimp only
  rw [if_neg hb, if_pos (by simp [d, ha]), if_neg h1, if_pos hn, he]

end

/-- The request's entry among those that wait for responses. -/
def ownTid (e : Staged) (k : Packet) (n : Nat) : Tid :=
  Tid.mk e.agent k.tid k.op.toNat k.dest.toNat k.qid (decide (k.dest.toNat = agBroadcast)) e.onCtl
    (if isAppend k then k.data.headD 0 else 2 ^ 62) n e.why k.targetAddr

theorem State.track_posted {s : State} {e : Staged} {k : Packet} (h : k.nonPosted = false) (n : Nat) :
    s.track e k n = s := by
  unfold State.track
  exact if_neg (by simp [h])

theorem State.track_request {s : State} {e : Staged} {k : Packet} (h : k.nonPosted = true) :
    s.track e k 1 = { s with net := { s.net with tids := s.net.tids ++ [ownTid e k 1] } } := by
  unfold State.track
  exact if_pos (by simp [h])

/-- The register fields that count operations in flight. -/
def inflightFlds : List Fld :=
  [F.TND_INFLIGHT_IF_ODD, F.TND_INFLIGHT_IF_EVEN, F.CORE_INFLIGHT_IF_ODD, F.CORE_INFLIGHT_IF_EVEN]

theorem inflightFld_mem (a tag : Nat) : inflightFld a tag ∈ inflightFlds := by
  unfold inflightFld
  split_ifs <;> simp [inflightFlds]

theorem inflightFld_apart (a tag : Nat) {g : Fld} (h : inflightFlds.all (fun f => f.apart g) = true) :
    (inflightFld a tag).apart g = true :=
  List.all_eq_true.mp h _ (inflightFld_mem a tag)

theorem inflightFld_width (a tag : Nat) : (inflightFld a tag).width = 20 := by
  have h : ∀ f ∈ inflightFlds, f.width = 20 := by decide
  exact h _ (inflightFld_mem a tag)

/-- A route draws at most one step of a router's LFSR. -/
theorem State.route_state (s : State) (a : Nat) (k : Packet) (ctl : Bool) :
    (s.route a k ctl).s = s ∨ ∃ v u, (s.route a k ctl).s = s.wr F.FOX_SEED_STATE v u := by
  have hleg (p q u : Nat) : (s.arrayLeg k ctl p q F.FOX_SEED_STATE u).s = s ∨
      ∃ v w, (s.arrayLeg k ctl p q F.FOX_SEED_STATE u).s = s.wr F.FOX_SEED_STATE v w := by
    unfold State.arrayLeg
    split
    · exact .inl rfl
    · exact .inr ⟨_, _, rfl⟩
  unfold State.route
  extract_lets d p g1 g2
  split
  · split <;> exact hleg _ _ _
  · split
    · exact .inl rfl
    · split <;> exact .inl rfl

/-- The register fields that a packet's intake may change beside the in-flight counters. -/
def intakeFlds : List Fld :=
  [F.FOX_SEED_STATE, F.CORE_SPK_CNT_PKT, F.FOX_PV_FLIT_CNT_FLITS, F.FOX_PV_PKT_CNT_PKTS, F.FOX_PV_OCC_MAX_OCC,
    F.FOX_PV_ERR_NACK_CNT]

theorem State.countTile_frame (s : State) (tile port vc l : Nat) (k : Packet) :
    s.countTile tile port vc l k = { s with regs := (s.countTile tile port vc l k).regs } := by
  unfold State.countTile
  extract_lets i s1 s2
  split <;> rfl

theorem State.countTile_rd (s : State) (tile port vc l : Nat) (k : Packet) {f : Fld} (u i : Nat)
    (h : f.apartFrom intakeFlds = true) : (s.countTile tile port vc l k).rd f u i = s.rd f u i := by
  simp only [Fld.apartFrom, intakeFlds, List.all_cons, Bool.and_eq_true] at h
  obtain ⟨-, -, hf, hp, ho, hn, -⟩ := h
  unfold State.countTile
  extract_lets j s1 s2
  have h2 : s2.rd f u i = s.rd f u i := by
    rw [State.rd_top_apart _ _ _ _ _ _ ho, State.rd_inc_apart _ _ _ _ _ _ hp, State.rd_inc_apart _ _ _ _ _ _ hf]
  split
  · rw [State.rd_inc_apart _ _ _ _ _ _ hn, h2]
  · exact h2

section
variable {s : State} {k : Packet}

/-- The state with the packet counted in flight for its source. -/
def State.countedOut (s : State) (k : Packet) : State :=
  let r := (s.route k.src.toNat k (ownEntry k).onCtl).s.unstage k
  (if isCoreAgent k.src.toNat then r.inc F.CORE_SPK_CNT_PKT 1 k.src.toNat else r).addInflight k.src.toNat k.tag.toNat 1

/-- The state with the packet in the network. -/
def State.entered (s : State) (k : Packet) : State :=
  let t := (s.countedOut k).launch (s.flightOf k)
  if isCoreAgent k.src.toNat then t.countTile (t.agentTile k.src.toNat) 4 (s.flightOf k).firstVc k.flits k else t

theorem State.takeIn_spike (hs : s.staged? k = none) (hop : k.op = 1) (hc : countsInflight k.src.toNat = true)
    (hf : s.stageFree k.src.toNat (s.flightOf k).firstVc = true) :
    s.takeIn (ownEntry k) k 1 (s.route k.src.toNat k (ownEntry k).onCtl) none = s.entered k := by
  have hcount : k.counted = true := by simp [Packet.counted, hop]
  have hpost : k.nonPosted = false := by simp [Packet.nonPosted, hop]
  have hinj (u : State) : u.injected (ownEntry k) k 1 =
      (if isCoreAgent k.src.toNat then u.inc F.CORE_SPK_CNT_PKT 1 k.src.toNat else u).addInflight k.src.toNat
        k.tag.toNat 1 := by
    unfold State.injected
    extract_lets s0 s1
    rw [State.track_posted hpost]
    simp only [s1, s0, hop, true_and]
    exact if_pos (by simp [hcount]; exact hc)
  have hent := State.entry_of_unstaged hs
  unfold State.takeIn
  extract_lets f t
  have hvc : f.firstVc = (s.flightOf k).firstVc := by rw [State.flightOf, hent]; rfl
  have ht : t = (s.countedOut k).launch (s.flightOf k) := by
    simp only [t, hinj, State.flightOf, hent]; rfl
  rw [if_neg (by rw [hvc]; simp; exact hf), hvc, ht]
  rfl

theorem State.takeIn_full (hs : s.staged? k = none) (hf : s.stageFree k.src.toNat (s.flightOf k).firstVc = false) :
    s.takeIn (ownEntry k) k 1 (s.route k.src.toNat k (ownEntry k).onCtl) none = s := by
  unfold State.takeIn
  extract_lets f t
  have hvc : f.firstVc = (s.flightOf k).firstVc := by rw [State.flightOf, State.entry_of_unstaged hs]; rfl
  rw [if_pos (by rw [hvc]; simp; exact hf)]

/-- An unstaged spike to an agent of the variant either enters or waits. -/
theorem State.inject_spike (hs : s.staged? k = none) (hr : k.reservedOp = false) (hop : k.op = 1)
    (hb : k.dest.toNat ≠ agBroadcast) (ha : s.agentOn k.dest.toNat = true) (hc : countsInflight k.src.toNat = true) :
    s.inject k = if s.takes k = true then s.entered k else s := by
  have hpost : k.nonPosted = false := by simp [Packet.nonPosted, hop]
  have hnum : s.numbered k.src.toNat k = some k := by
    unfold State.numbered
    exact if_neg (by simp [hpost])
  have hent := State.entry_of_unstaged hs
  unfold State.inject
  extract_lets e a d
  have he : e = ownEntry k := hent
  have ha' : a = k.src.toNat := by simp only [a, he]; rfl
  have htakes : s.takes k = (s.mayLeave (ownEntry k) && s.mayCount k.src.toNat k 1 &&
      s.stageFree k.src.toNat (s.flightOf k).firstVc) := by rw [State.takes, hent]
  rw [if_neg (by simp [hr, hop]), ha', hnum, he, htakes]
  cases s.mayLeave (ownEntry k) with
  | false => rfl
  | true =>
    rw [if_neg (by decide)]
    dsimp only
    rw [if_neg hb, if_neg (by simp [d, ha])]
    cases s.mayCount k.src.toNat k 1 with
    | false => rfl
    | true =>
      rw [if_pos rfl]
      cases hf : s.stageFree k.src.toNat (s.flightOf k).firstVc with
      | true => exact State.takeIn_spike hs hop hc hf
      | false => exact State.takeIn_full hs hf

end

section
variable (s : State) (k : Packet)

theorem State.countedOut_frame : ∃ regs staging, s.countedOut k =
    { s with regs := regs, net := { s.net with staging := staging } } := by
  unfold State.countedOut
  extract_lets r
  obtain ⟨regs, hregs⟩ : ∃ regs, (s.route k.src.toNat k (ownEntry k).onCtl).s = { s with regs := regs } := by
    rcases s.route_state k.src.toNat k (ownEntry k).onCtl with h | ⟨v, u, h⟩
    · exact ⟨s.regs, h⟩
    · exact ⟨_, h⟩
  have hr : ∃ st, r = { s with regs := regs, net := { s.net with staging := st } } := ⟨_, by simp only [r, hregs]; rfl⟩
  clear_value r
  obtain ⟨st, rfl⟩ := hr
  split <;> exact ⟨_, st, rfl⟩

theorem State.entered_frame : ∃ regs net, s.entered k = { s with regs := regs, net := net } ∧
    net.flights = s.net.flights ++ [s.flightOf k] ∧ net.nextId = s.net.nextId + 1 := by
  obtain ⟨regs, st, h⟩ := s.countedOut_frame k
  unfold State.entered
  extract_lets t
  have ht : ∃ net, t = { s with regs := regs, net := net } ∧ net.flights = s.net.flights ++ [s.flightOf k] ∧
      net.nextId = s.net.nextId + 1 := by
    refine ⟨_, by simp only [t, h]; rfl, ?_, rfl⟩
    rfl
  clear_value t
  obtain ⟨net, rfl, hfl, hid⟩ := ht
  split
  · exact ⟨_, net, State.countTile_frame _ _ _ _ _ _, hfl, hid⟩
  · exact ⟨regs, net, rfl, hfl, hid⟩

/-- The source's counter of the tag's parity is one higher once the packet is in the network. -/
theorem State.entered_inflight (hc : countsInflight k.src.toNat = true) (hop : k.op = 1) (ht : s.takes k = true) :
    (s.entered k).rd (inflightFld k.src.toNat k.tag.toNat) (inflightUnit k.src.toNat) =
      s.rd (inflightFld k.src.toNat k.tag.toNat) (inflightUnit k.src.toNat) + 1 := by
  obtain ⟨f, hf⟩ : ∃ f, f = inflightFld k.src.toNat k.tag.toNat := ⟨_, rfl⟩
  have hroom : s.rd f (inflightUnit k.src.toNat) + 1 < 2 ^ f.width := by
    have hcount : k.counted = true := by simp [Packet.counted, hop]
    have hm : s.mayCount k.src.toNat k 1 = true := by
      simp only [State.takes, Bool.and_eq_true] at ht
      exact ht.1.2
    rw [hf, inflightFld_width]
    simpa [State.mayCount, hcount, hc] using hm
  have hap : ∀ {g : Fld}, inflightFlds.all (fun f => f.apart g) = true → f.apart g = true :=
    fun h => hf ▸ inflightFld_apart _ _ h
  have hroute : (s.route k.src.toNat k (ownEntry k).onCtl).s.rd f (inflightUnit k.src.toNat) =
      s.rd f (inflightUnit k.src.toNat) := by
    rcases s.route_state k.src.toNat k (ownEntry k).onCtl with h | ⟨v, u, h⟩ <;> rw [h]
    exact State.rd_wr_apart _ _ _ _ _ _ (hap (by decide))
  have hout : (s.countedOut k).rd f (inflightUnit k.src.toNat) = s.rd f (inflightUnit k.src.toNat) + 1 := by
    unfold State.countedOut State.addInflight
    extract_lets r
    have hr : r.rd f (inflightUnit k.src.toNat) = s.rd f (inflightUnit k.src.toNat) := hroute
    have hif : (if isCoreAgent k.src.toNat then r.inc F.CORE_SPK_CNT_PKT 1 k.src.toNat else r).rd f
        (inflightUnit k.src.toNat) = s.rd f (inflightUnit k.src.toNat) := by
      split
      · rw [State.rd_inc_apart _ _ _ _ _ _ (hap (by decide)), hr]
      · exact hr
    rw [← hf, hif, State.rd_wr_of_lt _ _ _ _ hroom]
  rw [← hf, ← hout]
  unfold State.entered
  extract_lets t
  have hrd : t.rd f (inflightUnit k.src.toNat) = (s.countedOut k).rd f (inflightUnit k.src.toNat) := rfl
  clear_value t
  split
  · rw [State.countTile_rd _ _ _ _ _ _ _ _ ?_, hrd]
    rw [hf]
    have hall : ∀ g ∈ inflightFlds, g.apartFrom intakeFlds = true := by decide
    exact hall _ (inflightFld_mem _ _)
  · exact hrd

end

section
variable {s : State}

theorem State.tinderInject_none (h : s.promote.tinder.ready = []) : s.tinderInject = s := by
  unfold State.tinderInject
  extract_lets s0
  have h0 : s0.tinder.ready = [] := h
  rw [h0]

/-- The state without the event that Tinder injects. -/
def State.eventTaken (s : State) (rest : List TinEvent) : State :=
  { s.promote with tinder := { s.promote.tinder with ready := rest } }

theorem State.tinderInject_due {e : TinEvent} {rest : List TinEvent} (h : s.promote.tinder.ready = e :: rest) :
    s.tinderInject = if (s.eventTaken rest).inject e.pkt = s.eventTaken rest then s else (s.eventTaken rest).inject e.pkt := by
  unfold State.tinderInject
  extract_lets s0
  have h0 : s0.tinder.ready = e :: rest := h
  rw [h0]
  rfl

end

/-- Settles O19: drops, NO_AGENT, counted injections, and Tinder's events. -/
theorem injectionsCountDropOrEnter : Obligations.InjectionsCountDropOrEnter := by
  unfold Obligations.InjectionsCountDropOrEnter
  intro s
  simp only [exec_packetInject, exec_tinderInject]
  refine ⟨fun k hs => ⟨fun hr he => ⟨_, rfl, ?_⟩, fun i hr h15 h1 hn hb ha he hl hi => ?_, fun hr hop hb ha hc =>
    ⟨fun ht => ⟨_, rfl, ?_⟩, fun ht => ?_⟩⟩, fun h => by rw [State.tinderInject_none h],
    fun e rest h => ⟨fun he => ?_, fun he => ?_, fun hs hop hsrc hb hr ha ht => ?_⟩⟩
  · rw [State.inject_reserved hr, State.entry_of_unstaged hs, State.injectDrop_edge he]
    exact ⟨State.rd_inc .., rfl, rfl, rfl⟩
  · have hn' : (withTid k i).nonPosted = true := hn
    rw [State.inject_no_agent hs hr h15 h1 hn hb ha hl hi, State.entry_of_unstaged hs]
    unfold State.injectNack
    rw [State.track_request hn', if_neg (by rw [ownEntry, he]; decide)]
    exact ⟨_, ownTid (ownEntry k) (withTid k i) 1, rfl, rfl, rfl, rfl, rfl, rfl, rfl⟩
  · obtain ⟨regs, net, h, hfl, hid⟩ := s.entered_frame k
    rw [State.inject_spike hs hr hop hb ha hc, if_pos ht]
    refine ⟨s.entered_inflight k hc hop ht, ?_, ?_, ?_⟩ <;> rw [h]
    · exact hfl
    · exact hid
  · rw [State.inject_spike hs hr hop hb ha hc, if_neg (by simp [ht])]
  · rw [State.tinderInject_due h]
    exact congrArg _ (if_pos he)
  · rw [State.tinderInject_due h]
    exact congrArg _ (if_neg he)
  · have hc : countsInflight e.pkt.src.toNat = true := by rw [hsrc]; rfl
    have hin : (s.eventTaken rest).inject e.pkt = (s.eventTaken rest).entered e.pkt :=
      (State.inject_spike (s := s.eventTaken rest) hs hr hop hb ha hc).trans (if_pos ht)
    obtain ⟨regs, net, hfr, hfl, hid⟩ := (s.eventTaken rest).entered_frame e.pkt
    have hinf := (s.eventTaken rest).entered_inflight e.pkt hc hop ht
    have hne : (s.eventTaken rest).inject e.pkt ≠ s.eventTaken rest := by
      intro heq
      have hlen := congrArg (fun u => u.net.flights.length) (hin.symm.trans heq)
      simp only [hfr, hfl, List.length_append, List.length_singleton] at hlen
      omega
    refine ⟨_, by rw [State.tinderInject_due h, if_neg hne, hin], ?_, ?_, ?_, ?_⟩
    · rw [hfr]; rfl
    · rw [hfr]; exact hfl
    · rw [hsrc] at hinf; exact hinf
    · rw [hfr]; rfl

end Sys2Proof.Machine
end

section
/-! What the place and the way of a landing token depend on (07_event_network.md R198, 14_bringup_loading_spares.md R384,
R398), and what a core's record holds after a change. -/
namespace Sys2Proof.Machine

/-- The register fields that say which tile holds which core and which columns are retired. -/
def placeFlds : List Fld := [F.SPARE_MAP_TILE, F.SPARE_STAT_COL_RETIRED, F.SPARE_STAT_COLUMN]

/-- The fuses and the map of the array are the same in both states. -/
def SameMap (s t : State) : Prop := t.fuse = s.fuse ∧ ∀ f ∈ placeFlds, ∀ u i, t.rd f u i = s.rd f u i

section
variable {s t u : State}

theorem SameMap.refl (s : State) : SameMap s s := ⟨rfl, fun _ _ _ _ => rfl⟩

theorem SameMap.trans (h : SameMap s t) (h' : SameMap t u) : SameMap s u :=
  ⟨h'.1.trans h.1, fun f hf c i => (h'.2 f hf c i).trans (h.2 f hf c i)⟩

theorem SameMap.wr (h : SameMap s t) (f : Fld) (v c i : Nat) (hf : placeFlds.all (fun g => g.apart f) = true) :
    SameMap s (t.wr f v c i) :=
  ⟨h.1, fun g hg c' i' => (State.rd_wr_apart _ _ _ _ _ _ (List.all_eq_true.mp hf g hg)).trans (h.2 g hg c' i')⟩

theorem SameMap.inc (h : SameMap s t) (f : Fld) (n c i : Nat) (hf : placeFlds.all (fun g => g.apart f) = true) :
    SameMap s (t.inc f n c i) :=
  h.wr f _ c i hf

theorem SameMap.top (h : SameMap s t) (f : Fld) (v c i : Nat) (hf : placeFlds.all (fun g => g.apart f) = true) :
    SameMap s (t.top f v c i) :=
  h.wr f _ c i hf

/-- A change beside the registers and the fuses. -/
theorem SameMap.of_eq (h : SameMap s t) (hr : u.regs = t.regs) (hf : u.fuse = t.fuse) : SameMap s u :=
  ⟨hf.trans h.1, fun f hm c i => (State.rd_of_regs hr f c i).trans (h.2 f hm c i)⟩

theorem SameMap.mapOf (h : SameMap s t) (e n : Nat) : t.mapOf e n = s.mapOf e n := h.2 _ (by simp [placeFlds]) _ _

theorem SameMap.tileOf (h : SameMap s t) (n : Nat) : t.tileOf n = s.tileOf n := h.mapOf _ _

theorem SameMap.gatewayTile (h : SameMap s t) (g : Nat) : t.gatewayTile g = s.gatewayTile g := by
  have hr : t.retired = s.retired := funext fun p => by
    rw [State.retired, State.retired, State.on, State.on, h.2 F.SPARE_STAT_COL_RETIRED (by simp [placeFlds]),
      h.2 F.SPARE_STAT_COLUMN (by simp [placeFlds])]
  simp only [State.gatewayTile, hr]

theorem SameMap.rows (h : SameMap s t) : t.rows = s.rows := by
  have he : t.engineOn = s.engineOn := funext fun e => by rw [State.engineOn, State.engineOn, h.1]
  rw [State.rows, State.rows, State.engines, State.engines, he]

theorem SameMap.agentTile (h : SameMap s t) (a : Nat) : t.agentTile a = s.agentTile a := by
  rw [State.agentTile, State.agentTile, h.gatewayTile, h.tileOf]

theorem SameMap.placeOf (h : SameMap s t) (a : Nat) : t.placeOf a = s.placeOf a := by
  rw [State.placeOf, State.placeOf, h.agentTile]

theorem SameMap.tokenOut (h : SameMap s t) (place a : Nat) : t.tokenOut place a = s.tokenOut place a := by
  unfold State.tokenOut State.destTile
  rw [h.rows, h.mapOf, h.gatewayTile, h.gatewayTile]

/-- A token sent from the same place in a state of the same map meets the same tokens there. -/
theorem SameMap.tokenFor_tokens (h : SameMap s t) (hn : t.net.tokens = s.net.tokens) (place : Nat) (k : Packet) :
    (t.tokenFor place k).net.tokens = (s.tokenFor place k).net.tokens := by
  have hsend (u : State) : (u.tokenFor place k).net.tokens = addToken u.net.tokens place
      (u.tokenOut place k.src.toNat) k.src.toNat (bit k.tag.toNat 0) := by
    unfold State.tokenFor State.sendToken
    extract_lets net s1
    split <;> rfl
  rw [hsend, hsend, hn, h.tokenOut]

end

section
variable (s : State) (n : Nat) (f : CoreSt → CoreSt)

@[simp] theorem State.core_onCore_self : (s.onCore n f).core n = f (s.core n) := State.core_setCore_self ..

theorem State.core_onCore_ne {m : Nat} (h : m ≠ n) : (s.onCore n f).core m = s.core m := State.core_setCore_ne _ _ h

theorem State.core_of_cores {s t : State} (h : t.cores = s.cores) (m : Nat) : t.core m = s.core m := by
  unfold State.core; rw [h]

end

section
variable (s : State) (place : Nat) (k : Packet)

theorem State.tokenFor_core (m : Nat) : (s.tokenFor place k).core m = s.core m := by
  obtain ⟨regs, tokens, h⟩ := s.tokenFor_frame place k
  rw [h]; rfl

theorem State.tokenFor_mem : (s.tokenFor place k).mem = s.mem := by
  obtain ⟨regs, tokens, h⟩ := s.tokenFor_frame place k
  rw [h]

theorem State.tokenFor_cores : (s.tokenFor place k).cores = s.cores := by
  obtain ⟨regs, tokens, h⟩ := s.tokenFor_frame place k
  rw [h]

theorem State.tokenFor_flips : (s.tokenFor place k).flips = s.flips := by
  obtain ⟨regs, tokens, h⟩ := s.tokenFor_frame place k
  rw [h]

end

/-- A drop counts in one register of the place where the packet came in. -/
theorem State.dropArrived_cases (s : State) (a : Nat) (k : Packet) : s.dropArrived a k = s ∨
    ∃ f ∈ [F.FOX_PV_ERR_DROP_CNT, F.FOX_ES_PV_ERR_DROP_CNT], ∃ u i, s.dropArrived a k = s.inc f 1 u i := by
  have hat (tile port vc : Nat) : s.dropAt tile port vc = s ∨
      ∃ f ∈ [F.FOX_PV_ERR_DROP_CNT, F.FOX_ES_PV_ERR_DROP_CNT], ∃ u i, s.dropAt tile port vc = s.inc f 1 u i := by
    unfold State.dropAt
    split
    · exact .inr ⟨_, by simp, _, _, rfl⟩
    · exact .inl rfl
  unfold State.dropArrived
  extract_lets c
  split
  · split
    · exact hat _ _ _
    · exact .inr ⟨_, by simp, _, _, rfl⟩
  · split
    · exact hat _ _ _
    · exact .inr ⟨_, by simp, _, _, rfl⟩

theorem State.dropArrived_frame (s : State) (a : Nat) (k : Packet) :
    s.dropArrived a k = { s with regs := (s.dropArrived a k).regs } := by
  rcases s.dropArrived_cases a k with h | ⟨f, -, u, i, h⟩ <;> rw [h]
  rfl

theorem State.dropArrived_sameMap (s : State) (a : Nat) (k : Packet) : SameMap s (s.dropArrived a k) := by
  rcases s.dropArrived_cases a k with h | ⟨f, hf, u, i, h⟩ <;> rw [h]
  · exact SameMap.refl s
  · refine (SameMap.refl s).inc f 1 u i ?_
    have hall : ∀ f ∈ [F.FOX_PV_ERR_DROP_CNT, F.FOX_ES_PV_ERR_DROP_CNT], placeFlds.all (fun g => g.apart f) = true := by
      decide
    exact hall f hf

end Sys2Proof.Machine
end

section
/-! RACC_ARRIVE (02_time_and_ordering.md R54, R61, 03_neuron_cores.md R93, 07_event_network.md R191, R218). -/
namespace Sys2Proof.Machine

theorem exec_raccArrive (s : State) (n : Nat) (k : Packet) : exec (.raccArrive n k) s = .next (s.raccArrive n k) := rfl

/-- Without the pair the overload log takes nothing. -/
theorem State.overload_of_alone {s : State} (h : s.mirroring = false) (e : Overload) (l : Nat) : s.overload e l = s := by
  unfold State.overload
  exact if_pos (by simp [h])

section
variable {s : State} {n : Nat} {k : Packet}

theorem State.dropPosted_effect (s : State) (n : Nat) (k : Packet) :
    (s.dropPosted n k).net.tokens = (s.tokenFor (s.placeOf n) k).net.tokens ∧ (s.dropPosted n k).cores = s.cores ∧
      (s.dropPosted n k).mem = s.mem := by
  unfold State.dropPosted
  obtain ⟨d, hd⟩ : ∃ d, d = s.dropArrived n k := ⟨_, rfl⟩
  have hf := s.dropArrived_frame n k
  have hm : SameMap s (d.taken n k) := (s.dropArrived_sameMap n k).of_eq (by rw [hd]; rfl) (by rw [hd]; rfl)
  rw [← hd] at hf ⊢
  refine ⟨hm.tokenFor_tokens ?_ _ k, (State.tokenFor_cores ..).trans ?_, (State.tokenFor_mem ..).trans ?_⟩ <;> rw [hf]
  · rfl
  · rfl
  · rfl

theorem State.raccArrive_off_core (hc : isCoreAgent n = false) :
    s.raccArrive n k = if s.agentOn n && n != agAsh then s.dropPosted n k else s := by
  unfold State.raccArrive
  exact if_pos (by simp [hc])

theorem State.raccArrive_asleep (hc : isCoreAgent n = true) (ha : s.awake n = false) : s.raccArrive n k = s := by
  unfold State.raccArrive
  rw [if_neg (by simp [hc]), if_pos (by simp [ha])]

theorem State.raccArrive_fenced (hc : isCoreAgent n = true) (ha : s.awake n = true)
    (hf : s.on F.CORE_STAT_FENCED n = true) : s.raccArrive n k = s.dropPosted n k := by
  unfold State.raccArrive
  rw [if_neg (by simp [hc]), if_neg (by simp [ha]), if_pos (by simp [hf])]

theorem State.placeOf_core (hc : isCoreAgent n = true) : s.placeOf n = s.tileOf n := by
  have he : isEngineAgent n = false := by
    simp only [isCoreAgent, decide_eq_true_eq] at hc
    simp [isEngineAgent]
    omega
  unfold State.placeOf State.agentTile inArray
  rw [hc, he]; rfl

/-- The state with an operation at the landing port of core `n`. -/
def State.landed (s : State) (n : Nat) (k : Packet) (carried : Bool) (came : Nat × Nat) : State :=
  s.onCore n (fun c => { c with landing := c.landing ++ [⟨k, carried, came.1, came.2⟩] })

/-- What becomes of an operation at a core by its fate, without the pair. -/
def State.fated (s : State) (n : Nat) (k : Packet) (came : Nat × Nat) : Fate → State
  | .land => s.landed n k false came
  | .den => s.denPut n k k.tag.toNat came
  | .full => ((s.lateAt n).inc F.FOX_DEN_STAT_OVF_CNT 1 (s.tileOf n)).landed n k true came
  | .late => (s.lateAt n).landed n k true came
  | .shed => (s.shedAt n).tokenFor (s.tileOf n) k

theorem State.lateAt_mirroring (s : State) (n : Nat) : (s.lateAt n).mirroring = s.mirroring :=
  State.on_of_rd ((State.rd_of_regs rfl F.PAIR_CFG_MIRROR_EN 0 0).trans
    (State.rd_inc_apart (f := F.CORE_OVL_CNT_LATE_CNT) s 1 n 0 0 0 (by decide)))

theorem State.shedAt_mirroring (s : State) (n : Nat) : (s.shedAt n).mirroring = s.mirroring :=
  State.on_of_rd ((State.rd_of_regs rfl F.PAIR_CFG_MIRROR_EN 0 0).trans
    (State.rd_inc_apart (f := F.CORE_OVL_CNT_SHED_CNT) s 1 n 0 0 0 (by decide)))

theorem State.misplaced_of_alone (hm : s.mirroring = false) : ∀ x : Fate, s.misplaced n k x = match x with
    | .full => (s.lateAt n).inc F.FOX_DEN_STAT_OVF_CNT 1 (s.tileOf n)
    | .late => s.lateAt n
    | .shed => s.shedAt n
    | _ => s := by
  have hl : (s.lateAt n).mirroring = false := (s.lateAt_mirroring n).trans hm
  have hs : (s.shedAt n).mirroring = false := (s.shedAt_mirroring n).trans hm
  have ho : ((s.lateAt n).inc F.FOX_DEN_STAT_OVF_CNT 1 (s.tileOf n)).mirroring = false :=
    (State.on_of_rd (State.rd_inc_apart _ _ _ _ _ _ (by decide))).trans hl
  rintro ⟨⟩
  · rfl
  · rfl
  · exact State.overload_of_alone ho _ _
  · exact State.overload_of_alone hl _ _
  · exact State.overload_of_alone hs _ _

theorem State.raccArrive_awake (hop : k.op = 1) (hlen : k.len = 0) (hc : isCoreAgent n = true) (ha : s.awake n = true)
    (hf : s.on F.CORE_STAT_FENCED n = false) (hp : s.rd F.PAIR_STAT_PHASE ≠ 2) (hm : s.mirroring = false) :
    s.raccArrive n k = (s.taken n k).fated n k (s.cameIn n k) (s.fate n k.tag.toNat k.flits) := by
  have hj : s.judge n k = (k.tag.toNat, s.fate n k.tag.toNat k.flits, s) := by
    have hr : s.replayed n k = none := if_neg hp
    unfold State.judge; rw [hr]
  have hmis := State.misplaced_of_alone (s := s.taken n k) (n := n) (k := k) hm
  unfold State.raccArrive
  rw [if_neg (by simp [hc]), if_neg (by simp [ha]), if_neg (by simp [hf, hop, hlen]), hj]
  dsimp only
  rw [hmis]
  cases s.fate n k.tag.toNat k.flits with
  | land =>
    dsimp only
    rw [bne_self_eq_false]
    rfl
  | den => rfl
  | full => rfl
  | late => rfl
  | shed => rfl

end

section
variable (s : State) (n : Nat) (k : Packet) (came : Nat × Nat) (carried : Bool)

theorem State.landed_core : (s.landed n k carried came).core n =
    { s.core n with landing := (s.core n).landing ++ [⟨k, carried, came.1, came.2⟩] } := by
  unfold State.landed
  rw [State.core_onCore_self]

theorem State.landed_core_ne {m : Nat} (h : m ≠ n) : (s.landed n k carried came).core m = s.core m :=
  State.core_onCore_ne _ _ _ h

/-- The core's record after a late operation was counted. -/
theorem State.lateAt_core : (s.lateAt n).core n = { s.core n with lateFrame := (s.core n).lateFrame + 1 } :=
  State.core_onCore_self (s.inc F.CORE_OVL_CNT_LATE_CNT 1 n) n _

theorem State.lateAt_core_ne {m : Nat} (h : m ≠ n) : (s.lateAt n).core m = s.core m := by
  unfold State.lateAt
  rw [State.core_onCore_ne _ _ _ h, State.core_of_cores (State.inc_cores ..)]

theorem State.lateAt_count : (s.lateAt n).rd F.CORE_OVL_CNT_LATE_CNT n = min (s.rd F.CORE_OVL_CNT_LATE_CNT n + 1) 65535 :=
  State.rd_inc s F.CORE_OVL_CNT_LATE_CNT 1 n 0

theorem State.shedAt_core : (s.shedAt n).core n = { s.core n with shedFrame := (s.core n).shedFrame + 1 } :=
  State.core_onCore_self (s.inc F.CORE_OVL_CNT_SHED_CNT 1 n) n _

theorem State.shedAt_count : (s.shedAt n).rd F.CORE_OVL_CNT_SHED_CNT n = min (s.rd F.CORE_OVL_CNT_SHED_CNT n + 1) 65535 :=
  State.rd_inc s F.CORE_OVL_CNT_SHED_CNT 1 n 0

/-- The state with an operation in the Den, before its token is sent. -/
def State.denHeld : State :=
  let t := s.onCore n (fun c => { c with den := c.den ++ [⟨k, false, came.1, came.2⟩] })
  t.top F.FOX_DEN_STAT_MAX_OCC (t.denFlits n) (s.tileOf n)

theorem State.denPut_own : s.denPut n k k.tag.toNat came = (s.denHeld n k came).tokenFor (s.tileOf n) k := by
  have hk : ({ k with tag := BitVec.ofNat 6 k.tag.toNat } : Packet) = k := by rw [BitVec.ofNat_toNat, BitVec.setWidth_eq]
  unfold State.denPut State.denHeld
  rw [hk]

theorem State.denHeld_core : (s.denHeld n k came).core n =
    { s.core n with den := (s.core n).den ++ [⟨k, false, came.1, came.2⟩] } := by
  unfold State.denHeld
  extract_lets t
  rw [State.core_of_cores (State.top_cores ..), State.core_onCore_self]

theorem State.denHeld_core_ne {m : Nat} (h : m ≠ n) : (s.denHeld n k came).core m = s.core m := by
  unfold State.denHeld
  extract_lets t
  rw [State.core_of_cores (State.top_cores ..), State.core_onCore_ne _ _ _ h]

theorem State.denHeld_sameMap : SameMap s (s.denHeld n k came) :=
  ((SameMap.refl s).of_eq (u := s.onCore n (fun c => { c with den := c.den ++ [⟨k, false, came.1, came.2⟩] })) rfl
    rfl).top F.FOX_DEN_STAT_MAX_OCC _ _ _ (by decide)

theorem State.shedAt_sameMap : SameMap s (s.shedAt n) :=
  ((SameMap.refl s).inc F.CORE_OVL_CNT_SHED_CNT 1 n 0 (by decide)).of_eq rfl rfl

/-- What no fate of an operation changes. -/
theorem State.fated_keeps (x : Fate) : (s.fated n k came x).mem = s.mem ∧
    ∀ m, m ≠ n → (s.fated n k came x).core m = s.core m := by
  cases x with
  | land => exact ⟨rfl, fun m h => State.landed_core_ne _ _ _ _ _ h⟩
  | den =>
    have hd : s.fated n k came .den = (s.denHeld n k came).tokenFor (s.tileOf n) k := s.denPut_own n k came
    rw [hd]
    exact ⟨State.tokenFor_mem .., fun m h => (State.tokenFor_core ..).trans (s.denHeld_core_ne n k came h)⟩
  | full =>
    refine ⟨rfl, fun m h => (State.landed_core_ne _ _ _ _ _ h).trans ?_⟩
    rw [State.core_of_cores (State.inc_cores ..), State.lateAt_core_ne _ _ h]
  | late => exact ⟨rfl, fun m h => (State.landed_core_ne _ _ _ _ _ h).trans (s.lateAt_core_ne n h)⟩
  | shed =>
    exact ⟨State.tokenFor_mem .., fun m h => (State.tokenFor_core ..).trans
      (State.core_onCore_ne (s.inc F.CORE_OVL_CNT_SHED_CNT 1 n) _ _ h)⟩

end

section
variable {s : State} {n tag flits : Nat}

theorem State.fate_land (h : s.ahead tag = 1) : s.fate n tag flits = .land := by
  unfold State.fate
  exact if_pos h

theorem State.fate_den (h2 : 2 ≤ s.ahead tag) (h16 : s.ahead tag ≤ 16) (hr : s.denFlits n + flits ≤ 256) :
    s.fate n tag flits = .den := by
  unfold State.fate
  extract_lets d
  rw [if_neg (by omega), if_pos ⟨h2, h16⟩, if_pos hr]

theorem State.fate_full (h2 : 2 ≤ s.ahead tag) (h16 : s.ahead tag ≤ 16) (hr : 256 < s.denFlits n + flits) :
    s.fate n tag flits = .full := by
  unfold State.fate
  extract_lets d
  rw [if_neg (by omega), if_pos ⟨h2, h16⟩, if_neg (by omega)]

theorem State.fate_past (h : s.ahead tag = 0 ∨ 17 ≤ s.ahead tag) :
    s.fate n tag flits = if s.on F.TIME_CTRL_POLICY then .shed else .late := by
  unfold State.fate
  extract_lets d
  rw [if_neg (by omega), if_neg (by omega)]

end

/-- Settles O21: agents, cores that sleep or are fenced, and the five fates of an operation at a core. -/
theorem operationsLandWaitOrAreLate : Obligations.OperationsLandWaitOrAreLate := by
  unfold Obligations.OperationsLandWaitOrAreLate
  intro s n k hop hlen
  simp only [exec_raccArrive]
  refine ⟨fun hc ha => by rw [State.raccArrive_asleep hc ha], fun hc => ⟨fun h => ?_, fun hon hne => ⟨_, rfl, ?_⟩⟩,
    fun hc ha hf => ⟨_, rfl, ?_⟩, fun hc ha hf hp hm => ⟨_, rfl, ?_⟩⟩
  · rw [State.raccArrive_off_core hc, if_neg (by rcases h with h | h <;> simp [h])]
  · rw [State.raccArrive_off_core hc, if_pos (by simp [hon, hne])]
    exact State.dropPosted_effect s n k
  · rw [State.raccArrive_fenced hc ha hf, ← State.placeOf_core hc]
    exact State.dropPosted_effect s n k
  · rw [State.raccArrive_awake hop hlen hc ha hf hp hm]
    obtain ⟨u, hu⟩ : ∃ u, u = s.taken n k := ⟨_, rfl⟩
    have hcore (m : Nat) : u.core m = s.core m := by rw [hu]; rfl
    have hrd (f : Fld) (c : Nat) : u.rd f c = s.rd f c := by rw [hu]; rfl
    have htile : u.tileOf n = s.tileOf n := by rw [hu]; rfl
    have htok : u.net.tokens = s.net.tokens := by rw [hu]; rfl
    have hmem : u.mem = s.mem := by rw [hu]; rfl
    have hmap : SameMap s u := (SameMap.refl s).of_eq (by rw [hu]; rfl) (by rw [hu]; rfl)
    rw [← hu]
    obtain ⟨hkm, hkc⟩ := u.fated_keeps n k (s.cameIn n k) (s.fate n k.tag.toNat k.flits)
    refine ⟨hkm.trans hmem, fun m h => (hkc m h).trans (hcore m), fun hd => ?_, fun h2 h16 hr => ?_, fun h2 h16 hr => ?_,
      fun hd hpol => ?_, fun hd hpol => ?_⟩
    · rw [State.fate_land hd, ← hcore, ← hrd, ← htok]
      have hcr := u.landed_core n k (s.cameIn n k) false
      have hland : u.fated n k (s.cameIn n k) .land = u.landed n k false (s.cameIn n k) := rfl
      rw [hland, hcr]
      exact ⟨rfl, rfl, rfl, rfl⟩
    · have hden : u.fated n k (s.cameIn n k) .den = (u.denHeld n k (s.cameIn n k)).tokenFor (u.tileOf n) k :=
        u.denPut_own n k _
      rw [State.fate_den h2 h16 hr, hden, State.tokenFor_core, State.denHeld_core, htile, hcore]
      exact ⟨rfl, rfl, (hmap.trans (u.denHeld_sameMap n k _)).tokenFor_tokens htok _ _⟩
    · rw [State.fate_full h2 h16 hr, ← hcore, ← hrd, ← hrd, ← htok, ← htile]
      obtain ⟨v, hv⟩ : ∃ v, v = (u.lateAt n).inc F.FOX_DEN_STAT_OVF_CNT 1 (u.tileOf n) := ⟨_, rfl⟩
      have hfull : u.fated n k (s.cameIn n k) .full = v.landed n k true (s.cameIn n k) := by rw [hv]; rfl
      have hvc : v.core n = { u.core n with lateFrame := (u.core n).lateFrame + 1 } := by
        rw [hv, State.core_of_cores (State.inc_cores ..), State.lateAt_core]
      have hcr := v.landed_core n k (s.cameIn n k) true
      rw [hvc] at hcr
      rw [hfull, hcr]
      refine ⟨rfl, rfl, ?_, ?_, ?_⟩
      · have h : v.rd F.CORE_OVL_CNT_LATE_CNT n = (u.lateAt n).rd F.CORE_OVL_CNT_LATE_CNT n := by
          rw [hv, State.rd_inc_apart _ _ _ _ _ _ (by decide)]
        exact h.trans (u.lateAt_count n)
      · have h : v.rd F.FOX_DEN_STAT_OVF_CNT (u.tileOf n) = min (u.rd F.FOX_DEN_STAT_OVF_CNT (u.tileOf n) + 1) 16383 := by
          have hl : (u.lateAt n).rd F.FOX_DEN_STAT_OVF_CNT (u.tileOf n) = u.rd F.FOX_DEN_STAT_OVF_CNT (u.tileOf n) :=
            State.rd_inc_apart (f := F.CORE_OVL_CNT_LATE_CNT) u 1 n 0 _ 0 (by decide)
          rw [hv, State.rd_inc, hl]; rfl
        exact h
      · change v.net.tokens = u.net.tokens
        rw [hv]; rfl
    · rw [State.fate_past hd, hpol, if_neg Bool.false_ne_true, ← hcore, ← hrd, ← htok]
      have hlate : u.fated n k (s.cameIn n k) .late = (u.lateAt n).landed n k true (s.cameIn n k) := rfl
      have hcr := (u.lateAt n).landed_core n k (s.cameIn n k) true
      rw [State.lateAt_core] at hcr
      rw [hlate, hcr]
      exact ⟨rfl, rfl, u.lateAt_count n⟩
    · rw [State.fate_past hd, hpol, if_pos rfl, ← hcore, ← hrd]
      have hshed : u.fated n k (s.cameIn n k) .shed = (u.shedAt n).tokenFor (u.tileOf n) k := rfl
      rw [hshed, State.tokenFor_core, State.shedAt_core, State.tokenFor_rd _ _ _ _ _ (by decide), State.shedAt_count, htile]
      exact ⟨rfl, rfl, (hmap.trans (u.shedAt_sameMap n)).tokenFor_tokens htok _ _⟩

end Sys2Proof.Machine
end

section
/-! A 32-bit half of a word after a change of one half. -/
namespace Sys2Proof.Machine

section
variable (w : Word) {h : Nat} (v : Nat)

theorem half_eq (h : Nat) : half w h = w.toNat / 2 ^ (32 * h) % 2 ^ 32 := by
  unfold half bits
  rw [show 32 * h + 31 + 1 - 32 * h = 32 by omega]

theorem setHalf_zero_toNat : (setHalf w 0 v).toNat = v % 2 ^ 32 + w.toNat / 2 ^ 32 * 2 ^ 32 := by
  have hw := w.isLt
  unfold setHalf putBits
  rw [BitVec.toNat_ofNat]
  omega

theorem setHalf_one_toNat : (setHalf w 1 v).toNat = w.toNat % 2 ^ 32 + v % 2 ^ 32 * 2 ^ 32 := by
  have hw := w.isLt
  unfold setHalf putBits
  rw [BitVec.toNat_ofNat]
  omega

theorem half_setHalf_self (hh : h < 2) : half (setHalf w h v) h = v % 2 ^ 32 := by
  rw [half_eq]
  interval_cases h
  · rw [setHalf_zero_toNat]; omega
  · rw [setHalf_one_toNat]; omega

theorem half_setHalf_other (hh : h < 2) : half (setHalf w h v) (1 - h) = half w (1 - h) := by
  have hw := w.isLt
  rw [half_eq, half_eq]
  interval_cases h
  · rw [setHalf_zero_toNat]; omega
  · rw [setHalf_one_toNat]; omega

end

end Sys2Proof.Machine
end

section
/-! A core's SRAM: what a whole-word write does (03_neuron_cores.md R480, 10_memory_system.md R273). -/
namespace Sys2Proof.Machine

section
variable (s : State) (n w : Nat) (v : Word)

theorem State.sramRead_clean {s : State} {n w : Nat} {d : Word} (hw : w < 32768)
    (h : s.decodeAt (sramAddr n w) = .clean d) : s.sramRead n w = (some d, s) := by
  unfold State.sramRead
  rw [if_neg (by omega), h]

theorem State.sramWrite_eq {w : Nat} (hw : w < 32768) : s.sramWrite n w v =
    (s.setWord (sramAddr n w) v).onCore n (fun c => { c with writeback := c.writeback.filter (· != w) }) :=
  if_neg (by omega)

theorem State.byte_of_mem {s t : State} (h : t.mem = s.mem) (a : Nat) : t.byte a = s.byte a := by
  unfold State.byte; rw [h]

theorem State.word_of_mem {s t : State} (h : t.mem = s.mem) (a : Nat) : t.word a = s.word a :=
  State.word_of_byte fun _ _ => State.byte_of_mem h _

theorem State.flip_of_flips {s t : State} (h : t.flips = s.flips) (a : Nat) : t.flip a = s.flip a := by
  unfold State.flip; rw [h]

theorem State.sramWrite_mem {w : Nat} (hw : w < 32768) : (s.sramWrite n w v).mem = (s.setWord (sramAddr n w) v).mem := by
  rw [State.sramWrite_eq _ _ _ hw]
  rfl

theorem State.sramWrite_flips {w : Nat} (hw : w < 32768) :
    (s.sramWrite n w v).flips = (s.setWord (sramAddr n w) v).flips := by
  rw [State.sramWrite_eq _ _ _ hw]
  rfl

theorem State.sramWrite_byte {w a : Nat} (hw : w < 32768) (h : a < sramAddr n w ∨ sramAddr n w + 8 ≤ a) :
    (s.sramWrite n w v).byte a = s.byte a := by
  rw [State.byte_of_mem (s.sramWrite_mem n v hw)]
  exact State.byte_setWord_of_outside s v h

theorem State.sramWrite_flip {w : Nat} (hw : w < 32768) : (s.sramWrite n w v).flip (sramAddr n w) = 0 := by
  rw [State.flip_of_flips (s.sramWrite_flips n v hw)]
  exact State.flip_setWord_self ..

theorem State.sramWrite_word {w : Nat} (hw : w < 32768) : (s.sramWrite n w v).word (sramAddr n w) = v := by
  rw [State.word_of_mem (s.sramWrite_mem n v hw)]
  exact State.word_setWord_self ..

end

/-- An addend to a landing accumulator in a clean word is one write of that word. -/
theorem Port.addLand_clean {s : State} {n b j : Nat} {d : Word} (v : Int) (hw : s.landWord n b j < 32768)
    (h : s.decodeAt (sramAddr n (s.landWord n b j)) = .clean d) :
    (Port.addLand (Port.start s n) b j v).s = s.sramWrite n (s.landWord n b j)
      (setHalf d (j % 2) (BitVec.ofInt 32 ((half d (j % 2) : Int) + v)).toNat) := by
  obtain ⟨w, hwd⟩ : ∃ w, w = s.landWord n b j := ⟨_, rfl⟩
  unfold Port.addLand Port.modify
  have hr : (Port.start s n).read ((Port.start s n).s.landWord (Port.start s n).n b j) =
      (some d, ⟨s, n, [(w, some d)]⟩) := by
    change (Port.start s n).read (s.landWord n b j) = _
    rw [← hwd] at hw h ⊢
    unfold Port.read
    have h0 : (Port.start s n).seen.lookup w = none := rfl
    rw [h0]
    dsimp only [Port.start]
    rw [State.sramRead_clean hw h]
  rw [hr]
  rfl

theorem ofInt_add_half (w : Word) (h : Nat) (v : Int) :
    (BitVec.ofInt 32 ((half w h : Int) + v)).toNat = (half w h + (BitVec.ofInt 32 v).toNat) % 2 ^ 32 := by
  rw [BitVec.ofInt_add, BitVec.toNat_add, BitVec.ofInt_natCast, BitVec.toNat_ofNat, Nat.mod_add_mod]

end Sys2Proof.Machine
end

section
/-! DEN_RELEASE and SYN_ACCUMULATE (02_time_and_ordering.md R55, 04_synapses_and_arithmetic.md R105, R111, R112). -/
namespace Sys2Proof.Machine

theorem exec_denRelease (s : State) (n : Nat) : exec (.denRelease n) s = .next (s.denRelease n) := rfl
theorem exec_synAccumulate (s : State) (n : Nat) : exec (.synAccumulate n) s = .next (s.synAccumulate n) := rfl

/-- The state whose core `n` has given up an operation of its Den. -/
def State.denTaken (s : State) (n : Nat) (o : Waiting) : State :=
  s.onCore n (fun c => { c with den := dropFirst (fun x => x == o) c.den })

section
variable {s : State} {n : Nat} {o : Waiting}

theorem State.denRelease_none (h : s.denDue n = none) : s.denRelease n = s := by
  unfold State.denRelease
  rw [h]
  exact ite_self s

theorem State.denTaken_core (s : State) (n : Nat) (o : Waiting) :
    (s.denTaken n o).core n = { s.core n with den := dropFirst (fun x => x == o) (s.core n).den } :=
  State.core_onCore_self ..

theorem State.denRelease_spike (hon : s.coreOn n = true) (hd : s.denDue n = some o) (hop : o.pkt.op = 1)
    (hf : s.on F.CORE_STAT_FENCED n = false) : s.denRelease n =
      ((s.denTaken n o).addInflight n o.pkt.tag.toNat 1).onCore n (fun c => { c with denOut := c.denOut ++ [o] }) := by
  unfold State.denRelease
  rw [if_neg (by simp [hon]), hd]
  dsimp only
  rw [if_neg (by simp [hf]), if_pos hop]
  rfl

theorem State.denRelease_fenced (hon : s.coreOn n = true) (hd : s.denDue n = some o) (hop : o.pkt.op = 1)
    (hf : s.on F.CORE_STAT_FENCED n = true) : s.denRelease n =
      (s.denTaken n o).dropAt ((s.denTaken n o).tileOf n) o.port o.vc := by
  unfold State.denRelease
  rw [if_neg (by simp [hon]), hd]
  dsimp only
  rw [if_pos hf]
  exact if_pos hop

theorem State.dropAt_cases (s : State) (tile port vc : Nat) : s.dropAt tile port vc = s ∨
    s.dropAt tile port vc = s.inc F.FOX_PV_ERR_DROP_CNT 1 tile (5 * port + vc) := by
  unfold State.dropAt
  split
  · exact .inr rfl
  · exact .inl rfl

/-- The state in which core `n` has an operation counted on an axon without a row. -/
def State.rowless (s : State) (n : Nat) : State :=
  ((s.act (n / 128) 0 1).inc F.SYN_AXON_CNT_ROWS 1 n).inc F.SYN_AXON_CNT_NOAXON 1 n

theorem State.synapse_no_axon {k : Packet} (h : s.rd F.SYN_AXON_CFG_AXON_COUNT n ≤ k.arg.toNat) :
    s.synapse n k = s.rowless n := by
  have hc : s.opCycles n k.arg.toNat (fun f => activation f k.pay.toNat) = 1 := if_pos h
  have ho (t : State) (ht : t.rd F.SYN_AXON_CFG_AXON_COUNT n ≤ k.arg.toNat) (st : Nat) (act : Nat → Int) :
      ((Port.start t n).operate k.arg.toNat st act).s =
        (t.inc F.SYN_AXON_CNT_ROWS 1 n).inc F.SYN_AXON_CNT_NOAXON 1 n := by
    unfold Port.operate
    extract_lets p0
    have hx : k.arg.toNat ≥ (Port.start t n).s.rd F.SYN_AXON_CFG_AXON_COUNT (Port.start t n).n := ht
    rw [if_pos hx]
    rfl
  unfold State.synapse State.accumulate
  rw [hc]
  exact ho (s.act (n / 128) 0 1) h _ _

theorem State.rowless_rd {f : Fld} (u i : Nat) (h : f.apart F.SYN_AXON_CNT_ROWS = true)
    (h' : f.apart F.SYN_AXON_CNT_NOAXON = true) : (s.rowless n).rd f u i = s.rd f u i := by
  unfold State.rowless
  rw [State.rd_inc_apart _ _ _ _ _ _ h', State.rd_inc_apart _ _ _ _ _ _ h]
  rfl

theorem State.rowless_rows : (s.rowless n).rd F.SYN_AXON_CNT_ROWS n = min (s.rd F.SYN_AXON_CNT_ROWS n + 1) (2 ^ 32 - 1) := by
  unfold State.rowless
  rw [State.rd_inc_apart _ _ _ _ _ _ (by decide), State.rd_inc]
  rfl

theorem State.rowless_noaxon : (s.rowless n).rd F.SYN_AXON_CNT_NOAXON n = min (s.rd F.SYN_AXON_CNT_NOAXON n + 1) 65535 := by
  unfold State.rowless
  rw [State.rd_inc, State.rd_inc_apart _ _ _ _ _ _ (by decide)]
  rfl

theorem State.rowless_sameMap : SameMap s (s.rowless n) :=
  (((SameMap.refl s).of_eq (u := s.act (n / 128) 0 1) rfl rfl).inc F.SYN_AXON_CNT_ROWS 1 n 0 (by decide)).inc
    F.SYN_AXON_CNT_NOAXON 1 n 0 (by decide)

/-- The turn of an operation of a present tag on an axon without a row. -/
theorem State.synTurn_no_axon (h : o.carried = true ∨ s.ahead o.pkt.tag.toNat = 1)
    (hx : s.rd F.SYN_AXON_CFG_AXON_COUNT n ≤ o.pkt.arg.toNat) (fromDen : Bool) : s.synTurn n o fromDen =
      if fromDen then (s.rowless n).subInflight n o.pkt.tag.toNat 1 else (s.rowless n).tokenFor (s.tileOf n) o.pkt := by
  have hp : (o.carried || s.ahead o.pkt.tag.toNat == 1) = true := by
    rcases h with h | h <;> simp [h]
  unfold State.synTurn
  extract_lets k t
  have ht : t = s.rowless n := (if_pos hp).trans (State.synapse_no_axon hx)
  rw [ht]

/-- The state whose core `n` has given up the oldest Den release, and the one that has given up the oldest arrival. -/
def State.outTaken (s : State) (n : Nat) (r : List Waiting) : State := s.onCore n (fun c => { c with denOut := r })
def State.landTaken (s : State) (n : Nat) (r : List Waiting) : State := s.onCore n (fun c => { c with landing := r })

theorem State.synAccumulate_none (hr : (s.core n).recv = []) (ho : (s.core n).denOut = []) (hl : (s.core n).landing = []) :
    s.synAccumulate n = s := by
  unfold State.synAccumulate
  extract_lets c
  rw [show c = s.core n from rfl, hr, ho, hl]

theorem State.synAccumulate_den {r : List Waiting} (hr : (s.core n).recv = []) (ho : (s.core n).denOut = o :: r) :
    s.synAccumulate n = (s.outTaken n r).synTurn n o true := by
  unfold State.synAccumulate
  extract_lets c
  rw [show c = s.core n from rfl, hr, ho]
  rfl

theorem State.synAccumulate_landing {r : List Waiting} (hr : (s.core n).recv = []) (ho : (s.core n).denOut = [])
    (hl : (s.core n).landing = o :: r) : s.synAccumulate n = (s.landTaken n r).synTurn n o false := by
  unfold State.synAccumulate
  extract_lets c
  rw [show c = s.core n from rfl, hr, ho, hl]
  rfl

theorem State.outTaken_core (r : List Waiting) : (s.outTaken n r).core n = { s.core n with denOut := r } :=
  State.core_onCore_self ..

theorem State.landTaken_core (r : List Waiting) : (s.landTaken n r).core n = { s.core n with landing := r } :=
  State.core_onCore_self ..

theorem State.rowless_core : (s.rowless n).core n = s.core n := State.core_of_cores rfl n

end

/-- Settles O22: the releases of the Den, the turns on an axon without a row, and one addend to an accumulator. -/
theorem landedOperationsReachTheirRows : Obligations.LandedOperationsReachTheirRows := by
  unfold Obligations.LandedOperationsReachTheirRows
  intro s n
  simp only [exec_denRelease, exec_synAccumulate]
  refine ⟨fun h => by rw [State.denRelease_none h], fun o hon hd hop => ⟨fun hf => ⟨_, rfl, ?_⟩, fun hf => ⟨_, rfl, ?_⟩⟩,
    fun o r hr ho hc hx => ⟨_, rfl, ?_⟩, fun hr ho hl => ?_, fun k r carried p v hr ho hl hc hx => ⟨_, rfl, ?_⟩,
    fun b j v d hw h => ?_⟩
  · rw [State.denRelease_spike hon hd hop hf]
    obtain ⟨t, ht⟩ : ∃ t, t = (s.denTaken n o).addInflight n o.pkt.tag.toNat 1 := ⟨_, rfl⟩
    have hcore : t.core n = { s.core n with den := dropFirst (fun x => x == o) (s.core n).den } := by
      rw [ht, ← s.denTaken_core n o]; rfl
    have hrd : t.rd (inflightFld n o.pkt.tag.toNat) (inflightUnit n) =
        (s.rd (inflightFld n o.pkt.tag.toNat) (inflightUnit n) + 1) % 2 ^ 20 := by
      rw [ht, ← inflightFld_width n o.pkt.tag.toNat]
      exact State.rd_wr_self ..
    rw [← ht, State.core_onCore_self, hcore]
    refine ⟨rfl, rfl, hrd, ?_, ?_⟩
    · rw [ht]; rfl
    · rw [ht]
      exact ((OnlyWrites.refl _ s).wr _ _ _ _ (by simp)).of_regs rfl
  · rw [State.denRelease_fenced hon hd hop hf]
    have hc := s.denTaken_core n o
    rcases State.dropAt_cases (s.denTaken n o) ((s.denTaken n o).tileOf n) o.port o.vc with h | h <;> rw [h]
    · rw [hc]
      exact ⟨rfl, rfl, rfl, (OnlyWrites.refl _ s).of_regs rfl⟩
    · rw [State.core_of_cores (State.inc_cores ..), hc]
      exact ⟨rfl, rfl, rfl, ((OnlyWrites.refl _ s).inc F.FOX_PV_ERR_DROP_CNT 1 (s.tileOf n) _ (by simp)).of_regs rfl⟩
  · obtain ⟨u, hu⟩ : ∃ u, u = s.outTaken n r := ⟨_, rfl⟩
    have hcore : (u.rowless n).core n = { s.core n with denOut := r } := by
      rw [State.rowless_core, hu, State.outTaken_core]
    have hrd : (u.rowless n).rd (inflightFld n o.pkt.tag.toNat) (inflightUnit n) =
        s.rd (inflightFld n o.pkt.tag.toNat) (inflightUnit n) := by
      rw [State.rowless_rd _ _ (inflightFld_apart _ _ (by decide)) (inflightFld_apart _ _ (by decide)), hu]
      rfl
    have hnet : u.net = s.net ∧ u.mem = s.mem ∧ u.flips = s.flips := by rw [hu]; exact ⟨rfl, rfl, rfl⟩
    rw [State.synAccumulate_den hr ho, ← hu, State.synTurn_no_axon (by rw [hu]; exact hc) (by rw [hu]; exact hx), if_pos rfl]
    unfold State.subInflight
    rw [State.core_of_cores (State.wr_cores ..), State.rd_wr_self, hcore, hrd, inflightFld_width]
    exact ⟨rfl, rfl, hnet⟩
  · rw [State.synAccumulate_none hr ho hl]
  · obtain ⟨u, hu⟩ : ∃ u, u = s.landTaken n r := ⟨_, rfl⟩
    have hcore : (u.rowless n).core n = { s.core n with landing := r } := by
      rw [State.rowless_core, hu, State.landTaken_core]
    have hrd (f : Fld) : u.rd f n = s.rd f n := by rw [hu]; rfl
    have hmap : SameMap s u := (SameMap.refl s).of_eq (by rw [hu]; rfl) (by rw [hu]; rfl)
    have hkeep : u.net.tokens = s.net.tokens ∧ u.mem = s.mem ∧ u.flips = s.flips := by rw [hu]; exact ⟨rfl, rfl, rfl⟩
    rw [State.synAccumulate_landing hr ho hl, ← hu, State.synTurn_no_axon (by rw [hu]; exact hc) (by rw [hu]; exact hx),
      if_neg Bool.false_ne_true, hmap.tileOf, State.tokenFor_core, State.tokenFor_rd _ _ _ _ _ (by decide),
      State.tokenFor_rd _ _ _ _ _ (by decide), State.rowless_rows, State.rowless_noaxon, hcore, hrd, hrd]
    exact ⟨rfl, rfl, rfl, (hmap.trans State.rowless_sameMap).tokenFor_tokens hkeep.1 _ _,
      (State.tokenFor_mem ..).trans hkeep.2.1, (State.tokenFor_flips ..).trans hkeep.2.2⟩
  · have hj : j % 2 < 2 := Nat.mod_lt _ (by decide)
    rw [Port.addLand_clean v hw h, State.sramWrite_word _ _ _ hw, half_setHalf_self _ _ hj, half_setHalf_other _ _ hj, ofInt_add_half, Nat.mod_mod]
    exact ⟨rfl, rfl, fun x hx => State.sramWrite_byte _ _ _ hw hx⟩

end Sys2Proof.Machine
end

section
/-! Memory after one whole word has been stored, and the changes that leave it so (10_memory_system.md R274). -/
namespace Sys2Proof.Machine

theorem State.setBytes_frame (vs : List Byte) : ∀ (s : State) (a : Nat),
    s.setBytes a vs = { s with mem := (s.setBytes a vs).mem } := by
  induction vs with
  | nil => exact fun _ _ => rfl
  | cons v vs ih => exact fun s a => ih (s.setByte a v) (a + 1)

theorem State.setWord_frame (s : State) (a : Nat) (w : Word) :
    s.setWord a w = { s with mem := (s.setWord a w).mem, flips := (s.setWord a w).flips } := by
  have h := State.setBytes_frame (toBytes 8 w.toNat) s a
  unfold State.setWord
  rw [h]
  rfl

/-- From memory `s` to memory `t` the word at `a` became `v` with no upset bit, and no other byte changed. -/
def StoredWord (s t : State) (a : Nat) (v : Word) : Prop :=
  t.word a = v ∧ t.flip a = 0 ∧ ∀ x, (x < a ∨ a + 8 ≤ x) → t.byte x = s.byte x

theorem storedWord_setWord (s : State) (a : Nat) (v : Word) : StoredWord s (s.setWord a v) a v :=
  ⟨State.word_setWord_self .., State.flip_setWord_self .., fun _ h => State.byte_setWord_of_outside _ _ h⟩

/-- A stored word is a matter of memory only. -/
theorem StoredWord.of_eq {s t u r : State} {a : Nat} {v : Word} (h : StoredWord s t a v) (hm : u.mem = t.mem)
    (hf : u.flips = t.flips) (hs : r.mem = s.mem) : StoredWord r u a v :=
  ⟨(State.word_of_mem hm a).trans h.1, (State.flip_of_flips hf a).trans h.2.1, fun x hx =>
    (State.byte_of_mem hm x).trans ((h.2.2 x hx).trans (State.byte_of_mem hs x).symm)⟩

section
variable (s : State) (n : Nat) {w : Nat} (v : Word)

theorem State.sramWrite_frame (hw : w < 32768) : s.sramWrite n w v =
    { s with mem := (s.sramWrite n w v).mem, flips := (s.sramWrite n w v).flips, cores := (s.sramWrite n w v).cores } := by
  rw [State.sramWrite_eq _ _ _ hw, State.setWord_frame]
  rfl

theorem State.setWord_cores (s : State) (a : Nat) (w : Word) : (s.setWord a w).cores = s.cores := by
  rw [State.setWord_frame]

theorem State.sramWrite_core (hw : w < 32768) : (s.sramWrite n w v).core n =
    { s.core n with writeback := (s.core n).writeback.filter (· != w) } := by
  have hc : (s.setWord (sramAddr n w) v).core n = s.core n := State.core_of_cores (s.setWord_cores _ _) n
  rw [State.sramWrite_eq _ _ _ hw, State.core_onCore_self, hc]

theorem storedWord_sramWrite (hw : w < 32768) : StoredWord s (s.sramWrite n w v) (sramAddr n w) v :=
  (storedWord_setWord s (sramAddr n w) v).of_eq (State.sramWrite_mem _ _ _ hw) (State.sramWrite_flips _ _ _ hw) rfl

end

end Sys2Proof.Machine
end

section
/-! Remote words at a core: writes, reads and adds, and the ones that it held (07_event_network.md R191 to R193, R218,
03_neuron_cores.md R97, 06_encoders_decoders_and_actuation.md R174). -/
namespace Sys2Proof.Machine

theorem exec_rwrArrive (s : State) (a : BitVec 13) (k : Packet) : exec (.rwrArrive a k) s =
    .next (if k.op = 2 then s.remote a.toNat k else s) := rfl
theorem exec_rrdArrive (s : State) (a : BitVec 13) (k : Packet) : exec (.rrdArrive a k) s =
    .next (if k.op = 3 then s.remote a.toNat k else s) := rfl
theorem exec_raddArrive (s : State) (a : BitVec 13) (k : Packet) : exec (.raddArrive a k) s =
    .next (if k.op = 4 then s.remote a.toNat k else s) := rfl
theorem exec_heldWriteApply (s : State) (n : Nat) : exec (.heldWriteApply n) s =
    .next (if (s.core n).held = [] then s.memHeldApply n else s.heldApply n) := rfl
theorem exec_ashReadServe (s : State) (n : Nat) : exec (.ashReadServe n) s = .next (s.readServe n) := rfl

/-- The response that a target stages. -/
def responseEntry (n : Nat) (k r : Packet) (router : Bool) : Staged := ⟨n, r, .plain, k.onCtl, router⟩

section
variable {s : State} {n : Nat} {k : Packet}

theorem State.remote_write (hc : isCoreAgent n = true) (h : k.op = 2) : s.remote n k = s.rwrCore n k := by
  unfold State.remote
  rw [if_pos hc, if_pos h]

theorem State.remote_read (hc : isCoreAgent n = true) (h : k.op = 3) : s.remote n k = s.rrdCore n k := by
  unfold State.remote
  rw [if_pos hc, if_neg (by rw [h]; decide), if_pos h]

theorem State.remote_add (hc : isCoreAgent n = true) (h : k.op = 4) : s.remote n k = s.raddCore n k := by
  unfold State.remote
  rw [if_pos hc, if_neg (by rw [h]; decide), if_neg (by rw [h]; decide)]

theorem State.rwrCore_fenced (ha : s.awake n = true) (hf : s.on F.CORE_STAT_FENCED n = true) (hc : k.onCtl = false) :
    s.rwrCore n k = s.refuseFenced n k := by
  unfold State.rwrCore
  rw [if_neg (by simp [ha])]
  exact if_pos (by simp [hf, hc])

theorem State.refuseFenced_effect (hc : k.onCtl = false) :
    (s.refuseFenced n k).net.staging = s.net.staging ++ [⟨n, k.nack rsnFenced false, .plain, false, true⟩] ∧
      (s.refuseFenced n k).mem = s.mem := by
  unfold State.refuseFenced
  rw [State.dropArrived_frame]
  unfold State.sendNack State.stage
  rw [hc]
  exact ⟨rfl, rfl⟩

theorem State.rwrCore_bad (ha : s.awake n = true) (hf : s.on F.CORE_STAT_FENCED n = false) (hb : badRwr k = true) :
    s.rwrCore n k = (s.taken n k).sendNack n k rsnBadLength := by
  unfold State.rwrCore
  rw [if_neg (by simp [ha])]
  extract_lets t
  rw [if_neg (by simp [hf]), if_pos hb]

section
variable {v : Word} (hd : k.data = [v]) (hh : k.hi % 4 = 0) (hw : k.arg.toNat < 32768)
include hd

theorem any_holds_one : (List.range k.data.length).any (fun j => s.holds n (k.arg.toNat + j)) = s.holds n k.arg.toNat := by
  rw [hd]
  simp

include hh hw

theorem State.rwrCore_whole (hc : isCoreAgent n = true) (ha : s.awake n = true) (hf : s.on F.CORE_STAT_FENCED n = false) :
    s.rwrCore n k = if s.holds n k.arg.toNat then
      (if s.heldWords n + 1 > 16 then s else (s.taken n k).onCore n (fun c => { c with held := c.held ++ [k] }))
      else (s.taken n k).rwrDo n k := by
  have hb : badRwr k = false := by simp [badRwr, hd, hh]
  have hr : ¬ k.arg.toNat + k.data.length > windowWords n := by
    rw [hd, windowWords, if_pos hc, List.length_singleton]
    omega
  unfold State.rwrCore
  rw [if_neg (by simp [ha])]
  extract_lets t
  rw [if_neg (by simp [hf]), if_neg (by simp [hb]), if_neg hr, any_holds_one hd]
  rw [hd, List.length_singleton]

/-- A whole word of a core's SRAM is written and acknowledged. -/
theorem State.rwrDo_whole : s.rwrDo n k = ((s.sramWrite n k.arg.toNat v).act (n / 128) 3 1).sendAck n k := by
  have h : s.storeWord n k.arg.toNat v = (s.sramWrite n k.arg.toNat v).act (n / 128) 3 1 := if_pos hw
  unfold State.rwrDo
  extract_lets w
  rw [hh, hd, ← h]
  rfl

theorem State.rwrDo_effect : StoredWord s (s.rwrDo n k) (sramAddr n k.arg.toNat) v ∧
    (s.rwrDo n k).net.staging = s.net.staging ++ [⟨n, k.ack false, .plain, k.onCtl, false⟩] ∧
    (s.rwrDo n k).regs = s.regs ∧ ((s.rwrDo n k).core n).held = (s.core n).held := by
  rw [State.rwrDo_whole hd hh hw]
  have hs := storedWord_sramWrite s n v hw
  have hc := s.sramWrite_core n v hw
  have hf := s.sramWrite_frame n v hw
  obtain ⟨t, ht⟩ : ∃ t, t = s.sramWrite n k.arg.toNat v := ⟨_, rfl⟩
  rw [← ht] at hs hc hf ⊢
  have hcore : ((t.act (n / 128) 3 1).sendAck n k).core n = t.core n := State.core_of_cores rfl n
  rw [hcore, hc]
  refine ⟨hs.of_eq rfl rfl rfl, ?_, ?_, rfl⟩
  · rw [hf]; rfl
  · rw [hf]; rfl

end

section
variable {v : Word} (hw : k.arg.toNat < 32768) (hd : s.decodeAt (sramAddr n k.arg.toNat) = .clean v)
include hw hd

theorem State.rrdDo_one (hh : k.hi = 1) : s.rrdDo n k = (s.act (n / 128) 3 1).sendData n k [v] := by
  have h : s.readWords n k.arg.toNat 1 = (some [v], s.act (n / 128) 3 1) := by
    unfold State.readWords
    simp only [if_pos hw, State.sramRead_clean hw hd]
    rfl
  unfold State.rrdDo
  rw [hh, h]

theorem State.rrdCore_one (hc : isCoreAgent n = true) (ha : s.awake n = true) (hf : s.on F.CORE_STAT_FENCED n = false)
    (hb : k.data = []) (hh : k.hi = 1) (hr : s.readHeld n k = false) :
    s.rrdCore n k = ((s.taken n k).act (n / 128) 3 1).sendData n k [v] := by
  have hbad : badRrd k = false := by simp [badRrd, hb, hh]
  have hsize : ¬ k.arg.toNat + k.hi > windowWords n := by
    rw [hh, windowWords, if_pos hc]
    omega
  have hd' : (s.taken n k).decodeAt (sramAddr n k.arg.toNat) = .clean v := hd
  unfold State.rrdCore
  rw [if_neg (by simp [ha])]
  extract_lets t
  rw [if_neg (by simp [hf]), if_neg (by simp [hbad]), if_neg hsize, if_neg (by simp [hr])]
  exact State.rrdDo_one hw hd' hh

/-- An addend to a clean word in its own step. -/
theorem State.raddCore_present {d : Word} (ha : s.awake n = true) (hf : s.on F.CORE_STAT_FENCED n = false)
    (hb : k.data = [d]) (ht : s.ahead k.tag.toNat = 1) (hp : s.rd F.PAIR_STAT_PHASE ≠ 2)
    (hm : s.modulatorWord n k.arg.toNat = false) : s.raddCore n k =
      (((s.taken n k).sramWrite n k.arg.toNat (setHalf v (b2n (bit d.toNat 32))
        ((half v (b2n (bit d.toNat 32)) + half d 0) % 2 ^ 32))).act (n / 128) 3 2).sendAck n k true := by
  have hj : (s.taken n k).judge n k = (k.tag.toNat, .land, s.taken n k) := by
    have hr : (s.taken n k).replayed n k = none := if_neg hp
    have hfate : (s.taken n k).fate n k.tag.toNat k.flits = .land := State.fate_land ht
    unfold State.judge
    rw [hr, hfate]
  have hd' : (s.taken n k).decodeAt (sramAddr n k.arg.toNat) = .clean v := hd
  have hadd : (s.taken n k).addSram n k.arg.toNat d = some (((s.taken n k).sramWrite n k.arg.toNat
      (setHalf v (b2n (bit d.toNat 32)) ((half v (b2n (bit d.toNat 32)) + half d 0) % 2 ^ 32))).act (n / 128) 3 2) := by
    have hm' : (s.taken n k).modulatorWord n k.arg.toNat = false := hm
    unfold State.addSram
    rw [hm', State.sramRead_clean hw hd']
    rfl
  have haddAt : (s.taken n k).addAt n k true = (((s.taken n k).sramWrite n k.arg.toNat (setHalf v (b2n (bit d.toNat 32))
        ((half v (b2n (bit d.toNat 32)) + half d 0) % 2 ^ 32))).act (n / 128) 3 2).sendAck n k true := by
    unfold State.addAt
    extract_lets w d'
    have hdd : d' = d := by simp [d', hb]
    rw [if_neg (by omega), hdd, hadd]
  unfold State.raddCore
  rw [if_neg (by simp [ha])]
  extract_lets t j u
  have hj' : j = (k.tag.toNat, .land, s.taken n k) := hj
  have hfate : j.2.1 = .land := by rw [hj']
  have hu : u = s.taken n k := by
    change j.2.2.misplaced n k j.2.1 = _
    rw [hj']
    rfl
  rw [if_neg (by simp [hf]), if_neg (by simp [hb]), hfate, hu]
  exact haddAt

end

theorem State.heldApply_first {v : Word} {r : List Packet} (h : (s.core n).held = k :: r) (hd : k.data = [v])
    (hn : s.holds n k.arg.toNat = false) :
    s.heldApply n = (s.onCore n (fun c => { c with held := r })).rwrDo n k := by
  unfold State.heldApply
  rw [h]
  dsimp only
  rw [any_holds_one hd, hn]
  exact if_neg Bool.false_ne_true

theorem State.memHeldApply_last {x : Nat} {v : Word} (h : s.cmd.memHeld = [(n, x, v)]) (hx : x < 32768)
    (hn : s.holds n x = false) : s.memHeldApply n =
      State.finish { ((s.sramWrite n x v).act (n / 128) 3 1) with
        cmd := { ((s.sramWrite n x v).act (n / 128) 3 1).cmd with memHeld := [] } } 0x0B 0 [] := by
  have hst : s.storeWord n x v = (s.sramWrite n x v).act (n / 128) 3 1 := if_pos hx
  have hrun : s.memHeldRun [(n, x, v)] = ((s.sramWrite n x v).act (n / 128) 3 1, []) := by
    unfold State.memHeldRun
    rw [hn, if_neg Bool.false_ne_true, hst]
    rfl
  unfold State.memHeldApply
  rw [h]
  dsimp only
  rw [if_neg (by simp [hn]), hrun]
  exact if_pos rfl

theorem State.finish_memHeld (op reason : Nat) (data : List Byte) :
    (s.finish op reason data).cmd.memHeld = s.cmd.memHeld := by
  rcases s.finish_cases op reason data with hf | ⟨ds, d, hf⟩ <;> rw [hf]
  rcases State.sendReply_cases { s with cmd := { s.cmd with deferred := ds } } d.path d.word0 d.ack reason data with
    hr | ⟨p, vc, dt, b, cls, hr⟩ | ⟨b, hr⟩ <;> rw [hr, State.noted_frame]
  · rw [State.emitBlock_frame]
  · rfl

theorem State.readServe_first {r : List Packet} (h : (s.core n).heldReads = k :: r) (hn : s.readHeld n k = false) :
    s.readServe n = (s.onCore n (fun c => { c with heldReads := r })).rrdDo n k := by
  unfold State.readServe
  rw [h]
  dsimp only
  rw [hn]
  exact if_neg Bool.false_ne_true

end

/-- Settles O23: the refusals of a write, the write of one word and its wait, the read and the add of one word, and the held
ones. -/
theorem remoteWordsAreWrittenAndRead : Obligations.RemoteWordsAreWrittenAndRead := by
  unfold Obligations.RemoteWordsAreWrittenAndRead
  intro s a k hc ha
  simp only [exec_rwrArrive, exec_rrdArrive, exec_raddArrive, exec_heldWriteApply, exec_ashReadServe]
  refine ⟨fun hf hctl hop => ⟨_, rfl, ?_⟩, fun hf hop hb => ⟨_, rfl, ?_⟩, fun v hf hop hd hh hw => ⟨fun hn => ⟨_, rfl, ?_⟩,
    fun hn h16 => ⟨_, rfl, ?_⟩⟩, fun v hf hop hb hh hw hr hd => ⟨_, rfl, ?_⟩, fun v d hf hop hb hw ht hp hm hd => ⟨_, rfl, ?_⟩,
    fun v r hd hh hw hl hn => ⟨_, rfl, ?_⟩, fun v x hl hm hx hn => ⟨_, rfl, ?_⟩, fun v r hh hw hl hn hd => ⟨_, rfl, ?_⟩⟩
  · rw [if_pos hop, State.remote_write hc hop, State.rwrCore_fenced ha hf hctl]
    exact State.refuseFenced_effect hctl
  · rw [if_pos hop, State.remote_write hc hop, State.rwrCore_bad ha hf hb]
    exact ⟨rfl, rfl⟩
  · rw [if_pos hop, State.remote_write hc hop, State.rwrCore_whole hd hh hw hc ha hf, if_neg (by simp [hn])]
    obtain ⟨⟨h1, h2, h3⟩, hst, hregs, -⟩ := State.rwrDo_effect (s := s.taken a.toNat k) (n := a.toNat) hd hh hw
    exact ⟨h1, h2, h3, hst, hregs⟩
  · rw [if_pos hop, State.remote_write hc hop, State.rwrCore_whole hd hh hw hc ha hf, if_pos hn, if_neg (by omega),
      State.core_onCore_self]
    exact ⟨rfl, rfl, rfl⟩
  · rw [if_pos hop, State.remote_read hc hop, State.rrdCore_one hw hd hc ha hf hb hh hr]
    exact ⟨rfl, rfl, rfl⟩
  · have hb2 : b2n (bit d.toNat 32) < 2 := by cases bit d.toNat 32 <;> decide
    rw [if_pos hop, State.remote_add hc hop, State.raddCore_present hw hd ha hf hb ht hp hm]
    have hs := storedWord_sramWrite (s.taken a.toNat k) a.toNat (setHalf v (b2n (bit d.toNat 32))
      ((half v (b2n (bit d.toNat 32)) + half d 0) % 2 ^ 32)) hw
    have hfr := State.sramWrite_frame (s.taken a.toNat k) a.toNat (setHalf v (b2n (bit d.toNat 32))
      ((half v (b2n (bit d.toNat 32)) + half d 0) % 2 ^ 32)) hw
    obtain ⟨t, hteq⟩ : ∃ t, t = (s.taken a.toNat k).sramWrite a.toNat k.arg.toNat (setHalf v (b2n (bit d.toNat 32))
      ((half v (b2n (bit d.toNat 32)) + half d 0) % 2 ^ 32)) := ⟨_, rfl⟩
    rw [← hteq] at hs hfr ⊢
    have hs' : StoredWord s ((t.act (a.toNat / 128) 3 2).sendAck a.toNat k true) _ _ := hs.of_eq rfl rfl rfl
    obtain ⟨h1, -, h3⟩ := hs'
    rw [h1, half_setHalf_self _ _ hb2, half_setHalf_other _ _ hb2, Nat.mod_mod]
    refine ⟨rfl, rfl, h3, ?_, ?_⟩
    · rw [hfr]; rfl
    · rw [hfr]; rfl
  · rw [if_neg (by simp [hl]), State.heldApply_first hl hd hn]
    obtain ⟨hs, hst, -, hheld⟩ := State.rwrDo_effect
      (s := s.onCore a.toNat (fun c => { c with held := r })) (n := a.toNat) hd hh hw
    obtain ⟨h1, -, h3⟩ := hs.of_eq (r := s) rfl rfl rfl
    rw [State.core_onCore_self] at hheld
    exact ⟨hheld, h1, h3, hst⟩
  · rw [if_pos hl, State.memHeldApply_last hm hx hn, State.finish_memHeld]
    obtain ⟨u, hu⟩ : ∃ u : State, u = { ((s.sramWrite a.toNat x v).act (a.toNat / 128) 3 1) with
        cmd := { ((s.sramWrite a.toNat x v).act (a.toNat / 128) 3 1).cmd with memHeld := [] } } := ⟨_, rfl⟩
    have hs : StoredWord s u (sramAddr a.toNat x) v :=
      (storedWord_sramWrite s a.toNat v hx).of_eq (by rw [hu]; rfl) (by rw [hu]; rfl) rfl
    rw [← hu]
    obtain ⟨regs, tx, cmd, hfin⟩ := u.finish_frame 0x0B 0 []
    obtain ⟨h1, -, h3⟩ := hs.of_eq (u := u.finish 0x0B 0 []) (r := s) (by rw [hfin]) (by rw [hfin]) rfl
    exact ⟨h1, by rw [hu], h3⟩
  · have hd' : (s.onCore a.toNat (fun c => { c with heldReads := r })).decodeAt (sramAddr a.toNat k.arg.toNat) = .clean v := hd
    rw [State.readServe_first hl hn, State.rrdDo_one hw hd' hh]
    refine ⟨?_, rfl, rfl⟩
    have hcore : (((s.onCore a.toNat (fun c => { c with heldReads := r })).act (a.toNat / 128) 3 1).sendData a.toNat k
        [v]).core a.toNat = (s.onCore a.toNat (fun c => { c with heldReads := r })).core a.toNat :=
      State.core_of_cores rfl _
    rw [hcore, State.core_onCore_self]

end Sys2Proof.Machine
end

section
/-! Responses at their requester (07_event_network.md R197, R218, 02_time_and_ordering.md R52). -/
namespace Sys2Proof.Machine

theorem exec_ackArrive (s : State) (k : Packet) : exec (.ackArrive k) s = .next (if k.op = 8 then s.response k else s) := rfl
theorem exec_dataArrive (s : State) (k : Packet) : exec (.dataArrive k) s = .next (if k.op = 9 then s.response k else s) := rfl
theorem exec_nackArrive (s : State) (k : Packet) : exec (.nackArrive k) s = .next (if k.op = 10 then s.response k else s) := rfl

section
variable {s : State} {k : Packet} {x : Tid}

/-- A response that completes its request, before what it does for the request's purpose. -/
def State.answered (s : State) (k : Packet) (x : Tid) : State := (s.taken k.dest.toNat k).tidTake x

theorem State.answered_tids (hl : x.left = 1) (ht : s.net.tids = [x]) : (s.answered k x).net.tids = [] := by
  have h : (s.answered k x).net.tids = s.net.tids.flatMap (fun y =>
      if y = x then (if y.left ≤ 1 then [] else [{ y with left := y.left - 1 }]) else [y]) := rfl
  rw [h, ht]
  simp [hl]

theorem State.tokTake_frame (s : State) (k : Packet) : s.tokTake k = { s with regs := (s.tokTake k).regs } := by
  unfold State.tokTake
  split <;> rfl

theorem State.tokTake_none (h : k.tok = false ∨ k.op = 9) : s.tokTake k = s := by
  unfold State.tokTake
  exact if_neg (by rcases h with h | h <;> simp [h])

theorem State.tokTake_taken (h : k.tok = true) (ho : k.op ≠ 9) (hc : countsInflight k.dest.toNat = true) :
    s.tokTake k = s.subInflight k.dest.toNat k.tag.toNat 1 := by
  have hop : (k.op != 9) = true := bne_iff_ne.mpr ho
  unfold State.tokTake
  rw [h, hop, hc]
  rfl

theorem State.dataErrorAt_ok (h : k.op ≠ 10) : s.dataErrorAt x k = s := if_neg fun hc => h hc.1

/-- A report changes nothing but Owl's messages. -/
theorem State.dataErrorAt_frame (s : State) (x : Tid) (k : Packet) :
    s.dataErrorAt x k = { s with owl := (s.dataErrorAt x k).owl } := by
  unfold State.dataErrorAt
  split <;> rfl

theorem State.response_none (h : s.tidOf k = none) : s.response k = (s.dropArrived k.dest.toNat k).taken k.dest.toNat k := by
  unfold State.response
  rw [h]

theorem State.response_fenced (h : s.tidOf k = some x)
    (hf : (isCoreAgent k.dest.toNat && s.on F.CORE_STAT_FENCED k.dest.toNat) = true) :
    s.response k = ((s.dropArrived k.dest.toNat k).taken k.dest.toNat k).tokTake k := by
  unfold State.response
  rw [h]
  exact if_pos hf

theorem State.response_own (h : s.tidOf k = some x)
    (hf : (isCoreAgent k.dest.toNat && s.on F.CORE_STAT_FENCED k.dest.toNat) = false) :
    s.response k = (((s.answered k x).tokTake k).dataErrorAt x k).responded x k := by
  unfold State.response
  rw [h]
  exact if_neg (by rw [hf]; exact Bool.false_ne_true)

theorem State.response_plain (h : s.tidOf k = some x) (hw : x.why = .plain)
    (hf : (isCoreAgent k.dest.toNat && s.on F.CORE_STAT_FENCED k.dest.toNat) = false) :
    s.response k = ((s.answered k x).tokTake k).dataErrorAt x k := by
  rw [State.response_own h hf]
  unfold State.responded
  rw [hw]

/-- A record whose window is open is not decided. -/
theorem State.decideRead_open {r : AshRec} (h : s.ash.recs = [r]) (hc : r.closed = false) (d f : Nat) :
    s.decideRead d f = s := by
  unfold State.decideRead
  rw [h]
  cases hr : [r].find? (fun r => r.dec == d && r.frame == f) with
  | none => rfl
  | some q =>
    have hq : q = r := List.mem_singleton.mp (List.mem_of_find?_eq_some hr)
    exact if_neg (by simp [hq, hc])

theorem State.readData_one {r : AshRec} (h : s.ash.recs = [r]) (hc : r.closed = false) (hv : r.vals = [none])
    (ws : List Word) : (s.readData r.dec r.frame 0 1 1 ws).ash.recs =
      [{ r with vals := [some (uns 32 (sgn 24 (wbits (ws.getD 0 0) 63 40)))] }] := by
  unfold State.readData
  extract_lets vs
  have hvs : vs = [uns 32 (sgn 24 (wbits (ws.getD 0 0) 63 40))] := rfl
  have hf : fillVals r.vals 0 vs = [some (uns 32 (sgn 24 (wbits (ws.getD 0 0) 63 40)))] := by
    rw [hvs, hv]
    rfl
  have hrecs : (s.onRec r.dec r.frame (fun r => { r with vals := fillVals r.vals 0 vs })).ash.recs =
      [{ r with vals := fillVals r.vals 0 vs }] := by
    simp only [State.onRec, h, List.map_cons, List.map_nil, and_self, if_true]
  rw [State.decideRead_open hrecs hc, hrecs, hf]

end

/-- Settles O24: rows of another operation, fenced cores, the three responses to a plain request, and an unmatched one. -/
theorem responsesCloseTheirRequests : Obligations.ResponsesCloseTheirRequests := by
  unfold Obligations.ResponsesCloseTheirRequests
  intro s k
  simp only [exec_ackArrive, exec_dataArrive, exec_nackArrive]
  refine ⟨fun h => by rw [if_neg h], fun h => by rw [if_neg h], fun h => by rw [if_neg h],
    fun x hf hx hop => ⟨_, rfl, ?_⟩, fun x hf hx hw hl ht => ⟨fun hop => ⟨_, rfl, ?_⟩, fun hop => ⟨_, rfl, ?_⟩,
      fun hop htok => ⟨_, rfl, ?_⟩⟩, fun hx hop ha hd => ⟨_, rfl, ?_⟩, fun x d f b c r hc hx hw hop hr hd hf hcl hb hcv hv =>
      ⟨_, rfl, ?_⟩⟩
  · rw [if_pos hop, State.response_fenced hx hf, State.tokTake_frame, State.dropArrived_frame]
    exact ⟨rfl, rfl⟩
  · have htids := State.answered_tids (k := k) hl ht
    have h9 : k.op ≠ 9 := by rw [hop]; decide
    rw [if_pos hop, State.response_plain hx hw hf, State.dataErrorAt_ok (by rw [hop]; decide)]
    refine ⟨?_, ?_, fun htok hcnt => ?_, fun htok => ?_⟩
    · rw [State.tokTake_frame]
      exact htids
    · rw [State.tokTake_frame]
      rfl
    · rw [State.tokTake_taken htok h9 hcnt, ← inflightFld_width k.dest.toNat k.tag.toNat]
      exact State.rd_wr_self ..
    · rw [State.tokTake_none (.inl htok)]
      rfl
  · have htids := State.answered_tids (k := k) hl ht
    rw [if_pos hop, State.response_plain hx hw hf, State.dataErrorAt_ok (by rw [hop]; decide), State.tokTake_none (.inr hop)]
    exact ⟨htids, rfl, rfl⟩
  · have htids := State.answered_tids (k := k) hl ht
    rw [if_pos hop, State.response_plain hx hw hf, State.tokTake_none (.inl htok), State.dataErrorAt_frame]
    exact ⟨htids, rfl, rfl⟩
  · have hcame : s.cameIn k.dest.toNat k = (4, k.vc2 k.onCtl) := by
      unfold State.cameIn
      rw [hd]
    have hdrop : s.dropArrived k.dest.toNat k =
        s.inc F.FOX_ES_PV_ERR_DROP_CNT 1 (agentStop k.dest.toNat) (k.vc2 k.onCtl) := by
      unfold State.dropArrived
      rw [hd, hcame]
      exact if_neg (by simp [ha])
    rw [if_pos hop, State.response_none hx, hdrop]
    exact ⟨rfl, State.rd_inc s F.FOX_ES_PV_ERR_DROP_CNT 1 _ _⟩
  · have hfen : (isCoreAgent k.dest.toNat && s.on F.CORE_STAT_FENCED k.dest.toNat) = false := by rw [hc]; rfl
    rw [if_pos hop, State.response_own hx hfen, State.tokTake_none (.inr hop), State.dataErrorAt_ok (by rw [hop]; decide)]
    unfold State.responded
    rw [hw]
    dsimp only
    rw [if_pos hop, hcv, hb, ← hd, ← hf]
    have hrecs : (s.answered k x).ash.recs = [r] := hr
    exact State.readData_one hrecs hcl hv _

end Sys2Proof.Machine
end

section
/-! The CTL actions (07_event_network.md R194, R195, R218). -/
namespace Sys2Proof.Machine

section
variable (s : State) (k : Packet)

theorem exec_ctlPing : exec (.ctlPing k) s = .next (if k.op = 15 ∧ k.hi = 0 then s.ctlPing k else s) := rfl
theorem exec_ctlFence : exec (.ctlFence k) s = .next (if k.op = 15 ∧ k.hi = 1 then s.ctlFence k else s) := rfl
theorem exec_ctlUnfence : exec (.ctlUnfence k) s = .next (if k.op = 15 ∧ k.hi = 2 then s.ctlUnfence k else s) := rfl
theorem exec_ctlMapSet : exec (.ctlMapSet k) s = .next (if k.op = 15 ∧ k.hi = 3 then s.ctlMapSet k else s) := rfl
theorem exec_ctlMapFlip : exec (.ctlMapFlip k) s = .next (if k.op = 15 ∧ k.hi = 4 then s.ctlMapFlip k else s) := rfl
theorem exec_ctlSeed : exec (.ctlSeed k) s = .next (if k.op = 15 ∧ k.hi = 5 then s.ctlSeed k else s) := rfl
theorem exec_ctlDrain : exec (.ctlDrain k) s = .next (if k.op = 15 ∧ k.hi = 6 then s.ctlDrain k else s) := rfl
theorem exec_ctlReservedAction :
    exec (.ctlReservedAction k) s = .next (if k.op = 15 ∧ 7 ≤ k.hi then s.ctlReserved k else s) := rfl
theorem exec_ctlDrainDone (n : Nat) : exec (.ctlDrainDone n) s = .next (s.drainDone n) := rfl

end

section
variable {s t : State} {k : Packet}

theorem State.ctlDone_absent (h : s.agentOn k.dest.toNat = false) (ok : Bool) : s.ctlDone k t ok = s := by
  unfold State.ctlDone
  exact if_pos (by simp [h])

theorem State.ctlDone_ok (h : s.agentOn k.dest.toNat = true) :
    s.ctlDone k t true = (t.taken k.dest.toNat k).sendAck k.dest.toNat k := by
  unfold State.ctlDone
  exact if_neg (by simp [h])

theorem State.ctlDone_refused (h : s.agentOn k.dest.toNat = true) :
    s.ctlDone k t false = (s.taken k.dest.toNat k).sendNack k.dest.toNat k rsnCtlRefused := by
  unfold State.ctlDone
  exact if_neg (by simp [h])

/-- A CTL packet that is refused is answered and does nothing. -/
theorem State.sendNack_taken_effect :
    ((s.taken k.dest.toNat k).sendNack k.dest.toNat k rsnCtlRefused).net.staging =
      s.net.staging ++ [⟨k.dest.toNat, k.nack rsnCtlRefused false, .plain, k.onCtl, false⟩] ∧
    (s.taken k.dest.toNat k).sendNack k.dest.toNat k rsnCtlRefused =
      { s with net := ((s.taken k.dest.toNat k).sendNack k.dest.toNat k rsnCtlRefused).net } := ⟨rfl, rfl⟩

/-- The state with a core's fence at a value. -/
def State.fenceSet (s : State) (n v : Nat) : State := s.wr F.CORE_STAT_FENCED v n

/-- The fence of a core with nothing to drop. -/
theorem State.fenceCore_idle {n : Nat} (hl : (s.core n).landing = []) (ho : (s.core n).denOut = [])
    (hh : (s.core n).held = []) (hr : (s.core n).heldReads = []) :
    s.fenceCore n = (s.fenceSet n 1).onCore n
      (fun c => { c with landing := [], denOut := [], held := [], heldReads := [] }) := by
  unfold State.fenceCore
  extract_lets c p t t1 t2
  have h1 : t1 = t := by
    change List.foldl _ _ (s.core n).landing = t
    rw [hl]
    rfl
  have h2 : t2 = t1 := by
    change List.foldl _ _ (s.core n).denOut = t1
    rw [ho]
    rfl
  have h3 : c.held ++ c.heldReads = [] := by
    change (s.core n).held ++ (s.core n).heldReads = []
    rw [hh, hr]
    rfl
  rw [h3, h2, h1]
  rfl

theorem State.fenceCore_idle_core {n : Nat} (hl : (s.core n).landing = []) (ho : (s.core n).denOut = [])
    (hh : (s.core n).held = []) (hr : (s.core n).heldReads = []) : (s.fenceCore n).core n = s.core n := by
  have hc : (s.fenceSet n 1).core n = s.core n := rfl
  rw [State.fenceCore_idle hl ho hh hr, State.core_onCore_self, hc]
  generalize s.core n = c at hl ho hh hr
  cases c
  subst hl ho hh hr
  rfl

theorem State.drainDone_waits {n : Nat} (h : (s.core n).drain = [] ∨ s.atRest n = false) : s.drainDone n = s := by
  unfold State.drainDone
  exact if_pos (by rcases h with h | h <;> simp [h])

theorem State.drainDone_rest {n : Nat} (hd : (s.core n).drain ≠ []) (h : s.atRest n = true) : s.drainDone n =
    (s.core n).drain.foldl (fun s k => s.sendAck n k) (s.onCore n (fun c => { c with drain := [] })) := by
  unfold State.drainDone
  exact if_neg (by simp [hd, h])

/-- The state with packets acknowledged by core `n` one after another. -/
def State.ackAll (s : State) (n : Nat) (ks : List Packet) : State :=
  { s with net := { s.net with
      staging := s.net.staging ++ ks.map (fun x => ⟨n, x.ack false, .plain, x.onCtl, false⟩) } }

theorem State.ackAll_core (s : State) (n : Nat) (ks : List Packet) (m : Nat) : (s.ackAll n ks).core m = s.core m := rfl

theorem State.foldl_sendAck (n : Nat) (ks : List Packet) :
    ∀ s : State, ks.foldl (fun s k => s.sendAck n k) s = s.ackAll n ks := by
  induction ks with
  | nil => intro s; simp [State.ackAll]
  | cons k ks ih =>
    intro s
    rw [List.foldl_cons, ih]
    simp [State.sendAck, State.stage, State.ackAll]

end

/-- Settles O25: each action at a target that the variant has, and the drains that have waited. -/
theorem controlPacketsActAndAnswer : Obligations.ControlPacketsActAndAnswer := by
  unfold Obligations.ControlPacketsActAndAnswer
  intro s k hop
  simp only [exec_ctlPing, exec_ctlFence, exec_ctlUnfence, exec_ctlMapSet, exec_ctlMapFlip, exec_ctlSeed, exec_ctlDrain,
    exec_ctlReservedAction, exec_ctlDrainDone]
  refine ⟨fun h hk => ?_, fun hon => ⟨fun hk ho hd => ⟨_, rfl, ?_⟩, fun hk => ⟨_, rfl, ?_⟩, fun hk hc => ⟨_, rfl, ?_⟩,
    fun hk hc hl hdo hh hr => ⟨_, rfl, ?_⟩, fun hk hc => ⟨_, rfl, ?_⟩, fun hk hc => ?_, fun hk hc => ⟨_, rfl, ?_⟩,
    fun hk hc => ⟨_, rfl, ?_⟩, fun hk hc => ⟨_, rfl, ?_⟩⟩, fun n => ⟨fun h => ?_, fun hd h => ⟨_, rfl, ?_⟩⟩⟩
  · rw [if_pos ⟨hop, hk⟩, State.ctlPing, State.ctlDone_absent h]
  · have hok : (originatesCtl k.src.toNat && k.data == []) = true := by simp [ho, hd]
    rw [if_pos ⟨hop, hk⟩, State.ctlPing, hok, State.ctlDone_ok hon]
    exact ⟨rfl, rfl⟩
  · rw [if_pos ⟨hop, hk⟩, State.ctlReserved, State.ctlDone_refused hon]
    exact State.sendNack_taken_effect
  · rw [if_pos ⟨hop, hk⟩, State.ctlFence, hc, State.ctlDone_refused hon]
    exact State.sendNack_taken_effect
  · have hcore := State.fenceCore_idle_core hl hdo hh hr
    have heq := State.fenceCore_idle hl hdo hh hr
    rw [if_pos ⟨hop, hk⟩, State.ctlFence, hc, State.ctlDone_ok hon]
    obtain ⟨u, hu⟩ : ∃ u, u = s.fenceCore k.dest.toNat := ⟨_, rfl⟩
    rw [← hu] at heq hcore ⊢
    refine ⟨?_, (State.core_of_cores rfl _).trans hcore, ?_, ?_, ?_⟩
    · rw [heq]
      exact State.rd_wr_of_lt s F.CORE_STAT_FENCED (v := 1) _ _ (by decide)
    · rw [heq]; rfl
    · rw [heq]; rfl
    · rw [heq]
      exact ((OnlyWrites.refl _ s).wr F.CORE_STAT_FENCED 1 _ 0 (by simp)).of_regs rfl
  · rw [if_pos ⟨hop, hk⟩, State.ctlUnfence, hc, State.ctlDone_ok hon]
    exact ⟨State.rd_wr_of_lt s F.CORE_STAT_FENCED (v := 0) _ _ (by decide), rfl, rfl,
      ((OnlyWrites.refl _ s).wr F.CORE_STAT_FENCED 0 _ 0 (by simp)).of_regs rfl⟩
  · rw [if_pos ⟨hop, hk⟩, State.ctlMapSet, hc, State.ctlDone_ok hon]
  · have heq : s.ctlMapFlip k = { s.taken k.dest.toNat k with net := { (s.taken k.dest.toNat k).net with
        flips := (s.taken k.dest.toNat k).net.flips ++ [(k.dest.toNat - 0x1F00, k)] } } := by
      unfold State.ctlMapFlip
      exact (if_neg (by simp [hon])).trans (if_pos hc)
    rw [if_pos ⟨hop, hk⟩, heq]
    exact ⟨rfl, rfl, rfl⟩
  · have hv : wbits (k.data.getD 0 0) 31 0 < 2 ^ F.FOX_SEED_STATE.width := Nat.mod_lt _ (by decide)
    rw [if_pos ⟨hop, hk⟩, State.ctlSeed, hc, State.ctlDone_ok hon]
    exact ⟨State.rd_wr_of_lt s F.FOX_SEED_STATE _ _ hv, rfl, rfl,
      ((OnlyWrites.refl _ s).wr F.FOX_SEED_STATE _ _ 0 (by simp)).of_regs rfl⟩
  · have heq : s.ctlDrain k = (s.taken k.dest.toNat k).onCore k.dest.toNat (fun c => { c with drain := c.drain ++ [k] }) := by
      unfold State.ctlDrain
      exact (if_neg (by simp [hon])).trans (if_pos hc)
    rw [if_pos ⟨hop, hk⟩, heq, State.core_onCore_self]
    exact ⟨rfl, rfl, rfl⟩
  · rw [State.drainDone_waits h]
  · rw [State.drainDone_rest hd h, State.foldl_sendAck, State.ackAll_core, State.core_onCore_self]
    exact ⟨rfl, rfl, rfl⟩

end Sys2Proof.Machine
end

section
/-! The fan-out of spikes, the end of an update and the SRAM scrubber (03_neuron_cores.md R85, R88, R90,
10_memory_system.md R273, R274). -/
namespace Sys2Proof.Machine

theorem exec_fanoutInject (s : State) (n : Nat) : exec (.fanoutInject n) s = .next (s.fanout n) := rfl
theorem exec_coreUpdateDone (s : State) (n c : Nat) : exec (.coreUpdateDone n c) s = .next (s.updateDone n c) := rfl
theorem exec_sramPatrolRead (s : State) (n : Nat) : exec (.sramPatrolRead n) s = .next (s.patrol n) := rfl
theorem exec_sramCorrectedWriteback (s : State) (n : Nat) :
    exec (.sramCorrectedWriteback n) s = .next (s.correctedBack n) := rfl

section
variable {s : State} {n : Nat}

theorem State.fanout_none (h : s.on F.CORE_STAT_FENCED n = true ∨ (s.core n).spikes = []) : s.fanout n = s := by
  unfold State.fanout
  split
  · rfl
  · next hn =>
    have hs : (s.core n).spikes = [] := by
      rcases h with h | h
      · simp [h] at hn
      · exact h
    rw [hs]

/-- The state whose core `n` has given up its oldest spike. -/
def State.spikeTaken (s : State) (n : Nat) (r : List Spike) : State := s.onCore n (fun c => { c with spikes := r })

theorem State.fanEntry_clean {x : Spike} {w : Nat} {v : Word} (hw : w < 32768)
    (h : s.decodeAt (sramAddr n w) = .clean v) :
    s.fanEntry n x w = if bit v.toNat 30 then s.stage n (fanPacket n x v) else s := by
  unfold State.fanEntry
  rw [State.sramRead_clean hw h]

/-- The fan-out of a spike of a group with one entry a neuron. -/
theorem State.fanout_one {x : Spike} {r : List Spike} (hon : s.coreOn n = true) (hf : s.on F.CORE_STAT_FENCED n = false)
    (hs : (s.core n).spikes = x :: r) (hp : (s.group n x.group).fanPer = 1) : s.fanout n = (s.spikeTaken n r).fanEntry n x
      (s.rd F.CORE_PART_OUT_BASE n + (s.group n x.group).outOfs + (x.slot - (s.group n x.group).base)) := by
  unfold State.fanout
  rw [if_neg (by simp [hon, hf]), hs]
  dsimp only
  rw [hp, Nat.mul_one]
  rfl

theorem State.updateDone_early {c : Nat} (h : s.on F.CORE_STAT_UPD_BUSY n = false ∨ s.fanDone n = false) :
    s.updateDone n c = s := by
  unfold State.updateDone
  exact if_pos (by rcases h with h | h <;> simp [h])

theorem State.updateDone_end {c : Nat} (hon : s.coreOn n = true) (hb : s.on F.CORE_STAT_UPD_BUSY n = true)
    (hd : s.fanDone n = true) : s.updateDone n c =
      (((s.wr F.CORE_STAT_UPD_BUSY 0 n).wr F.CORE_UPD_STAT_LAST_UPD (min ((s.core n).updCycles + c) 65535) n).top
        F.CORE_UPD_STAT_MAX_UPD ((s.core n).updCycles + c) n).wr F.LRN_STAT_PASS_BUSY 0 n := by
  unfold State.updateDone
  exact if_neg (by simp [hon, hb, hd])

theorem State.patrol_off (h : (s.awake n && s.on F.MEM_SRAM_SCRUB_EN) = false) : s.patrol n = s := by
  unfold State.patrol
  exact if_neg (by rw [h]; exact Bool.false_ne_true)

theorem State.patrol_on (ha : s.awake n = true) (he : s.on F.MEM_SRAM_SCRUB_EN = true) :
    s.patrol n = (s.act (n / 128) 3 1).patrolRead n := by
  unfold State.patrol
  exact if_pos (by simp [ha, he])

theorem State.correctedBack_asleep (h : s.awake n = false) : s.correctedBack n = s := by
  unfold State.correctedBack
  exact if_neg (by simp [h])

/-- The patrol of core `n` moved on by one word. -/
def State.moved (s : State) (n w : Nat) : State :=
  s.onCore n (fun c => { c with patrol := (w + 1) % 32768, writeback := c.writeback.filter (· != w) })

theorem State.moved_patrol (s : State) (n w : Nat) : ((s.moved n w).core n).patrol = (w + 1) % 32768 :=
  congrArg CoreSt.patrol (State.core_onCore_self ..)

section
variable {w : Nat} (hp : (s.core n).patrol = w) (hw : w < 32768)
include hp hw

theorem State.patrolRead_clean {d : Word} (h : s.decodeAt (sramAddr n w) = .clean d) : s.patrolRead n = s.moved n w := by
  unfold State.patrolRead
  rw [hp]
  extract_lets w' s1 s2
  have h1 : s1 = s := congrArg Prod.snd (State.sramRead_clean hw h)
  rw [show s.decodeAt (sramAddr n w') = .clean d from h]
  change s1.moved n w = _
  rw [h1]

theorem State.patrolRead_corrected {d : Word} {e : Code} (h : s.decodeAt (sramAddr n w) = .corrected d e) :
    s.patrolRead n = ((s.sramCorrected n w).moved n w).setWord (sramAddr n w) d := by
  have hr : s.sramRead n w = (some d, s.sramCorrected n w) := by
    unfold State.sramRead
    rw [if_neg (by omega), h]
  unfold State.patrolRead
  rw [hp]
  extract_lets w' s1 s2
  have h1 : s1 = s.sramCorrected n w := congrArg Prod.snd hr
  rw [show s.decodeAt (sramAddr n w') = .corrected d e from h]
  change (s1.moved n w).setWord (sramAddr n w) d = _
  rw [h1]

theorem State.patrolRead_bad (h : s.decodeAt (sramAddr n w) = .bad) : s.patrolRead n = (s.sramBad n w).moved n w := by
  have hr : s.sramRead n w = (none, s.sramBad n w) := by
    unfold State.sramRead
    rw [if_neg (by omega), h]
  unfold State.patrolRead
  rw [hp]
  extract_lets w' s1 s2
  have h1 : s1 = s.sramBad n w := congrArg Prod.snd hr
  rw [show s.decodeAt (sramAddr n w') = .bad from h]
  change s1.moved n w = _
  rw [h1]

end

theorem State.sramCorrected_effect (s : State) (n w : Nat) :
    (s.sramCorrected n w).rd F.MEM_SRAM_CNT_CORR n = min (s.rd F.MEM_SRAM_CNT_CORR n + 1) 65535 ∧
      (s.sramCorrected n w).mem = s.mem := by
  have hlog : (s.sramLog n w).rd F.MEM_SRAM_CNT_CORR n = s.rd F.MEM_SRAM_CNT_CORR n := by
    unfold State.sramLog
    rw [State.rd_wr_apart _ _ _ _ _ _ (by decide), State.rd_wr_apart _ _ _ _ _ _ (by decide)]
  have hinc : ((s.sramLog n w).inc F.MEM_SRAM_CNT_CORR 1 n).rd F.MEM_SRAM_CNT_CORR n =
      min (s.rd F.MEM_SRAM_CNT_CORR n + 1) 65535 := by
    rw [State.rd_inc, hlog]
    rfl
  unfold State.sramCorrected
  extract_lets k s1
  split
  · exact ⟨hinc, rfl⟩
  · exact ⟨hinc, rfl⟩

theorem State.sramBad_effect (s : State) (n w : Nat) :
    (s.sramBad n w).rd F.MEM_SRAM_CNT_UNCORR n = min (s.rd F.MEM_SRAM_CNT_UNCORR n + 1) 65535 ∧
      (s.sramBad n w).mem = s.mem ∧ (s.sramBad n w).flips = s.flips ∧ (s.sramBad n w).Stages (s.tileOf n) 0x02 := by
  have hlog : (s.sramLog n w).rd F.MEM_SRAM_CNT_UNCORR n = s.rd F.MEM_SRAM_CNT_UNCORR n := by
    unfold State.sramLog
    rw [State.rd_wr_apart _ _ _ _ _ _ (by decide), State.rd_wr_apart _ _ _ _ _ _ (by decide)]
  have hinc : ((s.sramLog n w).inc F.MEM_SRAM_CNT_UNCORR 1 n).rd F.MEM_SRAM_CNT_UNCORR n =
      min (s.rd F.MEM_SRAM_CNT_UNCORR n + 1) 65535 := by
    rw [State.rd_inc, hlog]
    rfl
  exact ⟨hinc, rfl, rfl, State.report_stages ..⟩

theorem State.writeBack_corrected {w : Nat} {ws : List Nat} {d : Word} {e : Code}
    (hb : (s.core n).writeback = w :: ws) (h : s.decodeAt (sramAddr n w) = .corrected d e) :
    s.writeBack n = (s.onCore n (fun c => { c with writeback := ws })).setWord (sramAddr n w) d := by
  unfold State.writeBack
  rw [hb]
  dsimp only
  rw [h]

theorem State.setWord_core (s : State) (a : Nat) (v : Word) (n : Nat) : (s.setWord a v).core n = s.core n :=
  State.core_of_cores (s.setWord_cores a v) n

theorem State.setWord_regs (s : State) (a : Nat) (w : Word) : (s.setWord a w).regs = s.regs := by
  rw [State.setWord_frame]

end

/-- Settles O26: the fan-out of one entry, the end of an update, and the three outcomes of a patrol read. -/
theorem updatesFanOutAndScrub : Obligations.UpdatesFanOutAndScrub := by
  unfold Obligations.UpdatesFanOutAndScrub
  intro s n
  simp only [exec_fanoutInject, exec_coreUpdateDone, exec_sramPatrolRead, exec_sramCorrectedWriteback]
  refine ⟨fun h => by rw [State.fanout_none h], fun x r v hon hf hs hp hw hd => ⟨_, rfl, ?_⟩,
    fun c h => by rw [State.updateDone_early h], fun c hon hb hd => ⟨_, rfl, ?_⟩,
    fun h => ⟨by rw [State.patrol_off (by simp [h])], by rw [State.correctedBack_asleep h]⟩,
    fun h => by rw [State.patrol_off (by simp [h])], fun ha he hw => ⟨_, rfl, ?_⟩, fun w ws d e ha hb h => ⟨_, rfl, ?_⟩⟩
  · have hd' : (s.spikeTaken n r).decodeAt (sramAddr n (s.rd F.CORE_PART_OUT_BASE n + (s.group n x.group).outOfs +
        (x.slot - (s.group n x.group).base))) = .clean v := hd
    have hcore : ((s.spikeTaken n r).core n).spikes = r := congrArg CoreSt.spikes (State.core_onCore_self ..)
    rw [State.fanout_one hon hf hs hp, State.fanEntry_clean hw hd']
    split
    · exact ⟨hcore, rfl, rfl⟩
    · exact ⟨hcore, (List.append_nil _).symm, rfl⟩
  · rw [State.updateDone_end hon hb hd]
    refine ⟨?_, ?_, ?_, rfl, ?_⟩
    · rw [State.rd_wr_apart _ _ _ _ _ _ (by decide), State.rd_top_apart _ _ _ _ _ _ (by decide),
        State.rd_wr_apart _ _ _ _ _ _ (by decide)]
      exact State.rd_wr_of_lt s F.CORE_STAT_UPD_BUSY (v := 0) _ _ (by decide)
    · rw [State.rd_wr_apart _ _ _ _ _ _ (by decide), State.rd_top_apart _ _ _ _ _ _ (by decide)]
      refine State.rd_wr_of_lt _ F.CORE_UPD_STAT_LAST_UPD _ _ ?_
      have hwd : F.CORE_UPD_STAT_LAST_UPD.width = 16 := rfl
      rw [hwd]
      omega
    · have hmax : ((s.wr F.CORE_STAT_UPD_BUSY 0 n).wr F.CORE_UPD_STAT_LAST_UPD (min ((s.core n).updCycles + c) 65535)
          n).rd F.CORE_UPD_STAT_MAX_UPD n = s.rd F.CORE_UPD_STAT_MAX_UPD n := by
        rw [State.rd_wr_apart _ _ _ _ _ _ (by decide), State.rd_wr_apart _ _ _ _ _ _ (by decide)]
      rw [State.rd_wr_apart _ _ _ _ _ _ (by decide)]
      unfold State.top
      rw [State.rd_wr_self, hmax]
      rfl
    · exact ((((OnlyWrites.refl _ s).wr F.CORE_STAT_UPD_BUSY _ n 0 (by simp)).wr F.CORE_UPD_STAT_LAST_UPD _ n 0
        (by simp)).wr F.CORE_UPD_STAT_MAX_UPD _ n 0 (by simp)).wr F.LRN_STAT_PASS_BUSY _ n 0 (by simp)
  · rw [State.patrol_on ha he]
    obtain ⟨u, hu⟩ : ∃ u, u = s.act (n / 128) 3 1 := ⟨_, rfl⟩
    obtain ⟨w, hwe⟩ : ∃ w, w = (s.core n).patrol := ⟨_, rfl⟩
    have hp : (u.core n).patrol = w := by rw [hu, hwe]; rfl
    have hmem : u.mem = s.mem ∧ u.flips = s.flips ∧ u.regs = s.regs := by rw [hu]; exact ⟨rfl, rfl, rfl⟩
    obtain ⟨hm, hfl, hr⟩ := hmem
    have hdec : u.decodeAt (sramAddr n w) = s.decodeAt (sramAddr n w) := by rw [hu]; rfl
    have htile : u.tileOf n = s.tileOf n := by rw [hu]; rfl
    rw [← hwe] at hw ⊢
    rw [← hu, ← hdec]
    cases h : u.decodeAt (sramAddr n w) with
    | clean d =>
      rw [State.patrolRead_clean hp hw h]
      refine ⟨State.moved_patrol .., fun x _ => State.byte_of_mem (t := u.moved n w) hm x, fun _ _ => ⟨hm, hfl, hr⟩,
        fun _ _ hc => ?_, fun hc => ?_⟩
      · cases hc
      · cases hc
    | corrected d e =>
      obtain ⟨hcnt, hcm⟩ := u.sramCorrected_effect n w
      obtain ⟨h1, h2, h3⟩ := (storedWord_setWord ((u.sramCorrected n w).moved n w) (sramAddr n w) d).of_eq rfl rfl
        (hm.symm.trans hcm.symm)
      rw [State.patrolRead_corrected hp hw h, State.setWord_core]
      refine ⟨State.moved_patrol .., h3, fun _ hc => ?_, fun d' e' hc => ?_, fun hc => ?_⟩
      · cases hc
      · cases hc
        refine ⟨h1, h2, ?_⟩
        rw [State.rd_of_regs (State.setWord_regs ..), ← State.rd_of_regs hr]
        exact hcnt
      · cases hc
    | bad =>
      obtain ⟨hcnt, hbm, hbf, hst⟩ := u.sramBad_effect n w
      rw [State.patrolRead_bad hp hw h]
      refine ⟨State.moved_patrol .., fun x _ => State.byte_of_mem (t := (u.sramBad n w).moved n w) (hbm.trans hm) x,
        fun _ hc => ?_, fun _ _ hc => ?_, fun _ => ⟨hbm.trans hm, hbf.trans hfl, ?_, ?_⟩⟩
      · cases hc
      · cases hc
      · rw [← State.rd_of_regs hr]
        exact hcnt
      · rw [← htile]
        exact hst
  · have heq : s.correctedBack n = s.writeBack n := if_pos ha
    obtain ⟨h1, h2, -⟩ := storedWord_setWord (s.onCore n (fun c => { c with writeback := ws })) (sramAddr n w) d
    rw [heq, State.writeBack_corrected hb h, State.setWord_core, State.core_onCore_self]
    exact ⟨rfl, h1, h2, State.setWord_regs ..⟩

end Sys2Proof.Machine
end

section
/-! Numbers spelled by bytes (00_scope.md R3). -/
namespace Sys2Proof.Machine

theorem ofBytes_cons (b : Byte) (bs : List Byte) : ofBytes (b :: bs) = b.toNat + 256 * ofBytes bs := rfl

theorem ofBytes_drop (n : Nat) : ∀ bs : List Byte, ofBytes (bs.drop n) = ofBytes bs / 256 ^ n := by
  induction n with
  | zero => intro bs; simp
  | succ n ih =>
    rintro (_ | ⟨b, bs⟩)
    · simp [ofBytes]
    · have hb := b.isLt
      rw [List.drop_succ_cons, ih, ofBytes_cons, Nat.pow_succ', ← Nat.div_div_eq_div_mul]
      congr 1
      omega

theorem ofBytes_take (n : Nat) : ∀ bs : List Byte, ofBytes (bs.take n) = ofBytes bs % 256 ^ n := by
  induction n with
  | zero => intro bs; simp [ofBytes, Nat.mod_one]
  | succ n ih =>
    rintro (_ | ⟨b, bs⟩)
    · simp [ofBytes]
    · have hb := b.isLt
      rw [List.take_succ_cons, ofBytes_cons, ih, ofBytes_cons, Nat.pow_succ', Nat.mod_mul,
        show (b.toNat + 256 * ofBytes bs) % 256 = b.toNat by omega,
        show (b.toNat + 256 * ofBytes bs) / 256 = ofBytes bs by omega]

theorem byteField_eq (bs : List Byte) (p n : Nat) : byteField bs p n = ofBytes bs / 256 ^ p % 256 ^ n := by
  unfold byteField
  rw [ofBytes_take, ofBytes_drop]

/-- A packet's opcode is byte 2 of its first word. -/
theorem bits_word0_opcode (c : HostCmd) : bits c.word0 23 16 = c.op := by
  unfold HostCmd.word0 HostCmd.op bits
  rw [byteField_eq, byteField_eq]
  omega

theorem byteField_lt (bs : List Byte) (p n : Nat) : byteField bs p n < 256 ^ n := by
  rw [byteField_eq]
  exact Nat.mod_lt _ (Nat.pow_pos (by decide))

end Sys2Proof.Machine
end

section
/-! Taking, checking and answering a command (12_command_interface.md R326 to R329). -/
namespace Sys2Proof.Machine

section
variable {s u : State} {c : HostCmd} {k : Opcode} {body : Nat → Bool → State → State × Result}

theorem serve_not_taken (h : s.takeCmd c = none) : s.serve k c body = s := by
  unfold State.serve
  rw [h]
  exact ite_self s

theorem serve_done (h : Ready s c) (ho : c.op = k.op) (hr : k.reason s.took c = none) {r : Nat} {d : List Byte}
    (hb : body s.grain false s.took = (u, .done r d)) : s.serve k c body = u.answer c r d :=
  (serve_taken body h ho hr).trans (by rw [hb])

/-- The state with the reply of a command put off. -/
def State.putOff (s : State) (c : HostCmd) (op arg : Nat) : State :=
  { s with cmd := { s.cmd with deferred := s.cmd.deferred ++ [⟨op, c.word0, c.ackReq, c.path, arg⟩] } }

theorem serve_later (h : Ready s c) (ho : c.op = k.op) (hr : k.reason s.took c = none) {arg : Nat}
    (hb : body s.grain false s.took = (u, .later arg)) : s.serve k c body = u.putOff c k.op arg :=
  (serve_taken body h ho hr).trans (by rw [hb]; rfl)

theorem State.took_frame (s : State) : s.took = { s with regs := s.took.regs } := rfl

theorem State.took_onlyWrites (s : State) : OnlyWrites [F.CMD_CNT_CMDS.key 0 0] s s.took :=
  (OnlyWrites.refl _ s).inc F.CMD_CNT_CMDS 1 0 0 (by simp)

/-- The state with one more reply in the reply FIFO. -/
def State.placed (s : State) (b : List Byte) : State :=
  { s with cmd := { s.cmd with replies := s.cmd.replies ++ [b], ibiReply := s.cmd.ibiReply + 1 } }

/-- A refusal on the I3C path: its status is noted and its reply placed. -/
theorem answer_refusal {r : Nat} (hs : statusOf r ≠ 0) (h : c.path ≠ .inband) (hl : s.cmd.replies.length < 4)
    (hw : s.cmd.replyWait = []) (data : List Byte) :
    s.answer c r data = (s.noted c.word0 r).placed (replyBytes c.word0 (statusOf r) r data) := by
  have hcmd : (s.noted c.word0 r).cmd = s.cmd := by rw [State.noted_frame]
  have hp := place_one (x := (s.noted c.word0 r).cmd) (replyBytes c.word0 (statusOf r) r data) (by rw [hcmd]; exact hl)
    (by rw [hcmd]; exact hw)
  unfold State.answer State.sendReply
  extract_lets st s1 b
  rw [if_neg (fun hc => hs hc.1)]
  cases hc : c.path with
  | inband => exact absurd hc h
  | _ =>
    change { s.noted c.word0 r with cmd := CmdSt.place { (s.noted c.word0 r).cmd with replyWait :=
      (s.noted c.word0 r).cmd.replyWait ++ [b] } } = _
    rw [hp]
    rfl

/-- An OK answer changes only the reply FIFO. -/
theorem answer_ok_frame (h : c.path ≠ .inband) (hl : s.cmd.replies.length < 4) (hw : s.cmd.replyWait = [])
    (data : List Byte) : s.answer c 0 data = { s with cmd := (s.answer c 0 data).cmd } := by
  rw [answer_ok h hl hw]
  split <;> rfl

/-- The OK answer of a device that was ready and whose replies the command's effect left alone. -/
theorem answered_ok (h : Ready s c) (hr : u.cmd.replies = s.cmd.replies) (hw : u.cmd.replyWait = s.cmd.replyWait)
    (data : List Byte) :
    Answered s (u.answer c 0 data) c data ∧ u.answer c 0 data = { u with cmd := (u.answer c 0 data).cmd } := by
  obtain ⟨-, -, -, -, -, -, hlen, hwait, -, hpath⟩ := h
  have hl : u.cmd.replies.length < 4 := by rw [hr]; exact hlen
  have hu : u.cmd.replyWait = [] := hw.trans hwait
  refine ⟨⟨fun hd => ?_, fun hd ha => ?_⟩, answer_ok_frame hpath hl hu data⟩
  · rw [answer_ok hpath hl hu, if_neg ?_]
    · change u.cmd.replies ++ _ = _
      rw [hr]
    · rintro ⟨h1, h2⟩
      rcases hd with hd | hd
      · exact hd h1
      · rw [h2] at hd
        cases hd
  · rw [answer_ok hpath hl hu, if_pos ⟨hd, ha⟩, hr]

end

theorem statusOf_lt (r : Nat) : statusOf r < 4 := by
  unfold statusOf
  split_ifs <;> decide

section
variable (s : State) (word0 reason : Nat)

/-- What the status of a refusal shows. -/
theorem State.noted_shows (h : statusOf reason ≠ 0) :
    (s.noted word0 reason).rd F.CMD_CNT_NOT_OK = min (s.rd F.CMD_CNT_NOT_OK + 1) 65535 ∧
    (s.noted word0 reason).rd F.CMD_LAST_REASON = reason % 65536 ∧
    (s.noted word0 reason).rd F.CMD_LAST_OPCODE = bits word0 23 16 % 256 ∧
    (s.noted word0 reason).rd F.CMD_LAST_STATUS = statusOf reason ∧
    OnlyWrites [F.CMD_CNT_NOT_OK.key 0 0, F.CMD_LAST_REASON.key 0 0, F.CMD_LAST_OPCODE.key 0 0, F.CMD_LAST_STATUS.key 0 0] s
      (s.noted word0 reason) := by
  unfold State.noted
  rw [if_neg h]
  refine ⟨?_, ?_, ?_, ?_, ?_⟩
  · rw [State.rd_wr_apart _ _ _ _ _ _ (by decide), State.rd_wr_apart _ _ _ _ _ _ (by decide),
      State.rd_wr_apart _ _ _ _ _ _ (by decide), State.rd_inc]
    rfl
  · rw [State.rd_wr_apart _ _ _ _ _ _ (by decide), State.rd_wr_apart _ _ _ _ _ _ (by decide), State.rd_wr_self]
    rfl
  · rw [State.rd_wr_apart _ _ _ _ _ _ (by decide), State.rd_wr_self]
    rfl
  · exact State.rd_wr_of_lt _ F.CMD_LAST_STATUS _ _ (statusOf_lt reason)
  · exact ((((OnlyWrites.refl _ s).inc F.CMD_CNT_NOT_OK 1 0 0 (by simp)).wr F.CMD_LAST_REASON _ 0 0 (by simp)).wr
      F.CMD_LAST_OPCODE _ 0 0 (by simp)).wr F.CMD_LAST_STATUS _ 0 0 (by simp)

end

/-- The state once a command that fails its check was counted. -/
def State.faulted (s : State) (r : Nat) : State := if r = 0x0D01 then s.took.inc F.CMD_CNT_CRC_ERR else s.took

theorem State.faulted_frame (s : State) (r : Nat) : s.faulted r = { s with regs := (s.faulted r).regs } := by
  unfold State.faulted
  split <;> rfl

theorem State.faulted_counts (s : State) (r : Nat) :
    (s.faulted r).rd F.CMD_CNT_CMDS = min (s.rd F.CMD_CNT_CMDS + 1) (2 ^ 32 - 1) ∧
    (s.faulted r).rd F.CMD_CNT_CRC_ERR =
      (if r = 0x0D01 then min (s.rd F.CMD_CNT_CRC_ERR + 1) 65535 else s.rd F.CMD_CNT_CRC_ERR) ∧
    OnlyWrites [F.CMD_CNT_CMDS.key 0 0, F.CMD_CNT_CRC_ERR.key 0 0] s (s.faulted r) := by
  have hcmds : s.took.rd F.CMD_CNT_CMDS = min (s.rd F.CMD_CNT_CMDS + 1) (2 ^ 32 - 1) := State.rd_inc s F.CMD_CNT_CMDS 1 0 0
  have hcrc : s.took.rd F.CMD_CNT_CRC_ERR = s.rd F.CMD_CNT_CRC_ERR :=
    State.rd_inc_apart (f := F.CMD_CNT_CMDS) s 1 0 0 0 0 (by decide)
  have hw : OnlyWrites [F.CMD_CNT_CMDS.key 0 0, F.CMD_CNT_CRC_ERR.key 0 0] s s.took := s.took_onlyWrites.mono (by simp)
  unfold State.faulted
  split
  · refine ⟨?_, ?_, hw.inc F.CMD_CNT_CRC_ERR 1 0 0 (by simp)⟩
    · rw [State.rd_inc_apart _ _ _ _ _ _ (by decide), hcmds]
    · rw [State.rd_inc, hcrc]
      rfl
  · exact ⟨hcmds, hcrc, hw⟩

theorem replyBytes_form (w st r : Nat) (d : List Byte) : ∃ b, replyBytes w st r d = b ++ toBytes 4 (crc32c b).toNat ∧
    b.length = 8 + d.length ∧ byteField b 0 4 = w % 2 ^ 32 ∧
    (st < 4 → r < 65536 → byteField b 4 4 = st * 2 ^ 24 + r * 2 ^ 8) ∧ b.drop 8 = d := by
  obtain ⟨x, hx⟩ : ∃ x, x = toBytes 4 (st * 2 ^ 24 + r * 2 ^ 8) := ⟨_, rfl⟩
  have hwl : (toBytes 4 w).length = 4 := toBytes_length 4 w
  have hxl : x.length = 4 := by rw [hx]; exact toBytes_length 4 _
  refine ⟨toBytes 4 w ++ x ++ d, by rw [hx]; rfl, ?_, ?_, fun hst hr => ?_, ?_⟩
  · rw [List.length_append, List.length_append, hwl, hxl]
  · rw [byteField, List.drop_zero, List.append_assoc, List.take_left' hwl, ofBytes_toBytes]
  · have hv : st * 2 ^ 24 + r * 2 ^ 8 < 2 ^ (8 * 4) := by omega
    rw [byteField, List.append_assoc, List.drop_left' hwl, List.take_left' hxl, hx, ofBytes_toBytes, Nat.mod_eq_of_lt hv]
  · exact List.drop_left' (by rw [List.length_append, hwl, hxl])

theorem crc32c_check_value : crc32c [0x31, 0x32, 0x33, 0x34, 0x35, 0x36, 0x37, 0x38, 0x39] = 0xE3069283 := by decide +kernel

/-- Settles O27: rows without effect, a refusal counted and answered, and an OK answer without data. -/
theorem commandsAreCheckedBeforeTheyAct : Obligations.CommandsAreCheckedBeforeTheyAct := by
  unfold Obligations.CommandsAreCheckedBeforeTheyAct
  refine ⟨fun k c s body => ⟨fun h => ?_, fun r hR ho hr hs hlt => ?_, fun w b hR ho hr hb hbf hw => ?_⟩, replyBytes_form,
    crc32c_check_value⟩
  · rcases h with h | h
    · exact serve_other body h
    · exact serve_not_taken h
  · have hserve : s.serve k c body = (s.faulted r).answer c r [] := serve_refused body hR ho hr
    obtain ⟨-, -, -, -, -, -, hlen, hwait, -, hpath⟩ := hR
    have hfr := s.faulted_frame r
    obtain ⟨h1, h2, h3⟩ := s.faulted_counts r
    obtain ⟨u, hu⟩ : ∃ u, u = s.faulted r := ⟨_, rfl⟩
    rw [← hu] at hserve hfr h1 h2 h3
    have hcmd : u.cmd = s.cmd := by rw [hfr]
    have hans := answer_refusal (s := u) (c := c) (r := r) hs hpath (by rw [hcmd]; exact hlen) (by rw [hcmd]; exact hwait) []
    obtain ⟨n1, n2, n3, n4, n5⟩ := u.noted_shows c.word0 r hs
    have hnf := u.noted_frame c.word0 r
    have hno : u.rd F.CMD_CNT_NOT_OK = s.rd F.CMD_CNT_NOT_OK := h3.rd_eq F.CMD_CNT_NOT_OK
    obtain ⟨v, hv⟩ : ∃ v, v = u.noted c.word0 r := ⟨_, rfl⟩
    rw [← hv] at n1 n2 n3 n4 n5 hnf
    have hvc : v.cmd = s.cmd := by rw [hnf, ← hcmd]
    rw [← hv, ← hserve] at hans
    have hrd (f : Fld) : (s.serve k c body).rd f = v.rd f := State.rd_of_regs (by rw [hans]; rfl) f 0 0
    dsimp only
    rw [hrd, hrd, hrd, hrd, hrd, hrd, n1, n2, n3, n4, hno, n5.rd_eq F.CMD_CNT_CMDS,
      n5.rd_eq F.CMD_CNT_CRC_ERR, h1, h2, Nat.mod_eq_of_lt hlt, bits_word0_opcode, ho]
    refine ⟨?_, rfl, rfl, rfl, rfl, rfl, rfl, ?_, ?_⟩
    · rw [hans, ← hvc]
      rfl
    · rw [hans, hnf, hfr]
      rfl
    · exact ((h3.mono (by simp)).trans (n5.mono (by simp))).of_regs (by rw [hans]; rfl)
  · subst hbf hw
    have hlen := hR.2.2.2.2.2.2.1
    rw [serve_done hR ho hr hb]
    obtain ⟨-, -, -, -, -, -, hlen, hwait, -, hpath⟩ := hR
    rw [answer_ok (s := s.took) hpath hlen hwait]
    cases hc : c.ackReq with
    | false => exact (List.append_nil _).symm
    | true => rfl

end Sys2Proof.Machine
end

section
/-! HELLO, IDENT, TELEMETRY and the opcodes without a row (12_command_interface.md R331 to R335). -/
namespace Sys2Proof.Machine

section
variable (s : State) (c : HostCmd)

theorem exec_hello : exec (.hello c) s = .next (s.serve helloOp c (fun _ _ t => t.hello c)) := rfl
theorem exec_ident : exec (.ident c) s = .next (s.serve identOp c (fun _ _ t => (t, .done 0 t.identData))) := rfl
theorem exec_telemetry : exec (.telemetry c) s =
    .next (s.serve telemetryOp c (fun _ _ t => (t, .done 0 (t.telemetry (c.par 0 1))))) := rfl
theorem exec_drulumReservedOpcode : exec (.drulumReservedOpcode c) s = .next (s.reservedOpcode c) := rfl
theorem exec_diagnosticOpcode : exec (.diagnosticOpcode c) s = execDiagnosticOpcode c s := rfl

/-- The state with the features that HELLO agrees on, and minor version 0. -/
def State.greeted : State :=
  { s.wr F.CMD_FEAT_FEATURES ((c.par 4 4).land 0x3F) with
    cmd := { (s.wr F.CMD_FEAT_FEATURES ((c.par 4 4).land 0x3F)).cmd with minor := 0 } }

theorem State.hello_eq : s.hello c =
    (s.greeted c, .done 0 ([1, 0, 0, 0] ++ toBytes 4 ((c.par 4 4).land 0x3F) ++ toBytes 4 0x3F)) := by
  unfold State.hello
  rw [Nat.min_zero]
  rfl

end

section
variable {s u : State} {c : HostCmd}

/-- A row that changes nothing and answers OK. -/
theorem answered_only (h : Ready s c) (data : List Byte) : Answered s (s.took.answer c 0 data) c data ∧
    s.took.answer c 0 data =
      { s with regs := (s.took.answer c 0 data).regs, cmd := (s.took.answer c 0 data).cmd } ∧
    OnlyWrites [F.CMD_CNT_CMDS.key 0 0] s (s.took.answer c 0 data) := by
  obtain ⟨ha, hf⟩ := answered_ok (u := s.took) h rfl rfl data
  refine ⟨ha, ?_, s.took_onlyWrites.of_regs (by rw [hf])⟩
  rw [hf]
  rfl

/-- A refused command is answered, and only registers and the command unit change. -/
theorem serve_refusal {k : Opcode} {r : Nat} (body : Nat → Bool → State → State × Result) (h : Ready s c) (ho : c.op = k.op)
    (hr : k.reason s.took c = some r) (hs : statusOf r ≠ 0) (hlt : r < 65536) :
    (s.serve k c body).cmd.replies = s.cmd.replies ++ [replyBytes c.word0 (statusOf r) r []] ∧
      s.serve k c body = { s with regs := (s.serve k c body).regs, cmd := (s.serve k c body).cmd } := by
  obtain ⟨hcmd, -, -, -, -, -, -, hframe, -⟩ := (commandsAreCheckedBeforeTheyAct.1 k c s body).2.1 r h ho hr hs hlt
  exact ⟨by rw [hcmd], hframe⟩

theorem State.reservedOpcode_eq (h : Ready s c) (ht : opcodes.contains c.op = false) (hd : diagnosticOp c = false)
    (hcrc : c.crcOk = true) : s.reservedOpcode c = s.took.answer c 0x0D02 [] := by
  unfold State.reservedOpcode
  rw [if_neg (by simp only [ht, hd, Bool.or_self]; exact Bool.false_ne_true), takeCmd_of_ready h]
  exact if_pos hcrc

theorem execDiagnosticOpcode_open (h : Ready s c) (hd : diagnosticOp c = true) (hr : (vendorOp c).reason s.took c = none) :
    execDiagnosticOpcode c s = .fault .vendorDiagnostic := by
  unfold execDiagnosticOpcode
  rw [if_neg (by simp [hd]), takeCmd_of_ready h]
  dsimp only
  rw [show (vendorOp c).reason (s.inc F.CMD_CNT_CMDS) c = none from hr]

theorem execDiagnosticOpcode_closed {r : Nat} (h : Ready s c) (hd : diagnosticOp c = true)
    (hr : (vendorOp c).reason s.took c = some r) :
    execDiagnosticOpcode c s = .next (s.serve (vendorOp c) c (fun _ _ t => (t, .done 0 []))) := by
  unfold execDiagnosticOpcode
  rw [if_neg (by simp [hd]), takeCmd_of_ready h]
  dsimp only
  rw [show (vendorOp c).reason (s.inc F.CMD_CNT_CMDS) c = some r from hr]

end

/-- Settles O28: the three answers, the reserved opcodes, and the vendor's with the scope open and closed. -/
theorem identityAndTelemetryAnswer : Obligations.IdentityAndTelemetryAnswer := by
  unfold Obligations.IdentityAndTelemetryAnswer
  intro s c hR
  simp only [exec_hello, exec_ident, exec_telemetry, exec_drulumReservedOpcode, exec_diagnosticOpcode]
  refine ⟨fun ho hr => ⟨_, rfl, ?_⟩, fun ho hr => ⟨_, rfl, ?_⟩, fun ho hr => ⟨_, rfl, ?_⟩, fun ht hd hcrc => ⟨_, rfl, ?_⟩,
    fun hd hr => execDiagnosticOpcode_open hR hd hr, fun hd hr => ⟨_, execDiagnosticOpcode_closed hR hd hr, ?_⟩⟩
  · rw [serve_done hR ho hr (s.took.hello_eq c)]
    obtain ⟨ha, hf⟩ := answered_ok (u := s.took.greeted c) hR rfl rfl
      ([1, 0, 0, 0] ++ toBytes 4 ((c.par 4 4).land 0x3F) ++ toBytes 4 0x3F)
    have hreg : ∀ f, ((s.took.greeted c).answer c 0
        ([1, 0, 0, 0] ++ toBytes 4 ((c.par 4 4).land 0x3F) ++ toBytes 4 0x3F)).rd f = (s.took.greeted c).rd f :=
      fun f => State.rd_of_regs (by rw [hf]) f 0 0
    have hfeat : (s.took.greeted c).rd F.CMD_FEAT_FEATURES = (c.par 4 4).land 0x3F := by
      refine State.rd_wr_of_lt s.took F.CMD_FEAT_FEATURES 0 0 (Nat.lt_of_le_of_lt Nat.and_le_right ?_)
      decide
    have hmin : ((s.took.greeted c).answer c 0
        ([1, 0, 0, 0] ++ toBytes 4 ((c.par 4 4).land 0x3F) ++ toBytes 4 0x3F)).cmd.minor = 0 := by
      obtain ⟨-, -, -, -, -, -, hlen, hwait, -, hpath⟩ := hR
      rw [answer_ok (s := s.took.greeted c) hpath hlen hwait]
      split <;> rfl
    refine ⟨(hreg _).trans hfeat, hmin, ha, ?_, ?_⟩
    · rw [hf]
      rfl
    · exact ((s.took_onlyWrites.mono (by simp)).wr F.CMD_FEAT_FEATURES _ 0 0 (by simp)).of_regs (by rw [hf]; rfl)
  · rw [serve_done hR ho hr rfl]
    exact answered_only hR _
  · rw [serve_done hR ho hr rfl]
    exact answered_only hR _
  · obtain ⟨-, -, -, -, -, -, hlen, hwait, -, hpath⟩ := id hR
    rw [State.reservedOpcode_eq hR ht hd hcrc,
      answer_refusal (s := s.took) (r := 0x0D02) (by decide) hpath hlen hwait]
    have hfr := s.took.noted_frame c.word0 0x0D02
    obtain ⟨-, hreason, -⟩ := s.took.noted_shows c.word0 0x0D02 (by decide)
    obtain ⟨v, hv⟩ : ∃ v, v = s.took.noted c.word0 0x0D02 := ⟨_, rfl⟩
    rw [← hv] at hfr hreason ⊢
    refine ⟨?_, hreason, ?_⟩
    · rw [hfr]
      rfl
    · rw [hfr]
      rfl
  · have hst : statusOf 0x0A10 = 3 := by decide
    obtain ⟨h1, h2⟩ := serve_refusal (k := vendorOp c) (r := 0x0A10) (fun _ _ t => (t, .done 0 [])) hR rfl hr
      (by rw [hst]; decide) (by decide)
    rw [hst] at h1
    exact ⟨h1, h2⟩

end Sys2Proof.Machine
end

section
/-! Starting and stopping the model by command (12_command_interface.md R333, R336, R344, 02_time_and_ordering.md R44). -/
namespace Sys2Proof.Machine

section
variable (s : State) (c : HostCmd)

theorem exec_enable : exec (.enable c) s = .next (s.serve enableOp c (fun _ _ t => (t.checkStart, .later 0))) := rfl
theorem exec_disable : exec (.disable c) s = .next (s.serve (stopOp 0x19) c (fun _ _ t => (t.disable, .later 0))) := rfl
theorem exec_quiesce : exec (.quiesce c) s = .next (s.serve (stopOp 0x1A) c
    (fun stamp _ t => (t.quiesce (t.frameOf stamp), .later (t.frameOf stamp + 1)))) := rfl
theorem exec_quench : exec (.quench c) s =
    .next (s.serve quenchOp c (fun stamp waited t => t.quenchCmd stamp waited)) := rfl
theorem exec_quenchNLow : exec .quenchNLow s = .next s.quenchLow := rfl
theorem exec_step : exec (.step c) s = .next (s.serve stepOp c (fun _ _ t => (t.inc F.TIME_STEP_GRANT_GRANT (c.par 0 4),
    .done 0 (toBytes 4 ((t.inc F.TIME_STEP_GRANT_GRANT (c.par 0 4)).rd F.TIME_STEP_GRANT_GRANT))))) := rfl

end

/-- The register fields that place a stamp on the grid of steps and frames. -/
def gridFlds : List Fld := [F.TIME_CTRL_MODE, F.PAIR_STAT_PHASE, F.TIME_STEP_CFG_IN_GUARD, F.TIME_ORIGIN_ORIGIN,
  F.TIME_STEP_CFG_STEP_LEN, F.TIME_STEP_CFG_FRAME_STEPS]

section
variable {s t : State}

theorem State.stepOf_of_rd (ht : t.time = s.time) (hi : t.tinder = s.tinder) (hr : ∀ f ∈ gridFlds, t.rd f = s.rd f)
    (g : Nat) : t.stepOf g = s.stepOf g := by
  have hmode : t.on F.TIME_CTRL_MODE = s.on F.TIME_CTRL_MODE := State.on_of_rd (hr _ (by simp [gridFlds]))
  unfold State.stepOf State.windowAt State.gridStep State.stepLen
  rw [hmode, hr F.PAIR_STAT_PHASE (by simp [gridFlds]), hr F.TIME_STEP_CFG_IN_GUARD (by simp [gridFlds]),
    hr F.TIME_ORIGIN_ORIGIN (by simp [gridFlds]), hr F.TIME_STEP_CFG_STEP_LEN (by simp [gridFlds]), ht, hi]

theorem State.frameSteps_of_rd (hr : ∀ f ∈ gridFlds, t.rd f = s.rd f) : t.frameSteps = s.frameSteps :=
  hr _ (by simp [gridFlds])

theorem State.took_grid (s : State) : ∀ f ∈ gridFlds, s.took.rd f = s.rd f := by
  have h : ∀ f ∈ gridFlds, f.apart F.CMD_CNT_CMDS = true := by decide
  exact fun f hf => State.rd_inc_apart s 1 0 0 0 0 (h f hf)

theorem State.took_stepOf (s : State) (g : Nat) : s.took.stepOf g = s.stepOf g :=
  State.stepOf_of_rd (s := s) (t := s.took) rfl rfl s.took_grid g

theorem State.took_frameSteps (s : State) : s.took.frameSteps = s.frameSteps := State.frameSteps_of_rd (s := s) (t := s.took) s.took_grid

theorem State.took_frameOf (s : State) (g : Nat) : s.took.frameOf g = s.frameOf g := by
  unfold State.frameOf
  rw [s.took_stepOf, s.took_frameSteps]

end

/-- The state after a quench, whatever the TX ports then hold. -/
def State.quenched (s : State) (tx : List (Nat × TxSt)) : State :=
  { (((s.wr F.CHIP_CTRL_RUN_EN 0).wr F.ACT_STAT_LEVEL 0).wr F.ACT_ARM_ARM 0).wr F.CHIP_CTRL_QUENCHED 1 with
    time := { s.time with phase := .off, stop := .none }
    tinder := { s.tinder with winOpen := false }
    ash := { s.ash with actDue := [], pulseEnd := [], armNext := none }
    net := { s.net with stopped := true }
    tx := tx }

section
variable (s : State) (tx : List (Nat × TxSt))

theorem State.txQuenches_frame : ∃ tx, s.txQuenches = { s with tx := tx } := by
  have h (qs : List Nat) : ∀ s : State, ∃ tx, qs.foldl (fun s p => s.txQuench p) s = { s with tx := tx } := by
    induction qs with
    | nil => exact fun s => ⟨s.tx, rfl⟩
    | cons q qs ih =>
      intro s
      obtain ⟨tx, h⟩ := ih (s.txQuench q)
      exact ⟨tx, h⟩
  exact h s.txPorts s

theorem State.quenchFire_eq : ∃ tx, s.quenchFire = s.quenched tx := by
  obtain ⟨tx, h⟩ := s.runFall.txQuenches_frame
  refine ⟨tx, ?_⟩
  unfold State.quenchFire
  rw [h]
  rfl

/-- A quench with no command that waits for the run's end. -/
theorem State.quench_eq (h : s.cmd.deferred = []) : ∃ tx, s.quench = s.quenched tx := by
  obtain ⟨tx, ht⟩ := s.quenchFire_eq
  have hd : (s.quenched tx).cmd.deferred = [] := h
  refine ⟨tx, ?_⟩
  unfold State.quench
  extract_lets n
  have hn (op r : Nat) (d : List Byte) : (s.quenched tx).finish op r d = s.quenched tx :=
    finish_none r d (by rw [hd]; rfl)
  rw [ht, hn, hn]

theorem State.quenched_running : (s.quenched tx).running = false := by
  refine State.on_eq_false_iff.mpr ((State.rd_of_regs (s := (((s.wr F.CHIP_CTRL_RUN_EN 0).wr F.ACT_STAT_LEVEL 0).wr
    F.ACT_ARM_ARM 0).wr F.CHIP_CTRL_QUENCHED 1) rfl ..).trans ?_)
  rw [State.rd_wr_apart _ _ _ _ _ _ (by decide), State.rd_wr_apart _ _ _ _ _ _ (by decide),
    State.rd_wr_apart _ _ _ _ _ _ (by decide), State.rd_wr_self]
  rfl

theorem State.quenched_level : (s.quenched tx).rd F.ACT_STAT_LEVEL = 0 := by
  refine (State.rd_of_regs (s := (((s.wr F.CHIP_CTRL_RUN_EN 0).wr F.ACT_STAT_LEVEL 0).wr
    F.ACT_ARM_ARM 0).wr F.CHIP_CTRL_QUENCHED 1) rfl ..).trans ?_
  rw [State.rd_wr_apart _ _ _ _ _ _ (by decide), State.rd_wr_apart _ _ _ _ _ _ (by decide), State.rd_wr_self]
  rfl

theorem State.quenched_arm : (s.quenched tx).rd F.ACT_ARM_ARM = 0 := by
  refine (State.rd_of_regs (s := (((s.wr F.CHIP_CTRL_RUN_EN 0).wr F.ACT_STAT_LEVEL 0).wr
    F.ACT_ARM_ARM 0).wr F.CHIP_CTRL_QUENCHED 1) rfl ..).trans ?_
  rw [State.rd_wr_apart _ _ _ _ _ _ (by decide), State.rd_wr_self]
  rfl

theorem State.quenched_flag : (s.quenched tx).rd F.CHIP_CTRL_QUENCHED = 1 :=
  State.rd_wr_of_lt (((s.wr F.CHIP_CTRL_RUN_EN 0).wr F.ACT_STAT_LEVEL 0).wr F.ACT_ARM_ARM 0) F.CHIP_CTRL_QUENCHED
    (v := 1) 0 0 (by decide)

theorem State.quenched_onlyWrites : OnlyWrites [F.CHIP_CTRL_RUN_EN.key 0 0, F.ACT_STAT_LEVEL.key 0 0, F.ACT_ARM_ARM.key 0 0,
    F.CHIP_CTRL_QUENCHED.key 0 0] s (s.quenched tx) :=
  (((((OnlyWrites.refl _ s).wr F.CHIP_CTRL_RUN_EN 0 0 0 (by simp)).wr F.ACT_STAT_LEVEL 0 0 0 (by simp)).wr F.ACT_ARM_ARM 0 0 0
    (by simp)).wr F.CHIP_CTRL_QUENCHED 1 0 0 (by simp)).of_regs rfl

theorem State.quenchLow_down (h : s.boot.up = false) : s.quenchLow = s := by
  unfold State.quenchLow
  exact if_pos (by simp [h])

theorem State.quenchLow_up (h : s.boot.up = true) (hd : s.cmd.deferred = []) : ∃ tx, s.quenchLow =
    { s.quenched tx with pins := { s.pins with quenchN := false } } := by
  obtain ⟨tx, ht⟩ := s.quench_eq hd
  refine ⟨tx, ?_⟩
  unfold State.quenchLow
  rw [if_neg (by simp [h]), ht]
  rfl

end

theorem State.quenched_frame (s : State) (tx : List (Nat × TxSt)) : s.quenched tx =
    { s with regs := (s.quenched tx).regs, time := (s.quenched tx).time, tinder := (s.quenched tx).tinder
             ash := (s.quenched tx).ash, net := (s.quenched tx).net, tx := (s.quenched tx).tx } := rfl

/-- A QUENCH that is answered. -/
theorem quenched_answer {s : State} {c : HostCmd} (h : Ready s c) (tx : List (Nat × TxSt)) (d : List Byte) :
    let t := (s.took.quenched tx).answer c 0 d
    t.running = false ∧ t.rd F.ACT_STAT_LEVEL = 0 ∧ t.rd F.ACT_ARM_ARM = 0 ∧ t.rd F.CHIP_CTRL_QUENCHED = 1 ∧
      t.net.stopped = true ∧ t.time.phase = .off ∧ Answered s t c d ∧
      t = { s with regs := t.regs, cmd := t.cmd, time := t.time, tinder := t.tinder, ash := t.ash, net := t.net, tx := t.tx } ∧
      OnlyWrites [F.CMD_CNT_CMDS.key 0 0, F.CHIP_CTRL_RUN_EN.key 0 0, F.ACT_STAT_LEVEL.key 0 0, F.ACT_ARM_ARM.key 0 0,
        F.CHIP_CTRL_QUENCHED.key 0 0] s t := by
  intro t
  obtain ⟨ha, hf⟩ := answered_ok (u := s.took.quenched tx) h rfl rfl d
  have hu := s.took.quenched_frame tx
  have hw := (s.took_onlyWrites.mono (ls := [F.CMD_CNT_CMDS.key 0 0, F.CHIP_CTRL_RUN_EN.key 0 0, F.ACT_STAT_LEVEL.key 0 0,
    F.ACT_ARM_ARM.key 0 0, F.CHIP_CTRL_QUENCHED.key 0 0]) (by simp)).trans ((s.took.quenched_onlyWrites tx).mono (by simp))
  have h1 := s.took.quenched_running tx
  have h2 := s.took.quenched_level tx
  have h3 := s.took.quenched_arm tx
  have h4 := s.took.quenched_flag tx
  have h5 : (s.took.quenched tx).net.stopped = true := rfl
  have h6 : (s.took.quenched tx).time.phase = .off := rfl
  have ht : t = (s.took.quenched tx).answer c 0 d := rfl
  clear_value t
  rw [← ht] at ha hf
  obtain ⟨u, hue⟩ : ∃ u, u = s.took.quenched tx := ⟨_, rfl⟩
  rw [← hue] at hf hu hw h1 h2 h3 h4 h5 h6
  have hrd (f : Fld) : t.rd f = u.rd f := State.rd_of_regs (by rw [hf]) f 0 0
  refine ⟨(State.on_of_rd (hrd _)).trans h1, (hrd _).trans h2, (hrd _).trans h3, (hrd _).trans h4, ?_, ?_, ha, ?_,
    hw.of_regs (by rw [hf])⟩
  · rw [hf]; exact h5
  · rw [hf]; exact h6
  · rw [hf, hu]; rfl

/-- A row whose reply waits. -/
theorem waits_putOff {s u : State} (c : HostCmd) (op arg : Nat) (hd : u.cmd.deferred = s.cmd.deferred)
    (hr : u.cmd.replies = s.cmd.replies) : Waits s (u.putOff c op arg) c op arg := by
  refine ⟨?_, hr⟩
  rw [← hd]
  rfl

/-- Settles O31: the check's start, the two stops, the two quenches, and the grants. -/
theorem runControlCommandsActAtTheirTime : Obligations.RunControlCommandsActAtTheirTime := by
  unfold Obligations.RunControlCommandsActAtTheirTime
  intro s c
  simp only [exec_enable, exec_disable, exec_quiesce, exec_quench, exec_quenchNLow, exec_step]
  refine ⟨fun hR ho hr => ⟨_, rfl, ?_⟩, fun hR ho hr => ⟨_, rfl, ?_⟩, fun hR ho hr hs => ⟨_, rfl, ?_⟩,
    fun hR ho hr hd => ⟨_, rfl, ?_⟩, fun hu hd => ⟨_, rfl, ?_⟩, fun hu => by rw [s.quenchLow_down hu],
    fun hR ho hr => ⟨_, rfl, ?_⟩⟩
  · rw [serve_later hR ho hr rfl]
    have hregs : (s.took.checkStart.putOff c 0x18 0).regs = (s.took.wr F.CHIP_CTRL_CHECK_BUSY 1).regs := rfl
    refine ⟨?_, ?_, waits_putOff (s := s) c 0x18 0 rfl rfl, rfl,
      ((s.took_onlyWrites.mono (by simp)).wr F.CHIP_CTRL_CHECK_BUSY 1 0 0 (by simp)).of_regs hregs⟩
    · exact (State.rd_of_regs hregs ..).trans (State.rd_wr_of_lt s.took F.CHIP_CTRL_CHECK_BUSY (v := 1) _ _ (by decide))
    · refine (State.rd_of_regs hregs ..).trans ?_
      rw [State.rd_wr_apart _ _ _ _ _ _ (by decide)]
      exact State.rd_inc_apart (f := F.CMD_CNT_CMDS) s 1 0 0 0 0 (by decide)
  · rw [serve_later hR ho hr rfl]
    exact ⟨rfl, waits_putOff (s := s) c 0x19 0 rfl rfl, rfl, s.took_onlyWrites.of_regs rfl⟩
  · have hb : (s.took.quiesce (s.took.frameOf s.grain), Result.later (s.took.frameOf s.grain + 1)) =
        (s.took.quiesce (s.frameOf s.grain), Result.later (s.frameOf s.grain + 1)) := by rw [s.took_frameOf]
    have htime : (s.took.quiesce (s.frameOf s.grain)).time = { s.time with stop := .quiesce } := by
      unfold State.quiesce
      rw [show s.took.time.stop = .none from hs]
      rfl
    rw [serve_later hR ho hr hb]
    refine ⟨htime, ?_, waits_putOff (s := s) c 0x1A _ rfl rfl, rfl, s.took_onlyWrites.of_regs rfl⟩
    rw [← s.took_frameSteps]
    rfl
  · obtain ⟨tx, hq⟩ := s.took.quench_eq hd
    have hb : s.took.quenchCmd s.grain false = (s.took.quenched tx, .done 0 (toBytes 8 s.grain)) := by
      rw [← hq]
      rfl
    rw [serve_done hR ho hr hb]
    exact quenched_answer hR tx _
  · obtain ⟨tx, hq⟩ := s.quenchLow_up hu hd
    rw [hq]
    exact ⟨s.quenched_running tx, s.quenched_level tx, s.quenched_arm tx, s.quenched_flag tx, rfl, rfl, rfl,
      (s.quenched_onlyWrites tx).of_regs rfl⟩
  · have hg : (s.took.inc F.TIME_STEP_GRANT_GRANT (c.par 0 4)).rd F.TIME_STEP_GRANT_GRANT =
        min (s.rd F.TIME_STEP_GRANT_GRANT + c.par 0 4) (2 ^ 32 - 1) := by
      have h : s.took.rd F.TIME_STEP_GRANT_GRANT = s.rd F.TIME_STEP_GRANT_GRANT :=
        State.rd_inc_apart (f := F.CMD_CNT_CMDS) s 1 0 0 0 0 (by decide)
      rw [State.rd_inc, h]
      rfl
    have hb : (s.took.inc F.TIME_STEP_GRANT_GRANT (c.par 0 4),
        Result.done 0 (toBytes 4 ((s.took.inc F.TIME_STEP_GRANT_GRANT (c.par 0 4)).rd F.TIME_STEP_GRANT_GRANT))) =
        (s.took.inc F.TIME_STEP_GRANT_GRANT (c.par 0 4),
          .done 0 (toBytes 4 (min (s.rd F.TIME_STEP_GRANT_GRANT + c.par 0 4) (2 ^ 32 - 1)))) := by rw [hg]
    rw [serve_done hR ho hr hb]
    obtain ⟨ha, hf⟩ := answered_ok (u := s.took.inc F.TIME_STEP_GRANT_GRANT (c.par 0 4)) hR rfl rfl
      (toBytes 4 (min (s.rd F.TIME_STEP_GRANT_GRANT + c.par 0 4) (2 ^ 32 - 1)))
    obtain ⟨t, ht⟩ : ∃ t, t = (s.took.inc F.TIME_STEP_GRANT_GRANT (c.par 0 4)).answer c 0
      (toBytes 4 (min (s.rd F.TIME_STEP_GRANT_GRANT + c.par 0 4) (2 ^ 32 - 1))) := ⟨_, rfl⟩
    rw [← ht] at ha hf ⊢
    refine ⟨(State.rd_of_regs (by rw [hf]) ..).trans hg, ha, ?_, ?_⟩
    · rw [hf]; rfl
    · exact ((s.took_onlyWrites.mono (by simp)).inc F.TIME_STEP_GRANT_GRANT _ 0 0 (by simp)).of_regs (by rw [hf])

end Sys2Proof.Machine
end

section
/-! The commands on the fault log and the status table (15_faults.md R415, R416, R418). -/
namespace Sys2Proof.Machine

section
variable (s : State) (c : HostCmd)

theorem exec_faultRead : exec (.faultRead c) s =
    .next (s.serve faultReadOp c (fun _ _ t => t.faultRead (c.par 0 1))) := rfl
theorem exec_faultClear : exec (.faultClear c) s =
    .next (s.serve faultClearOp c (fun _ _ t => t.faultClear (c.par 0 2) (c.par 2 1))) := rfl
theorem exec_faultForce : exec (.faultForce c) s = .next (s.serve faultForceOp c (fun _ _ t => t.faultForce c)) := rfl

end

/-- Marking the first unread records read leaves the later ones unread. -/
theorem markRead_unread (n : Nat) (l : List LogRec) :
    (markRead n l).filter (·.unread) = (l.filter (·.unread)).drop n := by
  induction l generalizing n with
  | nil => cases n <;> simp [markRead]
  | cons r l ih =>
    cases n with
    | zero => rfl
    | succ n =>
      unfold markRead
      split
      · next h => simp [ih, h]
      · next h => simp [ih, h]

theorem markRead_length (n : Nat) (l : List LogRec) : (markRead n l).length = l.length := by
  induction l generalizing n with
  | nil => cases n <;> rfl
  | cons r l ih =>
    cases n with
    | zero => rfl
    | succ n =>
      unfold markRead
      split
      · simp [ih]
      · simp [ih]

theorem drop_length_take {α : Type} (m : Nat) (l : List α) : l.drop (l.take m).length = l.drop m := by
  rw [List.length_take]
  rcases Nat.le_total m l.length with h | h
  · rw [Nat.min_eq_left h]
  · rw [Nat.min_eq_right h, List.drop_length, List.drop_eq_nil_of_le h]

/-- The state after FAULT_READ of up to `m` records. -/
def State.faultSeen (s : State) (m : Nat) : State :=
  { s.wr F.OWL_STAT_LOST 0 with
    owl := { s.owl with log := markRead ((s.owl.log.filter (·.unread)).take m).length s.owl.log }
    cmd := { s.cmd with ibiFault := false } }

/-- What FAULT_READ answers. -/
def faultReply (new : List LogRec) (lost : Bool) (m : Nat) : List Byte :=
  toBytes 1 (new.take m).length ++ toBytes 1 (b2n lost + 2 * b2n (decide (m < new.length))) ++ toBytes 2 0 ++
    (new.take m).flatMap LogRec.bytes

theorem State.faultRead_eq (s : State) (m : Nat) : s.faultRead m =
    (s.faultSeen m, .done 0 (faultReply (s.owl.log.filter (·.unread)) (s.on F.OWL_STAT_LOST) m)) := rfl

section
variable {s u : State} {c : HostCmd}

/-- The refusal of a command whose effect left the command unit alone. -/
theorem answered_refusal {r : Nat} (h : Ready s c) (hu : u.cmd = s.cmd) (hs : statusOf r ≠ 0) (data : List Byte) :
    (u.answer c r data).cmd.replies = s.cmd.replies ++ [replyBytes c.word0 (statusOf r) r data] ∧
    u.answer c r data = { u with regs := (u.answer c r data).regs, cmd := (u.answer c r data).cmd } ∧
    OnlyWrites [F.CMD_CNT_NOT_OK.key 0 0, F.CMD_LAST_REASON.key 0 0, F.CMD_LAST_OPCODE.key 0 0, F.CMD_LAST_STATUS.key 0 0] u
      (u.answer c r data) := by
  obtain ⟨-, -, -, -, -, -, hlen, hwait, -, hpath⟩ := h
  have hans := answer_refusal (s := u) (c := c) hs hpath (by rw [hu]; exact hlen) (by rw [hu]; exact hwait) data
  have hfr := u.noted_frame c.word0 r
  obtain ⟨-, -, -, -, hw⟩ := u.noted_shows c.word0 r hs
  obtain ⟨v, hv⟩ : ∃ v, v = u.noted c.word0 r := ⟨_, rfl⟩
  rw [← hv] at hans hfr hw
  rw [hans]
  refine ⟨?_, ?_, hw.of_regs rfl⟩
  · rw [← hu, hfr]
    rfl
  · rw [hfr]
    rfl

theorem State.faultClear_unnamed {src kind : Nat} (h : sourceNamed src = false ∨ faultKinds.contains kind = false) :
    s.faultClear src kind = (s, .done 0x0C02 []) := by
  unfold State.faultClear
  rw [if_pos]
  rcases h with h | h <;> simp only [h, Bool.not_false, Bool.true_or, Bool.or_true]

theorem State.faultClear_none {src kind : Nat} (h1 : sourceNamed src = true) (h2 : faultKinds.contains kind = true)
    (h : s.entryOf src kind = none) : s.faultClear src kind = (s, .done 0 []) := by
  unfold State.faultClear
  rw [if_neg (by simp only [h1, h2]; decide), h]

theorem State.faultClear_entry {src kind i : Nat} (h1 : sourceNamed src = true) (h2 : faultKinds.contains kind = true)
    (h : s.entryOf src kind = some i) : s.faultClear src kind =
      if s.cause i then (s, .done 0x0C01 []) else ((s.wr F.OWL_ST_KEY_VALID 0 0 i).faultPin, .done 0 []) := by
  unfold State.faultClear
  rw [if_neg (by simp only [h1, h2]; decide), h]

end

theorem State.took_rd (s : State) {f : Fld} (u i : Nat) (h : f.apart F.CMD_CNT_CMDS = true) : s.took.rd f u i = s.rd f u i :=
  State.rd_inc_apart s 1 0 0 u i h

/-- Settles O32: the records read, the four answers of FAULT_CLEAR, and both of FAULT_FORCE. -/
theorem faultCommandsShowAndClear : Obligations.FaultCommandsShowAndClear := by
  unfold Obligations.FaultCommandsShowAndClear
  intro s c hR
  simp only [exec_faultRead, exec_faultClear, exec_faultForce]
  have hC2 : statusOf 0x0C02 = 1 := by decide
  have hC1 : statusOf 0x0C01 = 3 := by decide
  refine ⟨fun ho hr => ⟨_, rfl, ?_⟩, fun ho hr => ⟨fun h => ⟨_, rfl, ?_⟩, fun h1 h2 => ⟨fun h => ⟨_, rfl, ?_⟩,
    fun i h hc => ⟨_, rfl, ?_⟩, fun i h hc => ⟨_, rfl, ?_⟩⟩⟩, fun ho hr => ⟨fun h => ⟨_, rfl, ?_⟩, fun h => ⟨_, rfl, ?_⟩⟩⟩
  · rw [serve_done hR ho hr (s.took.faultRead_eq (c.par 0 1))]
    have hlost : s.took.on F.OWL_STAT_LOST = s.on F.OWL_STAT_LOST := State.on_of_rd (s.took_rd 0 0 (by decide))
    rw [hlost, show s.took.owl = s.owl from rfl]
    obtain ⟨ha, hf⟩ := answered_ok (u := s.took.faultSeen (c.par 0 1)) hR rfl rfl
      (faultReply (s.owl.log.filter (·.unread)) (s.on F.OWL_STAT_LOST) (c.par 0 1))
    have hibi : ((s.took.faultSeen (c.par 0 1)).answer c 0
        (faultReply (s.owl.log.filter (·.unread)) (s.on F.OWL_STAT_LOST) (c.par 0 1))).cmd.ibiFault = false := by
      obtain ⟨-, -, -, -, -, -, hlen, hwait, -, hpath⟩ := hR
      rw [answer_ok (s := s.took.faultSeen (c.par 0 1)) hpath hlen hwait]
      split <;> rfl
    have hlog : (s.took.faultSeen (c.par 0 1)).owl.log =
        markRead ((s.owl.log.filter (·.unread)).take (c.par 0 1)).length s.owl.log := rfl
    have hz : (s.took.faultSeen (c.par 0 1)).rd F.OWL_STAT_LOST = 0 :=
      State.rd_wr_of_lt s.took F.OWL_STAT_LOST (v := 0) 0 0 (by decide)
    have hw : OnlyWrites [F.CMD_CNT_CMDS.key 0 0, F.OWL_STAT_LOST.key 0 0] s (s.took.faultSeen (c.par 0 1)) :=
      ((s.took_onlyWrites.mono (by simp)).wr F.OWL_STAT_LOST 0 0 0 (by simp)).of_regs rfl
    refine ⟨(State.rd_of_regs (by rw [hf]) ..).trans hz, hibi, ha, ?_, ?_, ?_, hw.of_regs (by rw [hf])⟩
    · rw [hf]
      dsimp only
      rw [hlog, markRead_unread, drop_length_take]
    · rw [hf]
      dsimp only
      rw [hlog, markRead_length]
    · rw [hf]
      rfl
  · rw [serve_done hR ho hr (State.faultClear_unnamed h)]
    obtain ⟨h1, h2, -⟩ := answered_refusal (u := s.took) (r := 0x0C02) hR rfl (by rw [hC2]; decide) []
    rw [hC2] at h1
    refine ⟨h1, ?_⟩
    rw [h2]
    rfl
  · rw [serve_done hR ho hr (State.faultClear_none h1 h2 h)]
    obtain ⟨ha, hf, -⟩ := answered_only hR []
    exact ⟨ha, hf⟩
  · rw [serve_done hR ho hr ((State.faultClear_entry h1 h2 h).trans (if_pos hc))]
    obtain ⟨hr1, hr2, hw⟩ := answered_refusal (u := s.took) (r := 0x0C01) hR rfl (by rw [hC1]; decide) []
    rw [hC1] at hr1
    have hkey : F.OWL_ST_KEY_VALID.key 0 i ∉ [F.CMD_CNT_NOT_OK.key 0 0, F.CMD_LAST_REASON.key 0 0, F.CMD_LAST_OPCODE.key 0 0,
        F.CMD_LAST_STATUS.key 0 0] := by
      simp [Fld.key, F.OWL_ST_KEY_VALID, F.CMD_CNT_NOT_OK, F.CMD_LAST_REASON, F.CMD_LAST_OPCODE, F.CMD_LAST_STATUS, Reg.num]
    exact ⟨(hw F.OWL_ST_KEY_VALID 0 i hkey).trans (s.took_rd 0 i (by decide)), hr1⟩
  · rw [serve_done hR ho hr ((State.faultClear_entry h1 h2 h).trans (if_neg (by rw [hc]; exact Bool.false_ne_true)))]
    obtain ⟨u, hu⟩ : ∃ u, u = (s.took.wr F.OWL_ST_KEY_VALID 0 0 i).faultPin := ⟨_, rfl⟩
    have hcmd : u.cmd = s.cmd := by rw [hu]; rfl
    have hregs : u.regs = (s.took.wr F.OWL_ST_KEY_VALID 0 0 i).regs := by rw [hu]; rfl
    have hufr : u = { s with regs := u.regs, pins := u.pins } := by rw [hu]; rfl
    obtain ⟨ha, hf⟩ := answered_ok (u := u) hR (by rw [hcmd]) (by rw [hcmd]) []
    rw [← hu]
    have hz : (s.took.wr F.OWL_ST_KEY_VALID 0 0 i).rd F.OWL_ST_KEY_VALID 0 i = 0 :=
      State.rd_wr_of_lt s.took F.OWL_ST_KEY_VALID (v := 0) 0 i (by decide)
    have hw : OnlyWrites [F.CMD_CNT_CMDS.key 0 0, F.OWL_ST_KEY_VALID.key 0 i] s (s.took.wr F.OWL_ST_KEY_VALID 0 0 i) :=
      (s.took_onlyWrites.mono (by simp)).wr F.OWL_ST_KEY_VALID 0 0 i (by simp)
    have hr' : (u.answer c 0 []).regs = (s.took.wr F.OWL_ST_KEY_VALID 0 0 i).regs := by rw [hf]; exact hregs
    refine ⟨(State.rd_of_regs hr' ..).trans hz, ha, ?_, hw.of_regs hr'⟩
    rw [hf, hufr]
  · have hb : s.took.faultForce c = (s.took.force (c.par 0 2) (c.par 2 1) (c.par 3 1) (c.par 4 4), .done 0 []) := if_pos h
    rw [serve_done hR ho hr hb]
    obtain ⟨ha, hf⟩ := answered_ok (u := s.took.force (c.par 0 2) (c.par 2 1) (c.par 3 1) (c.par 4 4)) hR rfl rfl []
    refine ⟨ha, ?_, ?_, s.took_onlyWrites.of_regs (by rw [hf]; rfl)⟩
    · rw [hf]; rfl
    · rw [hf]; rfl
  · have hb : s.took.faultForce c = (s.took, .done 0x0C02 []) := if_neg (by rw [h]; exact Bool.false_ne_true)
    rw [serve_done hR ho hr hb]
    obtain ⟨h1, h2, -⟩ := answered_refusal (u := s.took) (r := 0x0C02) hR rfl (by rw [hC2]; decide) []
    rw [hC2] at h1
    refine ⟨?_, h1⟩
    rw [h2]
    rfl

end Sys2Proof.Machine
end

section
/-! The operations of a lane field (08_scheduled_plane.md R226). -/
namespace Sys2Proof.Machine

theorem sgn32_range (v : Nat) : -(2 ^ 31 : Int) ≤ sgn 32 v ∧ sgn 32 v < 2 ^ 31 := by
  unfold sgn
  dsimp only
  split <;> omega

/-- A signed number in range, spelled and read again. -/
theorem sgn32_uns32 {x : Int} (h1 : -(2 ^ 31 : Int) ≤ x) (h2 : x < 2 ^ 31) : sgn 32 (uns 32 x) = x := by
  unfold sgn uns
  dsimp only
  split <;> omega

theorem satS32_range (x : Int) : -(2 ^ 31 : Int) ≤ satS 32 x ∧ satS 32 x < 2 ^ 31 := by
  unfold satS
  omega

theorem half_lt (w : Word) (h : Nat) : half w h < 2 ^ 32 := by
  rw [half_eq]
  exact Nat.mod_lt _ (by decide)

theorem uns32_lt (x : Int) : uns 32 x < 2 ^ 32 := uns_lt 32 x

theorem laneHalf_lt {op x y : Nat} : laneHalf op x y < 2 ^ 32 := by
  unfold laneHalf
  split
  · exact uns32_lt _
  · exact uns32_lt _
  · exact Nat.mod_lt _ (by decide)

/-- The halves of a word spelled by two halves. -/
theorem half_ofNat_pair {x y h : Nat} (hx : x < 2 ^ 32) (hy : y < 2 ^ 32) (hh : h < 2) :
    half (BitVec.ofNat 64 (x + y * 2 ^ 32)) h = if h = 0 then x else y := by
  rw [half_eq, BitVec.toNat_ofNat]
  interval_cases h
  · rw [if_pos rfl]; omega
  · rw [if_neg (by decide)]; omega

theorem half_laneOp {op h : Nat} (a b : Word) (hop : op = 2 ∨ op = 3) (hh : h < 2) :
    half (laneOp op a b) h = laneHalf op (half a h) (half b h) := by
  have hl : laneOp op a b =
      BitVec.ofNat 64 (laneHalf op (half a 0) (half b 0) + laneHalf op (half a 1) (half b 1) * 2 ^ 32) := by
    rcases hop with rfl | rfl <;> rfl
  rw [hl, half_ofNat_pair laneHalf_lt laneHalf_lt hh]
  interval_cases h
  · rfl
  · rfl

theorem laneOp_add (a b : Word) :
    laneOp 1 a b = (a.extractLsb' 32 32 + b.extractLsb' 32 32) ++ (a.extractLsb' 0 32 + b.extractLsb' 0 32) := by
  have ha := a.isLt
  have hb := b.isLt
  have hl : laneOp 1 a b =
      BitVec.ofNat 64 ((half a 0 + half b 0) % 2 ^ 32 + (half a 1 + half b 1) % 2 ^ 32 * 2 ^ 32) := rfl
  apply BitVec.eq_of_toNat_eq
  rw [hl, BitVec.toNat_append, ← Nat.shiftLeft_add_eq_or_of_lt (BitVec.isLt _), Nat.shiftLeft_eq, BitVec.toNat_ofNat,
    BitVec.toNat_add, BitVec.toNat_add, BitVec.extractLsb'_toNat, BitVec.extractLsb'_toNat, BitVec.extractLsb'_toNat,
    BitVec.extractLsb'_toNat, half_eq, half_eq, half_eq, half_eq, Nat.shiftRight_eq_div_pow, Nat.shiftRight_eq_div_pow,
    Nat.shiftRight_eq_div_pow, Nat.shiftRight_eq_div_pow]
  omega

theorem quarter_eq (w : Word) (k : Nat) : quarter w k = w.toNat / 2 ^ (16 * k) % 2 ^ 16 := by
  unfold quarter bits
  rw [show 16 * k + 15 + 1 - 16 * k = 16 by omega]

theorem sum_range_four (g : Nat → Nat) : ((List.range 4).map g).sum = g 0 + g 1 + g 2 + g 3 := by
  rw [List.range_succ, List.range_succ, List.range_succ, List.range_succ, List.range_zero]
  simp only [List.nil_append, List.map_append, List.map_cons, List.map_nil, List.sum_append_nat, List.sum_cons,
    List.sum_nil, Nat.add_zero]

/-- The quarters of a word spelled by four quarters. -/
theorem quarter_ofNat_four {x y z w : Nat} (hx : x < 2 ^ 16) (hy : y < 2 ^ 16) (hz : z < 2 ^ 16) (hw : w < 2 ^ 16) :
    quarter (BitVec.ofNat 64 (x + y * 2 ^ 16 + z * 2 ^ 32 + w * 2 ^ 48)) 0 = x ∧
    quarter (BitVec.ofNat 64 (x + y * 2 ^ 16 + z * 2 ^ 32 + w * 2 ^ 48)) 1 = y ∧
    quarter (BitVec.ofNat 64 (x + y * 2 ^ 16 + z * 2 ^ 32 + w * 2 ^ 48)) 2 = z ∧
    quarter (BitVec.ofNat 64 (x + y * 2 ^ 16 + z * 2 ^ 32 + w * 2 ^ 48)) 3 = w := by
  rw [quarter_eq, quarter_eq, quarter_eq, quarter_eq, BitVec.toNat_ofNat]
  refine ⟨?_, ?_, ?_, ?_⟩
  · omega
  · omega
  · omega
  · omega

theorem laneOp_quarters (a b : Word) : laneOp 4 a b =
    BitVec.ofNat 64 ((quarter a 0 + quarter b 0) % 65536 + (quarter a 1 + quarter b 1) % 65536 * 2 ^ 16 +
      (quarter a 2 + quarter b 2) % 65536 * 2 ^ 32 + (quarter a 3 + quarter b 3) % 65536 * 2 ^ 48) := by
  have h : laneOp 4 a b =
      BitVec.ofNat 64 (((List.range 4).map fun k => (quarter a k + quarter b k) % 65536 * 2 ^ (16 * k)).sum) := rfl
  rw [h, sum_range_four]
  simp only [Nat.mul_zero, Nat.pow_zero, Nat.mul_one, Nat.reduceMul]

theorem quarter_laneOp {q : Nat} (a b : Word) (hq : q < 4) :
    quarter (laneOp 4 a b) q = (quarter a q + quarter b q) % 65536 := by
  have hlt (k : Nat) : (quarter a k + quarter b k) % 65536 < 2 ^ 16 := Nat.mod_lt _ (by decide)
  obtain ⟨h0, h1, h2, h3⟩ := quarter_ofNat_four (hlt 0) (hlt 1) (hlt 2) (hlt 3)
  rw [laneOp_quarters]
  interval_cases q
  · exact h0
  · exact h1
  · exact h2
  · exact h3

end Sys2Proof.Machine
end

section
/-! CORD_BEGIN (08_scheduled_plane.md R226, R229 to R231). -/
namespace Sys2Proof.Machine

theorem exec_cordBegin (s : State) (x : List LaneFault) : exec (.cordBegin x) s = .next (s.cordBegin x) := rfl

/-- No element twice, and none that the list has not. -/
theorem nodup_eraseDups (n : Nat) : ∀ l : List Nat, l.length ≤ n → l.eraseDups.Nodup ∧ ∀ x ∈ l.eraseDups, x ∈ l := by
  induction n with
  | zero =>
    intro l h
    rw [List.length_eq_zero_iff.mp (Nat.le_zero.mp h)]
    simp
  | succ n ih =>
    rintro (_ | ⟨a, l⟩) h
    · simp
    · have hlen : (l.filter fun b => !b == a).length ≤ n := by
        have := List.length_filter_le (fun b => !b == a) l
        simp only [List.length_cons] at h
        omega
      obtain ⟨h1, h2⟩ := ih _ hlen
      rw [List.eraseDups_cons]
      refine ⟨List.nodup_cons.mpr ⟨fun hm => ?_, h1⟩, fun x hx => ?_⟩
      · have := h2 a hm
        simp at this
      · rcases List.mem_cons.mp hx with rfl | hx
        · simp
        · exact List.mem_cons_of_mem _ (List.mem_of_mem_filter (h2 x hx))

theorem State.portTiles_nodup (s : State) : s.portTiles.Nodup := ((nodup_eraseDups _ _ (Nat.le_refl _)).1).filter _

section
variable (u : State) (k : Nat) (ready : Bool)

/-- The plane as cord `k` begins. -/
def State.atCord : State :=
  (({ u with cord := { u.cord with cord := k + 1 } }).wrB F.CORD_STAT_READY ready).wr F.CORD_STAT_BUSY 0

theorem State.atCord_rd {f : Fld} (c i : Nat) (h : f.apart F.CORD_STAT_READY = true) (h' : f.apart F.CORD_STAT_BUSY = true) :
    (u.atCord k ready).rd f c i = u.rd f c i := by
  unfold State.atCord
  rw [State.rd_wr_apart _ _ _ _ _ _ h', State.rd_wrB_apart _ _ _ _ _ _ h]
  rfl

theorem State.atCord_ready : (u.atCord k ready).rd F.CORD_STAT_READY = b2n ready := by
  have hb : b2n ready < 2 ^ F.CORD_STAT_READY.width := by cases ready <;> decide
  unfold State.atCord
  rw [State.rd_wr_apart _ _ _ _ _ _ (by decide)]
  exact State.rd_wr_of_lt _ F.CORD_STAT_READY _ _ hb

theorem State.atCord_busy : (u.atCord k ready).rd F.CORD_STAT_BUSY = 0 :=
  State.rd_wr_of_lt _ F.CORD_STAT_BUSY (v := 0) 0 0 (by decide)

theorem State.atCord_frame :
    u.atCord k ready = { u with regs := (u.atCord k ready).regs, cord := (u.atCord k ready).cord } := rfl

theorem State.atCord_onlyWrites : OnlyWrites [F.CORD_STAT_READY.key 0 0, F.CORD_STAT_BUSY.key 0 0] u (u.atCord k ready) :=
  (((OnlyWrites.refl _ u).of_regs (u := { u with cord := { u.cord with cord := k + 1 } }) rfl).wr F.CORD_STAT_READY _ 0 0
    (by simp)).wr F.CORD_STAT_BUSY 0 0 0 (by simp)

theorem State.atCord_unitsOn {f : Fld} (h : f.apart F.CORD_STAT_READY = true) (h' : f.apart F.CORD_STAT_BUSY = true) :
    (u.atCord k ready).unitsOn f = u.unitsOn f :=
  (State.unitsOn_wr_apart _ _ _ _ h').trans (State.unitsOn_wr_apart _ _ _ _ h)

end

section
variable {s t : State}

/-- The register fields on which the routers with ports depend. -/
def portFlds : List Fld := [F.CORD_PORT_CNT_LOCAL_IN, F.CORD_PORT_CNT_LOCAL_OUT, F.CORD_BYPASS_BYPASS]

theorem State.portTiles_of_rd (hf : t.fuse = s.fuse) (hu : ∀ f ∈ portFlds, t.unitsOn f = s.unitsOn f)
    (hr : ∀ c, t.rd F.CORD_BYPASS_BYPASS c = s.rd F.CORD_BYPASS_BYPASS c) : t.portTiles = s.portTiles := by
  have hb : t.bypassed = s.bypassed := funext fun p => by rw [State.bypassed, State.bypassed, hr]
  have ho : t.tileOn = s.tileOn := funext fun p => by rw [State.tileOn, State.tileOn, State.engineOn, State.engineOn, hf]
  unfold State.portTiles
  rw [hu F.CORD_PORT_CNT_LOCAL_IN (by simp [portFlds]), hu F.CORD_PORT_CNT_LOCAL_OUT (by simp [portFlds]), hb, ho]

theorem State.atCord_portTiles (u : State) (k : Nat) (ready : Bool) : (u.atCord k ready).portTiles = u.portTiles := by
  have h : ∀ f ∈ portFlds, f.apart F.CORD_STAT_READY = true ∧ f.apart F.CORD_STAT_BUSY = true := by decide
  exact State.portTiles_of_rd rfl (fun f hf => u.atCord_unitsOn k ready (h f hf).1 (h f hf).2)
    fun c => u.atCord_rd k ready c 0 (by decide) (by decide)

theorem State.inc_portTiles (s : State) (f : Fld) (hf : portFlds.all (fun g => g.apart f) = true) :
    (s.inc f).portTiles = s.portTiles := by
  have h := List.all_eq_true.mp hf
  exact State.portTiles_of_rd rfl (fun g hg => State.unitsOn_wr_apart _ _ _ _ (h g hg))
    fun c => State.rd_inc_apart _ _ _ _ _ _ (h _ (by simp [portFlds]))

/-- The slot table is a matter of its own register. -/
theorem State.cordTable_wr (s : State) (f : Fld) (v c i : Nat) (h : f.reg.num ≠ Reg.num .CORD_TABLE) :
    (s.wr f v c i).cordTable = s.cordTable := by
  refine congrArg (List.map fun e : Key × Nat => (e.1.u, e.1.i, e.2)) (Sparse.filter_set _ _ _ _ _ _ fun x => ?_)
  simpa [Fld.key] using h

theorem State.cordTable_of_regs (h : t.regs = s.regs) : t.cordTable = s.cordTable := by
  unfold State.cordTable; rw [h]

theorem State.advance_cordTable (s : State) (g : Nat) : (s.advance g).cordTable = s.cordTable := by
  have hgrain (g : Nat) : (s.toGrain g).cordTable = s.cordTable := by
    obtain ⟨t, ht, hr, -⟩ := s.toGrain_atGrain g
    have hat : (s.atGrain g).cordTable = s.cordTable := by
      unfold State.atGrain
      rw [State.cordTable_wr _ _ _ _ _ (by decide)]
      cases s.ash.armNext with
      | none => rfl
      | some v => exact State.cordTable_wr _ _ _ _ _ (by decide)
    rw [ht, ← hat, ← State.cordTable_of_regs hr]
    rcases t.countGaps_cases with h | ⟨n, k, h⟩ <;> rw [h]
    exact State.cordTable_wr _ _ _ _ _ (by decide)
  unfold State.advance
  split
  · rfl
  · exact hgrain _

theorem State.advance_cord (s : State) (g : Nat) : (s.advance g).cord = s.cord := by rw [s.advance_grainFrame g]

theorem State.cordPorts_none (h : s.portTiles = []) (k : Nat) :
    s.cordPorts k [] = { s with cord := { s.cord with full := [] } } := by
  unfold State.cordPorts
  rw [h]
  rfl

/-- What CORD_BEGIN does once the cord has begun. -/
def State.cordGo (w : State) (faults : List LaneFault) (k : Nat) (late : List Nat) : State :=
  if w.rd F.CORD_CTRL_START ≤ k ∧ w.cord.runs < w.rd F.CORD_CTRL_RUNS then
    if w.abandoned 4 agCollier w.cord.runs 0 then
      let t := (w.inc F.CORD_LOST_CNT_CNT).cordPorts k []
      { t with cord := { t.cord with runs := t.cord.runs + 1 } }
    else if late = [] then
      let r := w.cordRun faults
      let t := r.1.cordPorts k r.2
      ({ t with cord := { t.cord with runs := t.cord.runs + 1 } }).wr F.CORD_STAT_BUSY 1
    else (w.cordPorts k []).missCord late
  else w.cordPorts k []

theorem State.cordBegin_open (ho : s.stepOpen = true) (hq : s.net.stopped = false) (x : List LaneFault) {u : State}
    {late : List Nat} (hu : u = s.advance ((s.time.begun + (s.firstCord + 1024 * s.cord.cord) / 640) % 2 ^ 64))
    (hl : late = u.portTiles.filter
      (fun p => !u.cordReady p ((s.firstCord + 1024 * s.cord.cord : Nat) - 256) (s.cord.full.contains p))) :
    s.cordBegin x = (u.atCord s.cord.cord (late == [])).cordGo x s.cord.cord late := by
  unfold State.cordBegin
  rw [if_neg (by simp [ho, hq]), hl, hu]
  rfl

theorem State.cordBegin_closed (h : s.stepOpen = false ∨ s.net.stopped = true) (x : List LaneFault) : s.cordBegin x = s := by
  unfold State.cordBegin
  exact if_pos (by rcases h with h | h <;> simp [h])

section
variable {w : State} {x : List LaneFault} {k : Nat} {late : List Nat}

theorem State.cordGo_none (h : k < w.rd F.CORD_CTRL_START ∨ w.rd F.CORD_CTRL_RUNS ≤ w.cord.runs) :
    w.cordGo x k late = w.cordPorts k [] := by
  unfold State.cordGo
  exact if_neg (by omega)

/-- A run of an idle table moves no word. -/
theorem State.cordRun_idle (ht : w.cordTable = []) : w.cordRun x = (w, []) := by
  have hs (t : Nat) : (⟨w, [], []⟩ : RunSt).slot [] x t = ⟨w, [], []⟩ := rfl
  have hf : ∀ l : List Nat, l.foldl (fun (r : RunSt) t => r.slot [] x t) ⟨w, [], []⟩ = ⟨w, [], []⟩ := by
    intro l
    induction l with
    | nil => rfl
    | cons t l ih => rw [List.foldl_cons, hs, ih]
  unfold State.cordRun
  rw [ht]
  dsimp only
  rw [hf]

variable (h1 : w.rd F.CORD_CTRL_START ≤ k) (h2 : w.cord.runs < w.rd F.CORD_CTRL_RUNS)
include h1 h2

/-- The plane once a run was lost. -/
def State.runLost (w : State) : State :=
  { w.inc F.CORD_LOST_CNT_CNT with cord := { w.cord with runs := w.cord.runs + 1, full := [] } }

omit h1 h2 in
theorem State.runLost_effect (w : State) :
    w.runLost.rd F.CORD_LOST_CNT_CNT = min (w.rd F.CORD_LOST_CNT_CNT + 1) (2 ^ 32 - 1) ∧
    w.runLost = { w with regs := w.runLost.regs, cord := w.runLost.cord } ∧
    OnlyWrites [F.CORD_LOST_CNT_CNT.key 0 0] w w.runLost :=
  ⟨State.rd_inc w F.CORD_LOST_CNT_CNT 1 0 0, rfl, ((OnlyWrites.refl _ _).inc F.CORD_LOST_CNT_CNT 1 0 0 (by simp)).of_regs rfl⟩

theorem State.cordGo_abandoned (ha : w.abandoned 4 agCollier w.cord.runs 0 = true) (hp : w.portTiles = []) :
    w.cordGo x k late = w.runLost := by
  have hports : (w.inc F.CORD_LOST_CNT_CNT).portTiles = [] := (w.inc_portTiles _ (by decide)).trans hp
  unfold State.cordGo
  rw [if_pos ⟨h1, h2⟩, if_pos ha, State.cordPorts_none hports]
  rfl

theorem State.cordGo_miss (ha : w.abandoned 4 agCollier w.cord.runs 0 = false) (hl : late ≠ []) :
    w.cordGo x k late = (w.cordPorts k []).missCord late := by
  unfold State.cordGo
  rw [if_pos ⟨h1, h2⟩, if_neg (by rw [ha]; exact Bool.false_ne_true), if_neg hl]

theorem State.cordGo_idle (ha : w.abandoned 4 agCollier w.cord.runs 0 = false) (ht : w.cordTable = []) :
    w.cordGo x k [] = ({ w.cordPorts k [] with
      cord := { (w.cordPorts k []).cord with runs := (w.cordPorts k []).cord.runs + 1 } } : State).wr F.CORD_STAT_BUSY 1 := by
  unfold State.cordGo
  rw [if_pos ⟨h1, h2⟩, if_neg (by rw [ha]; exact Bool.false_ne_true), if_pos rfl, State.cordRun_idle ht]

end

/-- The misses counted at each router that is late. -/
theorem State.foldl_slotMiss (ps : List Nat) : ∀ s : State, ps.Nodup →
    (∀ p ∈ ps, (ps.foldl (fun s p => s.inc F.CORD_CNT_SLOT_MISS_CNT 1 p) s).rd F.CORD_CNT_SLOT_MISS_CNT p =
      min (s.rd F.CORD_CNT_SLOT_MISS_CNT p + 1) 65535) ∧
    (∀ p, p ∉ ps → (ps.foldl (fun s p => s.inc F.CORD_CNT_SLOT_MISS_CNT 1 p) s).rd F.CORD_CNT_SLOT_MISS_CNT p =
      s.rd F.CORD_CNT_SLOT_MISS_CNT p) ∧
    (∀ f : Fld, f.apart F.CORD_CNT_SLOT_MISS_CNT = true → ∀ c,
      (ps.foldl (fun s p => s.inc F.CORD_CNT_SLOT_MISS_CNT 1 p) s).rd f c = s.rd f c) ∧
    ∃ regs, ps.foldl (fun s p => s.inc F.CORD_CNT_SLOT_MISS_CNT 1 p) s = { s with regs := regs } := by
  induction ps with
  | nil => exact fun s _ => ⟨by simp, fun _ _ => rfl, fun _ _ _ => rfl, s.regs, rfl⟩
  | cons q ps ih =>
    intro s hn
    obtain ⟨hq, hps⟩ := List.nodup_cons.mp hn
    obtain ⟨i1, i2, i3, regs, i4⟩ := ih (s.inc F.CORD_CNT_SLOT_MISS_CNT 1 q) hps
    have hself : (s.inc F.CORD_CNT_SLOT_MISS_CNT 1 q).rd F.CORD_CNT_SLOT_MISS_CNT q =
        min (s.rd F.CORD_CNT_SLOT_MISS_CNT q + 1) 65535 := State.rd_inc ..
    have hother (p : Nat) (h : p ≠ q) : (s.inc F.CORD_CNT_SLOT_MISS_CNT 1 q).rd F.CORD_CNT_SLOT_MISS_CNT p =
        s.rd F.CORD_CNT_SLOT_MISS_CNT p := State.rd_wr_ne _ _ _ _ _ _ _ _ (by simpa [Fld.key] using h)
    rw [List.foldl_cons]
    refine ⟨fun p hp => ?_, fun p hp => ?_, fun f hf c => ?_, regs, ?_⟩
    · rcases List.mem_cons.mp hp with rfl | hp
      · rw [i2 p hq, hself]
      · rw [i1 p hp, hother p (fun e => hq (e ▸ hp))]
    · rw [i2 p (fun h => hp (List.mem_cons_of_mem _ h)), hother p (fun e => hp (e ▸ List.mem_cons_self))]
    · rw [i3 f hf, State.rd_inc_apart _ _ _ _ _ _ hf]
    · rw [i4]
      rfl

section
variable {i : State} {late : List Nat}

/-- The counts of a miss cord. -/
def State.missCounted (i : State) (late : List Nat) : State :=
  late.foldl (fun s p => s.inc F.CORD_CNT_SLOT_MISS_CNT 1 p) (i.inc F.CORD_MISS_CNT_CNT)

theorem State.missCounted_counts (hn : late.Nodup) :
    (i.missCounted late).rd F.CORD_MISS_CNT_CNT = min (i.rd F.CORD_MISS_CNT_CNT + 1) (2 ^ 32 - 1) ∧
    (∀ p ∈ late, (i.missCounted late).rd F.CORD_CNT_SLOT_MISS_CNT p = min (i.rd F.CORD_CNT_SLOT_MISS_CNT p + 1) 65535) ∧
    (∀ p, p ∉ late → (i.missCounted late).rd F.CORD_CNT_SLOT_MISS_CNT p = i.rd F.CORD_CNT_SLOT_MISS_CNT p) ∧
    ∃ regs, i.missCounted late = { i with regs := regs } := by
  obtain ⟨h1, h2, h3, regs, h4⟩ := State.foldl_slotMiss late (i.inc F.CORD_MISS_CNT_CNT) hn
  have hrd (p : Nat) : (i.inc F.CORD_MISS_CNT_CNT).rd F.CORD_CNT_SLOT_MISS_CNT p = i.rd F.CORD_CNT_SLOT_MISS_CNT p :=
    State.rd_inc_apart _ _ _ _ _ _ (by decide)
  unfold State.missCounted
  refine ⟨?_, fun p hp => ?_, fun p hp => ?_, regs, ?_⟩
  · rw [h3 _ (by decide)]
    exact State.rd_inc i F.CORD_MISS_CNT_CNT 1 0 0
  · rw [h1 p hp, hrd]
  · rw [h2 p hp, hrd]
  · rw [h4]
    rfl

/-- The state after a miss cord that is not reported. -/
def State.missNoted (i : State) (late : List Nat) : State :=
  { i.missCounted late with cord := { (i.missCounted late).cord with misses := i.cord.misses + 1 } }

theorem State.missCord_reported (h0 : i.rd F.CORD_CTRL_MISS_THR ≠ 0) (h1 : i.rd F.CORD_CTRL_MISS_THR ≤ i.cord.misses + 1)
    (h2 : i.cord.reported = false) : ∃ a, i.missCord late =
      { (i.missNoted late).report 0x740 0x12 2 a with
        cord := { ((i.missNoted late).report 0x740 0x12 2 a).cord with reported := true } } := by
  refine ⟨((late.filterMap i.coreAt).foldl min 1023), ?_⟩
  unfold State.missCord
  extract_lets s1 m cs s2 thr t
  rw [if_pos ⟨h0, h1, by simp [h2]⟩]
  rfl

theorem State.missCord_unreported (h : i.rd F.CORD_CTRL_MISS_THR = 0 ∨ i.cord.misses + 1 < i.rd F.CORD_CTRL_MISS_THR ∨
    i.cord.reported = true) : i.missCord late = i.missNoted late := by
  unfold State.missCord
  extract_lets s1 m cs s2 thr t
  have hn : ¬ (thr ≠ 0 ∧ m ≥ thr ∧ (!i.cord.reported) = true) := by
    rintro ⟨h0, h1, h2⟩
    rcases h with h | h | h
    · exact h0 h
    · exact absurd h1 (Nat.not_le.mpr h)
    · rw [h] at h2
      cases h2
  rw [if_neg hn]
  rfl

theorem State.missNoted_cord (hn : late.Nodup) : (i.missNoted late).cord = { i.cord with misses := i.cord.misses + 1 } := by
  obtain ⟨-, -, -, regs, h⟩ := State.missCounted_counts (i := i) hn
  unfold State.missNoted
  rw [h]

theorem State.missNoted_frame (hn : late.Nodup) :
    i.missNoted late = { i with regs := (i.missCounted late).regs, cord := (i.missNoted late).cord } := by
  obtain ⟨-, -, -, regs, h⟩ := State.missCounted_counts (i := i) hn
  unfold State.missNoted
  rw [h]

/-- A miss cord: its counts, and the message when the threshold is reached. -/
theorem State.missCord_effect (hn : late.Nodup) :
    let t := i.missCord late
    t.cord.cord = i.cord.cord ∧ t.cord.runs = i.cord.runs ∧ t.cord.misses = i.cord.misses + 1 ∧
    t.rd F.CORD_MISS_CNT_CNT = min (i.rd F.CORD_MISS_CNT_CNT + 1) (2 ^ 32 - 1) ∧
    (∀ p ∈ late, t.rd F.CORD_CNT_SLOT_MISS_CNT p = min (i.rd F.CORD_CNT_SLOT_MISS_CNT p + 1) 65535) ∧
    (∀ p, p ∉ late → t.rd F.CORD_CNT_SLOT_MISS_CNT p = i.rd F.CORD_CNT_SLOT_MISS_CNT p) ∧
    (i.rd F.CORD_CTRL_MISS_THR ≠ 0 → i.rd F.CORD_CTRL_MISS_THR ≤ i.cord.misses + 1 → i.cord.reported = false →
      t.cord.reported = true ∧ ∃ m ∈ t.owl.staged, m.src = 0x740 ∧ m.kind = 0x12) ∧
    (i.rd F.CORD_CTRL_MISS_THR = 0 ∨ i.cord.misses + 1 < i.rd F.CORD_CTRL_MISS_THR ∨ i.cord.reported = true →
      t.owl = i.owl ∧ t.cord.reported = i.cord.reported) ∧
    t = { i with regs := t.regs, cord := t.cord, owl := t.owl } := by
  intro t
  obtain ⟨c1, c2, c3, -⟩ := State.missCounted_counts (i := i) hn
  have hc := State.missNoted_cord (i := i) hn
  have hf := State.missNoted_frame (i := i) hn
  have hrd : (i.missNoted late).regs = (i.missCounted late).regs := rfl
  have ht : t = i.missCord late := rfl
  clear_value t
  by_cases h : i.rd F.CORD_CTRL_MISS_THR ≠ 0 ∧ i.rd F.CORD_CTRL_MISS_THR ≤ i.cord.misses + 1 ∧ i.cord.reported = false
  · obtain ⟨h0, h1, h2⟩ := h
    obtain ⟨a, hrep⟩ := State.missCord_reported (i := i) (late := late) h0 h1 h2
    have hst := (i.missNoted late).report_stages 0x740 0x12 2 a
    obtain ⟨v, hv⟩ : ∃ v, v = i.missNoted late := ⟨_, rfl⟩
    rw [← hv] at hc hf hrd hrep hst
    have hreg : t.regs = (i.missCounted late).regs := by rw [ht, hrep, ← hrd]; rfl
    refine ⟨?_, ?_, ?_, (State.rd_of_regs hreg ..).trans c1, fun p hp => (State.rd_of_regs hreg ..).trans (c2 p hp),
      fun p hp => (State.rd_of_regs hreg ..).trans (c3 p hp), fun _ _ _ => ⟨?_, ?_⟩, fun hno => ?_, ?_⟩
    · rw [ht, hrep]
      change v.cord.cord = _
      rw [hc]
    · rw [ht, hrep]
      change v.cord.runs = _
      rw [hc]
    · rw [ht, hrep]
      change v.cord.misses = _
      rw [hc]
    · rw [ht, hrep]
    · obtain ⟨m, hm, hk, hs⟩ := hst
      rw [ht, hrep]
      exact ⟨m, hm, hs, hk⟩
    · rcases hno with hno | hno | hno
      · exact absurd hno h0
      · omega
      · rw [h2] at hno
        cases hno
    · rw [ht, hrep, hf]
      rfl
  · have hno : i.rd F.CORD_CTRL_MISS_THR = 0 ∨ i.cord.misses + 1 < i.rd F.CORD_CTRL_MISS_THR ∨ i.cord.reported = true := by
      by_cases h0 : i.rd F.CORD_CTRL_MISS_THR = 0
      · exact .inl h0
      by_cases h1 : i.rd F.CORD_CTRL_MISS_THR ≤ i.cord.misses + 1
      · cases h2 : i.cord.reported with
        | true => exact .inr (.inr rfl)
        | false => exact absurd ⟨h0, h1, h2⟩ h
      · exact .inr (.inl (Nat.lt_of_not_le h1))
    have hun := State.missCord_unreported (i := i) (late := late) hno
    obtain ⟨v, hv⟩ : ∃ v, v = i.missNoted late := ⟨_, rfl⟩
    rw [← hv] at hc hf hrd hun
    have hreg : t.regs = (i.missCounted late).regs := by rw [ht, hun, ← hrd]
    refine ⟨?_, ?_, ?_, (State.rd_of_regs hreg ..).trans c1, fun p hp => (State.rd_of_regs hreg ..).trans (c2 p hp),
      fun p hp => (State.rd_of_regs hreg ..).trans (c3 p hp), fun h0 h1 h2 => absurd ⟨h0, h1, h2⟩ h, fun _ => ⟨?_, ?_⟩, ?_⟩
    · rw [ht, hun, hc]
    · rw [ht, hun, hc]
    · rw [ht, hun, hc]
    · rw [ht, hun, hf]
    · rw [ht, hun, hc]
    · rw [ht, hun, hf]

end

end

/-- Settles O34: cords outside a step, the three fates of a run that is due, and the lane operations. -/
theorem cordsRunOrMiss : Obligations.CordsRunOrMiss := by
  unfold Obligations.CordsRunOrMiss
  refine ⟨fun s x => ⟨fun h => ?_, fun ho hq => ?_⟩, fun a b => ⟨rfl, laneOp_add a b, fun h hh => ⟨?_, ?_⟩,
    fun q hq => quarter_laneOp a b hq⟩⟩
  · rw [exec_cordBegin, State.cordBegin_closed h]
  · intro k u late w i
    have hk : k = s.cord.cord := rfl
    have hu : u = s.advance ((s.time.begun + (s.firstCord + 1024 * k) / 640) % 2 ^ 64) := rfl
    have hlate : late = u.portTiles.filter
      (fun p => !u.cordReady p ((s.firstCord + 1024 * k : Nat) - 256) (s.cord.full.contains p)) := rfl
    have hw : w = (({ u with cord := { u.cord with cord := k + 1 } }).wrB F.CORD_STAT_READY (late == [])).wr
      F.CORD_STAT_BUSY 0 := rfl
    have hi : i = w.cordPorts k [] := rfl
    obtain ⟨v, hv⟩ : ∃ v, v = u := ⟨_, rfl⟩
    clear_value i w late
    rw [← hv] at hu hlate hw ⊢
    clear hv
    clear_value u k
    have hw' : w = v.atCord k (late == []) := hw
    clear hw
    subst hw' hi hk
    have hexec : exec (.cordBegin x) s = .next ((v.atCord s.cord.cord (late == [])).cordGo x s.cord.cord late) := by
      rw [exec_cordBegin, State.cordBegin_open ho hq x hu hlate]
    have hcord : v.cord = s.cord := by rw [hu, State.advance_cord]
    have hurd {f : Fld} (hg : f.apart F.TIME_GRAIN_GRAIN = true) (ha : f.apart F.ACT_ARM_ARM = true)
        (hc : f.apart F.PAIR_CNT0_HB_GAP = true) : v.rd f = s.rd f := by rw [hu, State.advance_rd _ _ _ _ hg ha hc]
    have hutab : v.cordTable = s.cordTable := by rw [hu, State.advance_cordTable]
    have hnodup : late.Nodup := by rw [hlate]; exact v.portTiles_nodup.filter _
    clear hu hlate
    generalize hk : s.cord.cord = k at *
    have hstart : (v.atCord k (late == [])).rd F.CORD_CTRL_START = s.rd F.CORD_CTRL_START :=
      (v.atCord_rd k _ 0 0 (by decide) (by decide)).trans (hurd (by decide) (by decide) (by decide))
    have hruns : (v.atCord k (late == [])).rd F.CORD_CTRL_RUNS = s.rd F.CORD_CTRL_RUNS :=
      (v.atCord_rd k _ 0 0 (by decide) (by decide)).trans (hurd (by decide) (by decide) (by decide))
    have hlost : (v.atCord k (late == [])).rd F.CORD_LOST_CNT_CNT = s.rd F.CORD_LOST_CNT_CNT :=
      (v.atCord_rd k _ 0 0 (by decide) (by decide)).trans (hurd (by decide) (by decide) (by decide))
    have hwc : (v.atCord k (late == [])).cord = { s.cord with cord := k + 1 } := by rw [← hcord]; rfl
    have hwr : (v.atCord k (late == [])).cord.runs = s.cord.runs := by rw [hwc]
    have hports : v.portTiles = [] → (v.atCord k (late == [])).portTiles = [] := fun h => (v.atCord_portTiles k _).trans h
    refine ⟨hwc, v.atCord_ready k _, v.atCord_busy k _, v.atCord_frame k _, v.atCord_onlyWrites k _, fun h => State.cordPorts_none (hports h) k,
      fun h => ?_, fun h1 h2 => ⟨fun ha hp => ⟨_, hexec, ?_⟩, fun ha hl => ⟨_, hexec, ?_⟩, fun ha hl ht => ⟨_, hexec, ?_⟩⟩⟩
    · rw [hexec, State.cordGo_none (by rw [hstart, hruns, hwr]; exact h)]
    · rw [State.cordGo_abandoned (by rw [hstart]; exact h1) (by rw [hruns, hwr]; exact h2) (by rw [hwr]; exact ha)
        (hports hp)]
      obtain ⟨e1, e2, e3⟩ := (v.atCord k (late == [])).runLost_effect
      refine ⟨?_, e1.trans (by rw [hlost]), e2, e3⟩
      unfold State.runLost
      dsimp only
      rw [hwc]
    · rw [State.cordGo_miss (by rw [hstart]; exact h1) (by rw [hruns, hwr]; exact h2) (by rw [hwr]; exact ha) hl]
      exact State.missCord_effect hnodup
    · subst hl
      rw [State.cordGo_idle (by rw [hstart]; exact h1) (by rw [hruns, hwr]; exact h2) (by rw [hwr]; exact ha)]
      · refine ⟨rfl, State.rd_wr_of_lt _ F.CORD_STAT_BUSY (v := 1) 0 0 (by decide), rfl,
          ((OnlyWrites.refl _ _).of_regs rfl).wr F.CORD_STAT_BUSY 1 0 0 (by simp)⟩
      · have h1 : (v.atCord k ([] == ([] : List Nat))).cordTable = v.cordTable := by
          unfold State.atCord State.wrB
          rw [State.cordTable_wr _ _ _ _ _ (by decide), State.cordTable_wr _ _ _ _ _ (by decide)]
          rfl
        rw [h1, hutab, ht]
  · have hr := satS32_range (sgn 32 (half a h) + sgn 32 (half b h))
    rw [half_laneOp a b (.inl rfl) hh]
    exact sgn32_uns32 hr.1 hr.2
  · have ha := sgn32_range (half a h)
    have hb := sgn32_range (half b h)
    rw [half_laneOp a b (.inr rfl) hh]
    exact sgn32_uns32 (by omega) (by omega)

end Sys2Proof.Machine
end

section
/-! The loading of slot tables by broadcast (08_scheduled_plane.md R241, R243). -/
namespace Sys2Proof.Machine

theorem exec_cordLoadMaskWrite (s : State) (w : Nat) (m : BitVec 64) : exec (.cordLoadMaskWrite w m) s =
    .next (s.broadcastTiles.foldl (fun s p => s.loadMask p w m.toNat) s) := rfl
theorem exec_cordTableBcWrite (s : State) (k : Nat) (v : BitVec 64) : exec (.cordTableBcWrite k v) s =
    if k < 1024 then .next (s.broadcastTiles.foldl (fun s p => s.loadSlot p k v.toNat) s) else .next s := rfl
theorem exec_cordArmClear (s : State) : exec .cordArmClear s =
    .next (s.broadcastTiles.foldl (fun s p => s.wr F.CORD_ARM_ARM 0 p) s) := rfl

/-- From `s` to `t` only registers with a number of `rs` changed. -/
def OnlyRegs (rs : List Nat) (s t : State) : Prop :=
  t = { s with regs := t.regs } ∧ ∀ (f : Fld) (u i : Nat), f.reg.num ∉ rs → t.rd f u i = s.rd f u i

section
variable {rs : List Nat} {s t u : State}

theorem OnlyRegs.refl (rs : List Nat) (s : State) : OnlyRegs rs s s := ⟨rfl, fun _ _ _ _ => rfl⟩

theorem OnlyRegs.trans (h : OnlyRegs rs s t) (h' : OnlyRegs rs t u) : OnlyRegs rs s u := by
  refine ⟨?_, fun f c i hf => (h'.2 f c i hf).trans (h.2 f c i hf)⟩
  rw [h'.1, h.1]

theorem onlyRegs_wr (s : State) (f : Fld) (v c i : Nat) (hf : f.reg.num ∈ rs) : OnlyRegs rs s (s.wr f v c i) := by
  refine ⟨rfl, fun g c' i' hg => State.rd_wr_ne _ _ _ _ _ _ _ _ fun e => hg ?_⟩
  rw [Fld.key_eq_iff] at e
  rw [e.1]
  exact hf

theorem OnlyRegs.wr (h : OnlyRegs rs s t) (f : Fld) (v c i : Nat) (hf : f.reg.num ∈ rs) : OnlyRegs rs s (t.wr f v c i) :=
  h.trans (onlyRegs_wr t f v c i hf)

theorem foldl_onlyRegs {α : Type} {g : State → α → State} (hg : ∀ s p, OnlyRegs rs s (g s p)) (ps : List α) :
    ∀ s, OnlyRegs rs s (ps.foldl g s) := by
  induction ps with
  | nil => exact OnlyRegs.refl rs
  | cons p ps ih => exact fun s => (hg s p).trans (ih (g s p))

theorem OnlyRegs.on (h : OnlyRegs rs s t) (f : Fld) (c i : Nat) (hf : f.reg.num ∉ rs) : t.on f c i = s.on f c i :=
  State.on_of_rd (h.2 f c i hf)

theorem OnlyRegs.coreAt (h : OnlyRegs rs s t) (hf : Reg.num .SPARE_MAP ∉ rs) (p : Nat) : t.coreAt p = s.coreAt p := by
  have hon (e n : Nat) : t.on F.SPARE_MAP_VALID e n = s.on F.SPARE_MAP_VALID e n := h.on _ _ _ hf
  have hmap (e n : Nat) : t.mapOf e n = s.mapOf e n := h.2 _ _ _ hf
  simp only [State.coreAt, hon, hmap]

end

/-- A core whose tile holds it takes broadcasts. -/
theorem State.tileOf_mem_broadcastTiles {s : State} {n : Nat} (hn : n < 1024) (ho : s.coreOn n = true)
    (h : s.coreAt (s.tileOf n) = some n) : s.tileOf n ∈ s.broadcastTiles := by
  have hp := List.find?_some h
  have hm := List.mem_of_find?_eq_some h
  obtain ⟨j, hj, hjn⟩ := List.mem_map.mp hm
  have he : tileEngine (s.tileOf n) = n / 128 := by
    have := List.mem_range.mp hj
    omega
  rw [he, Bool.and_eq_true] at hp
  exact List.mem_map.mpr ⟨n, List.mem_filter.mpr ⟨List.mem_range.mpr hn, by rw [ho, hp.1]; rfl⟩, rfl⟩

/-- What a mask word makes of the ARM bit of tile `p`. -/
def State.maskBit (s : State) (k mask p : Nat) (old : Bool) : Bool :=
  match s.coreAt p with
  | some n => if n / 64 = k then bit mask (n % 64) else old
  | none => old

theorem State.maskBit_twice (s : State) (k mask p : Nat) (old : Bool) :
    s.maskBit k mask p (s.maskBit k mask p old) = s.maskBit k mask p old := by
  unfold State.maskBit
  cases s.coreAt p with
  | none => rfl
  | some n => by_cases h : n / 64 = k <;> simp [h]

theorem State.loadMask_cases (s : State) (p k mask : Nat) : s.loadMask p k mask = s ∧
      s.maskBit k mask p (s.on F.CORD_ARM_ARM p) = s.on F.CORD_ARM_ARM p ∨
    ∃ b, s.loadMask p k mask = s.wrB F.CORD_ARM_ARM b p ∧ s.maskBit k mask p (s.on F.CORD_ARM_ARM p) = b := by
  unfold State.loadMask State.maskBit
  cases s.coreAt p with
  | none => exact .inl ⟨rfl, rfl⟩
  | some n =>
    by_cases h : n / 64 = k
    · exact .inr ⟨bit mask (n % 64), if_pos h, if_pos h⟩
    · exact .inl ⟨if_neg h, if_neg h⟩

theorem State.loadMask_onlyRegs (s : State) (p k mask : Nat) : OnlyRegs [Reg.num .CORD_ARM] s (s.loadMask p k mask) := by
  rcases s.loadMask_cases p k mask with ⟨h, -⟩ | ⟨b, h, -⟩ <;> rw [h]
  · exact OnlyRegs.refl _ s
  · exact onlyRegs_wr s F.CORD_ARM_ARM _ _ _ (by simp [F.CORD_ARM_ARM])

theorem State.loadMask_arm (s : State) (p k mask q : Nat) : (s.loadMask p k mask).on F.CORD_ARM_ARM q =
    if q = p then s.maskBit k mask p (s.on F.CORD_ARM_ARM p) else s.on F.CORD_ARM_ARM q := by
  by_cases hq : q = p
  · subst hq
    rw [if_pos rfl]
    rcases s.loadMask_cases q k mask with ⟨h, h'⟩ | ⟨b, h, h'⟩ <;> rw [h, h']
    exact State.on_wrB_self _ _ _ _ _ rfl
  · rw [if_neg hq]
    rcases s.loadMask_cases p k mask with ⟨h, -⟩ | ⟨b, h, -⟩ <;> rw [h]
    exact State.on_of_rd (State.rd_wr_ne _ _ _ _ _ _ _ _ (by simpa [Fld.key] using hq))

theorem State.foldl_loadMask (k mask : Nat) (ps : List Nat) : ∀ s : State, ∀ q,
    (ps.foldl (fun s p => s.loadMask p k mask) s).on F.CORD_ARM_ARM q =
      if q ∈ ps then s.maskBit k mask q (s.on F.CORD_ARM_ARM q) else s.on F.CORD_ARM_ARM q := by
  induction ps with
  | nil => exact fun _ _ => rfl
  | cons p ps ih =>
    intro s q
    have hbit (old : Bool) : (s.loadMask p k mask).maskBit k mask q old = s.maskBit k mask q old := by
      unfold State.maskBit
      rw [(s.loadMask_onlyRegs p k mask).coreAt (by decide)]
    rw [List.foldl_cons, ih, hbit, State.loadMask_arm]
    by_cases hq : q = p
    · subst hq
      rw [if_pos rfl, if_pos List.mem_cons_self, State.maskBit_twice, ite_self]
    · rw [if_neg hq]
      simp [hq]

section
variable (s : State) (p k v : Nat)

theorem State.writeSlot_onlyRegs : OnlyRegs [Reg.num .CORD_TABLE, Reg.num .CORD_PORT_CNT] s (s.writeSlot p k v) := by
  unfold State.writeSlot State.countPorts
  exact ((onlyRegs_wr s F.CORD_TABLE_ENTRY v p k (by simp [F.CORD_TABLE_ENTRY])).wr F.CORD_PORT_CNT_LOCAL_IN _ p 0
    (by simp [F.CORD_PORT_CNT_LOCAL_IN])).wr F.CORD_PORT_CNT_LOCAL_OUT _ p 0 (by simp [F.CORD_PORT_CNT_LOCAL_OUT])

theorem State.writeSlot_entry (hv : v < 2 ^ 64) (q j : Nat) : (s.writeSlot p k v).rd F.CORD_TABLE_ENTRY q j =
    if q = p ∧ j = k then v else s.rd F.CORD_TABLE_ENTRY q j := by
  unfold State.writeSlot State.countPorts
  rw [State.rd_wr_apart _ _ _ _ _ _ (by decide), State.rd_wr_apart _ _ _ _ _ _ (by decide)]
  split
  · next h =>
    obtain ⟨rfl, rfl⟩ := h
    exact State.rd_wr_of_lt s F.CORD_TABLE_ENTRY _ _ hv
  · next h => exact State.rd_wr_ne _ _ _ _ _ _ _ _ (by simpa [Fld.key] using fun e1 e2 => h ⟨e1, e2⟩)

theorem State.loadSlot_eq (h : s.running = false) :
    s.loadSlot p k v = if s.on F.CORD_ARM_ARM p then s.writeSlot p k v else s := by
  unfold State.loadSlot
  rw [h]
  cases s.on F.CORD_ARM_ARM p <;> rfl

theorem State.loadSlot_onlyRegs : OnlyRegs [Reg.num .CORD_TABLE, Reg.num .CORD_PORT_CNT] s (s.loadSlot p k v) := by
  unfold State.loadSlot
  split
  · exact OnlyRegs.refl _ s
  · exact s.writeSlot_onlyRegs p k v

end

/-- Broadcast table writes to the routers of `ps`. -/
theorem State.foldl_loadSlot {k v : Nat} (hv : v < 2 ^ 64) (ps : List Nat) : ∀ s : State, s.running = false → ∀ q j,
    (ps.foldl (fun s p => s.loadSlot p k v) s).rd F.CORD_TABLE_ENTRY q j =
      if q ∈ ps ∧ s.on F.CORD_ARM_ARM q = true ∧ j = k then v else s.rd F.CORD_TABLE_ENTRY q j := by
  induction ps with
  | nil => exact fun _ _ _ _ => by simp
  | cons p ps ih =>
    intro s hr q j
    have hw := s.loadSlot_onlyRegs p k v
    have hrun : (s.loadSlot p k v).running = false := (hw.on F.CHIP_CTRL_RUN_EN 0 0 (by decide)).trans hr
    have harm : (s.loadSlot p k v).on F.CORD_ARM_ARM q = s.on F.CORD_ARM_ARM q := hw.on _ _ _ (by decide)
    rw [List.foldl_cons, ih _ hrun, harm, State.loadSlot_eq _ _ _ _ hr]
    by_cases hp : s.on F.CORD_ARM_ARM p = true
    · rw [if_pos hp, State.writeSlot_entry _ _ _ _ hv]
      by_cases hq : q = p
      · subst hq
        by_cases hj : j = k <;> simp [hp, hj]
      · simp [hq]
    · rw [if_neg hp]
      by_cases hq : q = p
      · subst hq
        simp [hp]
      · simp [hq]

theorem State.foldl_loadSlot_running {k v : Nat} (ps : List Nat) {s : State} (h : s.running = true) :
    ps.foldl (fun s p => s.loadSlot p k v) s = s := by
  induction ps with
  | nil => rfl
  | cons p ps ih =>
    have hs : s.loadSlot p k v = s := if_pos (by rw [h]; rfl)
    rw [List.foldl_cons, hs, ih]

theorem State.foldl_clearArm (ps : List Nat) : ∀ s : State, ∀ q, q ∈ ps ∨ s.on F.CORD_ARM_ARM q = false →
    (ps.foldl (fun s p => s.wr F.CORD_ARM_ARM 0 p) s).on F.CORD_ARM_ARM q = false := by
  induction ps with
  | nil => exact fun _ _ h => h.resolve_left (by simp)
  | cons p ps ih =>
    intro s q h
    refine ih _ q ?_
    by_cases hq : q = p
    · subst hq
      exact .inr (State.on_wrB_self s F.CORD_ARM_ARM false q 0 rfl)
    · refine (h.imp (fun h => (List.mem_cons.mp h).resolve_left hq) fun h => ?_)
      rw [← h]
      exact State.on_of_rd (State.rd_wr_ne _ _ _ _ _ _ _ _ (by simpa [Fld.key] using hq))

/-- Settles O35: the masks, the table writes and the clearing of ARM, router by router. -/
theorem slotTablesAreLoadedByBroadcast : Obligations.SlotTablesAreLoadedByBroadcast := by
  unfold Obligations.SlotTablesAreLoadedByBroadcast
  intro s
  refine ⟨fun w m => ?_, fun k v h => ?_, fun k v hr hk => ?_, ?_⟩
  · obtain ⟨hf, hrd⟩ := foldl_onlyRegs (fun s p => State.loadMask_onlyRegs s p w m.toNat) s.broadcastTiles s
    refine ⟨_, exec_cordLoadMaskWrite s w m, hf, fun f u i hn => hrd f u i (by simpa using hn), fun n hn ho hc => ?_⟩
    have hm := State.tileOf_mem_broadcastTiles hn ho hc
    rw [State.foldl_loadMask, if_pos hm]
    unfold State.maskBit
    rw [hc]
    exact ⟨fun h => if_pos h, fun h => if_neg h⟩
  · rw [exec_cordTableBcWrite]
    split
    · next hk => rw [State.foldl_loadSlot_running _ (h.resolve_right (by omega))]
    · rfl
  · obtain ⟨hf, hrd⟩ := foldl_onlyRegs (fun s p => State.loadSlot_onlyRegs s p k v.toNat) s.broadcastTiles s
    refine ⟨_, (exec_cordTableBcWrite s k v).trans (if_pos hk), hf, fun f u i h1 h2 => hrd f u i (by simp [h1, h2]),
      fun n hn ho hc => ?_⟩
    have hm := State.tileOf_mem_broadcastTiles hn ho hc
    refine ⟨fun ha => ?_, fun j hj => ?_⟩
    · rw [State.foldl_loadSlot v.isLt _ _ hr, if_pos ⟨hm, ha, rfl⟩]
    · rw [State.foldl_loadSlot v.isLt _ _ hr, if_neg]
      rintro ⟨-, ha, rfl⟩
      rcases hj with hj | hj
      · rw [hj] at ha
        cases ha
      · exact hj rfl
  · obtain ⟨hf, hrd⟩ := foldl_onlyRegs (g := fun s p => s.wr F.CORD_ARM_ARM 0 p) (rs := [Reg.num .CORD_ARM])
      (fun s p => onlyRegs_wr s F.CORD_ARM_ARM 0 p 0 (by simp [F.CORD_ARM_ARM])) s.broadcastTiles s
    exact ⟨_, exec_cordArmClear s, hf, fun f u i hn => hrd f u i (by simpa using hn), fun n hn ho hc =>
      State.foldl_clearArm _ _ _ (.inl (State.tileOf_mem_broadcastTiles hn ho hc))⟩

end Sys2Proof.Machine
end

section
/-! Gating and waking of domains (16_power_clocks_thermal.md R442). -/
namespace Sys2Proof.Machine

theorem exec_domainWakeDone (s : State) (d : Domain) : exec (.domainWakeDone d) s = .next (s.wakeDone d) := rfl

/-- A device whose engine 0 wakes and whose KILN_GATE.ENG holds a value beyond its eight bits, which a bare record of
registers may hold: bit 9 of it counts as a gated engine. -/
def wideGate : State :=
  { State.reset with regs := [(F.KILN_GATE_ENG.key 0 0, 2 ^ 9)], kiln := { State.reset.kiln with waking := [.engine 0] } }

/-- The write of KILN_GATE.ENG that ends the wake of engine 0 cuts the value to its eight bits. -/
theorem wideGate_cut : wideGate.kiln.waking.contains (.engine 0) = true ∧ wideGate.gated (.engine 9) = true ∧
    (wideGate.wakeDone (.engine 0)).gated (.engine 9) = false := by decide +kernel

/-- Refutes O43: DOMAIN_WAKE_DONE of an engine writes KILN_GATE.ENG, cut to its eight bits, so that from a state whose
register record holds a wider value the bit of another engine number falls too. -/
theorem not_domainsAreGatedAndWake : ¬ Obligations.DomainsAreGatedAndWake := by
  unfold Obligations.DomainsAreGatedAndWake
  intro h
  obtain ⟨hwakes, hgated, hcut⟩ := wideGate_cut
  obtain ⟨-, -, -, -, -, hdone⟩ := h wideGate
  obtain ⟨t, ht, -, -, -, hkeep, -⟩ := hdone (.engine 0) hwakes
  rw [exec_domainWakeDone] at ht
  obtain rfl := Host.Outcome.next.inj ht
  have h9 := hkeep (.engine 9) (by decide)
  rw [hcut, hgated] at h9
  exact absurd h9 (by decide)

end Sys2Proof.Machine
end

section
/-! The host's queue commands and the operations that wait at a GDDR6 group (09_queues.md R266, 10_memory_system.md
R280). -/
namespace Sys2Proof.Machine

theorem exec_dreyQcmdBind (s : State) : exec .dreyQcmdBind s = .next (s.qcmdWrite 2) := rfl

/-- A read without a length of the first word of the descriptor of queue 0x10000. -/
def descriptorRead : Packet := mkPacket 3 0x1F08 0x1F22 0 0 0 [0x1000200000]

/-- That read is all that waits at group 0. -/
def readWaits : List (Nat × G6St) := [(0, { G6St.fresh with queue := [⟨descriptorRead, 0, 0, false⟩] })]

/-- A device that selects the unbound queue 0x10000, whose descriptor is cached, and is to bind it with word 2 changed. -/
def bindOverRead : State :=
  { State.reset with
    regs := [(F.DREY_QSEL_QID.key 0 0, 0x10000), (F.DREY_QDESC_WORD.key 0 2, 1)]
    drey := { State.reset.drey with cache := [⟨0x10000, 0, 0, 0, 0⟩] }, g6 := readWaits }

/-- The write of word 2 lets the read that waits take effect, and its answer is staged. -/
theorem bindOverRead_answers : bindOverRead.on F.DREY_QCMD_BUSY = false ∧ bindOverRead.rd F.DREY_QSEL_QID = 0x10000 ∧
    bindOverRead.net.staging = [] ∧ (bindOverRead.qcmdWrite 2).net.staging ≠ [] := by decide +kernel

/-- Refutes O39: the descriptor's write of a BIND lets the operations that wait at its GDDR6 group on the same 128-byte
block take effect first (R280), and their answers are staged, so that the network does not stay as it was. -/
theorem not_hostQueueCommandsAct : ¬ Obligations.HostQueueCommandsAct := by
  unfold Obligations.HostQueueCommandsAct
  intro h
  obtain ⟨hidle, hqid, hnet, hanswer⟩ := bindOverRead_answers
  obtain ⟨-, -, -, hcmd⟩ := h bindOverRead
  obtain ⟨-, hbind, -⟩ := hcmd ⟨0x10000, 0, 0, 0, 0⟩ hidle (Nat.le_of_eq hqid.symm) (by decide) rfl hqid.symm rfl
  obtain ⟨t, ht, ⟨-, -, -, hsame⟩, -⟩ := hbind (by decide)
  rw [exec_dreyQcmdBind] at ht
  obtain rfl := Host.Outcome.next.inj ht
  exact hanswer (hsame ▸ hnet)

end Sys2Proof.Machine
end

section
/-! Records at the central engine and the operations that wait at a GDDR6 group (09_queues.md R255 to R258,
10_memory_system.md R280). -/
namespace Sys2Proof.Machine

theorem exec_qpushAppend (s : State) (k : Packet) : exec (.qpushAppend k) s = .next (s.push k) := rfl

/-- The descriptor of queue 0x10000: bound, open to every sender, empty, with a ring of 4,096 bytes at 0x1010000000. -/
def openQueue : Desc :=
  ⟨0x10000, BitVec.ofNat 64 (64 * 2 ^ 48 + 0x1010000000 + 12 * 4 + 1), BitVec.ofNat 64 (2 ^ 63 + 3 * 2 ^ 34 + 0x1FFF * 2 ^ 21),
    0, 0⟩

/-- A record of eight payload bytes for that queue. -/
def oneRecord : Packet := mkPacket 5 agDrey 3 0 0 1 [0x2000008, 1]

/-- A device that holds that descriptor, with a read of the descriptor waiting at its GDDR6 group. -/
def appendOverRead : State :=
  { State.reset with regs := [], drey := { State.reset.drey with cache := [openQueue] }, g6 := readWaits }

/-- The record is in form and fits the queue, whose ring and descriptor lie in GDDR6 that serves; the write of word 2 lets
the read that waits take effect, so that two answers are staged. -/
theorem appendOverRead_facts :
    (oneRecord.dest.toNat = agDrey ∧ oneRecord.op = 5 ∧ pushOp oneRecord = 0 ∧
      0x10000 ≤ oneRecord.qid ∧ openQueue.qid = oneRecord.qid ∧ pushCnt oneRecord = 1) ∧
    (appendRefusal openQueue [] oneRecord false false = none ∧
      placement openQueue.size openQueue.rd openQueue.res (recordBytesOf (pushLen oneRecord)) 32 = some 0 ∧
      openQueue.res % 8 = 0 ∧ 8 ≤ openQueue.size) ∧
    (appendOverRead.descAddr openQueue.qid = 0x1000200000 ∧ openQueue.ring = 0x1010000000 ∧
      openQueue.size = 4096 ∧ appendOverRead.g6Cap = 0x100000000 ∧ appendOverRead.groups.length = 2 ∧
      appendOverRead.g6Failed 0 = false ∧ appendOverRead.g6Failed 1 = false) ∧
    (appendOverRead.push oneRecord).net.staging.length = 2 := by decide +kernel

/-- The ring and the descriptor lie in GDDR6 that serves. -/
theorem appendOverRead_has (x : Nat) (h : (openQueue.ring ≤ x ∧ x < openQueue.ring + openQueue.size) ∨
    x / 128 = appendOverRead.descAddr openQueue.qid / 128) :
    appendOverRead.g6Has x = true ∧ appendOverRead.g6Failed (appendOverRead.g6Group x) = false := by
  obtain ⟨-, -, ⟨hda, hring, hsize, hcap, hgroups, h0, h1⟩, -⟩ := appendOverRead_facts
  rw [hda, hring, hsize] at h
  constructor
  · unfold State.g6Has g6Base
    rw [hcap]
    exact Bool.and_eq_true_iff.mpr ⟨decide_eq_true (by omega), decide_eq_true (by omega)⟩
  · unfold State.g6Group
    rw [if_pos hgroups]
    rcases Nat.mod_two_eq_zero_or_one ((x - g6Base) / 128) with hm | hm
    · rw [hm, h0]
    · rw [hm, h1]

/-- Refutes O36: a record's write of its descriptor lets the operations that wait at the GDDR6 group on the same 128-byte
block take effect first (R280), and their answers are staged ahead of the record's. -/
theorem not_appendsEnterTheirRing : ¬ Obligations.AppendsEnterTheirRing := by
  unfold Obligations.AppendsEnterTheirRing
  intro h
  obtain ⟨⟨hdest, hop, hpush, hq, hqid, hcnt⟩, ⟨hok, hplace, hres, hsize⟩, ⟨hda, hring, hlen, -⟩, htwo⟩ := appendOverRead_facts
  obtain ⟨-, -, -, hrecord⟩ := h appendOverRead oneRecord hdest hop hpush
  obtain ⟨-, hfits⟩ := hrecord openQueue hq (by decide) rfl hqid rfl rfl hcnt
  obtain ⟨t, e, ht, hst, -⟩ := hfits hok hplace hres hsize rfl (by rw [hda]) (by rw [hda, hring]; decide)
    appendOverRead_has
  rw [exec_qpushAppend] at ht
  obtain rfl := Host.Outcome.next.inj ht
  have hcount := congrArg List.length hst
  rw [htwo] at hcount
  exact absurd hcount (by decide)

end Sys2Proof.Machine
end

section
/-! Bit fields: what a field of a number is after one was replaced (00_scope.md R3). -/
namespace Sys2Proof.Machine

theorem testBit_bits (v hi lo i : Nat) : (bits v hi lo).testBit i = (decide (i < hi + 1 - lo) && v.testBit (lo + i)) := by
  unfold bits
  rw [Nat.testBit_mod_two_pow, Nat.testBit_div_two_pow, Nat.add_comm i lo]

theorem testBit_putBits {hi lo : Nat} (v x j : Nat) (h : lo ≤ hi + 1) :
    (putBits v hi lo x).testBit j = if lo ≤ j ∧ j ≤ hi then x.testBit (j - lo) else v.testBit j := by
  have heq : putBits v hi lo x =
      2 ^ lo * (2 ^ (hi + 1 - lo) * (v / 2 ^ (hi + 1)) + x % 2 ^ (hi + 1 - lo)) + v % 2 ^ lo := by
    have hp : 2 ^ (hi + 1) = 2 ^ lo * 2 ^ (hi + 1 - lo) := by rw [← Nat.pow_add]; congr 1; omega
    unfold putBits
    rw [hp]
    ring
  rw [heq, Nat.testBit_two_pow_mul_add _ (Nat.mod_lt _ (Nat.two_pow_pos _)),
    Nat.testBit_two_pow_mul_add _ (Nat.mod_lt _ (Nat.two_pow_pos _))]
  simp only [Nat.testBit_mod_two_pow, Nat.testBit_div_two_pow]
  by_cases h1 : j < lo
  · rw [if_pos h1, if_neg (by omega), decide_eq_true h1, Bool.true_and]
  · rw [if_neg h1]
    by_cases h2 : j ≤ hi
    · rw [if_pos (by omega), if_pos ⟨by omega, h2⟩, decide_eq_true (by omega), Bool.true_and]
    · rw [if_neg (by omega), if_neg (by omega)]
      congr 1
      omega

section
variable (w : Word) {hi lo hi' lo' : Nat} (v : Nat)

theorem testBit_wput (j : Nat) (h : lo ≤ hi + 1) (hj : j < 64) :
    (wput w hi lo v).toNat.testBit j = if lo ≤ j ∧ j ≤ hi then v.testBit (j - lo) else w.toNat.testBit j := by
  unfold wput
  rw [BitVec.toNat_ofNat, Nat.testBit_mod_two_pow, decide_eq_true hj, Bool.true_and, testBit_putBits _ _ _ h]

/-- The field that was replaced. -/
theorem wbits_wput_self (h : lo ≤ hi + 1) (hh : hi < 64) : wbits (wput w hi lo v) hi lo = v % 2 ^ (hi + 1 - lo) := by
  apply Nat.eq_of_testBit_eq
  intro i
  unfold wbits
  rw [testBit_bits, Nat.testBit_mod_two_pow]
  by_cases hi' : i < hi + 1 - lo
  · rw [testBit_wput w v _ h (by omega), if_pos (by omega), Nat.add_sub_cancel_left]
  · rw [decide_eq_false hi', Bool.false_and, Bool.false_and]

/-- A field apart from the one that was replaced. -/
theorem wbits_wput_apart (h : lo ≤ hi + 1) (hh : hi' < 64) (ha : hi' < lo ∨ hi < lo') :
    wbits (wput w hi lo v) hi' lo' = wbits w hi' lo' := by
  apply Nat.eq_of_testBit_eq
  intro i
  unfold wbits
  rw [testBit_bits, testBit_bits]
  by_cases hi' : i < hi' + 1 - lo'
  · rw [testBit_wput w v _ h (by omega), if_neg (by omega)]
  · rw [decide_eq_false hi', Bool.false_and, Bool.false_and]

end

end Sys2Proof.Machine
end

section
/-! Mailboxes of the cores (09_queues.md R251, R255 to R257, 07_event_network.md R218). -/
namespace Sys2Proof.Machine

theorem exec_mailboxAppend (s : State) (k : Packet) : exec (.mailboxAppend k) s = .next (s.mbxPush k.dest.toNat k) := rfl

/-- From `s` to `t` the words `ws` were stored in core `n`'s SRAM from word `w` on, and no other byte, register or packet
changed. -/
def StoredRun (n w : Nat) (ws : List Word) (s t : State) : Prop :=
  (∀ i (h : i < ws.length), t.word (sramAddr n (w + i)) = ws[i]) ∧
  (∀ x, (x < sramAddr n w ∨ sramAddr n (w + ws.length) ≤ x) → t.byte x = s.byte x) ∧ t.regs = s.regs ∧ t.net = s.net

theorem sramAddr_add (n w k : Nat) : sramAddr n (w + k) = sramAddr n w + 8 * k := by
  unfold sramAddr
  rw [Nat.mul_add, Nat.add_assoc]

theorem StoredRun.act {n w : Nat} {ws : List Word} {s t : State} (h : StoredRun n w ws s t) (e j m : Nat) :
    StoredRun n w ws s (t.act e j m) :=
  ⟨fun i hi => (State.word_of_mem (s := t) rfl _).trans (h.1 i hi),
    fun x hx => (State.byte_of_mem (s := t) rfl _).trans (h.2.1 x hx), h.2.2⟩

theorem storedRun_one {w : Nat} (s : State) (n : Nat) (v : Word) (hw : w < 32768) :
    StoredRun n w [v] s (s.sramWrite n w v) := by
  refine ⟨fun i h => ?_, fun x h => ?_, (congrArg State.regs (s.sramWrite_frame n v hw) :),
    (congrArg State.net (s.sramWrite_frame n v hw) :)⟩
  · obtain rfl : i = 0 := Nat.lt_one_iff.mp h
    exact s.sramWrite_word n v hw
  · have hx : x < sramAddr n w ∨ sramAddr n w + 8 ≤ x := by
      rwa [List.length_singleton, sramAddr_add] at h
    exact s.sramWrite_byte n v hw hx

/-- A run behind one word is a run with it in front. -/
theorem StoredRun.cons {n w : Nat} {v : Word} {ws : List Word} {s t u : State} (h : StoredRun n w [v] s t)
    (h' : StoredRun n (w + 1) ws t u) : StoredRun n w (v :: ws) s u := by
  obtain ⟨hv, hb, hr, hn⟩ := h
  obtain ⟨hws, hb', hr', hn'⟩ := h'
  refine ⟨fun i hi => ?_, fun x hx => ?_, hr'.trans hr, hn'.trans hn⟩
  · cases i with
    | zero =>
      rw [State.word_of_byte (s := t) fun k hk => hb' _ (Or.inl (by rw [sramAddr_add n w 1]; change sramAddr n w + k < _; omega))]
      exact hv 0 Nat.one_pos
    | succ i =>
      rw [List.length_cons] at hi
      have := hws i (by omega)
      rwa [Nat.add_right_comm, Nat.add_assoc w i 1] at this
  · rw [List.length_cons, sramAddr_add] at hx
    rw [hb' x (by simp only [sramAddr_add]; omega), hb x (by rw [List.length_singleton, sramAddr_add]; omega)]

theorem storedRun_foldl (n w e : Nat) (ws : List Word) : ∀ (s : State) (j : Nat), w + j + ws.length ≤ 32768 →
    StoredRun n (w + j) ws s
      ((ws.zipIdx j).foldl (fun s x => (s.sramWrite n (w + x.2) x.1).act e 3 1) s) := by
  induction ws with
  | nil => exact fun s j _ => ⟨fun i h => absurd h (Nat.not_lt_zero i), fun _ _ => rfl, rfl, rfl⟩
  | cons v ws ih =>
    intro s j h
    rw [List.length_cons] at h
    exact ((storedRun_one s n v (by omega)).act e 3 1).cons (ih _ (j + 1) (by omega))

/-- The words of a record that lies in the core's SRAM. -/
theorem State.mbxWrite_run (s : State) (n base size pos : Nat) (ws : List Word)
    (h : base + pos % size / 8 + ws.length ≤ 32768) :
    StoredRun n (base + pos % size / 8) ws s (s.mbxWrite n base size pos ws) :=
  storedRun_foldl n (base + pos % size / 8) (n / 128) ws s 0 h

section
variable {s : State} {n : Nat} {k : Packet}

theorem State.mbxPush_fenced (hf : s.on F.CORE_STAT_FENCED n = true) :
    s.mbxPush n k = ((s.dropArrived n k).taken n k).sendNack n k rsnFenced k.counted := if_pos hf

theorem State.mbxPush_refused (hf : s.on F.CORE_STAT_FENCED n = false) {u : State} {r : Nat}
    (h : (s.taken n k).mbxServe n k = (u, some r)) : s.mbxPush n k = (u.mbxCount n r).sendNack n k r k.counted := by
  unfold State.mbxPush
  rw [if_neg (by simp [hf]), h]

theorem State.mbxPush_taken (hf : s.on F.CORE_STAT_FENCED n = false) {u : State}
    (h : (s.taken n k).mbxServe n k = (u, none)) : s.mbxPush n k = u.sendAck n k := by
  unfold State.mbxPush
  rw [if_neg (by simp [hf]), h]

/-- A refusal at the mailbox is counted under its reason and answered. -/
theorem State.mbxRefused_effect {f : Fld} {r : Nat} (hr : r ≠ rsnFenced) (hc : k.counted = false)
    (hcnt : ∀ u : State, u.mbxCount n r = u.inc f 1 n) (hw : f.width = 16) (hwr : f.wraps = false) (u : State) :
    ((u.mbxCount n r).sendNack n k r k.counted).mem = u.mem ∧
      ((u.mbxCount n r).sendNack n k r k.counted).rd f n = min (u.rd f n + 1) 65535 ∧
      ((u.mbxCount n r).sendNack n k r k.counted).net.staging =
        u.net.staging ++ [⟨n, k.nack r false, .plain, k.onCtl, false⟩] := by
  have hplus : f.plus (u.rd f n) 1 = min (u.rd f n + 1) 65535 := by
    unfold Fld.plus
    rw [hwr, hw]
    rfl
  rw [hcnt, hc]
  unfold State.sendNack State.stage
  rw [beq_eq_false_iff_ne.mpr hr]
  exact ⟨rfl, (State.rd_inc ..).trans hplus, rfl⟩

theorem State.taken_mbxWord (m : Nat) : (s.taken n k).mbxWord n m = s.mbxWord n m := rfl

end

section
variable {s : State} {n dw : Nat} {w0 w1 : Word} {k : Packet} (hop : k.op = 5) (hq : k.qid / 64 = n) (hl : k.qid < 0x10000)
include hop hq hl

theorem State.mbxServe_absent (hw : s.mbxWord n (k.qid % 64) = none) : s.mbxServe n k = (s, some rsnNotBound) := by
  unfold State.mbxServe
  rw [if_neg (by simp [hop, hq, hl]), hw]

section
variable (hw : s.mbxWord n (k.qid % 64) = some dw) (hp : pushOp k = 0) (hdw : dw + 1 < 32768)
  (h0 : s.decodeAt (sramAddr n dw) = .clean w0) (h1 : s.decodeAt (sramAddr n (dw + 1)) = .clean w1)
include hw hp hdw h0 h1

theorem State.mbxServe_refused {r : Nat} (hr : mbxRefusal (some w0) (some w1) k = some r) :
    s.mbxServe n k = (s.act (n / 128) 3 2, some r) := by
  unfold State.mbxServe
  rw [if_neg (by simp [hop, hq, hl]), hw]
  simp only [State.sramRead_clean (Nat.lt_of_succ_lt hdw) h0, State.sramRead_clean hdw h1, if_pos hp, hr]

theorem State.mbxServe_append (hr : mbxRefusal (some w0) (some w1) k = none) :
    s.mbxServe n k = ((s.act (n / 128) 3 2).mbxAppend n dw w0 w1 k, none) := by
  unfold State.mbxServe
  rw [if_neg (by simp [hop, hq, hl]), hw]
  simp only [State.sramRead_clean (Nat.lt_of_succ_lt hdw) h0, State.sramRead_clean hdw h1, if_pos hp, hr,
    Option.getD_some]

end

end

section
variable {w0 w1 : Word} {k : Packet} (hb : wbits w0 63 62 = 1) (hm : mayAppend (wbits w0 31 19) k.src.toNat = true)
  (hwell : pushWell k = true)
include hb hm hwell

theorem mbxRefusal_long (h : 112 < pushLen k) : mbxRefusal (some w0) (some w1) k = some rsnTooLong := by
  unfold mbxRefusal
  simp [hb, hm, hwell, h]

theorem mbxRefusal_closed (h : pushLen k ≤ 112) (ho : bit w0.toNat 61 = false) :
    mbxRefusal (some w0) (some w1) k = some rsnQueueClosed := by
  unfold mbxRefusal
  simp [hb, hm, hwell, ho, Nat.not_lt.mpr h]

theorem mbxRefusal_none (h : pushLen k ≤ 112) (ho : bit w0.toNat 61 = true) (hc : pushChk k = false) {p : Nat}
    (hp : placement (8 * 2 ^ wbits w0 18 15) (wbits w1 63 48) (wbits w1 47 32) (recordBytesOf (pushLen k)) 16 = some p) :
    mbxRefusal (some w0) (some w1) k = none := by
  unfold mbxRefusal
  simp [hb, hm, hwell, ho, hc, hp, Nat.not_lt.mpr h]

end

/-- A well-formed packet of a record of at most 112 bytes holds its words behind the header. -/
theorem length_of_pushWell {k : Packet} (hw : pushWell k = true) (hl : pushLen k ≤ 112) :
    k.data.length = recordBytesOf (pushLen k) / 8 := by
  unfold pushWell at hw
  simp only [Bool.and_eq_true, beq_iff_eq, decide_eq_true_eq] at hw
  obtain ⟨⟨⟨hcnt, hidx⟩, hlen⟩, -⟩ := hw
  have hone : max 1 (ceilDiv (pushLen k) 112) = 1 := by
    unfold ceilDiv
    omega
  rw [hcnt, hone] at hidx
  rw [hlen, Nat.lt_one_iff.mp hidx]
  unfold recordBytesOf ceilDiv
  omega

/-- A record that fits at the reserve count: its words, and word 1 of the descriptor. -/
theorem State.mbxAppend_eq (s : State) (n dw : Nat) (w0 w1 : Word) (k : Packet)
    (hp : placement (8 * 2 ^ wbits w0 18 15) (wbits w1 63 48) (wbits w1 47 32) (recordBytesOf (pushLen k)) 16 = some 0) :
    s.mbxAppend n dw w0 w1 k =
      ((s.mbxWrite n (s.rd F.CORE_PART_MBX_BASE n + wbits w0 14 0) (8 * 2 ^ wbits w0 18 15) (wbits w1 47 32)
        (recordHeader (wbits w1 31 0) k.src.toNat 1 (pushLen k) :: k.data.drop 1)).sramWrite n (dw + 1)
          (wput (wput w1 47 32 (wbits w1 47 32 + recordBytesOf (pushLen k))) 31 0 (wbits w1 31 0 + 1))).act (n / 128) 3 1 := by
  unfold State.mbxAppend
  extract_lets size base res seq bytes pad s1 seq1 s2 w1'
  have hpad : pad = 0 := by
    change (placement _ _ _ _ _).getD 0 = 0
    rw [hp]
    rfl
  have hs1 : s1 = s := if_pos hpad
  have hseq : seq1 = seq := if_pos hpad
  simp only [s2, w1', hs1, hseq, hpad, Nat.add_zero]
  rfl


section
variable {s : State} {n dw : Nat} {w0 w1 : Word} {k : Packet}

/-- The record is stored at the reserve count, and word 1 of the descriptor moves on behind it. -/
theorem State.mbxAppend_effect (hdw : dw + 1 < 32768) (hwell : pushWell k = true) (hl : pushLen k ≤ 112)
    (hp : placement (8 * 2 ^ wbits w0 18 15) (wbits w1 63 48) (wbits w1 47 32) (recordBytesOf (pushLen k)) 16 = some 0)
    {at0 : Nat} (hat : at0 = s.rd F.CORE_PART_MBX_BASE n + wbits w0 14 0 + wbits w1 47 32 % (8 * 2 ^ wbits w0 18 15) / 8)
    (hfit : at0 + recordBytesOf (pushLen k) / 8 ≤ 32768)
    (ha : dw + 1 < at0 ∨ at0 + recordBytesOf (pushLen k) / 8 ≤ dw) {t : State} (ht : t = s.mbxAppend n dw w0 w1 k) :
    t.net = s.net ∧ t.word (sramAddr n at0) = recordHeader (wbits w1 31 0) k.src.toNat 1 (pushLen k) ∧
      (∀ j (h : j + 1 < k.data.length), t.word (sramAddr n (at0 + 1 + j)) = k.data[j + 1]) ∧
      t.word (sramAddr n (dw + 1)) =
        wput (wput w1 47 32 (wbits w1 47 32 + recordBytesOf (pushLen k))) 31 0 (wbits w1 31 0 + 1) ∧
      ∀ x, (x < sramAddr n at0 ∨ sramAddr n (at0 + recordBytesOf (pushLen k) / 8) ≤ x) →
        (x < sramAddr n (dw + 1) ∨ sramAddr n (dw + 2) ≤ x) → t.byte x = s.byte x := by
  have hn := length_of_pushWell hwell hl
  have hpos : 1 ≤ k.data.length := by
    rw [hn]
    unfold recordBytesOf
    omega
  rw [State.mbxAppend_eq s n dw w0 w1 k hp] at ht
  obtain ⟨u, hu⟩ : ∃ u, u = s.mbxWrite n (s.rd F.CORE_PART_MBX_BASE n + wbits w0 14 0) (8 * 2 ^ wbits w0 18 15)
    (wbits w1 47 32) (recordHeader (wbits w1 31 0) k.src.toNat 1 (pushLen k) :: k.data.drop 1) := ⟨_, rfl⟩
  have hlen : (recordHeader (wbits w1 31 0) k.src.toNat 1 (pushLen k) :: k.data.drop 1).length =
      recordBytesOf (pushLen k) / 8 := by
    rw [List.length_cons, List.length_drop]
    omega
  have hrun := s.mbxWrite_run n (s.rd F.CORE_PART_MBX_BASE n + wbits w0 14 0) (8 * 2 ^ wbits w0 18 15) (wbits w1 47 32)
    (recordHeader (wbits w1 31 0) k.src.toNat 1 (pushLen k) :: k.data.drop 1) (by rw [hlen, ← hat]; exact hfit)
  rw [← hu] at ht hrun
  rw [← hat] at hrun
  obtain ⟨hword, hbyte, -, hnet⟩ := hrun
  obtain ⟨hword', hbyte', -, hnet'⟩ := (storedRun_one u n
    (wput (wput w1 47 32 (wbits w1 47 32 + recordBytesOf (pushLen k))) 31 0 (wbits w1 31 0 + 1)) hdw).act (n / 128) 3 1
  rw [← ht] at hword' hbyte' hnet'
  rw [List.length_singleton] at hbyte'
  rw [hlen] at hbyte
  have hkeep (i : Nat) (hi : i < recordBytesOf (pushLen k) / 8) : t.word (sramAddr n (at0 + i)) = u.word (sramAddr n (at0 + i)) := by
    refine State.word_of_byte fun x hx => hbyte' _ ?_
    simp only [sramAddr_add] at *
    rcases ha with ha | ha
    · right
      obtain ⟨d, rfl⟩ : ∃ d, at0 = dw + 2 + d := ⟨at0 - (dw + 2), by omega⟩
      simp only [sramAddr_add]
      omega
    · left
      obtain ⟨d, rfl⟩ : ∃ d, dw = at0 + recordBytesOf (pushLen k) / 8 + d := ⟨_, (Nat.add_sub_cancel' ha).symm⟩
      simp only [sramAddr_add]
      omega
  refine ⟨hnet'.trans hnet, ?_, fun j hj => ?_, hword' 0 Nat.one_pos, fun x hx hx' => ?_⟩
  · exact (hkeep 0 (by omega)).trans (hword 0 (by rw [hlen]; omega))
  · have hi : 1 + j < recordBytesOf (pushLen k) / 8 := by omega
    have h1 := (hkeep (1 + j) hi).trans (hword (1 + j) (by rw [hlen]; exact hi))
    rw [← Nat.add_assoc] at h1
    rw [h1]
    simp only [Nat.add_comm 1 j, List.getElem_cons_succ, List.getElem_drop]
  · exact (hbyte' x hx').trans (hbyte x hx)

end

/-- Word 1 of the descriptor after a record: RES and SEQ moved on, RD as it was. -/
theorem wbits_moved (w1 : Word) (r q : Nat) : wbits (wput (wput w1 47 32 r) 31 0 q) 47 32 = r % 65536 ∧
    wbits (wput (wput w1 47 32 r) 31 0 q) 31 0 = q % 2 ^ 32 ∧
    wbits (wput (wput w1 47 32 r) 31 0 q) 63 48 = wbits w1 63 48 := by
  refine ⟨?_, wbits_wput_self _ q (by omega) (by omega), ?_⟩
  · rw [wbits_wput_apart _ q (by omega) (by omega) (by omega)]
    exact wbits_wput_self w1 r (by omega) (by omega)
  · rw [wbits_wput_apart _ q (by omega) (by omega) (by omega), wbits_wput_apart _ r (by omega) (by omega) (by omega)]

/-- Settles O40: a push at a core's mailbox is served by its own rows (`mbxServe_*`, `mbxRefusal_*`), and a record that fits
is a run of words and one word of the descriptor (`mbxAppend_effect`). -/
theorem mailboxesTakeTheirRecords : Obligations.MailboxesTakeTheirRecords := by
  unfold Obligations.MailboxesTakeTheirRecords
  intro s k hcore hop hpush
  have hc : k.counted = false := by
    unfold Packet.counted
    rw [hop]
    decide
  simp only [exec_mailboxAppend]
  refine ⟨fun hf => ⟨_, rfl, ?_⟩, fun hf hw hq hl => ⟨_, rfl, ?_⟩, fun dw w0 w1 hf hq hl hw hdw h0 h1 hb hm hwell => ⟨fun hlong => ⟨_, rfl, ?_⟩,
    fun hle ho => ⟨_, rfl, ?_⟩, fun hle ho hchk hp hfit ha => ⟨_, rfl, ?_⟩⟩⟩
  · rw [State.mbxPush_fenced hf, hc, State.dropArrived_frame]
    exact ⟨rfl, rfl⟩
  · have h := State.mbxServe_absent (s := s.taken k.dest.toNat k) hop hq hl hw
    rw [State.mbxPush_refused hf h]
    exact State.mbxRefused_effect (f := F.DREY_MBX_CNT_OTHER) (by decide) hc (fun _ => rfl) rfl rfl _
  · have h := State.mbxServe_refused (s := s.taken k.dest.toNat k) hop hq hl hw hpush hdw h0 h1
      (mbxRefusal_long hb hm hwell hlong)
    rw [State.mbxPush_refused hf h]
    exact State.mbxRefused_effect (f := F.DREY_MBX_CNT_TOO_LONG) (by decide) hc (fun _ => rfl) rfl rfl _
  · have h := State.mbxServe_refused (s := s.taken k.dest.toNat k) hop hq hl hw hpush hdw h0 h1
      (mbxRefusal_closed hb hm hwell hle ho)
    rw [State.mbxPush_refused hf h]
    exact State.mbxRefused_effect (f := F.DREY_MBX_CNT_QUEUE_CLOSED) (by decide) hc (fun _ => rfl) rfl rfl _
  · have h := State.mbxServe_append (s := s.taken k.dest.toNat k) hop hq hl hw hpush hdw h0 h1
      (mbxRefusal_none hb hm hwell hle ho hchk hp)
    rw [State.mbxPush_taken hf h]
    obtain ⟨t, ht⟩ : ∃ t, t = ((s.taken k.dest.toNat k).act (k.dest.toNat / 128) 3 2).mbxAppend k.dest.toNat dw w0 w1 k :=
      ⟨_, rfl⟩
    obtain ⟨hnet, hhead, hdata, hword1, hbytes⟩ := State.mbxAppend_effect (s := (s.taken k.dest.toNat k).act (k.dest.toNat / 128) 3 2)
      hdw hwell hle hp rfl hfit ha ht
    rw [← ht]
    obtain ⟨hres, hseq, hrd⟩ := wbits_moved w1 (wbits w1 47 32 + recordBytesOf (pushLen k)) (wbits w1 31 0 + 1)
    have hw (a : Nat) : (t.sendAck k.dest.toNat k).word a = t.word a := State.word_of_mem rfl a
    refine ⟨?_, (hw _).trans hhead, fun j hj => (hw _).trans (hdata j hj), ?_, ?_, ?_, fun x hx hx' => hbytes x hx hx'⟩
    · unfold State.sendAck State.stage
      rw [hnet]
      rfl
    · rw [hw, hword1, hres]
    · rw [hw, hword1, hseq]
    · rw [hw, hword1, hrd]

end Sys2Proof.Machine
end

section
/-! The record of a GDDR6 group, and its account of the beats that it reads (10_memory_system.md R281 to R285). -/
namespace Sys2Proof.Machine

section
variable (s : State) (g : Nat)

theorem State.g6g_onG6_self (f : G6St → G6St) : (s.onG6 g f).g6g g = f (s.g6g g) := Sparse.get_set_self ..

theorem State.g6g_onG6_ne (f : G6St → G6St) {h : Nat} (hne : h ≠ g) : (s.onG6 g f).g6g h = s.g6g h :=
  Sparse.get_set_ne _ _ _ _ _ hne

theorem State.g6g_of_g6 {s t : State} (h : t.g6 = s.g6) (g : Nat) : t.g6g g = s.g6g g := by unfold State.g6g; rw [h]

end

/-- From `s` to `t` only the groups' own records changed, and in these no queue. -/
def G6Counts (s t : State) : Prop :=
  t = { s with g6 := t.g6 } ∧ ∀ h, (t.g6g h).queue = (s.g6g h).queue

section
variable {s t u : State}

theorem G6Counts.refl (s : State) : G6Counts s s := ⟨rfl, fun _ => rfl⟩

theorem G6Counts.trans (h : G6Counts s t) (h' : G6Counts t u) : G6Counts s u := by
  refine ⟨?_, fun g => (h'.2 g).trans (h.2 g)⟩
  rw [h'.1, h.1]

theorem g6Counts_onG6 (s : State) (g : Nat) (f : G6St → G6St) (hf : (f (s.g6g g)).queue = (s.g6g g).queue) :
    G6Counts s (s.onG6 g f) := by
  refine ⟨rfl, fun h => ?_⟩
  by_cases hg : h = g
  · rw [hg, State.g6g_onG6_self, hf]
  · rw [State.g6g_onG6_ne _ _ _ hg]

theorem State.g6Window_counts (s : State) (g : Nat) : G6Counts s (s.g6Window g) := by
  unfold State.g6Window
  split
  · exact G6Counts.refl s
  · exact g6Counts_onG6 s g _ rfl

theorem G6Counts.flip (h : G6Counts s t) (a : Nat) : t.flip a = s.flip a := State.flip_of_flips (by rw [h.1]) a

end

/-- The state of a group's counts when a beat is read. -/
def State.g6Read1 (s : State) (g : Nat) : State := (s.g6Window g).onG6 g (fun x => { x with window := x.window + 1 })

theorem State.g6Read1_counts (s : State) (g : Nat) : G6Counts s (s.g6Read1 g) :=
  (s.g6Window_counts g).trans (g6Counts_onG6 _ g _ rfl)

section
variable {s : State} {g a : Nat}

theorem State.g6Decode_clean (h : s.flip a = 0) : s.g6Decode g a = .clean (s.word a) := if_pos h

theorem State.g6Account_clean (h : s.flip a = 0) : s.g6Account g a = s.g6Read1 g := by
  unfold State.g6Account
  extract_lets s0
  rw [State.g6Decode_clean h]
  rfl

theorem State.g6KeepBeat_clean (h : s.flip a = 0) : s.g6KeepBeat g a = s.g6Read1 g := by
  unfold State.g6KeepBeat
  extract_lets s1
  rw [State.g6Decode_clean h]
  exact State.g6Account_clean h

/-- Beats without upset bits are kept as they are. -/
theorem State.foldl_keepBeat_clean (g a : Nat) (ks : List Nat) : ∀ s : State, (∀ k ∈ ks, s.flip (a + 8 * k) = 0) →
    G6Counts s (ks.foldl (fun s k => s.g6KeepBeat g (a + 8 * k)) s) := by
  induction ks with
  | nil => exact fun s _ => G6Counts.refl s
  | cons k ks ih =>
    intro s h
    have h1 : G6Counts s (s.g6KeepBeat g (a + 8 * k)) := by
      rw [State.g6KeepBeat_clean (h k List.mem_cons_self)]
      exact s.g6Read1_counts g
    exact h1.trans (ih _ fun j hj => (h1.flip _).trans (h j (List.mem_cons_of_mem _ hj)))

end

/-- Memory and the counts of corrected beats stayed as they were. -/
def KeepsBeats (s t : State) : Prop :=
  t.mem = s.mem ∧ t.flips = s.flips ∧ ∀ g, t.rd F.MEM_ECC_CNT_CORR g = s.rd F.MEM_ECC_CNT_CORR g

section
variable {s t u : State}

theorem KeepsBeats.refl (s : State) : KeepsBeats s s := ⟨rfl, rfl, fun _ => rfl⟩

theorem KeepsBeats.trans (h : KeepsBeats s t) (h' : KeepsBeats t u) : KeepsBeats s u :=
  ⟨h'.1.trans h.1, h'.2.1.trans h.2.1, fun g => (h'.2.2 g).trans (h.2.2 g)⟩

theorem G6Counts.keepsBeats (h : G6Counts s t) : KeepsBeats s t := by
  refine ⟨?_, ?_, fun g => State.rd_of_regs ?_ ..⟩ <;> rw [h.1]

theorem keepsBeats_wr (s : State) (f : Fld) (v c i : Nat) (h : F.MEM_ECC_CNT_CORR.apart f = true) : KeepsBeats s (s.wr f v c i) :=
  ⟨rfl, rfl, fun g => State.rd_wr_apart s v c i g 0 h⟩

theorem KeepsBeats.wr (h : KeepsBeats s t) (f : Fld) (v c i : Nat) (hf : F.MEM_ECC_CNT_CORR.apart f = true) :
    KeepsBeats s (t.wr f v c i) := h.trans (keepsBeats_wr t f v c i hf)

theorem KeepsBeats.report (h : KeepsBeats s t) (x k c a : Nat) : KeepsBeats s (t.report x k c a) := h

theorem State.g6Retire_keepsBeats (s : State) (g p a : Nat) : KeepsBeats s (s.g6Retire g p a) := by
  unfold State.g6Retire
  have h := KeepsBeats.refl s
  split
  · exact h
  · split
    · exact ((((h.wr _ _ _ _ (by decide)).wr _ _ _ _ (by decide)).wr _ _ _ _ (by decide)).wr _ _ _ _ (by decide)).report ..
    · exact (((((h.wr _ _ _ _ (by decide)).wr _ _ _ _ (by decide)).wr _ _ _ _ (by decide)).wr _ _ _ _ (by decide)).wr
        _ _ _ _ (by decide)).report ..
    · split
      · exact h
      · exact (h.wr _ _ _ _ (by decide)).report ..

theorem foldl_keepsBeats {f : State → Nat → State} (hf : ∀ s p, KeepsBeats s (f s p)) (ps : List Nat) :
    ∀ s, KeepsBeats s (ps.foldl f s) := by
  induction ps with
  | nil => exact KeepsBeats.refl
  | cons p ps ih => exact fun s => (hf s p).trans (ih (f s p))

theorem State.g6Pins_keepsBeats (s : State) (g a : Nat) (m : Code) : KeepsBeats s (s.g6Pins g a m) := by
  refine foldl_keepsBeats (fun s p => ?_) _ s
  extract_lets k s1
  have h1 : KeepsBeats s s1 := ⟨rfl, rfl, fun _ => rfl⟩
  split
  · exact h1.trans (s1.g6Retire_keepsBeats ..)
  · exact h1

end

section
variable {s : State} {g a : Nat} {d : Word} {m : Code}

theorem State.g6Account_corrected (h : s.g6Decode g a = .corrected d m) :
    (s.g6Account g a).mem = s.mem ∧ (s.g6Account g a).flips = s.flips ∧
      (s.g6Account g a).rd F.MEM_ECC_CNT_CORR g = min (s.rd F.MEM_ECC_CNT_CORR g + 1) (2 ^ 32 - 1) := by
  unfold State.g6Account
  extract_lets s0
  rw [h]
  have hlog : KeepsBeats s (s0.g6Log g a 1) :=
    (((s.g6Read1_counts g).keepsBeats.wr _ _ _ _ (by decide)).wr _ _ _ _ (by decide)).wr _ _ _ _ (by decide)
  change State.mem (if _ then _ else _) = _ ∧ State.flips (if _ then _ else _) = _ ∧ State.rd (if _ then _ else _) _ _ = _
  obtain ⟨l, hl⟩ : ∃ l, l = s0.g6Log g a 1 := ⟨_, rfl⟩
  rw [← hl] at hlog ⊢
  have hcnt : (l.inc F.MEM_ECC_CNT_CORR 1 g).rd F.MEM_ECC_CNT_CORR g = min (s.rd F.MEM_ECC_CNT_CORR g + 1) (2 ^ 32 - 1) := by
    rw [State.rd_inc, hlog.2.2 g]
    rfl
  have hmem : (l.inc F.MEM_ECC_CNT_CORR 1 g).mem = s.mem ∧ (l.inc F.MEM_ECC_CNT_CORR 1 g).flips = s.flips := ⟨hlog.1, hlog.2.1⟩
  obtain ⟨u, hu⟩ : ∃ u, u = l.inc F.MEM_ECC_CNT_CORR 1 g := ⟨_, rfl⟩
  rw [← hu] at hcnt hmem ⊢
  obtain ⟨v, hv⟩ : ∃ v, v = u.onG6 g (fun x => { x with corrRun := ((s.g6g g).corrRun + 1) % 256 }) := ⟨_, rfl⟩
  have huv : KeepsBeats u v := by
    rw [hv]
    exact ⟨rfl, rfl, fun _ => rfl⟩
  have hp := huv.trans (v.g6Pins_keepsBeats g a m)
  rw [← hv]
  split
  · exact ⟨hp.1.trans hmem.1, hp.2.1.trans hmem.2, (hp.2.2 g).trans hcnt⟩
  · exact ⟨hp.1.trans hmem.1, hp.2.1.trans hmem.2, (hp.2.2 g).trans hcnt⟩

theorem State.g6KeepBeat_corrected (h : s.g6Decode g a = .corrected d m) :
    s.g6KeepBeat g a = (s.g6Account g a).setWord a d := by
  unfold State.g6KeepBeat
  extract_lets s1
  rw [h]

theorem State.flip_setWord_ne (s : State) {a x : Nat} (w : Word) (h : x ≠ a) : (s.setWord a w).flip x = s.flip x := by
  unfold State.setWord
  rw [State.setBytes_frame]
  exact Sparse.get_set_ne natLt s.flips (0 : Code) 0 0 h

/-- A beat that corrects is stored afresh and counted. -/
theorem State.g6KeepBeat_stored (h : s.g6Decode g a = .corrected d m) :
    StoredWord s (s.g6KeepBeat g a) a d ∧ (∀ x, x ≠ a → (s.g6KeepBeat g a).flip x = s.flip x) ∧
      (s.g6KeepBeat g a).rd F.MEM_ECC_CNT_CORR g = min (s.rd F.MEM_ECC_CNT_CORR g + 1) (2 ^ 32 - 1) := by
  obtain ⟨hm, hf, hc⟩ := State.g6Account_corrected h
  rw [State.g6KeepBeat_corrected h]
  refine ⟨(storedWord_setWord (s.g6Account g a) a d).of_eq rfl rfl hm.symm, fun x hx => ?_, ?_⟩
  · exact (State.flip_setWord_ne _ d hx).trans (State.flip_of_flips hf x)
  · exact (State.rd_of_regs (State.setWord_regs _ _ _) ..).trans hc

/-- The one beat of a burst that corrects, when the whole burst is kept. -/
theorem State.foldl_keepBeat_corrected {j : Nat} (hj : j < 16) (hd : s.g6Decode g (a + 8 * j) = .corrected d m)
    (hc : ∀ i, i < 16 → i ≠ j → s.flip (a + 8 * i) = 0) {t : State}
    (ht : t = (List.range 16).foldl (fun s k => s.g6KeepBeat g (a + 8 * k)) s) :
    StoredWord s t (a + 8 * j) d ∧ t.rd F.MEM_ECC_CNT_CORR g = min (s.rd F.MEM_ECC_CNT_CORR g + 1) (2 ^ 32 - 1) := by
  have hsplit : List.range 16 = List.range j ++ j :: List.range' (j + 1) (15 - j) := by
    rw [List.range_eq_range', List.range_eq_range', ← List.range'_succ]
    have := List.range'_append_1 (s := 0) (m := j) (n := 15 - j + 1)
    rw [Nat.zero_add] at this
    rw [this]
    congr 1
    omega
  rw [hsplit, List.foldl_append, List.foldl_cons] at ht
  have h1 := State.foldl_keepBeat_clean g a (List.range j) s fun k hk => by
    have := List.mem_range.mp hk
    exact hc k (by omega) (by omega)
  obtain ⟨u, hu⟩ : ∃ u, u = (List.range j).foldl (fun s k => s.g6KeepBeat g (a + 8 * k)) s := ⟨_, rfl⟩
  rw [← hu] at h1 ht
  have hdu : u.g6Decode g (a + 8 * j) = .corrected d m := by
    rw [h1.1]
    exact hd
  obtain ⟨hs, hf, hcnt⟩ := State.g6KeepBeat_stored hdu
  obtain ⟨v, hv⟩ : ∃ v, v = u.g6KeepBeat g (a + 8 * j) := ⟨_, rfl⟩
  rw [← hv] at hs hf hcnt ht
  have h2 := State.foldl_keepBeat_clean g a (List.range' (j + 1) (15 - j)) v fun k hk => by
    have := List.mem_range'_1.mp hk
    exact ((hf _ (by omega)).trans (h1.flip _)).trans (hc k (by omega) (by omega))
  rw [← ht] at h2
  have k1 := h1.keepsBeats
  have k2 := h2.keepsBeats
  refine ⟨hs.of_eq k2.1 k2.2.1 k1.1.symm, ?_⟩
  rw [k2.2.2, hcnt, k1.2.2]

end

end Sys2Proof.Machine
end

section
/-! How a GDDR6 group is kept up: windows, refresh, patrol, PLL and self-refresh (10_memory_system.md R278 to R284,
16_power_clocks_thermal.md R442, R444). -/
namespace Sys2Proof.Machine

theorem exec_pinWindowEnd (s : State) (g : Nat) : exec (.pinWindowEnd g) s = .next (s.g6Window g) := rfl
theorem exec_g6Refresh (s : State) (g : Nat) (h : Bool) : exec (.g6Refresh ⟨g, h⟩) s = .next (s.g6NextBank g h) := rfl
theorem exec_g6PatrolScrub (s : State) (g : Nat) : exec (.g6PatrolScrub g) s = .next (s.g6Patrol g) := rfl
theorem exec_g6PllLockLoss (s : State) (g : Nat) : exec (.g6PllLockLoss g) s = .next (s.g6Unlock g) := rfl
theorem exec_g6PllRelock (s : State) (g : Nat) : exec (.g6PllRelock g) s = .next (s.g6Relock g) := rfl
theorem exec_g6PllLockTimeout (s : State) (g : Nat) : exec (.g6PllLockTimeout g) s = .next (s.g6LockTimeout g) := rfl
theorem exec_g6AutoSelfRefresh (s : State) (g : Nat) : exec (.g6AutoSelfRefresh g) s = .next (s.g6AutoSleep g) := rfl

section
variable {s : State} {g : Nat}

theorem State.groups_of_one (hg : g < 2) (hon : s.groupOn g = true) : s.groups.length = 2 ∨ s.groups = [g] := by
  unfold State.groups
  have hr : List.range 2 = [0, 1] := rfl
  rw [hr]
  rcases Nat.lt_succ_iff_lt_or_eq.mp hg with h | rfl
  · obtain rfl : g = 0 := Nat.lt_one_iff.mp h
    cases h1 : s.groupOn 1 <;> simp [hon, h1]
  · cases h0 : s.groupOn 0 <;> simp [hon, h0]

/-- A burst of a group lies in that group. -/
theorem State.g6Group_g6Burst (hg : g < 2) (hon : s.groupOn g = true) (b : Nat) : s.g6Group (s.g6Burst g b) = g := by
  unfold State.g6Group State.g6Burst
  rcases State.groups_of_one hg hon with h | h
  · rw [if_pos h, if_pos h, Nat.add_sub_cancel_left]
    omega
  · rw [h]
    rfl

theorem State.g6Dram_fields {b : Nat} (h : b < (if s.on F.MEM_CFG_DENSITY g then 2 ^ 25 else 2 ^ 24)) :
    b = (s.g6Dram g b).column + 64 * (s.g6Dram g b).bankGroup + 256 * (s.g6Dram g b).bank + 1024 * (s.g6Dram g b).row ∧
      (s.g6Dram g b).column < 64 ∧ (s.g6Dram g b).bankGroup < 4 ∧ (s.g6Dram g b).bank < 4 := by
  unfold State.g6Dram bits
  split at h <;> rename_i hd
  · rw [if_pos hd]
    dsimp only
    omega
  · rw [if_neg hd]
    dsimp only
    omega

theorem State.g6Patrol_off (h : (s.groupOn g = false ∨ s.g6Awake g = false) ∨ s.on F.MEM_SCRUB_CFG_EN g = false ∨ s.g6Failed g = true) :
    s.g6Patrol g = s := by
  refine if_pos ?_
  rcases h with (h | h) | h | h <;> simp [h]

/-- The state at the time of the patrol's next burst. -/
def State.g6PatrolAt (s : State) (g : Nat) : State :=
  s.advance (((s.g6g g).scrubAt + s.rd F.MEM_SCRUB_CFG_INTERVAL g) % 2 ^ 64)

theorem State.g6Patrol_on (hon : s.groupOn g = true) (ha : s.g6Awake g = true) (he : s.on F.MEM_SCRUB_CFG_EN g = true)
    (hf : s.g6Failed g = false) : s.g6Patrol g =
      (((s.g6PatrolAt g).g6WriteBurst ((s.g6PatrolAt g).g6Burst g (s.g6g g).scrub) (fun _ => none)).onG6 g (fun y => { y with
        scrub := ((s.g6g g).scrub + 1) % max 1 (s.g6PerGroup / 128), scrubAt := (s.g6PatrolAt g).grain })) :=
  if_neg (by simp [hon, ha, he, hf])

theorem State.g6WriteBurst_none (s : State) (b : Nat) : s.g6WriteBurst b (fun _ => none) =
    (List.range 16).foldl (fun u k => u.g6KeepBeat (s.g6Group b) (b + 8 * k)) s.g6Active := rfl

theorem State.advance_fuse (s : State) (n : Nat) : (s.advance n).fuse = s.fuse := by rw [s.advance_grainFrame n]

theorem State.advance_flips (s : State) (n : Nat) : (s.advance n).flips = s.flips := by rw [s.advance_grainFrame n]

theorem State.groups_of_fuse {t : State} (h : t.fuse = s.fuse) : t.groups = s.groups := by
  unfold State.groups
  exact List.filter_congr fun x _ => by simp only [State.groupOn, h]

theorem State.advance_g6Burst (s : State) (n g b : Nat) : (s.advance n).g6Burst g b = s.g6Burst g b := by
  unfold State.g6Burst
  rw [State.groups_of_fuse (s.advance_fuse n)]

theorem State.advance_g6Group (s : State) (n a : Nat) : (s.advance n).g6Group a = s.g6Group a := by
  unfold State.g6Group
  rw [State.groups_of_fuse (s.advance_fuse n)]

theorem State.advance_g6Decode (s : State) (n g a : Nat) : (s.advance n).g6Decode g a = s.g6Decode g a := by
  have hret : (s.advance n).g6Retired g = s.g6Retired g := by
    unfold State.g6Retired
    rw [s.advance_on n (f := F.MEM_RETIRE_V0) g 0 (by decide) (by decide) (by decide),
      s.advance_on n (f := F.MEM_RETIRE_V1) g 0 (by decide) (by decide) (by decide),
      s.advance_rd n (f := F.MEM_RETIRE_POS0) g 0 (by decide) (by decide) (by decide),
      s.advance_rd n (f := F.MEM_RETIRE_POS1) g 0 (by decide) (by decide) (by decide)]
  unfold State.g6Decode State.codeAt
  rw [State.flip_of_flips (s.advance_flips n), State.word_of_mem (s.advance_mem n), hret]

/-- A burst without upset bits read and kept. -/
theorem State.g6WriteBurst_clean {b : Nat} (hc : ∀ j, j < 16 → s.flip (b + 8 * j) = 0) {t : State}
    (ht : t = s.g6WriteBurst b (fun _ => none)) : t.mem = s.mem ∧ t.flips = s.flips ∧ t.regs = s.regs := by
  have h := State.foldl_keepBeat_clean (s.g6Group b) b (List.range 16) s.g6Active fun k hk => hc k (List.mem_range.mp hk)
  rw [← State.g6WriteBurst_none, ← ht] at h
  refine ⟨?_, ?_, ?_⟩ <;> rw [h.1] <;> rfl

/-- A burst with one beat that corrects read and kept. -/
theorem State.g6WriteBurst_corrected {b j : Nat} {d : Word} {m : Code} (hg : s.g6Group b = g) (hj : j < 16)
    (hd : s.g6Decode g (b + 8 * j) = .corrected d m) (hc : ∀ i, i < 16 → i ≠ j → s.flip (b + 8 * i) = 0) {t : State}
    (ht : t = s.g6WriteBurst b (fun _ => none)) : StoredWord s t (b + 8 * j) d ∧
      t.rd F.MEM_ECC_CNT_CORR g = min (s.rd F.MEM_ECC_CNT_CORR g + 1) (2 ^ 32 - 1) := by
  rw [State.g6WriteBurst_none, hg] at ht
  obtain ⟨hs, hcnt⟩ := State.foldl_keepBeat_corrected (s := s.g6Active) hj hd hc ht
  exact ⟨hs.of_eq rfl rfl rfl, hcnt⟩

/-- The patrol of a burst without upset bits. -/
theorem State.g6Patrol_clean {b : Nat} (hc : ∀ j, j < 16 → s.flip (b + 8 * j) = 0) (n : Nat) {t : State}
    (ht : t = (s.advance n).g6WriteBurst b (fun _ => none)) : t.mem = s.mem ∧ t.flips = s.flips ∧ OnlyWrites grainKeys s t := by
  obtain ⟨hm, hf, hr⟩ := State.g6WriteBurst_clean (s := s.advance n)
    (fun j hj => (State.flip_of_flips (s.advance_flips n) _).trans (hc j hj)) ht
  exact ⟨hm.trans (s.advance_mem n), hf.trans (s.advance_flips n), (s.advance_onlyWrites n).of_regs hr⟩

/-- The patrol of a burst with one beat that corrects. -/
theorem State.g6Patrol_corrected {b j : Nat} {d : Word} {m : Code} (hg : s.g6Group b = g) (hj : j < 16)
    (hd : s.g6Decode g (b + 8 * j) = .corrected d m) (hc : ∀ i, i < 16 → i ≠ j → s.flip (b + 8 * i) = 0) (n : Nat) {t : State}
    (ht : t = (s.advance n).g6WriteBurst b (fun _ => none)) : StoredWord s t (b + 8 * j) d ∧
      t.rd F.MEM_ECC_CNT_CORR g = min (s.rd F.MEM_ECC_CNT_CORR g + 1) (2 ^ 32 - 1) := by
  obtain ⟨hs, hcnt⟩ := State.g6WriteBurst_corrected (s := s.advance n) ((s.advance_g6Group n b).trans hg) hj
    ((s.advance_g6Decode n g _).trans hd)
    (fun i hi hne => (State.flip_of_flips (s.advance_flips n) _).trans (hc i hi hne)) ht
  rw [s.advance_rd n g 0 (by decide) (by decide) (by decide)] at hcnt
  exact ⟨hs.of_eq rfl rfl (s.advance_mem n).symm, hcnt⟩

theorem State.g6NextBank_off (h : Bool) (hoff : s.groupOn g = false ∨ s.g6Awake g = false) : s.g6NextBank g h = s := by
  refine if_pos ?_
  rcases hoff with h | h <;> simp [h]

theorem State.g6NextBank_on (h : Bool) (hon : s.groupOn g = true) (ha : s.g6Awake g = true) : s.g6NextBank g h =
    (s.wrB F.MEM_STAT_HOT h g).onG6 g (fun x => { x with bank := (x.bank + 1) % 16 }) := if_neg (by simp [hon, ha])

theorem State.g6LockTimeout_off (h : s.groupOn g = false ∨ bit (s.rd F.CLK_STAT_G6_LOCK) g = true ∨ s.g6Failed g = true) :
    s.g6LockTimeout g = s := by
  refine if_pos ?_
  rcases h with h | h | h <;> simp [h]

theorem State.g6AutoSleep_off (h : s.on F.KILN_CTRL_G6_AUTO = false ∨ (s.g6g g).queue ≠ []) : s.g6AutoSleep g = s := by
  refine if_pos ?_
  rcases h with h | h <;> simp [h]

/-- The lock bit of one group written, and the other's as it was. -/
theorem State.g6Lock_written (s : State) (hg : g < 2) (x : Bool) :
    bit ((s.wr F.CLK_STAT_G6_LOCK (putBits (s.rd F.CLK_STAT_G6_LOCK) g g (b2n x))).rd F.CLK_STAT_G6_LOCK) g = x ∧
    bit ((s.wr F.CLK_STAT_G6_LOCK (putBits (s.rd F.CLK_STAT_G6_LOCK) g g (b2n x))).rd F.CLK_STAT_G6_LOCK) (1 - g) =
      bit (s.rd F.CLK_STAT_G6_LOCK) (1 - g) := by
  have hw : F.CLK_STAT_G6_LOCK.width = 2 := rfl
  rw [bit_rd_wr_putBits _ _ _ _ _ _ _ _ (by omega), bit_rd_wr_putBits _ _ _ _ _ _ _ _ (by omega), if_pos rfl, if_neg (by omega)]
  exact ⟨rfl, rfl⟩

theorem State.g6SelfRef_frame (s : State) (v : Bool) : (s.g6SelfRef g v).mem = s.mem ∧ (s.g6SelfRef g v).g6 = s.g6 :=
  ⟨rfl, rfl⟩

theorem State.advance_g6 (s : State) (n : Nat) : (s.advance n).g6 = s.g6 := by rw [s.advance_grainFrame n]

/-- A group in self-refresh shows it in both its registers. -/
theorem State.g6SelfRef_shows (s : State) (hg : g < 2) (v : Bool) :
    (s.g6SelfRef g v).on F.MEM_STAT_SELF_REF g = v ∧ bit ((s.g6SelfRef g v).rd F.KILN_GATE_G6_SR) g = v := by
  have hw : F.KILN_GATE_G6_SR.width = 2 := rfl
  constructor
  · refine Eq.trans (State.on_of_rd (State.rd_wr_apart _ _ _ _ _ _ (by decide))) ?_
    exact State.on_wrB_self s F.MEM_STAT_SELF_REF v g 0 rfl
  · have hr : (s.wrB F.MEM_STAT_SELF_REF v g).rd F.KILN_GATE_G6_SR = s.rd F.KILN_GATE_G6_SR :=
      State.rd_wrB_apart _ _ _ _ _ _ (by decide)
    unfold State.g6SelfRef
    rw [bit_rd_wr_putBits _ _ _ _ _ _ _ _ (by omega), if_pos rfl]

end

/-- Settles O42: each command of a group's upkeep either leaves the state as it is or does one thing to the group's record or
one register; the patrol keeps beats without upset bits and stores afresh the one that corrects. -/
theorem gddrGroupsAreKeptUp : Obligations.GddrGroupsAreKeptUp := by
  unfold Obligations.GddrGroupsAreKeptUp
  intro s g hg
  simp only [exec_pinWindowEnd, exec_g6Refresh, exec_g6PatrolScrub, exec_g6PllLockLoss, exec_g6PllRelock,
    exec_g6PllLockTimeout, exec_g6AutoSelfRefresh]
  refine ⟨fun h => congrArg _ (if_pos h), fun h => ⟨_, rfl, ?_⟩, fun h => ⟨fun b => congrArg _ (State.g6NextBank_off b h), congrArg _ (State.g6Patrol_off (Or.inl h))⟩,
    fun h hon ha => ⟨_, rfl, ?_⟩, fun h => congrArg _ (State.g6Patrol_off (Or.inr h)), fun hon ha he hf => ⟨fun hc => ⟨_, rfl, ?_⟩,
      fun j d m hj hd hc => ⟨_, rfl, ?_⟩⟩, fun hon => ⟨⟨_, rfl, ?_⟩, fun b hb => State.g6Dram_fields hb, ⟨_, rfl, ?_⟩⟩,
    fun h => congrArg _ (State.g6LockTimeout_off h), fun hon hl hf => ⟨_, rfl, ?_⟩, fun h => congrArg _ (State.g6AutoSleep_off h),
    fun hon hauto hq hsr => ⟨_, rfl, ?_⟩⟩
  · have hw : s.g6Window g = s.onG6 g (fun x => { x with pins := [], window := 0 }) := if_neg (Nat.not_lt.mpr h)
    rw [hw]
    exact ⟨State.g6g_onG6_self .., rfl⟩
  · rw [State.g6NextBank_on h hon ha]
    refine ⟨State.g6g_onG6_self .., ?_, rfl, (OnlyWrites.refl _ s).wr _ _ _ _ (List.mem_singleton_self _)⟩
    exact State.rd_wr_of_lt s F.MEM_STAT_HOT g 0 (by cases h <;> decide)
  · rw [State.g6Patrol_on hon ha he hf]
    obtain ⟨t, ht⟩ : ∃ t, t = (s.g6PatrolAt g).g6WriteBurst ((s.g6PatrolAt g).g6Burst g (s.g6g g).scrub) (fun _ => none) :=
      ⟨_, rfl⟩
    rw [← ht]
    unfold State.g6PatrolAt at ht
    rw [State.advance_g6Burst] at ht
    obtain ⟨hm, hfl, hw⟩ := State.g6Patrol_clean hc _ ht
    refine ⟨hm, hfl, hw.of_regs rfl, ?_⟩
    rw [State.g6g_onG6_self]
  · rw [State.g6Patrol_on hon ha he hf]
    obtain ⟨t, ht⟩ : ∃ t, t = (s.g6PatrolAt g).g6WriteBurst ((s.g6PatrolAt g).g6Burst g (s.g6g g).scrub) (fun _ => none) :=
      ⟨_, rfl⟩
    rw [← ht]
    unfold State.g6PatrolAt at ht
    rw [State.advance_g6Burst] at ht
    obtain ⟨⟨hword, hflip, hbytes⟩, hcnt⟩ := State.g6Patrol_corrected (State.g6Group_g6Burst hg hon _) hj hd hc _ ht
    exact ⟨hword, hflip, hcnt, hbytes⟩
  · have h : s.g6Unlock g = s.wr F.CLK_STAT_G6_LOCK (putBits (s.rd F.CLK_STAT_G6_LOCK) g g (b2n false)) := if_pos hon
    rw [h]
    obtain ⟨hself, hother⟩ := s.g6Lock_written hg false
    exact ⟨hself, hother, rfl, (OnlyWrites.refl _ s).wr _ _ _ _ (List.mem_singleton_self _)⟩
  · have h : s.g6Relock g = s.wr F.CLK_STAT_G6_LOCK (putBits (s.rd F.CLK_STAT_G6_LOCK) g g (b2n true)) := if_pos hon
    rw [h]
    obtain ⟨hself, hother⟩ := s.g6Lock_written hg true
    exact ⟨hself, hother, rfl, (OnlyWrites.refl _ s).wr _ _ _ _ (List.mem_singleton_self _)⟩
  · have h : s.g6LockTimeout g = (s.wr F.MEM_STAT_FAILED 1 g).report (0x710 + g) 0x04 4 0 := if_neg (by simp [hon, hl, hf])
    rw [h]
    obtain ⟨m, hm, hk, hs⟩ := (s.wr F.MEM_STAT_FAILED 1 g).report_stages (0x710 + g) 0x04 4 0
    refine ⟨?_, ⟨m, hm, hs, hk⟩, rfl, ((OnlyWrites.refl _ s).wr F.MEM_STAT_FAILED 1 g 0 (List.mem_singleton_self _)).of_regs rfl⟩
    exact State.on_wrB_self s F.MEM_STAT_FAILED true g 0 rfl
  · have h : s.g6AutoSleep g = (s.advance (((s.g6g g).lastUse + s.rd F.KILN_GATE_G6_IDLE) % 2 ^ 64)).g6SelfRef g true :=
      if_neg (by simp [hon, hauto, hq, hsr])
    rw [h]
    obtain ⟨hon', hbit⟩ := State.g6SelfRef_shows (s.advance (((s.g6g g).lastUse + s.rd F.KILN_GATE_G6_IDLE) % 2 ^ 64)) hg true
    obtain ⟨hmem, hg6⟩ := State.g6SelfRef_frame (g := g) (s.advance (((s.g6g g).lastUse + s.rd F.KILN_GATE_G6_IDLE) % 2 ^ 64)) true
    exact ⟨hon', hbit, hmem.trans (s.advance_mem _), hg6.trans (s.advance_g6 _)⟩

end Sys2Proof.Machine
end

section
/-! Reads and writes of a burst in GDDR6 memory without upset bits (10_memory_system.md R281). -/
namespace Sys2Proof.Machine

/-- From `s` to `t`, both without upset bits, the first `n` beats of the burst at `b` that `f` gives were stored; beside
memory only a group's counts and the power estimate moved. -/
def Stored (f : Nat → Option Word) (b n : Nat) (s t : State) : Prop :=
  t = { s with mem := t.mem, g6 := t.g6, kiln := t.kiln } ∧ (∀ h, (t.g6g h).queue = (s.g6g h).queue) ∧
  (∀ k w, k < n → f k = some w → t.word (b + 8 * k) = w) ∧
  ∀ x, (∀ k w, k < n → f k = some w → x < b + 8 * k ∨ b + 8 * k + 8 ≤ x) → t.byte x = s.byte x

section
variable {s t : State} {f : Nat → Option Word} {b n : Nat}

theorem State.setWord_noFlips (h : s.flips = []) (a : Nat) (w : Word) : (s.setWord a w).flips = [] := by
  unfold State.setWord
  rw [State.setBytes_frame]
  unfold State.setFlip
  rw [h]
  rfl

theorem State.flip_of_noFlips (h : s.flips = []) (a : Nat) : s.flip a = 0 := by
  unfold State.flip
  rw [h]
  rfl

theorem Stored.flips (h : Stored f b n s t) : t.flips = s.flips := by rw [h.1]

/-- One beat more that the write does not hold. -/
theorem Stored.keep (h : Stored f b n s t) (hf : s.flips = []) (hn : f n = none) (g : Nat) :
    Stored f b (n + 1) s (t.g6KeepBeat g (b + 8 * n)) := by
  obtain ⟨hframe, hq, hw, hb⟩ := h
  have hft : t.flips = s.flips := by rw [hframe]
  rw [State.g6KeepBeat_clean (State.flip_of_noFlips (hft.trans hf) _)]
  have hc := t.g6Read1_counts g
  obtain ⟨u, hu⟩ : ∃ u, u = t.g6Read1 g := ⟨_, rfl⟩
  rw [← hu] at hc ⊢
  have hlt {k : Nat} {w : Word} (hk : k < n + 1) (hfk : f k = some w) : k < n := by
    rcases Nat.lt_succ_iff_lt_or_eq.mp hk with h | rfl
    · exact h
    · rw [hn] at hfk
      exact absurd hfk (by simp)
  have hm : u.mem = t.mem := by rw [hc.1]
  refine ⟨?_, fun h => (hc.2 h).trans (hq h), fun k w hk hfk => ?_, fun x hx => ?_⟩
  · rw [hc.1, hframe]
  · exact (State.word_of_mem hm _).trans (hw k w (hlt hk hfk) hfk)
  · exact (State.byte_of_mem hm x).trans (hb x fun k w hk hfk => hx k w (Nat.lt_succ_of_lt hk) hfk)

/-- One beat more that the write holds. -/
theorem Stored.put (h : Stored f b n s t) (hf : s.flips = []) {v : Word} (hn : f n = some v) :
    Stored f b (n + 1) s (t.setWord (b + 8 * n) v) := by
  obtain ⟨hframe, hq, hw, hb⟩ := h
  have hft : t.flips = s.flips := by rw [hframe]
  have hfl := (State.setWord_noFlips (hft.trans hf) (b + 8 * n) v).trans hf.symm
  refine ⟨?_, fun h => ?_, fun k w hk hfk => ?_, fun x hx => ?_⟩
  · have h1 := t.setWord_frame (b + 8 * n) v
    rw [hfl, hframe] at h1
    rw [hframe]
    exact h1
  · exact (congrArg G6St.queue (State.g6g_of_g6 (by rw [State.setWord_frame]) h)).trans (hq h)
  · rcases Nat.lt_succ_iff_lt_or_eq.mp hk with h | rfl
    · rw [State.word_setWord_of_apart _ _ (by omega)]
      exact hw k w h hfk
    · rw [Option.some.inj (hn.symm.trans hfk)]
      exact State.word_setWord_self ..
  · rw [State.byte_setWord_of_outside _ _ (hx n v (Nat.lt_succ_self n) hn)]
    exact hb x fun k w hk hfk => hx k w (Nat.lt_succ_of_lt hk) hfk

/-- A burst written. -/
theorem State.g6WriteBurst_stored (hf : s.flips = []) (b : Nat) (f : Nat → Option Word) :
    Stored f b 16 s (s.g6WriteBurst b f) := by
  have h (n : Nat) : Stored f b n s ((List.range n).foldl (fun u k => match f k with
      | some w => u.setWord (b + 8 * k) w
      | none => u.g6KeepBeat (s.g6Group b) (b + 8 * k)) s.g6Active) := by
    induction n with
    | zero => exact ⟨rfl, fun _ => rfl, fun k w hk => absurd hk (Nat.not_lt_zero k), fun _ _ => rfl⟩
    | succ n ih =>
      rw [List.range_succ, List.foldl_append, List.foldl_cons, List.foldl_nil]
      cases hn : f n with
      | none => exact ih.keep hf hn _
      | some v => exact ih.put hf hn
  exact h 16

/-- A write behind a read is a write. -/
theorem Stored.after {r : State} (h : Stored f b n s t) (hr : G6Counts r s) : Stored f b n r t := by
  obtain ⟨hframe, hq, hw, hb⟩ := h
  have hm : s.mem = r.mem := by rw [hr.1]
  refine ⟨?_, fun g => (hq g).trans (hr.2 g), hw, fun x hx => (hb x hx).trans (State.byte_of_mem hm x)⟩
  rw [hframe, hr.1]

/-- A burst of which one word was written. -/
theorem Stored.one {a i : Nat} {v : Word} (h : Stored (fun j => if b + 8 * j = a then some v else none) b 16 s t) (hi : i < 16)
    (ha : a = b + 8 * i) : t.word a = v ∧ ∀ x, (x < a ∨ a + 8 ≤ x) → t.byte x = s.byte x := by
  obtain ⟨-, -, hw, hb⟩ := h
  refine ⟨?_, fun x hx => hb x fun k w _ hk => ?_⟩
  · rw [ha]
    exact hw i v hi (if_pos ha.symm)
  · dsimp only at hk
    by_cases he : b + 8 * k = a
    · omega
    · rw [if_neg he] at hk
      exact absurd hk (by simp)

/-- A burst of which the words `ws` from address `a` on were written. -/
theorem Stored.run {a i : Nat} {ws : List Word}
    (h : Stored (fun j => if a ≤ b + 8 * j then ws[(b + 8 * j - a) / 8]? else none) b 16 s t) (ha : a = b + 8 * i)
    (hi : i + ws.length ≤ 16) : (∀ j (hj : j < ws.length), t.word (a + 8 * j) = ws[j]) ∧
      ∀ x, (x < a ∨ a + 8 * ws.length ≤ x) → t.byte x = s.byte x := by
  obtain ⟨-, -, hw, hb⟩ := h
  refine ⟨fun j hj => ?_, fun x hx => hb x fun k w _ hk => ?_⟩
  · have he : a + 8 * j = b + 8 * (i + j) := by omega
    rw [he]
    refine hw (i + j) ws[j] (by omega) ?_
    have hd : (b + 8 * (i + j) - a) / 8 = j := by omega
    dsimp only
    rw [if_pos (by omega), hd, List.getElem?_eq_getElem hj]
  · dsimp only at hk
    split at hk
    · have hlen : (b + 8 * k - a) / 8 < ws.length := (List.getElem?_eq_some_iff.mp hk).1
      omega
    · exact absurd hk (by simp)

end

end Sys2Proof.Machine
end

section
/-! The operations of a GDDR6 group (10_memory_system.md R280 to R282, 07_event_network.md R192, R193). -/
namespace Sys2Proof.Machine

theorem exec_g6OpAccept (s : State) (g : Nat) (k : Packet) : exec (.g6OpAccept g k) s = .next (s.g6Accept g k) := rfl
theorem exec_g6OpComplete (s : State) (g : Nat) : exec (.g6OpComplete g) s = .next (s.g6Complete g) := rfl
theorem exec_g6ReadReissue (s : State) (g : Nat) (b : BitVec 10) : exec (.g6ReadReissue g b) s = .next (s.g6Reissue g b) := rfl
theorem exec_g6WriteRewrite (s : State) (g : Nat) (b : BitVec 10) : exec (.g6WriteRewrite g b) s = .next (s.g6Rewrite g b) := rfl

section
variable {s : State} {g : Nat} {k : Packet}

theorem State.g6Accept_off (h : s.groupOn g = false ∨ 128 ≤ (s.g6g g).queue.length) : s.g6Accept g k = s := by
  refine if_pos ?_
  rcases h with h | h <;> simp [h]

theorem State.g6Accept_on (hon : s.groupOn g = true) (hl : (s.g6g g).queue.length < 128) : s.g6Accept g k =
    (s.taken (agGroup g) k).onG6 g (fun x => { x with queue := x.queue ++ [⟨k, 0, 0, false⟩], lastUse := s.grain }) :=
  if_neg (by simp [hon, hl])

/-- The state with the oldest operation of a group taken. -/
def State.g6Next (s : State) (g : Nat) (rest : List G6Op) : State := s.onG6 g (fun x => { x with queue := rest, lastUse := s.grain })

theorem State.g6Complete_none (h : (s.g6g g).queue = [] ∨ s.g6Awake g = false) : s.g6Complete g = s := by
  unfold State.g6Complete
  cases hq : (s.g6g g).queue with
  | nil => rfl
  | cons o rest =>
    rcases h with h | h
    · rw [hq] at h
      exact absurd h (by simp)
    · exact if_pos (by simp [h])

theorem State.g6Complete_cons {o : G6Op} {rest : List G6Op} (hq : (s.g6g g).queue = o :: rest) (ha : s.g6Awake g = true) :
    s.g6Complete g = (s.g6Next g rest).g6Perform g o.pkt := by
  unfold State.g6Complete
  rw [hq]
  exact if_neg (by simp [ha])

theorem State.g6Next_refusal (rest : List G6Op) : (s.g6Next g rest).g6Refusal g k = s.g6Refusal g k := rfl

theorem State.g6Next_queue (rest : List G6Op) : ((s.g6Next g rest).g6g g).queue = rest := by
  unfold State.g6Next
  rw [State.g6g_onG6_self]

theorem g6Refusal_ne_fenced {r : Nat} (h : s.g6Refusal g k = some r) : r ≠ rsnFenced := by
  unfold State.g6Refusal at h
  extract_lets a n badLen at h
  split at h
  · rw [← Option.some.inj h]; decide
  · split at h
    · rw [← Option.some.inj h]; decide
    · split at h
      · rw [← Option.some.inj h]; decide
      · exact absurd h (by simp)

theorem State.g6Perform_refused {r : Nat} (h : s.g6Refusal g k = some r) :
    s.g6Perform g k = s.sendNack (agGroup g) k r k.counted := by
  unfold State.g6Perform
  rw [h]

/-- What an operation that is not refused keeps to: its length, and words of one block of the group that can be read. -/
theorem State.g6Refusal_none (h : s.g6Refusal g k = none) :
    (if k.op = 2 then 2 ≤ k.data.length ∧ k.hi % 4 ≠ 3 ∧ (k.hi % 4 ≠ 0 → k.data.length = 2)
      else if k.op = 3 then k.hi ≠ 0 else True) ∧
    s.g6Has k.chipAddr = true ∧ s.g6Has (k.chipAddr + 8 * k.g6Words - 8) = true ∧ s.g6Group k.chipAddr = g ∧
    g6Block k.chipAddr = g6Block (k.chipAddr + 8 * k.g6Words - 8) ∧ s.g6Failed g = false := by
  unfold State.g6Refusal at h
  extract_lets a n badLen at h
  split at h
  · exact absurd h (by simp)
  · rename_i hbad
    split at h
    · exact absurd h (by simp)
    · rename_i hplace
      split at h
      · exact absurd h (by simp)
      · rename_i hfail
        simp only [Bool.or_eq_true, Bool.not_eq_true', decide_eq_true_eq, not_or, Bool.not_eq_false, ne_eq,
          Decidable.not_not] at hplace
        obtain ⟨⟨⟨hhas, hlast⟩, hgrp⟩, hblk⟩ := hplace
        refine ⟨?_, hhas, hlast, hgrp, hblk, Bool.not_eq_true _ ▸ hfail⟩
        change ¬ (if k.op = 2 then _ else _) = true at hbad
        split
        · rename_i h2
          rw [if_pos h2] at hbad
          simp only [Bool.or_eq_true, Bool.and_eq_true, decide_eq_true_eq, beq_iff_eq, not_or, not_and, Decidable.not_not] at hbad
          exact ⟨by omega, hbad.1.2, hbad.2⟩
        · rename_i h2
          split
          · rename_i h3
            rw [if_neg h2, if_pos h3] at hbad
            simp only [Bool.or_eq_true, decide_eq_true_eq, beq_iff_eq, not_or] at hbad
            exact hbad.1
          · trivial

/-- The place of a word in its block. -/
theorem chipAddr_in_block (k : Packet) : ∃ i, i < 16 ∧ k.chipAddr = g6Block k.chipAddr + 8 * i := by
  refine ⟨k.chipAddr % 128 / 8, by omega, ?_⟩
  have h8 : k.chipAddr % 8 = 0 := by
    unfold Packet.chipAddr
    omega
  unfold g6Block
  omega

theorem State.g6Data_clean {a : Nat} (hh : s.g6Has a = true) (hg : s.g6Failed (s.g6Group a) = false) (hf : s.flips = []) :
    s.g6Data a = some (s.word a) := by
  unfold State.g6Data
  rw [if_neg (by simp [hh, hg]), State.g6Decode_clean (State.flip_of_noFlips hf a)]

section
variable (hf : s.flips = [])
include hf

theorem State.g6Account_counts (g a : Nat) : G6Counts s (s.g6Account g a) := by
  rw [State.g6Account_clean (State.flip_of_noFlips hf a)]
  exact s.g6Read1_counts g

/-- One word of a group read, changed and written back. -/
theorem State.g6Modify_stored (k : Packet) (v : Word) {t : State}
    (ht : t = (s.g6Account g k.chipAddr).g6WriteBurst (g6Block k.chipAddr)
      (fun j => if g6Block k.chipAddr + 8 * j = k.chipAddr then some v else none)) :
    (t.net = s.net ∧ ∀ h, (t.g6g h).queue = (s.g6g h).queue) ∧ t.word k.chipAddr = v ∧
      ∀ x, (x < k.chipAddr ∨ k.chipAddr + 8 ≤ x) → t.byte x = s.byte x := by
  have hc := State.g6Account_counts hf g k.chipAddr
  have hs := (State.g6WriteBurst_stored (s := s.g6Account g k.chipAddr) (by rw [hc.1]; exact hf) (g6Block k.chipAddr)
    (fun j => if g6Block k.chipAddr + 8 * j = k.chipAddr then some v else none)).after hc
  rw [← ht] at hs
  obtain ⟨i, hi, hb⟩ := chipAddr_in_block k
  refine ⟨⟨?_, hs.2.1⟩, hs.one hi hb⟩
  rw [hs.1]

end

section
variable (hr : s.g6Refusal g k = none)
include hr

theorem State.g6Perform_store (h : k.op = 2) : s.g6Perform g k = s.g6Store g k := by
  unfold State.g6Perform
  rw [hr]
  exact if_pos h

theorem State.g6Perform_add (h : k.op = 4) : s.g6Perform g k = s.g6Add g k := by
  unfold State.g6Perform
  rw [hr]
  exact (if_neg (by rw [h]; decide)).trans (if_pos h)

variable (hf : s.flips = [])
include hf

theorem State.g6Data_word : s.g6Data k.chipAddr = some (s.word k.chipAddr) := by
  obtain ⟨-, hhas, -, hgrp, -, hfail⟩ := State.g6Refusal_none hr
  exact State.g6Data_clean hhas (by rw [hgrp]; exact hfail) hf

/-- A write of whole words. -/
theorem State.g6Store_whole (h2 : k.op = 2) (hh : k.hi % 4 = 0) {t : State} (ht : t = s.g6Store g k) :
    ((t.g6g g).queue = (s.g6g g).queue ∧
      t.net.staging = s.net.staging ++ [⟨agGroup g, k.ack false, .plain, k.onCtl, false⟩]) ∧
    (∀ j (h : j + 1 < k.data.length), t.word (k.chipAddr + 8 * j) = k.data[j + 1]) ∧
    (∀ x, (x < k.chipAddr ∨ k.chipAddr + 8 * (k.data.length - 1) ≤ x) → t.byte x = s.byte x) := by
  obtain ⟨hlen, -, -, -, hblk, -⟩ := State.g6Refusal_none hr
  rw [if_pos h2] at hlen
  have hn : k.g6Words = k.data.length - 1 := if_pos h2
  obtain ⟨i, hi, hb⟩ := chipAddr_in_block k
  have hfit : i + (k.data.drop 1).length ≤ 16 := by
    rw [hn] at hblk
    rw [List.length_drop]
    unfold g6Block at *
    omega
  have hs := State.g6WriteBurst_stored hf (g6Block k.chipAddr) (fun j =>
    if k.chipAddr ≤ g6Block k.chipAddr + 8 * j then (k.data.drop 1)[(g6Block k.chipAddr + 8 * j - k.chipAddr) / 8]? else none)
  have hdo : s.g6Store g k = (s.g6WriteBurst (g6Block k.chipAddr) (fun j =>
      if k.chipAddr ≤ g6Block k.chipAddr + 8 * j then (k.data.drop 1)[(g6Block k.chipAddr + 8 * j - k.chipAddr) / 8]?
      else none)).sendAck (agGroup g) k := by
    unfold State.g6Store
    rw [hh]
    rfl
  rw [hdo] at ht
  obtain ⟨u, hu⟩ : ∃ u, u = s.g6WriteBurst (g6Block k.chipAddr) (fun j =>
    if k.chipAddr ≤ g6Block k.chipAddr + 8 * j then (k.data.drop 1)[(g6Block k.chipAddr + 8 * j - k.chipAddr) / 8]?
    else none) := ⟨_, rfl⟩
  rw [← hu] at hs ht
  obtain ⟨hwords, hbytes⟩ := hs.run hb hfit
  rw [List.length_drop] at hbytes
  have hnet : u.net = s.net := by rw [hs.1]
  rw [ht]
  refine ⟨⟨hs.2.1 g, ?_⟩, fun j hj => ?_, fun x hx => hbytes x hx⟩
  · unfold State.sendAck State.stage
    rw [hnet]
  · refine (State.word_of_mem (s := u) rfl _).trans ((hwords j (by rw [List.length_drop]; omega)).trans ?_)
    rw [List.getElem_drop]
    simp only [Nat.add_comm]

/-- A write of one half. -/
theorem State.g6Store_half (h2 : k.op = 2) (hh : k.hi % 4 ≠ 0) {t : State} (ht : t = s.g6Store g k) :
    ((t.g6g g).queue = (s.g6g g).queue ∧
      t.net.staging = s.net.staging ++ [⟨agGroup g, k.ack false, .plain, k.onCtl, false⟩]) ∧
    half (t.word k.chipAddr) (k.hi % 4 - 1) = half (k.data.getD 1 0) (k.hi % 4 - 1) ∧
    half (t.word k.chipAddr) (2 - k.hi % 4) = half (s.word k.chipAddr) (2 - k.hi % 4) ∧
    (∀ x, (x < k.chipAddr ∨ k.chipAddr + 8 ≤ x) → t.byte x = s.byte x) := by
  obtain ⟨hlen, -⟩ := State.g6Refusal_none hr
  rw [if_pos h2] at hlen
  obtain ⟨-, h3, -⟩ := hlen
  obtain ⟨m, hm⟩ : ∃ m, k.hi % 4 = m + 1 := ⟨k.hi % 4 - 1, by omega⟩
  have hdo : s.g6Store g k = ((s.g6Account g k.chipAddr).g6WriteBurst (g6Block k.chipAddr) (fun j =>
      if g6Block k.chipAddr + 8 * j = k.chipAddr then some (setHalf (s.word k.chipAddr) m (half (k.data.getD 1 0) m))
      else none)).sendAck (agGroup g) k := by
    unfold State.g6Store
    rw [hm]
    dsimp only
    rw [State.g6Data_word hr hf]
    rfl
  rw [hdo] at ht
  obtain ⟨u, hu⟩ : ∃ u, u = (s.g6Account g k.chipAddr).g6WriteBurst (g6Block k.chipAddr) (fun j =>
      if g6Block k.chipAddr + 8 * j = k.chipAddr then some (setHalf (s.word k.chipAddr) m (half (k.data.getD 1 0) m))
      else none) := ⟨_, rfl⟩
  obtain ⟨⟨hnet, hq⟩, hword, hbytes⟩ := State.g6Modify_stored hf k _ hu
  rw [← hu] at ht
  have hwt : t.word k.chipAddr = setHalf (s.word k.chipAddr) m (half (k.data.getD 1 0) m) := by
    rw [ht]
    exact hword
  have hm2 : m < 2 := by omega
  rw [hwt, show k.hi % 4 - 1 = m by omega, show 2 - k.hi % 4 = 1 - m by omega, half_setHalf_self _ _ hm2, half_setHalf_other _ _ hm2,
    Nat.mod_eq_of_lt (half_lt _ _), ht]
  refine ⟨⟨hq g, ?_⟩, rfl, rfl, fun x hx => hbytes x hx⟩
  unfold State.sendAck State.stage
  rw [hnet]

/-- An add to one half. -/
theorem State.g6Add_half {t : State} (ht : t = s.g6Add g k) :
    ((t.g6g g).queue = (s.g6g g).queue ∧
      t.net.staging = s.net.staging ++ [⟨agGroup g, k.ack true, .plain, k.onCtl, false⟩]) ∧
    half (t.word k.chipAddr) (b2n (bit (k.data.getD 1 0).toNat 32)) =
      (half (s.word k.chipAddr) (b2n (bit (k.data.getD 1 0).toNat 32)) + half (k.data.getD 1 0) 0) % 2 ^ 32 ∧
    half (t.word k.chipAddr) (1 - b2n (bit (k.data.getD 1 0).toNat 32)) =
      half (s.word k.chipAddr) (1 - b2n (bit (k.data.getD 1 0).toNat 32)) ∧
    (∀ x, (x < k.chipAddr ∨ k.chipAddr + 8 ≤ x) → t.byte x = s.byte x) := by
  obtain ⟨h, hh⟩ : ∃ h, h = b2n (bit (k.data.getD 1 0).toNat 32) := ⟨_, rfl⟩
  have h2 : h < 2 := by
    rw [hh]
    cases bit (k.data.getD 1 0).toNat 32 <;> decide
  have hb : (if bit (k.data.getD 1 0).toNat 32 then 1 else 0) = h := by
    rw [hh]
    rfl
  have hdo : s.g6Add g k = ((s.g6Account g k.chipAddr).g6WriteBurst (g6Block k.chipAddr) (fun j =>
      if g6Block k.chipAddr + 8 * j = k.chipAddr then
        some (setHalf (s.word k.chipAddr) h ((half (s.word k.chipAddr) h + half (k.data.getD 1 0) 0) % 2 ^ 32))
      else none)).sendAck (agGroup g) k true := by
    unfold State.g6Add
    extract_lets a v h'
    rw [State.g6Data_word hr hf]
    have hh' : h' = h := hb
    dsimp only
    rw [hh']
  rw [hdo] at ht
  obtain ⟨u, hu⟩ : ∃ u, u = (s.g6Account g k.chipAddr).g6WriteBurst (g6Block k.chipAddr) (fun j =>
      if g6Block k.chipAddr + 8 * j = k.chipAddr then
        some (setHalf (s.word k.chipAddr) h ((half (s.word k.chipAddr) h + half (k.data.getD 1 0) 0) % 2 ^ 32))
      else none) := ⟨_, rfl⟩
  obtain ⟨⟨hnet, hq⟩, hword, hbytes⟩ := State.g6Modify_stored hf k _ hu
  rw [← hu] at ht
  have hwt : t.word k.chipAddr = u.word k.chipAddr := by
    rw [ht]
    exact State.word_of_mem rfl _
  rw [← hh, hwt, hword, half_setHalf_self _ _ h2, half_setHalf_other _ _ h2, Nat.mod_mod, ht]
  refine ⟨⟨hq g, ?_⟩, rfl, rfl, fun x hx => hbytes x hx⟩
  unfold State.sendAck State.stage
  rw [hnet]

end

end

theorem mapM_some {α β : Type} {f : α → Option β} {h : α → β} (as : List α) (hf : ∀ a ∈ as, f a = some (h a)) :
    as.mapM f = some (as.map h) := by
  induction as with
  | nil => rfl
  | cons a as ih =>
    rw [List.mapM_cons, hf a List.mem_cons_self, ih fun x hx => hf x (List.mem_cons_of_mem _ hx)]
    rfl

section
variable {s : State} {g : Nat} {k : Packet}

theorem State.foldl_account_counts (as : List Nat) : ∀ s : State, s.flips = [] →
    G6Counts s (as.foldl (fun s x => s.g6Account (s.g6Group x) x) s) := by
  induction as with
  | nil => exact fun s _ => G6Counts.refl s
  | cons a as ih =>
    intro s hf
    have h := State.g6Account_counts hf (s.g6Group a) a
    exact h.trans (ih _ (by rw [h.1]; exact hf))

/-- A read of words that the device has. -/
theorem State.g6Fetch_clean {a n : Nat} (hf : s.flips = [])
    (h : ∀ j, j < n → s.g6Has (a + 8 * j) = true ∧ s.g6Failed (s.g6Group (a + 8 * j)) = false) {r : Option (List Word) × State}
    (hr : r = s.g6Fetch a n) : r.1 = some ((List.range n).map (fun j => s.word (a + 8 * j))) ∧ r.2.mem = s.mem ∧
      r.2.net = s.net ∧ ∀ x, (r.2.g6g x).queue = (s.g6g x).queue := by
  have hx : ∀ x ∈ (List.range n).map (fun j => a + 8 * j), s.g6Has x = true ∧ s.g6Failed (s.g6Group x) = false := by
    intro x hx
    obtain ⟨j, hj, rfl⟩ := List.mem_map.mp hx
    exact h j (List.mem_range.mp hj)
  have hany : ((List.range n).map (fun j => a + 8 * j)).any (fun x => !s.g6Has x || s.g6Failed (s.g6Group x)) = false := by
    rw [List.any_eq_false]
    intro x hmem
    simp [hx x hmem]
  unfold State.g6Fetch at hr
  extract_lets as at hr
  rw [if_neg (by rw [hany]; decide)] at hr
  rw [hr]
  have hc := State.foldl_account_counts as s hf
  obtain ⟨u, hu⟩ : ∃ u, u = as.foldl (fun s x => s.g6Account (s.g6Group x) x) s := ⟨_, rfl⟩
  rw [← hu] at hc ⊢
  refine ⟨?_, ?_, ?_, fun x => hc.2 x⟩
  · have hm : as.mapM s.g6Data = some (as.map s.word) :=
      mapM_some as fun x hmem => State.g6Data_clean (hx x hmem).1 (hx x hmem).2 hf
    rw [hm, List.map_map]
    rfl
  · exact (congrArg State.mem hc.1 :)
  · exact (congrArg State.net hc.1 :)

/-- Addresses of one block lie in one group. -/
theorem State.g6Group_of_block {a b : Nat} (h : g6Block a = g6Block b) (ha : g6Base ≤ a) (hb : g6Base ≤ b) :
    s.g6Group a = s.g6Group b := by
  have he : (a - g6Base) / 128 = (b - g6Base) / 128 := by
    unfold g6Block g6Base at *
    omega
  unfold State.g6Group
  rw [he]

/-- The words of a read that is not refused. -/
theorem State.g6Read_place (hr : s.g6Refusal g k = none) (h3 : k.op = 3) (j : Nat) (hj : j < k.hi) :
    s.g6Has (k.chipAddr + 8 * j) = true ∧ s.g6Failed (s.g6Group (k.chipAddr + 8 * j)) = false := by
  obtain ⟨-, hhas, hlast, hgrp, hblk, hfail⟩ := State.g6Refusal_none hr
  have hn : k.g6Words = k.hi := by
    unfold Packet.g6Words
    rw [if_neg (by rw [h3]; decide), if_pos h3]
  rw [hn] at hlast hblk
  unfold State.g6Has at *
  simp only [Bool.and_eq_true, decide_eq_true_eq] at *
  refine ⟨by omega, ?_⟩
  have hg : s.g6Group (k.chipAddr + 8 * j) = s.g6Group k.chipAddr := by
    refine State.g6Group_of_block ?_ (by omega) hhas.1
    unfold g6Block at *
    omega
  rw [hg, hgrp]
  exact hfail

theorem State.g6Perform_read (hr : s.g6Refusal g k = none) (hf : s.flips = []) (h3 : k.op = 3) {t : State}
    (ht : t = s.g6Perform g k) : (t.g6g g).queue = (s.g6g g).queue ∧ t.mem = s.mem ∧ t.net.staging = s.net.staging ++
      [⟨agGroup g, k.dataReply ((List.range k.hi).map (fun j => s.word (k.chipAddr + 8 * j))), .plain, k.onCtl, false⟩] := by
  obtain ⟨r, hr'⟩ : ∃ r, r = s.g6Fetch k.chipAddr k.hi := ⟨_, rfl⟩
  obtain ⟨hws, hm, hnet, hq⟩ := State.g6Fetch_clean hf (State.g6Read_place hr h3) hr'
  have hdo : s.g6Perform g k =
      r.2.sendData (agGroup g) k ((List.range k.hi).map (fun j => s.word (k.chipAddr + 8 * j))) := by
    unfold State.g6Perform
    rw [hr]
    dsimp only
    rw [if_neg (by rw [h3]; decide), if_neg (by rw [h3]; decide), ← hr', hws]
  rw [ht, hdo]
  refine ⟨hq g, hm, ?_⟩
  unfold State.sendData State.stage
  rw [hnet]

theorem State.g6Replay_none (h : (s.g6g g).queue = []) (b : BitVec 10) : s.g6Reissue g b = s ∧ s.g6Rewrite g b = s := by
  unfold State.g6Reissue State.g6Rewrite
  rw [h]
  exact ⟨rfl, rfl⟩

section
variable {o : G6Op} {rest : List G6Op} (hq : (s.g6g g).queue = o :: rest) (b : BitVec 10)
include hq

theorem State.onG6Head_queue (f : G6Op → G6Op) {t : State} (ht : t.g6 = s.g6) : ((t.onG6Head g f).g6g g).queue = f o :: rest := by
  unfold State.onG6Head
  rw [State.g6g_onG6_self, State.g6g_of_g6 ht]
  dsimp only
  rw [hq]

theorem State.g6Reissue_last (h : 3 ≤ o.reads) : s.g6Reissue g b = s := by
  unfold State.g6Reissue
  rw [hq]
  exact if_pos h

/-- A reissue of the oldest operation. -/
theorem State.g6Reissue_more (h : o.reads < 3) {t : State} (ht : t = s.g6Reissue g b) : t.mem = s.mem ∧ t.owl = s.owl ∧
    (t.g6g g).queue = { o with reads := o.reads + 1, gaveUp := s.edcBad g b && o.reads == 2 } :: rest ∧
    t.rd F.MEM_EDC_CNT_RD_REPLAY g = min (s.rd F.MEM_EDC_CNT_RD_REPLAY g + 1) (2 ^ 32 - 1) ∧
    t.rd F.MEM_EDC_CNT_GIVEUP g = (if s.edcBad g b = true ∧ o.reads = 2 then min (s.rd F.MEM_EDC_CNT_GIVEUP g + 1) 65535
      else s.rd F.MEM_EDC_CNT_GIVEUP g) := by
  obtain ⟨u, hu⟩ : ∃ u, u = ((s.inc F.MEM_EDC_CNT_RD_REPLAY 1 g).g6Active).onG6Head g (fun x => { x with
    reads := x.reads + 1, gaveUp := s.edcBad g b && o.reads == 2 }) := ⟨_, rfl⟩
  have hqu : (u.g6g g).queue = { o with reads := o.reads + 1, gaveUp := s.edcBad g b && o.reads == 2 } :: rest := by
    rw [hu]
    exact State.onG6Head_queue hq _ rfl
  have hframe : u.mem = s.mem ∧ u.owl = s.owl := by
    rw [hu]
    exact ⟨rfl, rfl⟩
  have hcnt : u.rd F.MEM_EDC_CNT_RD_REPLAY g = min (s.rd F.MEM_EDC_CNT_RD_REPLAY g + 1) (2 ^ 32 - 1) := by
    rw [hu]
    exact State.rd_inc s F.MEM_EDC_CNT_RD_REPLAY 1 g 0
  have hgive : u.rd F.MEM_EDC_CNT_GIVEUP g = s.rd F.MEM_EDC_CNT_GIVEUP g := by
    rw [hu]
    exact State.rd_inc_apart (f := F.MEM_EDC_CNT_RD_REPLAY) s 1 g 0 g 0 (by decide)
  have hdo : s.g6Reissue g b = if s.edcBad g b && o.reads == 2 then u.inc F.MEM_EDC_CNT_GIVEUP 1 g else u := by
    unfold State.g6Reissue
    rw [hq]
    dsimp only
    rw [if_neg (by omega), hu]
  rw [hdo] at ht
  by_cases hg : s.edcBad g b = true ∧ o.reads = 2
  · rw [if_pos (by simp [hg])] at ht
    rw [ht, if_pos hg, State.rd_inc, hgive]
    refine ⟨hframe.1, hframe.2, hqu, ?_, rfl⟩
    exact (State.rd_inc_apart (f := F.MEM_EDC_CNT_GIVEUP) u 1 g 0 g 0 (by decide)).trans hcnt
  · rw [if_neg (by simpa using hg)] at ht
    rw [ht, if_neg hg]
    exact ⟨hframe.1, hframe.2, hqu, hcnt, hgive⟩

theorem State.g6Rewrite_last (h : 3 ≤ o.writes ∨ (o.pkt.op ≠ 2 ∧ o.pkt.op ≠ 4)) : s.g6Rewrite g b = s := by
  unfold State.g6Rewrite
  rw [hq]
  exact if_pos (by simpa using h)

/-- A rewrite of the oldest operation. -/
theorem State.g6Rewrite_more (h : o.writes < 3) (hop : o.pkt.op = 2 ∨ o.pkt.op = 4) {t : State} (ht : t = s.g6Rewrite g b) :
    t.mem = s.mem ∧ (t.g6g g).queue = { o with writes := o.writes + 1 } :: rest ∧
    t.rd F.MEM_EDC_CNT_WR_REPLAY g = min (s.rd F.MEM_EDC_CNT_WR_REPLAY g + 1) 65535 ∧
    (s.edcBad g b = false ∨ o.writes < 2 → t.owl = s.owl) ∧
    (s.edcBad g b = true → o.writes = 2 → ∃ m ∈ t.owl.staged, m.src = 0x710 + g ∧ m.kind = 0x04) := by
  obtain ⟨u, hu⟩ : ∃ u, u = ((s.inc F.MEM_EDC_CNT_WR_REPLAY 1 g).g6Active).onG6Head g (fun o => { o with
    writes := o.writes + 1 }) := ⟨_, rfl⟩
  have hqu : (u.g6g g).queue = { o with writes := o.writes + 1 } :: rest := by
    rw [hu]
    exact State.onG6Head_queue hq _ rfl
  have hframe : u.mem = s.mem ∧ u.owl = s.owl := by
    rw [hu]
    exact ⟨rfl, rfl⟩
  have hcnt : u.rd F.MEM_EDC_CNT_WR_REPLAY g = min (s.rd F.MEM_EDC_CNT_WR_REPLAY g + 1) 65535 := by
    rw [hu]
    exact State.rd_inc s F.MEM_EDC_CNT_WR_REPLAY 1 g 0
  have hdo : s.g6Rewrite g b = if s.edcBad g b && o.writes == 2 then
      u.report (0x710 + g) 0x04 2 ((g6Block o.pkt.chipAddr - g6Base) / 8) else u := by
    unfold State.g6Rewrite
    rw [hq]
    dsimp only
    have hno : ¬ (o.writes ≥ 3 ∨ (!(o.pkt.op == 2 || o.pkt.op == 4)) = true) := by
      rcases hop with hop | hop <;> simp [hop, h]
    rw [if_neg hno, hu]
  rw [hdo] at ht
  by_cases hg : s.edcBad g b = true ∧ o.writes = 2
  · rw [if_pos (by simp [hg])] at ht
    obtain ⟨m, hm, hk, hs⟩ := u.report_stages (0x710 + g) 0x04 2 ((g6Block o.pkt.chipAddr - g6Base) / 8)
    rw [ht]
    refine ⟨hframe.1, hqu, hcnt, fun hno => ?_, fun _ _ => ⟨m, hm, hs, hk⟩⟩
    rcases hno with hno | hno
    · rw [hg.1] at hno
      exact absurd hno (by decide)
    · omega
  · rw [if_neg (by simpa using hg)] at ht
    rw [ht]
    exact ⟨hframe.1, hqu, hcnt, fun _ => hframe.2, fun hb hw => absurd ⟨hb, hw⟩ hg⟩

end

end

/-- Settles O41: the oldest operation is refused by its row or acts on one burst (`g6Store_whole`, `g6Store_half`, `g6Add_half`,
`g6Perform_read`), and its replays are counted. -/
theorem gddrOperationsAreServed : Obligations.GddrOperationsAreServed := by
  unfold Obligations.GddrOperationsAreServed
  intro s g _
  simp only [exec_g6OpAccept, exec_g6OpComplete, exec_g6ReadReissue, exec_g6WriteRewrite]
  refine ⟨fun k => ⟨fun h => congrArg _ (State.g6Accept_off h), fun hon hl => ⟨_, rfl, ?_⟩⟩,
    fun h => congrArg _ (State.g6Complete_none h), fun o rest hq ha => ?_,
    fun h b => ⟨congrArg _ (State.g6Replay_none h b).1, congrArg _ (State.g6Replay_none h b).2⟩, fun o rest b hq =>
      ⟨fun h => congrArg _ (State.g6Reissue_last hq b h), fun h => congrArg _ (State.g6Rewrite_last hq b h),
        fun h => ⟨_, rfl, State.g6Reissue_more hq b h rfl⟩, fun h hop => ⟨_, rfl, State.g6Rewrite_more hq b h hop rfl⟩⟩⟩
  · rw [State.g6Accept_on hon hl]
    exact ⟨by rw [State.g6g_onG6_self]; rfl, fun h hne => State.g6g_onG6_ne _ g _ hne, rfl⟩
  · rw [State.g6Complete_cons hq ha]
    have hrest := State.g6Next_queue (s := s) (g := g) rest
    refine ⟨fun r hr => ⟨_, rfl, ?_⟩, fun hr hf => ⟨fun h2 hh => ⟨_, rfl, ?_⟩, fun h2 hh => ⟨_, rfl, ?_⟩, fun h3 => ⟨_, rfl, ?_⟩,
      fun h4 => ⟨_, rfl, ?_⟩⟩⟩
    · rw [State.g6Perform_refused (State.g6Next_refusal (k := o.pkt) rest ▸ hr)]
      unfold State.sendNack State.stage
      rw [beq_eq_false_iff_ne.mpr (g6Refusal_ne_fenced hr)]
      exact ⟨hrest, rfl, rfl, rfl⟩
    · obtain ⟨⟨hq', hst⟩, h⟩ := State.g6Store_whole (s := s.g6Next g rest) hr hf h2 hh rfl
      rw [State.g6Perform_store (s := s.g6Next g rest) hr h2]
      exact ⟨hq'.trans hrest, hst, h⟩
    · obtain ⟨⟨hq', hst⟩, h⟩ := State.g6Store_half (s := s.g6Next g rest) hr hf h2 hh rfl
      rw [State.g6Perform_store (s := s.g6Next g rest) hr h2]
      exact ⟨hq'.trans hrest, hst, h⟩
    · obtain ⟨hq', hm, hst⟩ := State.g6Perform_read (s := s.g6Next g rest) hr hf h3 rfl
      exact ⟨hq'.trans hrest, hm, hst⟩
    · obtain ⟨⟨hq', hst⟩, h⟩ := State.g6Add_half (s := s.g6Next g rest) hr hf rfl
      rw [State.g6Perform_add (s := s.g6Next g rest) hr h4]
      exact ⟨hq'.trans hrest, hst, h⟩

end Sys2Proof.Machine
end

section
/-! The packets that a TX port sends are counted modulo 2^32 (11_csi2_ports.md R309, R314). -/
namespace Sys2Proof.Machine

theorem exec_txPacketStart (s : State) (p : Nat) : exec (.txPacketStart p) s = .next (s.txStart p) := rfl

/-- A Frame Start is committed at port 0. -/
def frameWaits : TxSt := { TxSt.fresh with next := [.frameStart 0 0] }

/-- A device whose port 0 may send, has a packet committed, and has sent 2^32 - 1 of them. -/
def portSent : State :=
  { State.reset with
    regs := [(F.CSITX_PORT_CFG_RATE.key 0 0, 8), (F.CSITX_PORT_CFG_LANES.key 0 0, 0), (F.CSITX_PORT_CFG_EN.key 0 0, 1),
      (F.CSITX_PKT_CNT_PKTS.key 0 0, 2 ^ 32 - 1), (F.CLK_STAT_TX_LOCK.key 0 0, 1)]
    tx := [(0, frameWaits)] }

/-- The port sends, and its count wraps. -/
theorem portSent_sends : portSent.txReady 0 = true ∧ portSent.txLocked 0 = true ∧ (portSent.txp 0).held = false ∧
    (portSent.txp 0).wait = [] ∧ (portSent.txp 0).next = [.frameStart 0 0] ∧
    portSent.rd F.CSITX_PKT_CNT_PKTS 0 = 2 ^ 32 - 1 ∧ (portSent.txStart 0).rd F.CSITX_PKT_CNT_PKTS 0 = 0 := by decide +kernel

/-- Refutes O44: CSITX_PKT_CNT.PKTS wraps (it is one of the counters of R9 that do), so that the packet after 2^32 - 1 of them
brings it to 0 and not to 2^32 - 1. -/
theorem not_transmitPortsSendInOrder : ¬ Obligations.TransmitPortsSendInOrder := by
  unfold Obligations.TransmitPortsSendInOrder
  intro h
  obtain ⟨hready, hlocked, hheld, hwait, hnext, hcnt, hwraps⟩ := portSent_sends
  obtain ⟨-, hsend, -⟩ := h portSent 0
  obtain ⟨hpacket, -⟩ := hsend hready hlocked hheld hwait
  obtain ⟨t, ht, -, hrd, -⟩ := hpacket (.frameStart 0 0) [] hnext
  rw [exec_txPacketStart] at ht
  obtain rfl := Host.Outcome.next.inj ht
  rw [hwraps, hcnt] at hrd
  exact absurd hrd (by decide)

end Sys2Proof.Machine
end

section
/-! PAIR_CTRL and FAILOVER (13_redundant_pair.md R349, R350, R364, R368, R369). -/
namespace Sys2Proof.Machine

section
variable (s : State) (c : HostCmd)
theorem exec_pairCtrlRole : exec (.pairCtrlRole c) s =
    .next (s.pairRow c 0 (fun stamp t => t.setRole (c.par 1 1 == 1) stamp)) := rfl
theorem exec_pairCtrlMirror : exec (.pairCtrlMirror c) s =
    .next (s.pairRow c 1 (fun _ t => t.mirrorSet (c.par 1 1 == 1))) := rfl
/-- The request of a resynchronisation. -/
def State.resyncAsked : State := { s with pair := { s.pair with resync := true } }
theorem exec_pairCtrlResync : exec (.pairCtrlResync c) s = .next (s.pairRow c 2 (fun _ t => t.resyncAsked)) := rfl
theorem exec_failover : exec (.failover c) s = .next (s.serve failoverOp c (fun _ _ t => t.failover)) := rfl
end

theorem leastReason_eq_none {l : List Nat} (h : leastReason l = none) : l = [] := by
  cases l with
  | nil => rfl
  | cons r rs => exact absurd h (by simp [leastReason])

theorem ite_some_eq_none {α : Type} {p : Prop} [Decidable p] {x : α} {y : Option α} (h : (if p then some x else y) = none) :
    ¬ p ∧ y = none := by
  split at h
  · exact absurd h (by simp)
  · exact ⟨‹_›, h⟩

/-- What a command that nothing refuses has met. -/
theorem reason_none {k : Opcode} {s : State} {c : HostCmd} (h : k.reason s c = none) :
    k.range s c = true ∧ k.refused s c = [] ∧ (k.deferred = true → s.outstanding k.op = false) := by
  unfold Opcode.reason at h
  obtain ⟨-, h⟩ := ite_some_eq_none h
  obtain ⟨-, h⟩ := ite_some_eq_none h
  obtain ⟨-, h⟩ := ite_some_eq_none h
  obtain ⟨hrange, h⟩ := ite_some_eq_none h
  obtain ⟨-, h⟩ := ite_some_eq_none h
  obtain ⟨-, h⟩ := ite_some_eq_none h
  obtain ⟨-, h⟩ := ite_some_eq_none h
  split at h
  · exact absurd h (by simp)
  · obtain ⟨href, hout⟩ := List.append_eq_nil_iff.mp (leastReason_eq_none h)
    refine ⟨by simpa using hrange, href, fun hd => ?_⟩
    rw [hd, Bool.true_and] at hout
    cases ho : s.outstanding k.op with
    | false => rfl
    | true => rw [ho, if_pos rfl] at hout; exact absurd hout (by simp)

/-- An OK answer after an effect on registers and the pair's record. -/
theorem answered_pair {s u t : State} {c : HostCmd} (h : Ready s c) (hu : u = { s with regs := u.regs, pair := u.pair })
    (data : List Byte) (ht : t = u.answer c 0 data) : Answered s t c data ∧ t.regs = u.regs ∧ t.pair = u.pair ∧
      t = { s with regs := t.regs, cmd := t.cmd, pair := t.pair } := by
  obtain ⟨ha, hf⟩ := answered_ok h (u := u) (by rw [hu]) (by rw [hu]) data
  rw [← ht] at ha hf
  refine ⟨ha, by rw [hf], by rw [hf], ?_⟩
  have hf' : t = { u with cmd := t.cmd } := hf
  rw [hu] at hf'
  rw [hf']

section
variable {s : State} {c : HostCmd}

theorem State.pairRow_other {f : Nat → State → State} {a : Nat} (h : c.par 0 1 ≠ a) (hl : c.par 0 1 ≤ 2) :
    s.pairRow c a f = s := if_pos ⟨h, hl⟩

theorem State.pairRow_done {f : Nat → State → State} {a : Nat} (ha : c.par 0 1 = a) (h : Ready s c) (ho : c.op = 0x38)
    (hr : pairOp.reason s.took c = none) : s.pairRow c a f = (f s.grain s.took).answer c 0 [] :=
  (if_neg fun hc => hc.1 ha).trans (serve_done h ho hr rfl)

theorem State.took_rd_apart {f : Fld} (u i : Nat) (hf : f.apart F.CMD_CNT_CMDS = true) : s.took.rd f u i = s.rd f u i :=
  State.rd_inc_apart s 1 0 0 u i hf

theorem State.took_on_apart {f : Fld} (hf : f.apart F.CMD_CNT_CMDS = true) : s.took.on f = s.on f :=
  State.on_of_rd (State.took_rd_apart 0 0 hf)

theorem State.took_grain (s : State) : s.took.grain = s.grain := State.took_rd_apart 0 0 (by decide)

/-- A role or a switch that the range lets through is 0 or 1. -/
theorem pairOp_bit (hr : pairOp.reason s.took c = none) (ha : c.par 0 1 ≠ 2) : b2n (c.par 1 1 == 1) = c.par 1 1 := by
  have hrange : (decide (c.par 0 1 ≤ 2) && (decide (c.par 0 1 = 2) || decide (c.par 1 1 ≤ 1))) = true := (reason_none hr).1
  rw [decide_eq_false ha, Bool.false_or, Bool.and_eq_true, decide_eq_true_eq, decide_eq_true_eq] at hrange
  obtain ⟨-, h1⟩ := hrange
  interval_cases c.par 1 1 <;> rfl

end

section
variable (s : State)

/-- MIRROR_EN switched on: the timer starts and an absent partner is taken as present. -/
def State.mirrorOn : State :=
  { (if s.rd F.PAIR_STAT_SB_STATE = 0 then (s.wrB F.PAIR_CFG_MIRROR_EN true).wr F.PAIR_STAT_SB_STATE 1
      else s.wrB F.PAIR_CFG_MIRROR_EN true) with pair := { s.pair with timer := s.grain, gaps := 0 } }

/-- MIRROR_EN switched off: the partner's state and the journal are forgotten. -/
def State.mirrorOff : State :=
  { ((if s.rd F.PAIR_STAT_SB_STATE = 5 then s.wrB F.PAIR_CFG_MIRROR_EN false
      else (s.wrB F.PAIR_CFG_MIRROR_EN false).wr F.PAIR_STAT_SB_STATE 0).wr F.PAIR_STAT_JOURNAL_FULL 0) with
    pair := { s.pair with journal := [] } }

theorem State.mirrorSet_same (h : b = s.mirroring) : s.mirrorSet b = s.wrB F.PAIR_CFG_MIRROR_EN b := if_pos h

theorem State.mirrorSet_on (h : s.mirroring = false) : s.mirrorSet true = s.mirrorOn := by
  by_cases h0 : s.rd F.PAIR_STAT_SB_STATE = 0
  · simp [State.mirrorSet, State.mirrorOn, h, h0]
  · simp [State.mirrorSet, State.mirrorOn, h, h0]

theorem State.mirrorSet_off (h : s.mirroring = true) : s.mirrorSet false = s.mirrorOff := by
  by_cases h0 : s.rd F.PAIR_STAT_SB_STATE = 5
  · simp [State.mirrorSet, State.mirrorOff, h, h0]
  · simp [State.mirrorSet, State.mirrorOff, h, h0]

/-- The registers that a switch of MIRROR_EN writes. -/
def mirrorKeys : List Key := [F.PAIR_CFG_MIRROR_EN.key 0 0, F.PAIR_STAT_SB_STATE.key 0 0, F.PAIR_STAT_JOURNAL_FULL.key 0 0]

theorem State.mirrorOn_effect : s.mirrorOn.rd F.PAIR_CFG_MIRROR_EN = 1 ∧
    s.mirrorOn = { s with regs := s.mirrorOn.regs, pair := { s.pair with timer := s.grain, gaps := 0 } } ∧
    OnlyWrites mirrorKeys s s.mirrorOn ∧
    s.mirrorOn.rd F.PAIR_STAT_SB_STATE = if s.rd F.PAIR_STAT_SB_STATE = 0 then 1 else s.rd F.PAIR_STAT_SB_STATE := by
  have hw := (OnlyWrites.refl mirrorKeys s).wr F.PAIR_CFG_MIRROR_EN 1 0 0 (by decide)
  have hset : (s.wrB F.PAIR_CFG_MIRROR_EN true).rd F.PAIR_CFG_MIRROR_EN = 1 := State.rd_wr_of_lt s _ 0 0 (by decide)
  unfold State.mirrorOn
  split
  · refine ⟨?_, rfl, (hw.wr F.PAIR_STAT_SB_STATE 1 0 0 (by decide)).of_regs rfl, ?_⟩
    · exact (State.rd_wr_apart (f := F.PAIR_STAT_SB_STATE) (s.wrB F.PAIR_CFG_MIRROR_EN true) 1 0 0 0 0 (by decide)).trans hset
    · exact State.rd_wr_of_lt (s.wrB F.PAIR_CFG_MIRROR_EN true) F.PAIR_STAT_SB_STATE (v := 1) 0 0 (by decide)
  · exact ⟨hset, rfl, hw.of_regs rfl,
      State.rd_wrB_apart (f := F.PAIR_CFG_MIRROR_EN) (g := F.PAIR_STAT_SB_STATE) s 0 0 0 0 true (by decide)⟩

theorem State.mirrorOff_effect : s.mirrorOff.rd F.PAIR_CFG_MIRROR_EN = 0 ∧
    s.mirrorOff = { s with regs := s.mirrorOff.regs, pair := { s.pair with journal := [] } } ∧
    OnlyWrites mirrorKeys s s.mirrorOff ∧ s.mirrorOff.rd F.PAIR_STAT_JOURNAL_FULL = 0 ∧
    s.mirrorOff.rd F.PAIR_STAT_SB_STATE = if s.rd F.PAIR_STAT_SB_STATE = 5 then 5 else 0 := by
  obtain ⟨u, hu⟩ : ∃ u, u = s.wrB F.PAIR_CFG_MIRROR_EN false := ⟨_, rfl⟩
  have hw : OnlyWrites mirrorKeys s u := hu ▸ (OnlyWrites.refl mirrorKeys s).wr F.PAIR_CFG_MIRROR_EN 0 0 0 (by decide)
  have hset : u.rd F.PAIR_CFG_MIRROR_EN = 0 := hu ▸ State.rd_wr_of_lt s F.PAIR_CFG_MIRROR_EN 0 0 (by decide)
  have hframe : u = { s with regs := u.regs } := by rw [hu]; rfl
  have hsb : u.rd F.PAIR_STAT_SB_STATE = s.rd F.PAIR_STAT_SB_STATE := by
    rw [hu]
    exact State.rd_wrB_apart s 0 0 0 0 false (by decide)
  unfold State.mirrorOff
  rw [← hu]
  split
  · rename_i h5
    refine ⟨?_, ?_, (hw.wr F.PAIR_STAT_JOURNAL_FULL 0 0 0 (by decide)).of_regs rfl, ?_, ?_⟩
    · exact (State.rd_wr_apart (f := F.PAIR_STAT_JOURNAL_FULL) u 0 0 0 0 0 (by decide)).trans hset
    · rw [hframe]
      rfl
    · exact State.rd_wr_of_lt u F.PAIR_STAT_JOURNAL_FULL (v := 0) 0 0 (by decide)
    · exact (State.rd_wr_apart (f := F.PAIR_STAT_JOURNAL_FULL) u 0 0 0 0 0 (by decide)).trans (hsb.trans h5)
  · refine ⟨?_, ?_, ((hw.wr F.PAIR_STAT_SB_STATE 0 0 0 (by decide)).wr F.PAIR_STAT_JOURNAL_FULL 0 0 0 (by decide)).of_regs rfl,
      ?_, ?_⟩
    · exact (State.rd_wr_apart (f := F.PAIR_STAT_JOURNAL_FULL) (u.wr F.PAIR_STAT_SB_STATE 0) 0 0 0 0 0 (by decide)).trans
        ((State.rd_wr_apart (f := F.PAIR_STAT_SB_STATE) u 0 0 0 0 0 (by decide)).trans hset)
    · rw [hframe]
      rfl
    · exact State.rd_wr_of_lt (u.wr F.PAIR_STAT_SB_STATE 0) F.PAIR_STAT_JOURNAL_FULL (v := 0) 0 0 (by decide)
    · exact (State.rd_wr_apart (f := F.PAIR_STAT_JOURNAL_FULL) (u.wr F.PAIR_STAT_SB_STATE 0) 0 0 0 0 0 (by decide)).trans
        (State.rd_wr_of_lt u F.PAIR_STAT_SB_STATE 0 0 (by decide))

/-- A takeover of a member that is not away and keeps no record. -/
def State.takenOver : State :=
  { (((s.wr F.PAIR_STAT_ROLE 0).wr F.PAIR_STAT_SB_STATE 1).inc F.PAIR_CNT1_TAKEOVERS) with
    pair := { s.pair with kept := [], timer := s.grain, gaps := 0 } }

theorem State.takeover_away (h : s.rd F.PAIR_STAT_PHASE ≠ 0) : s.takeover = s.wr F.PAIR_STAT_SB_STATE 4 := if_pos h

theorem State.takeover_here (h : s.rd F.PAIR_STAT_PHASE = 0) (hk : s.pair.kept = []) :
    s.takeover = s.takenOver.finish 0x39 0 (toBytes 8 s.firstFrame) := by
  unfold State.takeover
  rw [if_neg (not_not.mpr h), hk]
  rfl

/-- The registers that a takeover writes. -/
def takeoverKeys : List Key := [F.PAIR_STAT_ROLE.key 0 0, F.PAIR_STAT_SB_STATE.key 0 0, F.PAIR_CNT1_TAKEOVERS.key 0 0]

theorem State.takenOver_effect : s.takenOver.rd F.PAIR_STAT_ROLE = 0 ∧ s.takenOver.rd F.PAIR_STAT_SB_STATE = 1 ∧
    s.takenOver.rd F.PAIR_CNT1_TAKEOVERS = F.PAIR_CNT1_TAKEOVERS.plus (s.rd F.PAIR_CNT1_TAKEOVERS) 1 ∧
    s.takenOver = { s with
      regs := s.takenOver.regs, pair := { s.pair with kept := [], timer := s.grain, gaps := 0 } } ∧
    OnlyWrites takeoverKeys s s.takenOver := by
  have hr (f : Fld) : s.takenOver.rd f =
      (((s.wr F.PAIR_STAT_ROLE 0).wr F.PAIR_STAT_SB_STATE 1).inc F.PAIR_CNT1_TAKEOVERS).rd f := rfl
  have hw : OnlyWrites takeoverKeys s (((s.wr F.PAIR_STAT_ROLE 0).wr F.PAIR_STAT_SB_STATE 1).inc F.PAIR_CNT1_TAKEOVERS) :=
    (((OnlyWrites.refl _ s).wr _ _ _ _ (by decide)).wr _ _ _ _ (by decide)).inc _ _ _ _ (by decide)
  refine ⟨?_, ?_, ?_, rfl, hw.of_regs rfl⟩
  · rw [hr, State.rd_inc_apart _ _ _ _ _ _ (by decide), State.rd_wr_apart _ _ _ _ _ _ (by decide)]
    exact State.rd_wr_of_lt s F.PAIR_STAT_ROLE 0 0 (by decide)
  · rw [hr, State.rd_inc_apart _ _ _ _ _ _ (by decide)]
    exact State.rd_wr_of_lt (s.wr F.PAIR_STAT_ROLE 0) F.PAIR_STAT_SB_STATE 0 0 (by decide)
  · rw [hr, State.rd_inc, State.rd_wr_apart _ _ _ _ _ _ (by decide), State.rd_wr_apart _ _ _ _ _ _ (by decide)]

end

/-- The role change at the boundary that begins step `b`, and the same to be announced to the partner. -/
def PairSt.roleSet (x : PairSt) (b : Nat) : PairSt := { x with roleAt := some b, roleOut := some b }
def State.roleSet (s : State) (b : Nat) : State := { s with pair := s.pair.roleSet b }

section
variable {s t : State} {c : HostCmd} (h : Ready s c)
include h

/-- A role written on a device that stands. -/
theorem pairRole_standing (hr : pairOp.reason s.took c = none) (ha : c.par 0 1 = 0) (hrun : s.running = false)
    (ht : t = (s.took.setRole (c.par 1 1 == 1) s.grain).answer c 0 []) : t.rd F.PAIR_STAT_ROLE = c.par 1 1 ∧
      Answered s t c [] ∧ t = { s with regs := t.regs, cmd := t.cmd } ∧
      OnlyWrites [F.CMD_CNT_CMDS.key 0 0, F.PAIR_STAT_ROLE.key 0 0] s t := by
  have hset : s.took.setRole (c.par 1 1 == 1) s.grain = s.took.wrB F.PAIR_STAT_ROLE (c.par 1 1 == 1) := by
    have hrun' : s.took.running = false := (State.took_on_apart (by decide)).trans hrun
    exact if_pos (by rw [hrun']; rfl)
  obtain ⟨u, hu⟩ : ∃ u, u = s.took.wrB F.PAIR_STAT_ROLE (c.par 1 1 == 1) := ⟨_, rfl⟩
  have hframe : u = { s with regs := u.regs, pair := u.pair } := by rw [hu]; rfl
  have hrole : u.rd F.PAIR_STAT_ROLE = c.par 1 1 := by
    have hlt : b2n (c.par 1 1 == 1) < 2 ^ F.PAIR_STAT_ROLE.width := by cases c.par 1 1 == 1 <;> decide
    rw [hu]
    exact (State.rd_wr_of_lt s.took F.PAIR_STAT_ROLE 0 0 hlt).trans (pairOp_bit hr (by omega))
  have hw : OnlyWrites [F.CMD_CNT_CMDS.key 0 0, F.PAIR_STAT_ROLE.key 0 0] s u := by
    rw [hu]
    exact ((s.took_onlyWrites.mono (by simp)).wr F.PAIR_STAT_ROLE (b2n (c.par 1 1 == 1)) 0 0 (by simp))
  have hpair : u.pair = s.pair := by rw [hu]; rfl
  rw [hset, ← hu] at ht
  obtain ⟨hans, hregs, hp, hf⟩ := answered_pair h hframe [] ht
  refine ⟨(State.rd_of_regs hregs ..).trans hrole, hans, ?_, hw.of_regs hregs⟩
  rw [hp, hpair] at hf
  exact hf

/-- A role that waits for its boundary. -/
theorem pairRole_running (hrun : s.running = true) (ht : t = (s.took.setRole (c.par 1 1 == 1) s.grain).answer c 0 []) :
    t.pair = PairSt.roleSet s.pair ((s.frameOf s.grain + 2) * s.frameSteps) ∧
      Answered s t c [] ∧ t = { s with regs := t.regs, cmd := t.cmd, pair := t.pair } ∧
      OnlyWrites [F.CMD_CNT_CMDS.key 0 0] s t := by
  have hrun' : s.took.running = true := (State.took_on_apart (by decide)).trans hrun
  have hset : s.took.setRole (c.par 1 1 == 1) s.grain =
      s.took.roleSet ((s.took.frameOf s.grain + 2) * s.took.frameSteps) := if_neg (by rw [hrun']; decide)
  rw [s.took_frameOf, s.took_frameSteps] at hset
  rw [hset] at ht
  obtain ⟨hans, hregs, hp, hf⟩ :=
    answered_pair h (u := s.took.roleSet ((s.frameOf s.grain + 2) * s.frameSteps)) rfl [] ht
  exact ⟨hp, hans, hf, s.took_onlyWrites.of_regs hregs⟩

/-- A resynchronisation asked for. -/
theorem pairResync_asked (ht : t = s.took.resyncAsked.answer c 0 []) : t.pair = { s.pair with resync := true } ∧
    Answered s t c [] ∧ t = { s with regs := t.regs, cmd := t.cmd, pair := t.pair } ∧
    OnlyWrites [F.CMD_CNT_CMDS.key 0 0] s t := by
  obtain ⟨hans, hregs, hp, hf⟩ := answered_pair h (u := s.took.resyncAsked) rfl [] ht
  exact ⟨hp, hans, hf, s.took_onlyWrites.of_regs hregs⟩

/-- A switch of MIRROR_EN. -/
theorem pairMirror_switched (hr : pairOp.reason s.took c = none) (ha : c.par 0 1 = 1)
    (ht : t = (s.took.mirrorSet (c.par 1 1 == 1)).answer c 0 []) : t.rd F.PAIR_CFG_MIRROR_EN = c.par 1 1 ∧
      Answered s t c [] ∧ t = { s with regs := t.regs, cmd := t.cmd, pair := t.pair } ∧
      OnlyWrites (F.CMD_CNT_CMDS.key 0 0 :: mirrorKeys) s t ∧
      (s.mirroring = false → c.par 1 1 = 1 → t.pair = { s.pair with timer := s.grain, gaps := 0 } ∧
        t.rd F.PAIR_STAT_SB_STATE = if s.rd F.PAIR_STAT_SB_STATE = 0 then 1 else s.rd F.PAIR_STAT_SB_STATE) ∧
      (s.mirroring = true → c.par 1 1 = 0 → t.pair = { s.pair with journal := [] } ∧ t.rd F.PAIR_STAT_JOURNAL_FULL = 0 ∧
        t.rd F.PAIR_STAT_SB_STATE = if s.rd F.PAIR_STAT_SB_STATE = 5 then 5 else 0) := by
  have hmir : s.took.mirroring = s.mirroring := State.took_on_apart (by decide)
  have hsb : s.took.rd F.PAIR_STAT_SB_STATE = s.rd F.PAIR_STAT_SB_STATE := State.took_rd_apart 0 0 (by decide)
  have hbit := pairOp_bit hr (by omega)
  have hw0 : OnlyWrites (F.CMD_CNT_CMDS.key 0 0 :: mirrorKeys) s s.took := s.took_onlyWrites.mono (by simp)
  have hsub : mirrorKeys ⊆ F.CMD_CNT_CMDS.key 0 0 :: mirrorKeys := fun _ hx => List.mem_cons_of_mem _ hx
  obtain ⟨x, hx⟩ : ∃ x, x = (c.par 1 1 == 1) := ⟨_, rfl⟩
  rw [← hx] at hbit ht
  rw [← hbit]
  by_cases hsame : x = s.took.mirroring
  · rw [State.mirrorSet_same _ hsame] at ht
    obtain ⟨hans, hregs, hp, hf⟩ := answered_pair h (u := s.took.wrB F.PAIR_CFG_MIRROR_EN x) rfl [] ht
    rw [hmir] at hsame
    refine ⟨(State.rd_of_regs hregs ..).trans ?_, hans, hf, ?_, fun hm h1 => ?_, fun hm h0 => ?_⟩
    · exact State.rd_wr_of_lt s.took F.PAIR_CFG_MIRROR_EN 0 0 (by cases x <;> decide)
    · exact (hw0.wr F.PAIR_CFG_MIRROR_EN (b2n x) 0 0 (by decide)).of_regs hregs
    · rw [hsame, hm] at h1
      exact absurd h1 (by decide)
    · rw [hsame, hm] at h0
      exact absurd h0 (by decide)
  · cases x with
    | true =>
      have hoff : s.took.mirroring = false := by simpa using hsame
      obtain ⟨hen, hframe, hw, hst⟩ := s.took.mirrorOn_effect
      rw [State.mirrorSet_on _ hoff] at ht
      obtain ⟨hans, hregs, hp, hf⟩ := answered_pair h (u := s.took.mirrorOn) (by rw [hframe]; rfl) [] ht
      refine ⟨(State.rd_of_regs hregs ..).trans hen, hans, hf, (hw0.trans (hw.mono hsub)).of_regs hregs, fun _ _ => ⟨?_, ?_⟩,
        fun hm => ?_⟩
      · rw [hp, hframe, s.took_grain]
        rfl
      · rw [← hsb]
        exact (State.rd_of_regs hregs ..).trans hst
      · rw [← hmir, hoff] at hm
        exact absurd hm (by decide)
    | false =>
      have hon : s.took.mirroring = true := by simpa using hsame
      obtain ⟨hen, hframe, hw, hj, hst⟩ := s.took.mirrorOff_effect
      rw [State.mirrorSet_off _ hon] at ht
      obtain ⟨hans, hregs, hp, hf⟩ := answered_pair h (u := s.took.mirrorOff) (by rw [hframe]; rfl) [] ht
      refine ⟨(State.rd_of_regs hregs ..).trans hen, hans, hf, (hw0.trans (hw.mono hsub)).of_regs hregs, fun hm => ?_,
        fun _ _ => ⟨?_, (State.rd_of_regs hregs ..).trans hj, ?_⟩⟩
      · rw [← hmir, hon] at hm
        exact absurd hm (by decide)
      · rw [hp, hframe]
        rfl
      · rw [← hsb]
        exact (State.rd_of_regs hregs ..).trans hst

/-- A FAILOVER at a member that is not away and keeps no record. -/
theorem failover_here (hr : failoverOp.reason s.took c = none) (hop : c.op = 0x39) (hp : s.rd F.PAIR_STAT_PHASE = 0)
    (hk : s.pair.kept = []) (ht : t = s.serve failoverOp c (fun _ _ t => t.failover)) :
    t.rd F.PAIR_STAT_ROLE = 0 ∧ t.rd F.PAIR_STAT_SB_STATE = 1 ∧
      t.rd F.PAIR_CNT1_TAKEOVERS = F.PAIR_CNT1_TAKEOVERS.plus (s.rd F.PAIR_CNT1_TAKEOVERS) 1 ∧
      t.pair = { s.pair with timer := s.grain, gaps := 0 } ∧ Answered s t c (toBytes 8 s.firstFrame) ∧
      t = { s with regs := t.regs, cmd := t.cmd, pair := t.pair } ∧
      OnlyWrites (F.CMD_CNT_CMDS.key 0 0 :: takeoverKeys) s t := by
  have hp' : s.took.rd F.PAIR_STAT_PHASE = 0 := (State.took_rd_apart 0 0 (by decide)).trans hp
  have hframe : s.took.firstFrame = s.firstFrame := by
    have hfr : s.took.frame = s.frame := State.took_rd_apart 0 0 (by decide)
    unfold State.firstFrame
    rw [hfr]
    rfl
  have hout : s.outstanding 0x39 = false := (reason_none hr).2.2 rfl
  obtain ⟨hrole, hsb, hcnt, heq, hw⟩ := s.took.takenOver_effect
  have hfin : s.took.takeover = s.took.takenOver := by
    rw [State.takeover_here _ hp' hk]
    have hd : s.took.takenOver.cmd.deferred = s.cmd.deferred := by rw [heq]; rfl
    exact finish_none 0 _ (by rw [hd]; exact List.find?_eq_none.mpr (List.any_eq_false.mp hout))
  have hbody : s.took.failover = (s.took.takenOver, .done 0 (toBytes 8 s.firstFrame)) := by
    unfold State.failover
    rw [hfin, if_pos hp', hframe]
  rw [serve_done h hop hr hbody] at ht
  obtain ⟨hans, hregs, hpair, hf⟩ := answered_pair h (u := s.took.takenOver) (by rw [heq]; rfl) (toBytes 8 s.firstFrame) ht
  refine ⟨(State.rd_of_regs hregs ..).trans hrole, (State.rd_of_regs hregs ..).trans hsb, (State.rd_of_regs hregs ..).trans ?_,
    ?_, hans, hf, ?_⟩
  · rw [hcnt, State.took_rd_apart 0 0 (by decide)]
  · rw [hpair, heq, s.took_grain, ← hk]
    rfl
  · exact ((s.took_onlyWrites.mono (by simp)).trans (hw.mono fun _ hx => List.mem_cons_of_mem _ hx)).of_regs hregs

/-- A FAILOVER at a member that is away. -/
theorem failover_away (hr : failoverOp.reason s.took c = none) (hop : c.op = 0x39) (hp : s.rd F.PAIR_STAT_PHASE ≠ 0)
    (ht : t = s.serve failoverOp c (fun _ _ t => t.failover)) : t.rd F.PAIR_STAT_SB_STATE = 4 ∧
      t.rd F.PAIR_STAT_ROLE = s.rd F.PAIR_STAT_ROLE ∧ Waits s t c 0x39 0 ∧
      OnlyWrites [F.CMD_CNT_CMDS.key 0 0, F.PAIR_STAT_SB_STATE.key 0 0] s t := by
  have hp' : s.took.rd F.PAIR_STAT_PHASE ≠ 0 := fun e => hp ((State.took_rd_apart 0 0 (by decide)).symm.trans e)
  have hbody : s.took.failover = (s.took.wr F.PAIR_STAT_SB_STATE 4, .later 0) := by
    unfold State.failover
    rw [State.takeover_away _ hp', if_neg hp']
  rw [serve_later h hop hr hbody] at ht
  have hregs : t.regs = (s.took.wr F.PAIR_STAT_SB_STATE 4).regs := by rw [ht]; rfl
  refine ⟨(State.rd_of_regs hregs ..).trans ?_, (State.rd_of_regs hregs ..).trans ?_, ?_, ?_⟩
  · exact State.rd_wr_of_lt s.took F.PAIR_STAT_SB_STATE (v := 4) 0 0 (by decide)
  · exact (State.rd_wr_apart (f := F.PAIR_STAT_SB_STATE) s.took 4 0 0 0 0 (by decide)).trans (State.took_rd_apart 0 0 (by decide))
  · rw [ht]
    exact waits_putOff c 0x39 0 rfl rfl
  · exact ((s.took_onlyWrites.mono (by simp)).wr F.PAIR_STAT_SB_STATE 4 0 0 (by simp)).of_regs hregs

end

/-- Settles O56: a row of PAIR_CTRL with another action does nothing, and its own acts and answers; FAILOVER takes over at
once or waits. -/
theorem pairCommandsSetRoleAndMirror : Obligations.PairCommandsSetRoleAndMirror := by
  unfold Obligations.PairCommandsSetRoleAndMirror
  intro s c
  simp only [exec_pairCtrlRole, exec_pairCtrlMirror, exec_pairCtrlResync, exec_failover]
  refine ⟨fun h => congrArg _ (State.pairRow_other (by omega) (by omega)), fun h => congrArg _ (State.pairRow_other (by omega) (by omega)),
    fun h => congrArg _ (State.pairRow_other (by omega) (by omega)), fun h hop hr => ⟨fun ha hrun => ⟨_, rfl, ?_⟩,
      fun ha hrun => ⟨_, rfl, ?_⟩, fun ha => ⟨_, rfl, ?_⟩, fun ha => ⟨_, rfl, ?_⟩⟩,
    fun h hop hr => ⟨fun hp hk => ⟨_, rfl, failover_here h hr hop hp hk rfl⟩, fun hp => ⟨_, rfl, failover_away h hr hop hp rfl⟩⟩⟩
  · rw [State.pairRow_done ha h hop hr]
    exact pairRole_standing h hr ha hrun rfl
  · rw [State.pairRow_done ha h hop hr]
    exact pairRole_running h hrun rfl
  · rw [State.pairRow_done ha h hop hr]
    exact pairMirror_switched h hr ha rfl
  · rw [State.pairRow_done ha h hop hr]
    exact pairResync_asked h rfl

end Sys2Proof.Machine
end

section
/-! Private transfers and in-band interrupts of the I3C target (12_command_interface.md R322 to R324). -/
namespace Sys2Proof.Machine

section
variable (s : State)
theorem exec_i3cPrivateWrite (b : List Byte) (h q : Bool) : exec (.i3cPrivateWrite b h q) s = .next (s.privateWrite b h q) := rfl
theorem exec_i3cPrivateRead (h w : Bool) : exec (.i3cPrivateRead h w) s = .next (s.privateRead h w) := rfl
theorem exec_ibiRaise (q : Bool) : exec (.ibiRaise q) s = .next (s.raiseIbi q) := rfl
theorem exec_enthdr0 : exec .enthdr0 s = .next (if s.sdr then { s with cmd := { s.cmd with hdr := true } } else s) := rfl
theorem exec_hdrExit : exec .hdrExit s = .next s.hdrEnd := rfl
end

section
variable {s : State} {b : List Byte} {hdr : Bool} {c : HostCmd}

/-- A complete write that enters the command FIFO. -/
def State.fifoPut (s : State) (c : HostCmd) : State :=
  { s with cmd := { s.cmd with fifo := s.cmd.fifo ++ [⟨s.grain, c, false⟩] } }

theorem State.quenchArrives_other (h : isQuench c = false) (t : State) : t.quenchArrives c = t := if_neg (by simp [h])

/-- A complete write outside DEEP that is no QUENCH: a runt, a write that finds no room, or one that enters the FIFO. -/
theorem State.writeDone_eq (hc : c = ⟨if hdr then .i3cHdr else .i3cSdr, b⟩) (hq : isQuench c = false)
    (hd : s.rd F.KILN_STAT_STATE ≠ 3) : s.writeDone hdr b =
      if b.length < 20 then s.inc F.I3C_CNT_RUNT else if s.cmd.fifo.length ≥ 4 then s.inc F.I3C_CNT_FULL_DROP else s.fifoPut c := by
  have hdeep : (s.rd F.KILN_STAT_STATE == 3) = false := beq_eq_false_iff_ne.mpr hd
  unfold State.writeDone
  rw [← hc, hdeep]
  simp only [State.quenchArrives_other hq]
  rfl

theorem State.privateWrite_other (h : s.addressed = false) (q : Bool) : s.privateWrite b hdr q = s := if_pos (by simp [h])

theorem State.privateRead_other (h : s.addressed = false) (w : Bool) : s.privateRead hdr w = s := if_pos (by simp [h])

theorem State.raiseIbi_other (h : s.mayRaise = false ∨ s.cmd.event = none) (q : Bool) : s.raiseIbi q = s := by
  unfold State.raiseIbi
  split
  · rfl
  · rename_i hm
    rcases h with h | h
    · exact absurd (by simp [h]) hm
    · rw [h]

theorem State.mayRaise_off (h : s.addressed = false ∨ s.on F.I3C_STAT_IBI_EN = false) : s.mayRaise = false := by
  unfold State.mayRaise
  rcases h with h | h <;> simp [h]

section
variable (ha : s.addressed = true)
include ha

section
variable (hh : s.cmd.hdr = false)
include hh

theorem State.privateWrite_sdr : s.privateWrite b false true = s.writeDone false b := by
  unfold State.privateWrite
  rw [if_neg (by simp [ha, hh])]
  rfl

/-- The state after a transfer with a parity or framing error. -/
def State.parityNoted (s : State) : State :=
  { s.inc F.I3C_CNT_PAR_ERR with cmd := { s.cmd with protoErr := true } }

theorem State.privateWrite_parity : s.privateWrite b false false = s.parityNoted.writeDone false b := by
  unfold State.privateWrite
  rw [if_neg (by simp [ha, hh])]
  rfl

theorem State.privateRead_empty (hr : s.cmd.replies = []) (w : Bool) : s.privateRead false w = s.busDrive [] := by
  unfold State.privateRead
  rw [if_neg (by simp [ha, hh]), hr]

theorem State.privateRead_part {r : List Byte} {rest : List (List Byte)} (hr : s.cmd.replies = r :: rest) :
    s.privateRead false false = s.busDrive r := by
  unfold State.privateRead
  rw [if_neg (by simp [ha, hh]), hr]
  rfl

/-- The command unit after its oldest reply has been read whole. -/
def CmdSt.readWhole (c : CmdSt) (r : List Byte) (rest : List (List Byte)) : CmdSt :=
  CmdSt.place { c with busOut := r, replies := rest, ibiReply := min c.ibiReply rest.length }

theorem State.privateRead_whole {r : List Byte} {rest : List (List Byte)} (hr : s.cmd.replies = r :: rest) :
    s.privateRead false true = { s with cmd := s.cmd.readWhole r rest } := by
  unfold State.privateRead
  rw [if_neg (by simp [ha, hh]), hr]
  rfl

end

theorem State.privateWrite_hdr (hh : s.cmd.hdr = true) (hf : s.agreed 1 = true) :
    s.privateWrite b true true = { s with cmd := { s.cmd with hdrWrites := s.cmd.hdrWrites ++ [b] } } := by
  unfold State.privateWrite
  rw [if_neg (by simp [ha, hh, hf])]
  rfl

end

theorem CmdSt.readWhole_none {x : CmdSt} (hw : x.replyWait = []) (r : List Byte) (rest : List (List Byte)) :
    x.readWhole r rest = { x with busOut := r, replies := rest, ibiReply := min x.ibiReply rest.length } := by
  simp [CmdSt.readWhole, CmdSt.place, hw]

theorem CmdSt.readWhole_next {x : CmdSt} {w : List Byte} {ws rest : List (List Byte)} (hw : x.replyWait = w :: ws)
    (hl : rest.length = 3) (r : List Byte) : x.readWhole r rest =
      { x with busOut := r, replies := rest ++ [w], replyWait := ws, ibiReply := min x.ibiReply 3 + 1 } := by
  simp [CmdSt.readWhole, CmdSt.place, hw, hl]

/-- Where the event of a command unit comes from. -/
theorem CmdSt.event_cases (x : CmdSt) : (x.ibiFault = true → x.event = some 0xA1) ∧
    (x.ibiFault = false → (x.ibiCfg = true → x.event = some 0xA3) ∧
      (x.ibiCfg = false → (x.ibiBoot = true → x.event = some 0xA2) ∧
        (x.ibiBoot = false → x.event = if x.ibiReply = 0 then none else some 0xA0))) := by
  unfold CmdSt.event
  cases x.ibiFault <;> cases x.ibiCfg <;> cases x.ibiBoot <;> simp [Nat.pos_iff_ne_zero]

/-- An event that was acknowledged is no longer pending. -/
theorem CmdSt.noted_event {x : CmdSt} {e : Byte} (h : x.event = some e) : (e = 0xA1 → x.noted.ibiFault = false) ∧
    (e = 0xA3 → x.noted.ibiCfg = false) ∧ (e = 0xA2 → x.noted.ibiBoot = false) ∧
    (e = 0xA0 → x.noted.ibiReply + 1 = x.ibiReply) ∧ x.noted.busOut = x.busOut := by
  unfold CmdSt.event at h
  unfold CmdSt.noted
  split at h
  · obtain rfl := Option.some.inj h
    rename_i h1
    rw [if_pos h1]
    exact ⟨fun _ => rfl, fun h => absurd h (by decide), fun h => absurd h (by decide), fun h => absurd h (by decide), rfl⟩
  · rename_i h1
    rw [if_neg h1]
    split at h
    · obtain rfl := Option.some.inj h
      rename_i h2
      rw [if_pos h2]
      exact ⟨fun h => absurd h (by decide), fun _ => rfl, fun h => absurd h (by decide), fun h => absurd h (by decide), rfl⟩
    · rename_i h2
      rw [if_neg h2]
      split at h
      · obtain rfl := Option.some.inj h
        rename_i h3
        rw [if_pos h3]
        exact ⟨fun h => absurd h (by decide), fun h => absurd h (by decide), fun _ => rfl, fun h => absurd h (by decide), rfl⟩
      · rename_i h3
        rw [if_neg h3]
        split at h
        · obtain rfl := Option.some.inj h
          rename_i h4
          exact ⟨fun h => absurd h (by decide), fun h => absurd h (by decide), fun h => absurd h (by decide),
            fun _ => Nat.sub_add_cancel h4, rfl⟩
        · exact absurd h (by simp)

section
variable {e : Byte} (ha : s.addressed = true) (hh : s.cmd.hdr = false) (hi : s.on F.I3C_STAT_IBI_EN = true)
  (he : s.cmd.event = some e)
include ha hh hi he

theorem State.raiseIbi_nack : s.raiseIbi false = (s.busDrive [e]).inc F.I3C_CNT_IBI_NACK := by
  unfold State.raiseIbi
  rw [if_neg (by simp [State.mayRaise, ha, hi, hh]), he]
  rfl

theorem State.raiseIbi_ack : s.raiseIbi true = { s with cmd := ({ s.cmd with busOut := [e] } : CmdSt).noted } := by
  unfold State.raiseIbi
  rw [if_neg (by simp [State.mayRaise, ha, hi, hh]), he]
  rfl

end

/-- One counter of the target counted up. -/
theorem inc_i3c (s : State) (f : Fld) (hw : f.width = 16) (hr : f.wraps = false) : s.inc f = { s with regs := (s.inc f).regs } ∧
    (s.inc f).rd f = min (s.rd f + 1) 65535 ∧ OnlyWrites [f.key 0 0] s (s.inc f) := by
  refine ⟨rfl, ?_, (OnlyWrites.refl _ s).inc f 1 0 0 (List.mem_singleton_self _)⟩
  rw [State.rd_inc]
  unfold Fld.plus
  rw [hr, hw]
  rfl

theorem State.parityNoted_shows (s : State) : s.parityNoted.cmd.protoErr = true ∧
    s.parityNoted.rd F.I3C_CNT_PAR_ERR = min (s.rd F.I3C_CNT_PAR_ERR + 1) 65535 := by
  refine ⟨rfl, Eq.trans ?_ (inc_i3c s F.I3C_CNT_PAR_ERR rfl rfl).2.1⟩
  exact State.rd_of_regs (s := s.inc F.I3C_CNT_PAR_ERR) rfl ..

theorem State.privateWrite_parity_shows (ha : s.addressed = true) (hh : s.cmd.hdr = false) (hq : isQuench ⟨.i3cSdr, b⟩ = false)
    (hd : s.rd F.KILN_STAT_STATE ≠ 3) {t : State} (ht : t = s.privateWrite b false false) : t.cmd.protoErr = true ∧
      t.rd F.I3C_CNT_PAR_ERR = min (s.rd F.I3C_CNT_PAR_ERR + 1) 65535 := by
  obtain ⟨he, hcnt⟩ := s.parityNoted_shows
  have hdeep : s.parityNoted.rd F.KILN_STAT_STATE ≠ 3 := by
    have h : s.parityNoted.rd F.KILN_STAT_STATE = s.rd F.KILN_STAT_STATE :=
      (State.rd_of_regs (s := s.inc F.I3C_CNT_PAR_ERR) rfl ..).trans (State.rd_inc_apart _ _ _ _ _ _ (by decide))
    rw [h]
    exact hd
  rw [State.privateWrite_parity ha hh, State.writeDone_eq rfl hq hdeep] at ht
  rw [ht]
  split
  · exact ⟨he, (State.rd_inc_apart (f := F.I3C_CNT_RUNT) s.parityNoted 1 0 0 0 0 (by decide)).trans hcnt⟩
  · split
    · exact ⟨he, (State.rd_inc_apart (f := F.I3C_CNT_FULL_DROP) s.parityNoted 1 0 0 0 0 (by decide)).trans hcnt⟩
    · exact ⟨he, hcnt⟩

/-- The state after HDR mode has been left. -/
def State.hdrLeft (s : State) : State := { s with cmd := { s.cmd with hdr := false, hdrWrites := [] } }

/-- One HDR write is complete at the HDR exit. -/
theorem State.hdrEnd_one (hb : s.onBus = true) (hh : s.cmd.hdr = true) (hw : s.cmd.hdrWrites = [b]) :
    s.hdrEnd = s.hdrLeft.writeDone true b := by
  unfold State.hdrEnd
  rw [if_neg (by simp [hb, hh]), hw]
  rfl

end

/-- Settles O48: a complete write is a runt, a drop or an entry of the FIFO (`writeDone_eq`), a read drives the oldest reply, and
the pending event is the first of its kinds (`event_cases`). -/
theorem i3cTransfersReachTheWindow : Obligations.I3cTransfersReachTheWindow := by
  unfold Obligations.I3cTransfersReachTheWindow
  intro s
  simp only [exec_i3cPrivateWrite, exec_i3cPrivateRead, exec_ibiRaise, exec_enthdr0, exec_hdrExit]
  refine ⟨fun ha b h q => ⟨congrArg _ (State.privateWrite_other ha q), congrArg _ (State.privateRead_other ha q),
      congrArg _ (State.raiseIbi_other (Or.inl (State.mayRaise_off (Or.inl ha))) q)⟩,
    fun b ha hh hq hd => ?_, fun ha hh => ⟨fun hr w => congrArg _ (State.privateRead_empty ha hh hr w), fun r rest hr => ⟨?_, ?_, ?_⟩,
      fun h q => congrArg _ (State.raiseIbi_other (h.imp (fun h => State.mayRaise_off (Or.inr h)) id) q), fun e hi he => ⟨⟨_, rfl, ?_⟩, ⟨_, rfl, ?_⟩⟩⟩,
    s.cmd.event_cases.1, s.cmd.event_cases.2, fun h => congrArg _ (if_pos h), fun h => congrArg _ (if_pos (by simp [h])),
    fun b ha hh hf => congrArg _ (State.privateWrite_hdr ha hh hf), fun b hb hh hw hl hfull hq hd => ?_⟩
  · rw [State.privateWrite_sdr ha hh, State.writeDone_eq rfl hq hd]
    refine ⟨fun hl hfull => ?_, fun hl => ⟨_, rfl, ?_⟩, fun hl hfull => ⟨_, rfl, ?_⟩, ⟨_, rfl, State.privateWrite_parity_shows ha hh hq hd rfl⟩⟩
    · rw [if_neg (by omega), if_neg (by omega)]
      rfl
    · rw [if_pos hl]
      exact inc_i3c s F.I3C_CNT_RUNT rfl rfl
    · rw [if_neg (by omega), if_pos hfull]
      exact inc_i3c s F.I3C_CNT_FULL_DROP rfl rfl
  · rw [State.privateRead_part ha hh hr]
    rfl
  · intro hw
    rw [State.privateRead_whole ha hh hr, CmdSt.readWhole_none hw]
  · intro w ws hw hl
    rw [State.privateRead_whole ha hh hr, CmdSt.readWhole_next hw hl]
  · rw [State.raiseIbi_nack ha hh hi he]
    obtain ⟨-, hcnt, hkeys⟩ := inc_i3c (s.busDrive [e]) F.I3C_CNT_IBI_NACK rfl rfl
    exact ⟨rfl, hcnt, rfl, hkeys⟩
  · rw [State.raiseIbi_ack ha hh hi he]
    obtain ⟨h1, h2, h3, h4, h5⟩ := CmdSt.noted_event (x := { s.cmd with busOut := [e] }) he
    exact ⟨rfl, h5, h1, h2, h3, h4⟩
  · rw [State.hdrEnd_one hb hh hw, State.writeDone_eq (s := s.hdrLeft) rfl hq hd, if_neg (by omega), if_neg (by exact Nat.not_le.mpr hfull)]
    rfl

end Sys2Proof.Machine
end

section
/-! The device in reset: what survives and what reads as after a reset (14_bringup_loading_spares.md R372,
18_electrical_and_package.md R466). -/
namespace Sys2Proof.Machine

theorem Sparse.get_foldl_put_ne {K V : Type} [DecidableEq K] (lt : K → K → Bool) (k : K) (d : V) (es : List (K × V)) :
    ∀ m : List (K × V), (∀ e ∈ es, e.1 ≠ k) →
      Sparse.get (es.foldl (fun m e => Sparse.put lt m e.1 e.2) m) k d = Sparse.get m k d := by
  induction es with
  | nil => exact fun _ _ => rfl
  | cons e es ih =>
    intro m h
    rw [List.foldl_cons, ih _ fun x hx => h x (List.mem_cons_of_mem _ hx)]
    exact Sparse.get_put_ne lt m d e.2 (h e List.mem_cons_self).symm

theorem Sparse.get_of_not_mem {K V : Type} [DecidableEq K] (k : K) (d : V) :
    ∀ m : List (K × V), (∀ e ∈ m, e.1 ≠ k) → Sparse.get m k d = d := by
  intro m
  induction m with
  | nil => exact fun _ => rfl
  | cons e t ih =>
    intro h
    unfold Sparse.get
    rw [if_neg (h e List.mem_cons_self)]
    exact ih fun x hx => h x (List.mem_cons_of_mem _ hx)

/-- The registers whose reset value is not the one of their row. -/
theorem resetRegs_num (f : FuseSt) : ∀ e ∈ resetRegs f, e.1.r ∈ [Reg.num .SPARE_DEFECT_CORE, Reg.num .SPARE_DEFECT_RTR,
    Reg.num .OWL_REACT, Reg.num .KILN_CAP] := by
  intro e he
  unfold resetRegs at he
  extract_lets words at he
  have hwords (r : Reg) (ps : List Nat) : ∀ x ∈ words r ps, x.1.r = r.num := by
    intro x hx
    obtain ⟨_, -, hx⟩ := List.mem_flatMap.mp hx
    obtain ⟨k, -, hk⟩ := List.mem_filterMap.mp hx
    split at hk
    · exact absurd hk (by simp)
    · rw [← Option.some.inj hk]
  simp only [List.mem_append, List.mem_map, List.mem_cons, List.not_mem_nil, or_false] at he
  rcases he with (((he | he) | ⟨x, -, rfl⟩) | ⟨x, -, rfl⟩) | (rfl | rfl)
  · split at he
    · exact absurd he List.not_mem_nil
    · simp [hwords _ _ e he]
  · split at he
    · exact absurd he List.not_mem_nil
    · simp [hwords _ _ e he]
  · simp
  · simp
  · simp
  · simp

section
variable (s : State) (cause : Nat) (cold : Bool)

/-- A register that does not survive, and is none of those that reset computes, reads as in its row. -/
theorem State.inReset_rd (f : Fld) (u i : Nat) (hs : survives cold (f.key u i) = false)
    (hf : f.reg.num ∉ [Reg.num .SPARE_DEFECT_CORE, Reg.num .SPARE_DEFECT_RTR, Reg.num .OWL_REACT, Reg.num .KILN_CAP]) :
    (s.inReset cause cold).rd f u i = f.rst := by
  refine (Sparse.get_foldl_put_ne Key.lt _ _ _ _ fun e he hk => ?_).trans (Sparse.get_of_not_mem _ _ _ fun e he hk => hf ?_)
  · have := (List.mem_filter.mp he).2
    rw [hk, hs] at this
    exact absurd this (by decide)
  · have := resetRegs_num s.fuse e he
    rw [hk] at this
    exact this

theorem State.inReset_running : (s.inReset cause cold).running = false :=
  State.on_eq_false_iff.mpr (s.inReset_rd cause cold F.CHIP_CTRL_RUN_EN 0 0 (by cases cold <;> decide) (by decide))

end

/-- Release from reset touches CLK_STAT, the flag that the device is up, and PAIR_FENCE_OUT. -/
theorem State.release_frame (s : State) : s.release = { s with
    regs := s.release.regs, boot := { s.boot with up := s.release.boot.up }, pins := { s.pins with fenceOut := s.release.pins.fenceOut } } ∧
    OnlyWrites [F.CLK_STAT_REF_OK.key 0 0] s s.release := by
  unfold State.release
  split
  · exact ⟨rfl, ((OnlyWrites.refl _ s).wr F.CLK_STAT_REF_OK 1 0 0 (List.mem_singleton_self _)).of_regs rfl⟩
  · exact ⟨rfl, OnlyWrites.refl _ s⟩

end Sys2Proof.Machine
end

section
/-! The common commands of the I3C target (12_command_interface.md R318 to R321). -/
namespace Sys2Proof.Machine

section
variable (s : State)
theorem exec_enec (b : Bool) : exec (.enec b) s = .next (if s.sdr && b then s.oneEach (s.wr F.I3C_STAT_IBI_EN 1) else s) := rfl
theorem exec_disec (b : Bool) : exec (.disec b) s = .next (if s.sdr && b then s.wr F.I3C_STAT_IBI_EN 0 else s) := rfl
theorem exec_rstdaa : exec .rstdaa s = .next (if s.sdr then s.unassign else s) := rfl
theorem exec_entdaa (a : BitVec 7) (won : Bool) : exec (.entdaa a won) s = .next (if s.sdr then
    if won then (s.busDrive (toBytes 6 s.pid ++ [0x27, 0x00])).assign a.toNat else s.busDrive (toBytes 6 s.pid ++ [0x27, 0x00])
  else s) := rfl
theorem exec_setdasa (a : BitVec 7) : exec (.setdasa a) s = .next (if s.sdr then s.assign a.toNat else s) := rfl
theorem exec_setmwl (n : BitVec 16) : exec (.setmwl n) s =
    .next (if s.sdr && decide (20 ≤ n.toNat) && decide (n.toNat ≤ 256) then s.wr F.I3C_LEN_MWL n.toNat else s) := rfl
theorem exec_setmrl (n : BitVec 16) (b : Byte) : exec (.setmrl n b) s =
    .next (if s.sdr && decide (12 ≤ n.toNat) && decide (n.toNat ≤ 256) && b == 1 then s.wr F.I3C_LEN_MRL n.toNat else s) := rfl
theorem exec_rstact (b : Byte) : exec (.rstact b) s =
    .next (if s.sdr && decide (b.toNat ≤ 2) then { s with cmd := { s.cmd with rstact := b.toNat } } else s) := rfl
theorem exec_cccUnsupported (b : Byte) : exec (.cccUnsupported b) s =
    .next (if s.sdr && b.getLsbD 7 then s.busDrive [] else s) := rfl
theorem exec_getmwl : exec .getmwl s = .next (s.getCcc (toBytes 2 (s.rd F.I3C_LEN_MWL))) := rfl
theorem exec_getmrl : exec .getmrl s = .next (s.getCcc (toBytes 2 (s.rd F.I3C_LEN_MRL) ++ [1])) := rfl
theorem exec_getpid : exec .getpid s = .next (s.getCcc (toBytes 6 s.pid)) := rfl
theorem exec_getbcr : exec .getbcr s = .next (s.getCcc [0x27]) := rfl
theorem exec_getdcr : exec .getdcr s = .next (s.getCcc [0x00]) := rfl
theorem exec_getmxds : exec .getmxds s = .next (s.getCcc [0x00, 0x00]) := rfl
/-- The state after GETSTATUS has been answered. -/
def State.statusDriven : State := { s with cmd := { s.cmd with busOut := toBytes 2 s.busStatus, protoErr := false } }
theorem exec_getstatus : exec .getstatus s = .next (if s.sdr && s.addressed then
    { s.getCcc (toBytes 2 s.busStatus) with cmd := { (s.getCcc (toBytes 2 s.busStatus)).cmd with protoErr := false } }
  else s.getCcc (toBytes 2 s.busStatus)) := rfl
theorem exec_targetResetPattern : exec .targetResetPattern s = .next s.resetPattern := rfl
end

section
variable {s t : State}

theorem State.addressed_of_sdr (hs : s.sdr = true) (ha : s.on F.I3C_STAT_DA_VALID = true) : s.addressed = true := by
  unfold State.sdr at hs
  unfold State.addressed
  rw [ha, Bool.and_true]
  exact (Bool.and_eq_true_iff.mp hs).1

theorem State.getCcc_on (hs : s.sdr = true) (ha : s.on F.I3C_STAT_DA_VALID = true) (bs : List Byte) : s.getCcc bs = s.busDrive bs :=
  if_pos (by simp [hs, State.addressed_of_sdr hs ha])

theorem State.getCcc_off (hs : s.sdr = false) (bs : List Byte) : s.getCcc bs = s := if_neg (by simp [hs])

/-- Pending replies are raised once when events may be raised again. -/
theorem State.oneEach_frame (s t : State) : s.oneEach t = { t with cmd := { t.cmd with ibiReply := (s.oneEach t).cmd.ibiReply } } := by
  unfold State.oneEach
  split <;> rfl

theorem State.enec_effect (s : State) (t : State) (ht : t = s.oneEach (s.wr F.I3C_STAT_IBI_EN 1)) :
    t.rd F.I3C_STAT_IBI_EN = 1 ∧ t = { s with regs := t.regs, cmd := { s.cmd with ibiReply := t.cmd.ibiReply } } ∧
      OnlyWrites [F.I3C_STAT_IBI_EN.key 0 0] s t := by
  have hf := s.oneEach_frame (s.wr F.I3C_STAT_IBI_EN 1)
  rw [← ht] at hf
  have hr : t.regs = (s.wr F.I3C_STAT_IBI_EN 1).regs := by rw [hf]
  refine ⟨(State.rd_of_regs hr ..).trans (State.rd_wr_of_lt s F.I3C_STAT_IBI_EN (v := 1) 0 0 (by decide)), ?_,
    ((OnlyWrites.refl _ s).wr F.I3C_STAT_IBI_EN 1 0 0 (List.mem_singleton_self _)).of_regs hr⟩
  rw [hf]
  rfl

theorem State.enec_once (hs : s.sdr = true) (ha : s.on F.I3C_STAT_DA_VALID = true) (hi : s.on F.I3C_STAT_IBI_EN = false) :
    (s.oneEach (s.wr F.I3C_STAT_IBI_EN 1)).cmd.ibiReply = min 1 s.cmd.ibiReply := by
  have hup : s.onBus = true := (Bool.and_eq_true_iff.mp hs).1
  have hda : (s.wr F.I3C_STAT_IBI_EN 1).on F.I3C_STAT_DA_VALID = true :=
    (State.on_of_rd (State.rd_wr_apart (f := F.I3C_STAT_IBI_EN) s 1 0 0 0 0 (by decide))).trans ha
  have hen : (s.wr F.I3C_STAT_IBI_EN 1).on F.I3C_STAT_IBI_EN = true := State.on_wrB_self s F.I3C_STAT_IBI_EN true 0 0 rfl
  have hmay : (s.wr F.I3C_STAT_IBI_EN 1).mayRaise = true := by
    unfold State.mayRaise State.addressed
    rw [hda, hen, Bool.and_true, Bool.and_true]
    exact hup
  have hnot : s.mayRaise = false := State.mayRaise_off (Or.inr hi)
  unfold State.oneEach
  rw [hmay, hnot]
  rfl

/-- The address taken. -/
theorem State.assign_effect (s : State) (a : BitVec 7) : (s.assign a.toNat).rd F.I3C_STAT_DA_VALID = 1 ∧
    (s.assign a.toNat).rd F.I3C_STAT_DYN_ADDR = a.toNat ∧ (s.assign a.toNat).cmd.busOut = s.cmd.busOut ∧
    OnlyWrites [F.I3C_STAT_DA_VALID.key 0 0, F.I3C_STAT_DYN_ADDR.key 0 0] s (s.assign a.toNat) := by
  have hf := s.oneEach_frame ((s.wr F.I3C_STAT_DA_VALID 1).wr F.I3C_STAT_DYN_ADDR a.toNat)
  obtain ⟨t, ht⟩ : ∃ t, t = s.assign a.toNat := ⟨_, rfl⟩
  have hdef : s.oneEach ((s.wr F.I3C_STAT_DA_VALID 1).wr F.I3C_STAT_DYN_ADDR a.toNat) = t := by rw [ht]; rfl
  rw [hdef] at hf
  rw [← ht]
  have hr : t.regs = ((s.wr F.I3C_STAT_DA_VALID 1).wr F.I3C_STAT_DYN_ADDR a.toNat).regs := by rw [hf]
  refine ⟨(State.rd_of_regs hr ..).trans ?_, (State.rd_of_regs hr ..).trans ?_, by rw [hf]; rfl, OnlyWrites.of_regs ?_ hr⟩
  · rw [State.rd_wr_apart _ _ _ _ _ _ (by decide)]
    exact State.rd_wr_of_lt s F.I3C_STAT_DA_VALID (v := 1) 0 0 (by decide)
  · exact State.rd_wr_of_lt (s.wr F.I3C_STAT_DA_VALID 1) F.I3C_STAT_DYN_ADDR (v := a.toNat) 0 0 a.isLt
  · exact ((OnlyWrites.refl _ s).wr F.I3C_STAT_DA_VALID 1 0 0 (by decide)).wr F.I3C_STAT_DYN_ADDR a.toNat 0 0 (by decide)

theorem State.unassign_effect (s : State) : s.unassign.rd F.I3C_STAT_DA_VALID = 0 ∧ s.unassign.rd F.I3C_STAT_DYN_ADDR = 0 ∧
    OnlyWrites [F.I3C_STAT_DA_VALID.key 0 0, F.I3C_STAT_DYN_ADDR.key 0 0] s s.unassign := by
  refine ⟨?_, ?_, ?_⟩
  · exact (State.rd_wr_apart (f := F.I3C_STAT_DYN_ADDR) (s.wr F.I3C_STAT_DA_VALID 0) 0 0 0 0 0 (by decide)).trans
      (State.rd_wr_of_lt s F.I3C_STAT_DA_VALID (v := 0) 0 0 (by decide))
  · exact State.rd_wr_of_lt (s.wr F.I3C_STAT_DA_VALID 0) F.I3C_STAT_DYN_ADDR (v := 0) 0 0 (by decide)
  · exact ((OnlyWrites.refl _ s).wr F.I3C_STAT_DA_VALID 0 0 0 (by decide)).wr F.I3C_STAT_DYN_ADDR 0 0 0 (by decide)

/-- A register of one field written with a value that fits. -/
theorem written_one (s : State) (f : Fld) {v : Nat} (h : v < 2 ^ f.width) : (s.wr f v).rd f = v ∧
    s.wr f v = { s with regs := (s.wr f v).regs } ∧ OnlyWrites [f.key 0 0] s (s.wr f v) :=
  ⟨State.rd_wr_of_lt s f 0 0 h, rfl, (OnlyWrites.refl _ s).wr f v 0 0 (List.mem_singleton_self _)⟩

/-- The target's reset while no reply waits for an entry. -/
theorem State.targetReset_effect (hw : s.cmd.replyWait = []) (ht : t = s.targetReset) : t.rd F.I3C_STAT_DA_VALID = 0 ∧
    t.rd F.I3C_STAT_DYN_ADDR = 0 ∧ t.rd F.I3C_LEN_MRL = 0x100 ∧ t.rd F.I3C_LEN_MWL = 0x100 ∧
    t.cmd = { s.cmd with fifo := [], replies := [], ibiReply := 0 } ∧ t.mem = s.mem ∧
    OnlyWrites [F.I3C_STAT_DA_VALID.key 0 0, F.I3C_STAT_DYN_ADDR.key 0 0, F.I3C_LEN_MRL.key 0 0, F.I3C_LEN_MWL.key 0 0] s t := by
  obtain ⟨hv, ha, hk⟩ := s.unassign_effect
  obtain ⟨u, hu⟩ : ∃ u, u = s.unassign := ⟨_, rfl⟩
  have hframe : u = { s with regs := u.regs } := by rw [hu]; rfl
  rw [← hu] at hv ha hk
  have hr : t.regs = ((u.wr F.I3C_LEN_MRL 0x100).wr F.I3C_LEN_MWL 0x100).regs := by rw [ht, hu]; rfl
  have hrd (f : Fld) : t.rd f = ((u.wr F.I3C_LEN_MRL 0x100).wr F.I3C_LEN_MWL 0x100).rd f := State.rd_of_regs hr ..
  refine ⟨?_, ?_, ?_, ?_, ?_, ?_, OnlyWrites.of_regs ?_ hr⟩
  · rw [hrd, State.rd_wr_apart _ _ _ _ _ _ (by decide), State.rd_wr_apart _ _ _ _ _ _ (by decide), hv]
  · rw [hrd, State.rd_wr_apart _ _ _ _ _ _ (by decide), State.rd_wr_apart _ _ _ _ _ _ (by decide), ha]
  · rw [hrd, State.rd_wr_apart _ _ _ _ _ _ (by decide)]
    exact State.rd_wr_of_lt u F.I3C_LEN_MRL (v := 0x100) 0 0 (by decide)
  · rw [hrd]
    exact State.rd_wr_of_lt (u.wr F.I3C_LEN_MRL 0x100) F.I3C_LEN_MWL (v := 0x100) 0 0 (by decide)
  · have hc : t.cmd = CmdSt.place { s.cmd with fifo := [], replies := [], ibiReply := 0 } := by rw [ht]; rfl
    rw [hc]
    simp [CmdSt.place, hw]
  · rw [ht]
    rfl
  · exact ((hk.mono (by simp)).wr F.I3C_LEN_MRL 0x100 0 0 (by decide)).wr F.I3C_LEN_MWL 0x100 0 0 (by decide)

/-- The state with the action of RSTACT used up. -/
def State.rstactUsed (s : State) : State := { s with cmd := { s.cmd with rstact := 0 } }

theorem State.rstactUsed_none (h : s.cmd.rstact = 0) : s.rstactUsed = s := by
  unfold State.rstactUsed
  rw [← h]

theorem State.resetPattern_none (hb : s.onBus = true) (h : s.cmd.rstact = 0) : s.resetPattern = s := by
  unfold State.resetPattern
  rw [if_neg (by simp [hb]), h]
  exact State.rstactUsed_none h

theorem State.resetPattern_target (hb : s.onBus = true) (h : s.cmd.rstact = 1) : s.resetPattern = s.rstactUsed.targetReset := by
  unfold State.resetPattern
  rw [if_neg (by simp [hb]), h]
  rfl

theorem State.resetPattern_device (hb : s.onBus = true) (h : s.cmd.rstact = 2) :
    s.resetPattern = (s.rstactUsed.inReset 2 false).release := by
  unfold State.resetPattern
  rw [if_neg (by simp [hb]), h]
  rfl

/-- The device out of a reset. -/
theorem State.inReset_release (s : State) (cause : Nat) (cold : Bool) {t : State} (ht : t = (s.inReset cause cold).release) :
    t.boot.stage = 0 ∧ t.boot.cause = cause ∧ t.mem = [] ∧ t.running = false ∧ t.fuse = s.fuseCut ∧ t.cmd = CmdSt.fresh := by
  obtain ⟨u, hu⟩ : ∃ u, u = s.inReset cause cold := ⟨_, rfl⟩
  have hrun : u.running = false := hu ▸ s.inReset_running cause cold
  have hself : u.boot.stage = 0 ∧ u.boot.cause = cause ∧ u.mem = [] ∧ u.fuse = s.fuseCut ∧ u.cmd = CmdSt.fresh := by
    rw [hu]
    exact ⟨rfl, rfl, rfl, rfl, rfl⟩
  obtain ⟨hf, hk⟩ := u.release_frame
  rw [← hu] at ht
  rw [← ht] at hf hk
  have hrun' : t.running = false := by
    rw [← hrun]
    exact State.on_of_rd (hk F.CHIP_CTRL_RUN_EN 0 0 (by decide))
  obtain ⟨h1, h2, h3, h4, h5⟩ := hself
  refine ⟨?_, ?_, ?_, hrun', ?_, ?_⟩ <;> rw [hf] <;> assumption

end

theorem getLsbD_seven (b : Byte) : b.getLsbD 7 = decide (0x80 ≤ b.toNat) := by
  exact (BitVec.msb_eq_getLsbD_last b).symm.trans (BitVec.msb_eq_decide b)

/-- Off the SDR bus no common command acts. -/
theorem common_off {s : State} (hs : s.sdr = false) : ∀ c ∈ [Instr.enec true, .disec true, .rstdaa, .enthdr0, .setdasa 1, .getmwl, .getmrl,
    .getpid, .getbcr, .getdcr, .getstatus, .getmxds, .cccUnsupported 0x95], exec c s = .next s := by
  have hget (bs : List Byte) : (.next (s.getCcc bs) : Host.Outcome State Fault Refusal) = .next s := congrArg _ (State.getCcc_off hs bs)
  have hif {c : Bool} {t : State} (h : c = false) : (.next (if c then t else s) : Host.Outcome State Fault Refusal) = .next s :=
    congrArg _ (if_neg (by simp [h]))
  intro c hc
  simp only [List.mem_cons, List.not_mem_nil, or_false] at hc
  rcases hc with rfl | rfl | rfl | rfl | rfl | rfl | rfl | rfl | rfl | rfl | rfl | rfl | rfl
  · exact hif (by simp [hs])
  · exact hif (by simp [hs])
  · exact hif hs
  · exact hif hs
  · exact hif hs
  · exact hget _
  · exact hget _
  · exact hget _
  · exact hget _
  · exact hget _
  · exact (congrArg _ (if_neg (by simp [hs]))).trans (hget _)
  · exact hget _
  · exact hif (by simp [hs])

/-- Settles O49: each common command writes its field or drives its bytes on an SDR bus, and the reset pattern does what
RSTACT noted. -/
theorem commonCommandsActAndAnswer : Obligations.CommonCommandsActAndAnswer := by
  unfold Obligations.CommonCommandsActAndAnswer
  intro s
  refine ⟨fun hs => ⟨?_, ?_, ?_, ?_, ?_, fun a => ?_, fun a => ?_, fun a => ?_,
    fun n => ⟨fun h => ?_, fun h1 h2 => ?_, fun b h => ?_, fun h1 h2 => ?_⟩, fun b => ⟨fun h => ?_, fun h => ?_⟩,
    fun b => ⟨fun h => ?_, fun h => ?_⟩, fun ha => ?_⟩, fun hb => ⟨fun h => ?_, fun h hw => ?_, fun h => ?_⟩, common_off⟩
  · refine ⟨_, (exec_enec s true).trans (congrArg _ (if_pos (by simp [hs]))), ?_⟩
    obtain ⟨h1, h2, h3⟩ := State.enec_effect s _ rfl
    exact ⟨h1, h2, State.enec_once hs, h3⟩
  · exact congrArg _ (if_neg (by simp))
  · exact congrArg _ (if_neg (by simp))
  · exact ⟨_, (exec_disec s true).trans (congrArg _ (if_pos (by simp [hs]))), written_one s _ (by decide)⟩
  · refine ⟨_, (exec_rstdaa s).trans (congrArg _ (if_pos hs)), ?_⟩
    obtain ⟨h1, h2, h3⟩ := s.unassign_effect
    exact ⟨h1, h2, rfl, h3⟩
  · exact (exec_entdaa s a false).trans (congrArg _ ((if_pos hs).trans (if_neg (by simp))))
  · refine ⟨_, (exec_entdaa s a true).trans (congrArg _ ((if_pos hs).trans (if_pos rfl))), ?_⟩
    obtain ⟨h1, h2, h3, h4⟩ := (s.busDrive (toBytes 6 s.pid ++ [0x27, 0x00])).assign_effect a
    exact ⟨h1, h2, h3, h4⟩
  · refine ⟨_, (exec_setdasa s a).trans (congrArg _ (if_pos hs)), ?_⟩
    obtain ⟨h1, h2, -, h4⟩ := s.assign_effect a
    exact ⟨h1, h2, h4⟩
  · exact (exec_setmwl s n).trans (congrArg _ (if_neg (by simp; omega)))
  · exact ⟨_, (exec_setmwl s n).trans (congrArg _ (if_pos (by simp [hs, h1, h2]))),
      written_one s F.I3C_LEN_MWL (h2.trans_lt (by decide))⟩
  · refine (exec_setmrl s n b).trans (congrArg _ (if_neg ?_))
    simp only [Bool.and_eq_true, decide_eq_true_eq, beq_iff_eq]
    rintro ⟨⟨⟨-, hlo⟩, hhi⟩, hone⟩
    rcases h with h | h | h
    · omega
    · omega
    · exact h hone
  · exact ⟨_, (exec_setmrl s n 1).trans (congrArg _ (if_pos (by simp [hs, h1, h2]))),
      written_one s F.I3C_LEN_MRL (h2.trans_lt (by decide))⟩
  · exact (exec_rstact s b).trans (congrArg _ (if_pos (by simp [hs, h])))
  · exact (exec_rstact s b).trans (congrArg _ (if_neg (by simp; omega)))
  · exact (exec_cccUnsupported s b).trans (congrArg _ (if_pos (by rw [hs, getLsbD_seven]; simpa using h)))
  · exact (exec_cccUnsupported s b).trans (congrArg _ (if_neg (by rw [hs, getLsbD_seven]; simpa using h)))
  · have hget (bs : List Byte) : (.next (s.getCcc bs) : Host.Outcome State Fault Refusal) = .next (s.busDrive bs) :=
      congrArg _ (State.getCcc_on hs ha bs)
    refine ⟨hget _, hget _, hget _, hget _, hget _, hget _, ?_⟩
    refine (exec_getstatus s).trans (congrArg _ ((if_pos (by simp [hs, State.addressed_of_sdr hs ha])).trans ?_))
    rw [State.getCcc_on hs ha]
    rfl
  · exact (exec_targetResetPattern s).trans (congrArg _ (State.resetPattern_none hb h))
  · refine ⟨_, (exec_targetResetPattern s).trans (congrArg _ (State.resetPattern_target hb h)), ?_⟩
    exact State.targetReset_effect (s := s.rstactUsed) hw rfl
  · refine ⟨_, (exec_targetResetPattern s).trans (congrArg _ (State.resetPattern_device hb h)), ?_⟩
    exact State.inReset_release s.rstactUsed 2 false rfl

end Sys2Proof.Machine
end

section
/-! What a reset keeps of the registers (16_power_clocks_thermal.md R433, R437, R444, 17_security.md R459). -/
namespace Sys2Proof.Machine

namespace Sparse
variable {K V : Type} [DecidableEq K]

/-- No key above `k` stands before the first entry of `k`, so that `put` never hides that entry. -/
def Clear (lt : K → K → Bool) (k : K) : List (K × V) → Prop
  | [] => True
  | e :: t => e.1 = k ∨ (lt k e.1 = true ∧ ∀ x ∈ t, x.1 ≠ k) ∨ (lt k e.1 = false ∧ Clear lt k t)

omit [DecidableEq K] in
theorem clear_of_not_mem {lt : K → K → Bool} {k : K} : ∀ m : List (K × V), (∀ e ∈ m, e.1 ≠ k) → Clear lt k m
  | [], _ => trivial
  | e :: t, h => by
    have ht : ∀ x ∈ t, x.1 ≠ k := fun x hx => h x (List.mem_cons_of_mem _ hx)
    cases hlt : lt k e.1
    · exact Or.inr (Or.inr ⟨hlt, clear_of_not_mem t ht⟩)
    · exact Or.inr (Or.inl ⟨hlt, ht⟩)

omit [DecidableEq K] in
theorem not_mem_put {lt : K → K → Bool} {k j : K} {v : V} (hj : j ≠ k) : ∀ m : List (K × V), (∀ e ∈ m, e.1 ≠ k) →
    ∀ e ∈ put lt m j v, e.1 ≠ k
  | [], _, e, he => by
    obtain rfl := List.mem_singleton.mp he
    exact hj
  | x :: t, h, e, he => by
    unfold put at he
    split at he
    · rcases List.mem_cons.mp he with rfl | he
      · exact hj
      · exact h e he
    · rcases List.mem_cons.mp he with rfl | he
      · exact h e List.mem_cons_self
      · exact not_mem_put hj t (fun y hy => h y (List.mem_cons_of_mem _ hy)) e he

section
variable {lt : K → K → Bool} (hirr : ∀ a, lt a a = false) (htr : ∀ a b c, lt a b = true → lt b c = true → lt a c = true)
include hirr htr

theorem clear_put {k j : K} {v : V} : ∀ m : List (K × V), Clear lt k m → Clear lt k (put lt m j v)
  | [], _ => by
    by_cases hj : j = k
    · exact Or.inl hj
    · exact clear_of_not_mem _ fun e he => by rw [List.mem_singleton.mp he]; exact hj
  | e :: t, h => by
    unfold put
    split
    next hje =>
      by_cases hj : j = k
      · exact Or.inl hj
      · cases hkj : lt k j
        · exact Or.inr (Or.inr ⟨hkj, h⟩)
        · have hke := htr k j e.1 hkj hje
          have hne : e.1 ≠ k := fun he => by rw [he, hirr] at hke; exact absurd hke (by decide)
          rcases h with h | ⟨-, h⟩ | ⟨h, -⟩
          · exact absurd h hne
          · exact Or.inr (Or.inl ⟨hkj, fun x hx => (List.mem_cons.mp hx).elim (fun hx => hx ▸ hne) (h x)⟩)
          · exact absurd hke (by rw [h]; decide)
    next hje =>
      rcases h with h | ⟨hke, h⟩ | ⟨hke, h⟩
      · exact Or.inl h
      · refine Or.inr (Or.inl ⟨hke, not_mem_put (fun hj => hje (by rw [hj]; exact hke)) t h⟩)
      · exact Or.inr (Or.inr ⟨hke, clear_put t h⟩)

omit htr in
theorem get_put_clear {k : K} {v d : V} : ∀ m : List (K × V), Clear lt k m → get (put lt m k v) k d = get m k v
  | [], _ => if_pos rfl
  | e :: t, h => by
    unfold put
    split
    next hke =>
      have hne : e.1 ≠ k := fun he => by rw [he, hirr] at hke; exact absurd hke (by decide)
      have hgone : ∀ x ∈ e :: t, x.1 ≠ k := by
        rcases h with h | ⟨-, h⟩ | ⟨h, -⟩
        · exact absurd h hne
        · exact fun x hx => (List.mem_cons.mp hx).elim (fun hx => hx ▸ hne) (h x)
        · exact absurd hke (by rw [h]; decide)
      exact (if_pos rfl).trans (get_of_not_mem k v _ hgone).symm
    next hke =>
      unfold get
      split
      · rfl
      next hne =>
        rcases h with h | ⟨h, -⟩ | ⟨-, h⟩
        · exact absurd h hne
        · exact absurd h hke
        · exact get_put_clear t h

/-- Entries put one by one under a clear key read as in their own list. -/
theorem get_foldl_put {k : K} {d : V} : ∀ (es m : List (K × V)), Clear lt k m →
    get (es.foldl (fun m e => put lt m e.1 e.2) m) k d = get m k (get es k d)
  | [], _, _ => rfl
  | e :: es, m, h => by
    rw [List.foldl_cons, get_foldl_put es _ (clear_put hirr htr m h)]
    by_cases hk : e.1 = k
    · rw [hk, get_put_clear hirr m h]
      exact congrArg _ (if_pos hk).symm
    · rw [get_put_ne lt m _ _ (Ne.symm hk)]
      exact congrArg _ (if_neg hk).symm

end

/-- A filter that lets a key through does not change what it reads. -/
theorem get_filter {k : K} {d : V} (p : K × V → Bool) (hp : ∀ v, p (k, v) = true) : ∀ m : List (K × V),
    get (m.filter p) k d = get m k d
  | [] => rfl
  | e :: t => by
    by_cases hk : e.1 = k
    · have hpe : p e = true := by rw [show e = (k, e.2) from by rw [← hk]]; exact hp e.2
      rw [List.filter_cons_of_pos hpe]
      exact (if_pos hk).trans (if_pos hk).symm
    · cases hpe : p e
      · rw [List.filter_cons_of_neg (by simp [hpe]), get_filter p hp t]
        exact (if_neg hk).symm
      · rw [List.filter_cons_of_pos hpe]
        exact ((if_neg hk).trans (get_filter p hp t)).trans (if_neg hk).symm

end Sparse

theorem Key.lt_irrefl (k : Key) : k.lt k = false := by simp [Key.lt]

theorem Key.lt_iff (a b : Key) : a.lt b = true ↔
    a.r < b.r ∨ a.r = b.r ∧ (a.lo < b.lo ∨ a.lo = b.lo ∧ (a.u < b.u ∨ a.u = b.u ∧ a.i < b.i)) := by
  unfold Key.lt
  split
  · simp only [decide_eq_true_eq]
    omega
  · split
    · simp only [decide_eq_true_eq]
      omega
    · split
      · simp only [decide_eq_true_eq]
        omega
      · simp only [decide_eq_true_eq]
        omega

theorem Key.lt_trans (a b c : Key) : a.lt b = true → b.lt c = true → a.lt c = true := by
  simp only [Key.lt_iff]
  omega

/-- A register that survives, and is none of those that reset computes, reads as before. -/
theorem State.inReset_rd_survives (s : State) (cause : Nat) (cold : Bool) (f : Fld) (u i : Nat)
    (hs : survives cold (f.key u i) = true)
    (hf : f.reg.num ∉ [Reg.num .SPARE_DEFECT_CORE, Reg.num .SPARE_DEFECT_RTR, Reg.num .OWL_REACT, Reg.num .KILN_CAP]) :
    (s.inReset cause cold).rd f u i = s.rd f u i := by
  have hout : ∀ e ∈ resetRegs s.fuse, e.1 ≠ f.key u i := fun e he hk => hf (by
    have := resetRegs_num s.fuse e he
    rw [hk] at this
    exact this)
  refine (Sparse.get_foldl_put Key.lt_irrefl Key.lt_trans _ _ (Sparse.clear_of_not_mem _ hout)).trans ?_
  rw [Sparse.get_of_not_mem _ _ _ hout]
  exact Sparse.get_filter _ (fun _ => hs) s.regs

end Sys2Proof.Machine
end

section
/-! Power-good, the resets of the device and the boot stages (14_bringup_loading_spares.md R372 to R376). -/
namespace Sys2Proof.Machine

section
variable (s : State)
theorem exec_powerGood (r : BitVec 7) : exec (.powerGood r) s = .next (s.powerGood r) := rfl
theorem exec_resetNLow : exec .resetNLow s = .next s.resetLow := rfl
theorem exec_railOutOfRange (r : Nat) : exec (.railOutOfRange r) s = .next (s.railOut r) := rfl
theorem exec_clockLoss : exec .clockLoss s = .next s.clockLoss := rfl
theorem exec_referenceReturn : exec .referenceReturn s = .next s.refBack := rfl
theorem exec_thermalOff : exec .thermalOff s = .next s.thermalOff := rfl
theorem exec_wakeRise : exec .wakeRise s = .next s.wakeUp := rfl
theorem exec_bootStageEnd (r : StageResult) : exec (.bootStageEnd r) s = .next (s.stageEnd r) := rfl
end

/-- A device held in reset that came out of the state `s`. -/
def State.HeldFrom (s t : State) : Prop :=
  t.boot.up = false ∧ t.boot.stage = 0 ∧ t.running = false ∧ t.mem = [] ∧ t.pins.fenceOut = true ∧ t.pins.hbOut = false ∧
    t.pins.syncOut = false ∧ t.pins.faultN = true ∧ t.fuse = s.fuseCut ∧ t.pending = s.pending ∧ t.boot.flash = s.boot.flash

theorem State.inReset_heldFrom (s : State) (cause : Nat) (cold : Bool) : s.HeldFrom (s.inReset cause cold) :=
  ⟨rfl, rfl, s.inReset_running cause cold, rfl, rfl, rfl, rfl, rfl, rfl, rfl, rfl⟩

/-- The rails and RESET_N are inputs, and the causes that hold the device are no outputs. -/
theorem State.HeldFrom.of_frame {s t u : State} (h : s.HeldFrom t) (n : Bool) (r : BitVec 7)
    (hu : u = { t with regs := u.regs, pins := { t.pins with resetN := n, rails := r }, kiln := u.kiln })
    (hr : u.running = t.running) : s.HeldFrom u := by
  obtain ⟨h1, h2, h3, h4, h5, h6, h7, h8, h9, h10, h11⟩ := h
  refine ⟨?_, ?_, hr.trans h3, ?_, ?_, ?_, ?_, ?_, ?_, ?_, ?_⟩
  all_goals rw [hu]
  all_goals assumption

/-- What RESET_N low leaves. -/
theorem State.resetLow_effect (s : State) (h : s.kiln.offState = false) :
    s.HeldFrom s.resetLow ∧ s.resetLow.pins.resetN = false ∧ s.resetLow.boot.cause = 1 := by
  unfold State.resetLow
  rw [if_neg (by simp [h])]
  exact ⟨(s.inReset_heldFrom 1 false).of_frame false _ rfl rfl, rfl, rfl⟩

/-- The fuse data that a program cut off reads is no register that a lost VDD_AON takes. -/
theorem State.fuseCut_of_progData {s t : State} (hf : t.fuse = s.fuse) (hs : t.sec = s.sec) (hfree : t.free = s.free)
    (hd : t.progData = s.progData) : t.fuseCut = s.fuseCut := by
  unfold State.fuseCut
  rw [hs]
  split
  · unfold State.blowPart
    rw [hf, hfree, hd]
  · exact hf

theorem State.progData_filter (s : State) (p : Key × Nat → Bool) (hp : ∀ i v, p (F.SEC_PROG_DATA_DATA.key 0 i, v) = true) :
    State.progData { s with regs := s.regs.filter p } = s.progData := by
  have hrd (i : Nat) : State.rd { s with regs := s.regs.filter p } F.SEC_PROG_DATA_DATA 0 i = s.rd F.SEC_PROG_DATA_DATA 0 i :=
    Sparse.get_filter p (hp i) s.regs
  unfold State.progData
  simp only [hrd]

/-- The state without the registers that VDD_AON supplies, where that rail is the one that falls. -/
def State.railLost (s : State) (r : Nat) : State :=
  if r = 2 then { s with regs := s.regs.filter (fun e => !survives true e.1) } else s

theorem State.railLost_heldFrom {s : State} {r : Nat} {t : State} (h : (s.railLost r).HeldFrom t) : s.HeldFrom t := by
  unfold State.railLost at h
  split at h
  · obtain ⟨h1, h2, h3, h4, h5, h6, h7, h8, h9, h10, h11⟩ := h
    exact ⟨h1, h2, h3, h4, h5, h6, h7, h8,
      h9.trans (State.fuseCut_of_progData rfl rfl rfl (s.progData_filter _ fun _ _ => rfl)), h10, h11⟩
  · exact h

theorem State.railOut_of_lt (s : State) {r : Nat} (hr : r < 7) (h : s.kiln.offState = false) : s.railOut r =
    { (s.railLost r).inReset 0 true with
      pins := { ((s.railLost r).inReset 0 true).pins with rails := s.pins.rails &&& ~~~(1#7 <<< r) } } := by
  unfold State.railOut
  rw [if_neg (by omega), if_neg (by simp [h])]
  rfl

theorem rails_without (p : BitVec 7) {r : Nat} (hr : r < 7) : (p &&& ~~~(1#7 <<< r)).getLsbD r = false := by
  interval_cases r <;> simp

theorem State.railOut_effect (s : State) {r : Nat} (hr : r < 7) (h : s.kiln.offState = false) :
    s.HeldFrom (s.railOut r) ∧ (s.railOut r).pins.rails.getLsbD r = false := by
  rw [s.railOut_of_lt hr h]
  exact ⟨State.railLost_heldFrom (((s.railLost r).inReset_heldFrom 0 true).of_frame _ _ rfl rfl), rails_without _ hr⟩

theorem State.clockLoss_effect (s : State) (h : s.kiln.offState = false) : s.HeldFrom s.clockLoss ∧
    s.clockLoss.kiln.clockLost = true ∧ s.clockLoss.rd F.CLK_STAT_CLK_RESET = 1 := by
  unfold State.clockLoss
  rw [if_neg (by simp [h])]
  refine ⟨(s.inReset_heldFrom 0 true).of_frame _ _ rfl (State.on_of_rd ?_), rfl, ?_⟩
  · exact State.rd_wr_apart (f := F.CLK_STAT_CLK_RESET) (g := F.CHIP_CTRL_RUN_EN) (s.inReset 0 true) 1 0 0 0 0 (by decide)
  · exact State.rd_wr_of_lt (s.inReset 0 true) F.CLK_STAT_CLK_RESET (v := 1) 0 0 (by decide)

theorem State.thermalOff_effect (s : State) (h : s.kiln.tripped = true) : s.HeldFrom s.thermalOff ∧
    s.thermalOff.kiln.offState = true ∧ s.thermalOff.rd F.KILN_OFF_CAUSE_TRIP = s.rd F.KILN_OFF_CAUSE_TRIP := by
  unfold State.thermalOff
  rw [if_neg (by simp [h])]
  exact ⟨(s.inReset_heldFrom 4 true).of_frame _ _ rfl rfl, rfl,
    s.inReset_rd_survives 4 true F.KILN_OFF_CAUSE_TRIP 0 0 (by decide) (by decide)⟩

/-- Nothing holds the device in reset. -/
theorem State.release_here {s : State} (hr : s.pins.rails = 0x7F) (hn : s.pins.resetN = true) (hc : s.kiln.clockLost = false)
    (ho : s.kiln.offState = false) : s.release = { s.wr F.CLK_STAT_REF_OK 1 with
      boot := { s.boot with up := true }, pins := { s.pins with fenceOut := false } } := by
  unfold State.release
  rw [if_pos (by simp [hr, hn, hc, ho])]
  rfl

/-- The restart out of OFF. -/
theorem State.restart (s : State) (hr : s.pins.rails = 0x7F) (hn : s.pins.resetN = true) :
    (s.inReset 4 true).release.boot.up = true ∧ (s.inReset 4 true).release.boot.stage = 0 ∧
      (s.inReset 4 true).release.boot.cause = 4 ∧ (s.inReset 4 true).release.pins.wake = s.pins.wake := by
  have hin : (s.inReset 4 true).pins.rails = 0x7F ∧ (s.inReset 4 true).pins.resetN = true := ⟨hr, hn⟩
  rw [State.release_here hin.1 hin.2 rfl rfl]
  exact ⟨rfl, rfl, rfl, rfl⟩

theorem State.release_held {s : State} (h : s.pins.rails ≠ 0x7F) : s.release = s := if_neg fun hc => h hc.1

section
variable (s : State) (k : Nat) (r : Report)

/-- The word of a report: its four fields in copy `i`. -/
def State.reportWord (a b c d : Fld) (i : Nat) : State := (((s.wr a k 0 i).wr b r.result 0 i).wr c r.detail 0 i).wr d r.data 0 i

theorem State.reportWord_rd_stage {a b c d : Fld} (i : Nat) (hb : a.apart b = true) (hc : a.apart c = true) (hd : a.apart d = true) :
    (s.reportWord k r a b c d i).rd a 0 i = k % 2 ^ a.width := by
  unfold State.reportWord
  rw [State.rd_wr_apart _ _ _ _ _ _ hd, State.rd_wr_apart _ _ _ _ _ _ hc, State.rd_wr_apart _ _ _ _ _ _ hb, State.rd_wr_self]

theorem State.reportWord_rd_result {a b c d : Fld} (i : Nat) (hc : b.apart c = true) (hd : b.apart d = true) :
    (s.reportWord k r a b c d i).rd b 0 i = r.result % 2 ^ b.width := by
  unfold State.reportWord
  rw [State.rd_wr_apart _ _ _ _ _ _ hd, State.rd_wr_apart _ _ _ _ _ _ hc, State.rd_wr_self]

theorem State.reportWord_rd_apart {a b c d f : Fld} (i u j : Nat) (ha : f.apart a = true) (hb : f.apart b = true)
    (hc : f.apart c = true) (hd : f.apart d = true) : (s.reportWord k r a b c d i).rd f u j = s.rd f u j := by
  unfold State.reportWord
  rw [State.rd_wr_apart _ _ _ _ _ _ hd, State.rd_wr_apart _ _ _ _ _ _ hc, State.rd_wr_apart _ _ _ _ _ _ hb,
    State.rd_wr_apart _ _ _ _ _ _ ha]

/-- The report's word in BOOT_REPORT. -/
def State.reported : State := s.reportWord k r F.BOOT_REPORT_STAGE F.BOOT_REPORT_RESULT F.BOOT_REPORT_DETAIL F.BOOT_REPORT_DATA 0

theorem State.bootReport_rd (f : Fld) (u i : Nat) : (s.bootReport k r).rd f u i =
    ((s.reported k r).reportWord k r F.BOOT_LOG_STAGE F.BOOT_LOG_RESULT F.BOOT_LOG_DETAIL F.BOOT_LOG_DATA k).rd f u i := rfl

/-- The stage and the result in the report and in the log. -/
theorem State.bootReport_word (hk : k ≤ 8) : (s.bootReport k r).rd F.BOOT_REPORT_STAGE = k ∧
    (s.bootReport k r).rd F.BOOT_REPORT_RESULT = r.result % 4 ∧ (s.bootReport k r).rd F.BOOT_LOG_STAGE 0 k = k ∧
    (s.bootReport k r).rd F.BOOT_LOG_RESULT 0 k = r.result % 4 := by
  have hmod : k % 2 ^ 4 = k := Nat.mod_eq_of_lt (by omega)
  simp only [State.bootReport_rd]
  refine ⟨?_, ?_, ?_, ?_⟩
  · rw [State.reportWord_rd_apart _ _ _ _ _ _ (by decide) (by decide) (by decide) (by decide)]
    exact (State.reportWord_rd_stage s k r 0 (by decide) (by decide) (by decide)).trans hmod
  · rw [State.reportWord_rd_apart _ _ _ _ _ _ (by decide) (by decide) (by decide) (by decide)]
    exact State.reportWord_rd_result s k r 0 (by decide) (by decide)
  · exact (State.reportWord_rd_stage _ k r k (by decide) (by decide) (by decide)).trans hmod
  · exact State.reportWord_rd_result _ k r k (by decide) (by decide)

/-- Fields beside the report and the log. -/
theorem State.bootReport_rd_apart {f : Fld} (u i : Nat)
    (h : f.reg.num ≠ Reg.num .BOOT_REPORT ∧ f.reg.num ≠ Reg.num .BOOT_LOG) : (s.bootReport k r).rd f u i = s.rd f u i := by
  have hrep {g : Fld} (hg : g.reg = .BOOT_REPORT) : f.apart g = true := by simp [Fld.apart, hg, h.1]
  have hlog {g : Fld} (hg : g.reg = .BOOT_LOG) : f.apart g = true := by simp [Fld.apart, hg, h.2]
  rw [State.bootReport_rd, State.reportWord_rd_apart _ _ _ _ _ _ (hlog rfl) (hlog rfl) (hlog rfl) (hlog rfl)]
  exact State.reportWord_rd_apart s k r 0 u i (hrep rfl) (hrep rfl) (hrep rfl) (hrep rfl)

end

/-- The stage that runs and the flag that the boot has stopped are the same. -/
def SameStage (s t : State) : Prop := t.boot.stage = s.boot.stage ∧ t.boot.stopped = s.boot.stopped

namespace SameStage

theorem of_boot {s t : State} (h : t.boot = s.boot) : SameStage s t := ⟨by rw [h], by rw [h]⟩

theorem trans {s t u : State} (h : SameStage s t) (h' : SameStage t u) : SameStage s u :=
  ⟨h'.1.trans h.1, h'.2.trans h.2⟩

theorem foldl {α : Type} {f : State → α → State} (hf : ∀ s x, SameStage s (f s x)) (xs : List α) (s : State) :
    SameStage s (xs.foldl f s) := by
  induction xs generalizing s with
  | nil => exact ⟨rfl, rfl⟩
  | cons x xs ih => exact (hf s x).trans (ih (f s x))

theorem wr (s : State) (f : Fld) (v u i : Nat) : SameStage s (s.wr f v u i) := ⟨rfl, rfl⟩

theorem bootReport (s : State) (k : Nat) (r : Report) : SameStage s (s.bootReport k r) := ⟨rfl, rfl⟩

theorem stage1 (s : State) (r : StageResult) : SameStage s (s.stage1 r).1 := by
  have hid : SameStage s (s.wrB F.PAIR_STAT_ROLE s.pins.roleStrap).deriveId := by
    refine (wr s F.PAIR_STAT_ROLE _ 0 0).trans (foldl ?_ _ _)
    exact fun _ _ => wr ..
  unfold State.stage1
  split
  · exact hid
  · split
    · exact hid
    · split
      · exact hid.trans (wr ..)
      · split
        · exact ((hid.trans (wr ..)).trans (wr ..)).trans (wr ..)
        · exact hid

theorem startFw (s : State) (img : List Byte) : SameStage s (s.startFw img) := by
  have hmeas : SameStage s ((List.range 8).foldl (fun s i => s.wr F.SEC_FW_MEAS_MEAS (wordAt (fwOf img).meas i) 0 i) s) := by
    refine foldl ?_ _ _
    exact fun _ _ => wr ..
  exact hmeas.trans ⟨rfl, rfl⟩

theorem stage2 (s : State) (r : StageResult) : SameStage s (s.stage2 r).1 := by
  unfold State.stage2
  extract_lets spare s0 src s1
  have h1 : SameStage s s1 := ⟨rfl, rfl⟩
  split
  · exact h1
  · split
    · exact ⟨rfl, rfl⟩
    · split
      next k img _ =>
        have hfw := h1.trans (startFw s1 img)
        generalize s1.startFw img = u at hfw
        exact hfw.trans ⟨rfl, rfl⟩
      · exact h1.trans ⟨rfl, rfl⟩

theorem stage3 (s : State) (r : StageResult) : SameStage s (s.stage3 r).1 := by
  have h : SameStage s ((r.defectCores.dedup.filter s.tileOn).foldl (fun s p => s.markDefect p) s) := by
    refine foldl ?_ _ _
    exact fun _ _ => wr ..
  exact h.trans ⟨rfl, rfl⟩

theorem buildEngine {s : State} {e : Nat} {x : State × List (Nat × Nat)} (h : s.buildEngine e = some x) : SameStage s x.1 := by
  unfold State.buildEngine at h
  extract_lets cols t spares at h
  have ht : SameStage s t := by
    unfold t
    cases cols with
    | nil => exact ⟨rfl, rfl⟩
    | cons c cs => exact ⟨rfl, rfl⟩
  split at h
  · exact absurd h (by simp)
  · obtain ⟨y, -, rfl⟩ := Option.map_eq_some_iff.mp h
    exact ht

theorem buildAll {s : State} {x : State × List (Nat × Nat)} (h : s.buildAll = some x) : SameStage s x.1 := by
  suffices hall : ∀ (es : List Nat) (acc : Option (State × List (Nat × Nat))), (∀ y, acc = some y → SameStage s y.1) →
      ∀ x, es.foldl (fun acc e => match acc with
        | none => none
        | some (t, ms) => (t.buildEngine e).map (fun x => (x.1, ms ++ x.2))) acc = some x → SameStage s x.1 from
    hall s.engines _ (fun y hy => by rw [← Option.some.inj hy]; exact ⟨rfl, rfl⟩) x h
  intro es
  induction es with
  | nil => exact fun acc hacc => hacc
  | cons e es ih =>
    intro acc hacc
    refine ih _ fun y hy => ?_
    cases acc with
    | none => exact absurd hy (by simp)
    | some a =>
      obtain ⟨z, hz, hy⟩ := Option.map_eq_some_iff.mp hy
      have hkeep := (hacc a rfl).trans (buildEngine hz)
      rw [← hy]
      exact hkeep

theorem moveMap (s : State) (ms : List (Nat × Nat)) : SameStage s (s.moveMap ms) := by
  refine foldl (fun t e => ?_) _ _
  have hset : SameStage t (ms.foldl (fun s m => s.mapShadow e m.1 m.2) t) := by
    refine foldl ?_ _ _
    exact fun _ _ => ⟨rfl, rfl⟩
  exact hset.trans ⟨rfl, rfl⟩

theorem computeFloor (s : State) : SameStage s s.computeFloor := ⟨rfl, rfl⟩

theorem stage5 (s : State) : SameStage s s.stage5.1 := by
  unfold State.stage5
  extract_lets detail
  split
  · exact ⟨rfl, rfl⟩
  next t ms h =>
    have hstat : SameStage (t.moveMap ms) ((t.moveMap ms).engines.foldl (fun s e => s.spareStat e) (t.moveMap ms)) := by
      refine foldl ?_ _ _
      exact fun _ _ => ⟨rfl, rfl⟩
    exact (((buildAll h).trans (moveMap t ms)).trans hstat).trans (computeFloor _)

theorem g6Retire (s : State) (g p a : Nat) : SameStage s (s.g6Retire g p a) := by
  unfold State.g6Retire
  split
  · exact ⟨rfl, rfl⟩
  · split
    · exact ⟨rfl, rfl⟩
    · exact ⟨rfl, rfl⟩
    · split
      · exact ⟨rfl, rfl⟩
      · exact ⟨rfl, rfl⟩

theorem stage6Group (s : State) (r : StageResult) (board : List Byte) (g : Nat) : SameStage s (s.stage6Group r board g) := by
  unfold State.stage6Group
  extract_lets t u v
  split
  · have hu : SameStage s u := ⟨rfl, rfl⟩
    have hv : SameStage u v := by
      refine foldl ?_ _ _
      exact fun _ _ => wr ..
    refine (hu.trans hv).trans (foldl (fun x p => ?_) _ _)
    exact g6Retire { x with free := x.free + 1 } g p.2 (Config.freeNat x.free)
  · exact ⟨rfl, rfl⟩

theorem rxTrain (s : State) (p : Nat) (ok : BitVec 4) : SameStage s (s.rxTrain p ok) := by
  unfold State.rxTrain
  extract_lets t
  split
  · exact ⟨rfl, rfl⟩
  · exact ⟨rfl, rfl⟩

theorem stageWork (s : State) (k : Nat) (r : StageResult) : SameStage s (s.stageWork k r).1 := by
  unfold State.stageWork
  split
  · exact ⟨rfl, rfl⟩
  · exact stage1 s r
  · exact stage2 s r
  · exact stage3 s r
  · exact ⟨rfl, rfl⟩
  · exact stage5 s
  · exact foldl (fun s g => stage6Group s r _ g) _ _
  · exact (foldl (fun t p => rxTrain t p (r.rxLanes.getD p 0)) _ s).trans (wr ..)
  · exact ⟨rfl, rfl⟩

end SameStage

section
variable (s : State) (r : StageResult)

theorem State.booting_iff : s.booting = true ↔ s.boot.up = true ∧ s.boot.stopped = false ∧ s.boot.waiting = false ∧ s.boot.stage ≤ 8 := by
  unfold State.booting
  simp [and_assoc]

/-- What follows a stage's report. -/
def State.afterReport (t : State) (k result : Nat) : State :=
  if result = 2 then State.faultPin { t with boot := { t.boot with stopped := true } }
  else if result = 3 then t
  else { t with boot := { t.boot with stage := k + 1 } }

theorem State.stageEnd_of_booting (hb : s.booting = true) : s.stageEnd r =
    (((s.stageWork s.boot.stage r).1.bootReport s.boot.stage (s.stageWork s.boot.stage r).2)).afterReport s.boot.stage
      (s.stageWork s.boot.stage r).2.result := by
  unfold State.stageEnd
  rw [if_neg (by simp [hb])]
  rfl

theorem State.faultPin_stopped (t : State) (h : t.boot.stopped = true) : t.faultPin.pins.faultN = false := by
  have hlow : t.faultLow = true := by
    unfold State.faultLow
    rw [h, Bool.or_true]
  exact congrArg not hlow

/-- After the report: the registers stay, and so do the stage and its flag as the result says. -/
theorem State.afterReport_effect {s t u : State} {k x : Nat} (hk : s.boot.stage = k) (hs : s.boot.stopped = false)
    (hst : SameStage s t) (hu : u = t.afterReport k x) : u.regs = t.regs ∧ u.cmd = t.cmd ∧
    (x < 2 → u.boot.stage = k + 1 ∧ u.boot.stopped = false) ∧
    (x = 2 → u.boot.stage = k ∧ u.boot.stopped = true ∧ u.pins.faultN = false) ∧
    (x = 3 → u.boot.stage = k ∧ u.boot.stopped = false) := by
  obtain ⟨hstage, hstop⟩ := hst
  rw [hu]
  unfold State.afterReport
  split
  next h2 =>
    exact ⟨rfl, rfl, fun h => absurd h (by omega), fun _ => ⟨hstage.trans hk, rfl, State.faultPin_stopped _ rfl⟩,
      fun h => absurd h (by omega)⟩
  next h2 =>
    split
    next h3 =>
      exact ⟨rfl, rfl, fun h => absurd h (by omega), fun h => absurd h h2, fun _ => ⟨hstage.trans hk, hstop.trans hs⟩⟩
    next h3 => exact ⟨rfl, rfl, fun _ => ⟨rfl, hstop.trans hs⟩, fun h => absurd h h2, fun h => absurd h h3⟩

theorem State.stage1_locked (hc : s.fuse.crcOk = true) (hm : s.fuse.consistent = true) (hp : r.pllA = true) :
    s.stage1 r = ((s.wrB F.PAIR_STAT_ROLE s.pins.roleStrap).deriveId.wr F.CLK_STAT_PLL_A_LOCK 1, ⟨0, 0, s.chipId % 2 ^ 32⟩) := by
  unfold State.stage1
  rw [if_neg (by simp [hc]), if_neg (by simp [hm]), if_pos hp]

theorem State.deriveId_rd {f : Fld} (hf : f.apart F.SEC_ID_PUB_KEY = true) (u i : Nat) : s.deriveId.rd f u i = s.rd f u i := by
  unfold State.deriveId
  generalize List.range 4 = xs
  generalize s.idPub = k
  induction xs generalizing s with
  | nil => rfl
  | cons x xs ih => exact (ih (s.wr F.SEC_ID_PUB_KEY (wordAt k x) 0 x)).trans (State.rd_wr_apart s _ _ _ _ _ hf)

theorem State.rd_wrB_self (f : Fld) (b : Bool) (h : f.width = 1) : (s.wrB f b).rd f = b2n b := by
  unfold State.wrB
  rw [State.rd_wr_self, h]
  cases b <;> rfl

end

/-- Settles O50: every reset goes through the device in reset, and a stage's end through its report. -/
theorem resetsAndBootStagesFollowTheirOrder : Obligations.ResetsAndBootStagesFollowTheirOrder := by
  unfold Obligations.ResetsAndBootStagesFollowTheirOrder
  intro s held
  simp only [exec_powerGood, exec_resetNLow, exec_railOutOfRange, exec_clockLoss, exec_referenceReturn, exec_thermalOff,
    exec_wakeRise, exec_bootStageEnd]
  have hheld {t : State} (h : s.HeldFrom t) : held t := h
  refine ⟨fun h r => ?_, fun hup hc ho => ?_, fun r hup hr => ?_, fun ho => ?_, fun r hr ho => ?_, fun r hr => ?_, fun ho => ?_,
    fun hc => ?_, fun hc ho hr hn => ?_, fun h => ?_, fun h => ?_, fun ho hr hn => ?_, fun ho hs => ?_, fun ho hs => ?_,
    fun r hb => ?_, fun r hb hk => ?_, fun r hb hk hc hm hp => ?_⟩
  · exact congrArg _ (if_pos h)
  · have hrel := State.release_here (s := { s with pins := { s.pins with rails := 0x7F, resetN := true } }) rfl rfl hc ho
    refine ⟨_, congrArg _ ((if_neg (by simp [hup])).trans hrel), rfl, ?_, rfl, rfl, ?_⟩
    · exact State.rd_wr_of_lt s F.CLK_STAT_REF_OK (v := 1) 0 0 (by decide)
    · exact (OnlyWrites.refl _ s).wr F.CLK_STAT_REF_OK 1 0 0 (List.mem_singleton_self _)
  · exact ⟨_, congrArg _ ((if_neg (by simp [hup])).trans (State.release_held hr)), hup⟩
  · obtain ⟨h1, h2⟩ := s.resetLow_effect ho
    exact ⟨_, rfl, hheld h1, h2⟩
  · obtain ⟨h1, h2⟩ := s.railOut_effect hr ho
    exact ⟨_, rfl, hheld h1, h2⟩
  · exact congrArg _ (if_pos hr)
  · obtain ⟨h1, h2⟩ := s.clockLoss_effect ho
    exact ⟨_, rfl, hheld h1, h2⟩
  · exact congrArg _ (if_neg (by simp [hc]))
  · have hrel := State.release_here (s := { s with kiln := { s.kiln with clockLost := false } }) hr hn rfl ho
    exact ⟨_, congrArg _ ((if_pos hc).trans hrel), rfl, rfl⟩
  · exact congrArg _ (if_pos (by simp [h]))
  · obtain ⟨h1, h2⟩ := s.thermalOff_effect h
    exact ⟨_, rfl, hheld h1, h2⟩
  · obtain ⟨t, ht⟩ : ∃ t : State, t = { s with pins := { s.pins with wake := true } } := ⟨_, rfl⟩
    obtain ⟨h1, h2, h3, h4⟩ := t.restart (by rw [ht]; exact hr) (by rw [ht]; exact hn)
    refine ⟨_, congrArg _ ((if_pos ho).trans (by rw [← ht])), h1, h2, h3, h4.trans (by rw [ht])⟩
  · exact congrArg _ ((if_neg (by simp [ho])).trans (if_pos hs))
  · exact congrArg _ ((if_neg (by simp [ho])).trans (if_neg (by omega)))
  · exact congrArg _ (if_pos (by simp [hb]))
  · obtain ⟨-, hstop, -⟩ := s.booting_iff.mp hb
    have hst := SameStage.stageWork s s.boot.stage r
    have hdef := s.stageEnd_of_booting r hb
    generalize s.stageWork s.boot.stage r = x at hst hdef ⊢
    obtain ⟨w1, w2, w3, w4⟩ := x.1.bootReport_word s.boot.stage x.2 hk
    obtain ⟨hregs, hcmd, h5⟩ := State.afterReport_effect (t := x.1.bootReport s.boot.stage x.2) rfl hstop (hst.trans (SameStage.bootReport ..)) hdef
    have hrd (f : Fld) (i : Nat) := State.rd_of_regs hregs f 0 i
    exact ⟨_, rfl, (hrd ..).trans w1, (hrd ..).trans w2, (hrd ..).trans w3, (hrd ..).trans w4, by rw [hcmd]; rfl, h5⟩
  · have hdef := s.stageEnd_of_booting r hb
    obtain ⟨-, hstop, -⟩ := s.booting_iff.mp hb
    rw [hk, show s.stageWork 1 r = s.stage1 r from rfl, s.stage1_locked r hc hm hp] at hdef
    obtain ⟨d, hd⟩ : ∃ d, d = (s.wrB F.PAIR_STAT_ROLE s.pins.roleStrap).deriveId := ⟨_, rfl⟩
    have hrole : d.rd F.PAIR_STAT_ROLE = b2n s.pins.roleStrap := by
      rw [hd, State.deriveId_rd _ (by decide), State.rd_wrB_self s _ _ rfl]
    have hst : SameStage s d := by
      have := SameStage.stage1 s r
      rw [s.stage1_locked r hc hm hp, ← hd] at this
      exact this
    rw [← hd] at hdef
    obtain ⟨hregs, -, h5, -⟩ := State.afterReport_effect hk hstop (hst.trans ((SameStage.wr ..).trans (SameStage.bootReport ..))) hdef
    refine ⟨_, rfl, (h5 Nat.zero_lt_two).1, (State.rd_of_regs hregs ..).trans ?_, (State.rd_of_regs hregs ..).trans ?_⟩
    · rw [State.bootReport_rd_apart _ _ _ _ _ (by decide)]
      exact State.rd_wr_of_lt d F.CLK_STAT_PLL_A_LOCK (v := 1) 0 0 (by decide)
    · rw [State.bootReport_rd_apart _ _ _ _ _ (by decide), State.rd_wr_apart _ _ _ _ _ _ (by decide)]
      exact hrole

end Sys2Proof.Machine
end

section
/-! Owl: offers, the status table and the log, reactions, the watchdog and forced messages (15_faults.md R403 to R420). -/
namespace Sys2Proof.Machine

section
variable (s : State)
theorem exec_faultOffer : exec .faultOffer s = .next s.faultOffer := rfl
theorem exec_owlTakeMessage : exec .owlTakeMessage s = .next s.owlTake := rfl
theorem exec_reactionComplete (k : Nat) : exec (.reactionComplete k) s = .next (s.reactionDone k) := rfl
theorem exec_watchdogKick (v : BitVec 32) : exec (.watchdogKick v) s = .next (s.wdogWrite v.toNat) := rfl
theorem exec_watchdogExpired : exec .watchdogExpired s = .next s.watchdog := rfl
theorem exec_owlForceGo (v : BitVec 64) : exec (.owlForceGo v) s = .next (s.owlForce v.toNat) := rfl
end

theorem Msg.before_iff (a b : Msg) : a.before b = true ↔ a.src < b.src ∨ a.src = b.src ∧ a.kind < b.kind := by
  unfold Msg.before
  split
  · simp only [decide_eq_true_eq]
    omega
  · simp only [decide_eq_true_eq]
    omega

/-- The better of a message and the best so far. -/
def Msg.best (o : Option Msg) (m : Msg) : Option Msg :=
  match o with
  | none => some m
  | some b => if m.before b then some m else some b

/-- The first of the staged messages in the order of the chain is one of them, and none comes before it. -/
theorem Msg.foldl_best (ms : List Msg) : ∀ o m, ms.foldl Msg.best o = some m →
    (m ∈ ms ∨ o = some m) ∧ (∀ x ∈ ms, x.before m = false) ∧ ∀ b, o = some b → b.before m = false := by
  induction ms with
  | nil => exact fun o m h => ⟨Or.inr h, by simp, fun b hb => by
      obtain rfl := Option.some.inj (hb.symm.trans h)
      simp [Msg.before]⟩
  | cons a ms ih =>
    intro o m h
    obtain ⟨hmem, hall, hb⟩ := ih _ _ h
    have hnot {x y : Msg} : x.before y = false ↔ y.src < x.src ∨ y.src = x.src ∧ y.kind ≤ x.kind := by
      rw [← Bool.not_eq_true, Msg.before_iff]
      omega
    cases o with
    | none =>
      refine ⟨?_, ?_, by simp⟩
      · rcases hmem with h | h
        · exact Or.inl (List.mem_cons_of_mem _ h)
        · exact Or.inl (Option.some.inj h ▸ List.mem_cons_self)
      · exact List.forall_mem_cons.mpr ⟨hb a rfl, hall⟩
    | some b =>
      by_cases hab : a.before b = true
      · have hbest : Msg.best (some b) a = some a := if_pos hab
        rw [hbest] at hmem hb
        have ha := hb a rfl
        refine ⟨?_, List.forall_mem_cons.mpr ⟨ha, hall⟩, fun c hc => ?_⟩
        · rcases hmem with h | h
          · exact Or.inl (List.mem_cons_of_mem _ h)
          · exact Or.inl (Option.some.inj h ▸ List.mem_cons_self)
        · obtain rfl := Option.some.inj hc
          rw [hnot] at ha ⊢
          rw [Msg.before_iff] at hab
          omega
      · have hbest : Msg.best (some b) a = some b := if_neg hab
        rw [hbest] at hmem hb
        have hbm := hb b rfl
        refine ⟨?_, List.forall_mem_cons.mpr ⟨?_, hall⟩, fun c hc => Option.some.inj hc ▸ hbm⟩
        · rcases hmem with h | h
          · exact Or.inl (List.mem_cons_of_mem _ h)
          · exact Or.inr h
        · rw [Bool.not_eq_true] at hab
          rw [hnot] at hab hbm ⊢
          omega

theorem State.offered_spec {s : State} {m : Msg} (h : s.offered = some m) : m ∈ s.owl.staged ∧
    ∀ x ∈ s.owl.staged, s.sourceOn x.src = true → x.before m = false := by
  have hb : s.offered = (s.owl.staged.filter (fun m => s.sourceOn m.src)).foldl Msg.best none := rfl
  rw [hb] at h
  obtain ⟨hmem, hall, -⟩ := Msg.foldl_best _ _ _ h
  refine ⟨?_, fun x hx hs => hall x (List.mem_filter.mpr ⟨hx, hs⟩)⟩
  rcases hmem with h | h
  · exact (List.mem_filter.mp h).1
  · exact absurd h (by simp)

section
variable (s : State) (m : Msg)

/-- The state without the message that is offered. -/
def State.unstaged : State := { s with owl := { s.owl with staged := dropFirst (fun x => x == m) s.owl.staged } }

theorem State.faultOffer_some {s : State} {m : Msg} (h : s.offered = some m) : s.faultOffer = (s.unstaged m).offer m := by
  unfold State.faultOffer
  rw [h]
  rfl

/-- The FIFO has room and no reaction of the source runs. -/
theorem State.offer_accepted (hf : s.owl.fifo.length < 64) (ha : ∀ r ∈ s.owl.active, r.msg.src ≠ m.src) :
    s.offer m = (({ s with owl := { s.owl with fifo := s.owl.fifo ++ [m] } } : State).inc F.OWL_CNT_ACCEPTED).top
      F.OWL_STAT_FIFO_MAX (s.owl.fifo ++ [m]).length := by
  have hnone : s.owl.active.any (fun r => r.msg.src == m.src) = false := List.any_eq_false.mpr fun r hr => by simpa using ha r hr
  unfold State.offer
  rw [if_neg (by omega), if_neg (by simp [hnone])]

theorem State.accepted_effect {s t : State} (ht : t = (s.inc F.OWL_CNT_ACCEPTED).top F.OWL_STAT_FIFO_MAX s.owl.fifo.length) :
    t = { s with regs := t.regs } ∧ t.rd F.OWL_CNT_ACCEPTED = F.OWL_CNT_ACCEPTED.plus (s.rd F.OWL_CNT_ACCEPTED) 1 ∧
      OnlyWrites [F.OWL_CNT_ACCEPTED.key 0 0, F.OWL_STAT_FIFO_MAX.key 0 0] s t := by
  refine ⟨by rw [ht]; rfl, ?_, ?_⟩
  · rw [ht, State.rd_top_apart _ _ _ _ _ _ (by decide), State.rd_inc]
  · rw [ht]
    exact ((OnlyWrites.refl _ s).inc F.OWL_CNT_ACCEPTED 1 0 0 (by decide)).wr F.OWL_STAT_FIFO_MAX _ 0 0 (by decide)

theorem State.unmask_frame : s.unmask m = { s with regs := (s.unmask m).regs } := by
  unfold State.unmask
  split <;> rfl

theorem State.unmask_rd {f : Fld} (u i : Nat) (hf : f.apart F.CORE_STAT_DONE_MASKED = true) : (s.unmask m).rd f u i = s.rd f u i := by
  unfold State.unmask
  split
  · exact State.rd_wr_apart s _ _ _ _ _ hf
  · rfl

/-- The FIFO is full. -/
theorem State.offer_lost {t : State} (hf : 64 ≤ s.owl.fifo.length) (ht : t = s.offer m) : t.owl = s.owl ∧
    t.rd F.OWL_STAT_LOST = 1 ∧ t.rd F.OWL_CNT_LOST_FULL = F.OWL_CNT_LOST_FULL.plus (s.rd F.OWL_CNT_LOST_FULL) 1 := by
  have hdef : t = ((s.inc F.OWL_CNT_LOST_FULL).wr F.OWL_STAT_LOST 1).unmask m := ht.trans (if_pos hf)
  rw [hdef]
  refine ⟨?_, ?_, ?_⟩
  · rw [State.unmask_frame]
    rfl
  · rw [State.unmask_rd _ _ _ _ (by decide)]
    exact State.rd_wr_of_lt (s.inc F.OWL_CNT_LOST_FULL) F.OWL_STAT_LOST (v := 1) 0 0 (by decide)
  · rw [State.unmask_rd _ _ _ _ (by decide), State.rd_wr_apart _ _ _ _ _ _ (by decide), State.rd_inc]

end

/-- One more register written. -/
theorem regsFrame_wr {s t : State} (h : t = { s with regs := t.regs }) (f : Fld) (v u i : Nat) :
    t.wr f v u i = { s with regs := (t.wr f v u i).regs } :=
  (congrArg (fun x : State => ({ x with regs := (t.wr f v u i).regs } : State)) h :)

section
variable {s t : State} {m : Msg} {i : Nat}

/-- A message whose key has an entry. -/
theorem State.status_entry (he : s.entryOf m.src m.kind = some i) (hf : m.forced = false) (ht : t = s.status m) :
    t = { s with regs := t.regs } ∧ t.rd F.OWL_ST_KEY_COUNT 0 i = F.OWL_ST_KEY_COUNT.plus (s.rd F.OWL_ST_KEY_COUNT 0 i) (1 + m.rep) ∧
      t.rd F.OWL_ST_ADDR_LAST_ADDR 0 i = m.addr % 2 ^ 32 ∧ t.rd F.OWL_ST_KEY_FORCED 0 i = 0 ∧ t.grain = s.grain := by
  have hdef : t = ((((s.inc F.OWL_ST_KEY_COUNT (1 + m.rep) 0 i).top F.OWL_ST_KEY_CLASS m.cls 0 i).wr F.OWL_ST_ADDR_LAST_ADDR m.addr
      0 i).wr F.OWL_ST_KEY_FORCED 0 0 i) := by
    rw [ht]
    unfold State.status
    rw [he]
    exact if_neg (by simp [hf])
  rw [hdef]
  refine ⟨regsFrame_wr (regsFrame_wr (regsFrame_wr (regsFrame_wr (s := s) rfl ..) ..) ..) .., ?_, ?_, ?_, ?_⟩
  · rw [State.rd_wr_apart _ _ _ _ _ _ (by decide), State.rd_wr_apart _ _ _ _ _ _ (by decide),
      State.rd_top_apart _ _ _ _ _ _ (by decide), State.rd_inc]
  · rw [State.rd_wr_apart _ _ _ _ _ _ (by decide), State.rd_wr_self]
    rfl
  · exact State.rd_wr_of_lt _ F.OWL_ST_KEY_FORCED (v := 0) 0 i (by decide)
  · unfold State.grain
    rw [State.rd_wr_apart _ _ _ _ _ _ (by decide), State.rd_wr_apart _ _ _ _ _ _ (by decide),
      State.rd_top_apart _ _ _ _ _ _ (by decide), State.rd_inc_apart _ _ _ _ _ _ (by decide)]

/-- A message whose key takes a free entry. -/
theorem State.status_free (he : s.entryOf m.src m.kind = none) (hi : s.freeEntry = some i) (ht : t = s.status m) :
    t = { s with regs := t.regs } ∧ t.rd F.OWL_ST_KEY_VALID 0 i = 1 ∧ t.rd F.OWL_ST_KEY_SOURCE 0 i = m.src % 2 ^ F.OWL_ST_KEY_SOURCE.width ∧
      t.rd F.OWL_ST_KEY_KIND 0 i = m.kind % 256 ∧ t.rd F.OWL_ST_ADDR_FIRST_ADDR 0 i = m.addr % 2 ^ 32 := by
  obtain ⟨u, hu⟩ : ∃ u, u = (((s.wr F.OWL_ST_KEY_VALID 1 0 i).wr F.OWL_ST_KEY_SOURCE m.src 0 i).wr F.OWL_ST_KEY_KIND m.kind 0 i).wr
      F.OWL_ST_KEY_CLASS m.cls 0 i := ⟨_, rfl⟩
  have hdef : t = (((u.wrB F.OWL_ST_KEY_FORCED m.forced 0 i).wr F.OWL_ST_KEY_COUNT (1 + m.rep) 0 i).wr F.OWL_ST_ADDR_LAST_ADDR m.addr 0
      i).wr F.OWL_ST_ADDR_FIRST_ADDR m.addr 0 i := by
    rw [ht, hu]
    unfold State.status
    rw [he, hi]
  have hrd {f : Fld} (h1 : f.apart F.OWL_ST_ADDR_FIRST_ADDR = true) (h2 : f.apart F.OWL_ST_ADDR_LAST_ADDR = true)
      (h3 : f.apart F.OWL_ST_KEY_COUNT = true) (h4 : f.apart F.OWL_ST_KEY_FORCED = true) : t.rd f 0 i = u.rd f 0 i := by
    rw [hdef, State.rd_wr_apart _ _ _ _ _ _ h1, State.rd_wr_apart _ _ _ _ _ _ h2, State.rd_wr_apart _ _ _ _ _ _ h3,
      State.rd_wrB_apart _ _ _ _ _ _ h4]
  have hframe : u = { s with regs := u.regs } := by
    rw [hu]
    exact regsFrame_wr (regsFrame_wr (regsFrame_wr (regsFrame_wr (s := s) rfl ..) ..) ..) ..
  refine ⟨by rw [hdef]; exact regsFrame_wr (regsFrame_wr (regsFrame_wr (regsFrame_wr hframe ..) ..) ..) .., (hrd (by decide) (by decide) (by decide) (by decide)).trans ?_,
    (hrd (by decide) (by decide) (by decide) (by decide)).trans ?_, (hrd (by decide) (by decide) (by decide) (by decide)).trans ?_, ?_⟩
  · rw [hu, State.rd_wr_apart _ _ _ _ _ _ (by decide), State.rd_wr_apart _ _ _ _ _ _ (by decide),
      State.rd_wr_apart _ _ _ _ _ _ (by decide)]
    exact State.rd_wr_of_lt s F.OWL_ST_KEY_VALID (v := 1) 0 i (by decide)
  · rw [hu, State.rd_wr_apart _ _ _ _ _ _ (by decide), State.rd_wr_apart _ _ _ _ _ _ (by decide), State.rd_wr_self]
  · rw [hu, State.rd_wr_apart _ _ _ _ _ _ (by decide), State.rd_wr_self]
    rfl
  · rw [hdef, State.rd_wr_self]
    rfl

/-- The state that counts an overwritten record of the log. -/
def State.logCounted (s : State) : State :=
  if s.owl.log.length ≥ 256 ∧ (s.owl.log.head?.map (·.unread)).getD false then s.inc F.OWL_CNT2_LOG_OVW else s

theorem State.logCounted_frame (s : State) : s.logCounted = { s with regs := s.logCounted.regs } ∧
    OnlyWrites [F.OWL_CNT2_LOG_OVW.key 0 0] s s.logCounted := by
  unfold State.logCounted
  split
  · exact ⟨rfl, (OnlyWrites.refl _ s).inc F.OWL_CNT2_LOG_OVW 1 0 0 (List.mem_singleton_self _)⟩
  · exact ⟨rfl, OnlyWrites.refl _ s⟩

theorem State.logMsg_plain (s : State) (m : Msg) : s.logMsg m 0 none = { s.logCounted with owl := { s.logCounted.owl with
    log := (if s.owl.log.length ≥ 256 then s.owl.log.drop 1 else s.owl.log) ++ [⟨m, 0, false, s.grain, true, none⟩] } } := by
  have hold : s.owl.log.map (fun (x : LogRec) => if x.slot.isSome && x.slot == none then { x with slot := none } else x) = s.owl.log := by
    refine (List.map_congr_left fun x _ => if_neg ?_).trans (List.map_id _)
    cases x.slot <;> simp
  unfold State.logMsg
  rw [hold]
  rfl

/-- A message logged without a reaction slot. -/
theorem State.logMsg_effect (s : State) (m : Msg) : s.logMsg m 0 none = { s with
      regs := (s.logMsg m 0 none).regs, owl := { s.owl with log := (s.logMsg m 0 none).owl.log } } ∧
    (s.owl.log.length < 256 → (s.logMsg m 0 none).owl.log = s.owl.log ++ [⟨m, 0, false, s.grain, true, none⟩]) ∧
    OnlyWrites [F.OWL_CNT2_LOG_OVW.key 0 0] s (s.logMsg m 0 none) := by
  obtain ⟨hframe, hk⟩ := s.logCounted_frame
  rw [State.logMsg_plain]
  generalize s.logCounted = u at hframe hk
  refine ⟨?_, fun hl => ?_, OnlyWrites.of_regs hk rfl⟩
  · rw [hframe]
  · exact congrArg (· ++ [_]) (if_neg (by omega))

/-- A message that selects LOG, from the FIFO into the status table and the log. -/
theorem State.owlTake_log {rest : List Msg} (hq : s.owl.fifo = m :: rest) (hr : s.reactionOf m = 0) (hk : m.kind ≠ 0x10)
    (hf : m.forced = false) : s.owlTake =
      (State.logMsg (State.status { s with owl := { s.owl with fifo := rest } } m) m 0 none).faultPin := by
  unfold State.owlTake
  rw [hq]
  simp only [hr, hf]
  unfold State.unmask
  rw [if_neg hk]
  rfl

/-- The frame of such a message, over the status table as it takes it. -/
theorem State.logged_effect {u : State} (ht : t = (u.logMsg m 0 none).faultPin) : t.owl = { u.owl with log := t.owl.log } ∧
    t.cmd = u.cmd ∧ t.mem = u.mem ∧ (u.owl.log.length < 256 → t.owl.log = u.owl.log ++ [⟨m, 0, false, u.grain, true, none⟩]) ∧
    ∀ {f : Fld} (v i : Nat), f.apart F.OWL_CNT2_LOG_OVW = true → t.rd f v i = u.rd f v i := by
  obtain ⟨hframe, hlog, hk⟩ := u.logMsg_effect m
  generalize u.logMsg m 0 none = l at ht hframe hlog hk
  have howl : t.owl = l.owl := by rw [ht]; rfl
  have hregs : t.regs = l.regs := by rw [ht]; rfl
  have hcm : t.cmd = l.cmd ∧ t.mem = l.mem := by rw [ht]; exact ⟨rfl, rfl⟩
  refine ⟨?_, hcm.1.trans (by rw [hframe]), hcm.2.trans (by rw [hframe]), fun h => ?_, fun {f} v i hf => ?_⟩
  · rw [howl]
    exact (congrArg State.owl hframe :)
  · rw [howl]
    exact hlog h
  · refine (State.rd_of_regs hregs ..).trans (hk f v i ?_)
    rw [List.mem_singleton]
    exact fun he => Fld.key_ne_of_apart hf _ _ _ _ he

end

theorem State.reactionDone_plain {s : State} {k : Nat} {r : Reaction} (h : s.owl.active.find? (fun r => r.slot == k) = some r)
    (hd : s.reacted r = true) (h5 : r.code ≠ 5) (h10 : r.msg.kind ≠ 0x10) :
    s.reactionDone k = { s with owl := { s.owl with active := s.owl.active.filter (fun x => x.slot != k) } } := by
  unfold State.reactionDone
  rw [h]
  simp only [hd, Bool.not_true, Bool.false_eq_true, if_false, if_neg h5]
  exact if_neg h10

section
variable (s : State)

theorem bits_toNat_31 (v : BitVec 32) : bits v.toNat 31 31 = b2n (v.getLsbD 31) := by
  have h : v.getLsbD 31 = bit v.toNat 31 := (bit_eq_testBit _ _).symm
  have hlt : v.toNat / 2 ^ 31 % 2 < 2 := Nat.mod_lt _ (by decide)
  rw [h]
  unfold bits bit
  generalize v.toNat / 2 ^ 31 % 2 = x at hlt ⊢
  interval_cases x <;> rfl

/-- A write of the watchdog. -/
theorem State.wdogWrite_effect (v : BitVec 32) :
    s.wdogWrite v.toNat = { s with
      regs := (s.wdogWrite v.toNat).regs, owl := { s.owl with barked := (s.wdogWrite v.toNat).owl.barked } } ∧
    (s.wdogWrite v.toNat).on F.OWL_WDOG_EN = v.getLsbD 31 ∧ (s.wdogWrite v.toNat).rd F.OWL_WDOG_TIMEOUT = v.toNat % 65536 ∧
    OnlyWrites [F.OWL_WDOG_EN.key 0 0, F.OWL_WDOG_TIMEOUT.key 0 0] s (s.wdogWrite v.toNat) ∧
    (s.wdogWrite v.toNat).owl.barked = if v.getLsbD 30 = true then false else s.owl.barked := by
  obtain ⟨t, ht⟩ : ∃ t, t = (s.wr F.OWL_WDOG_EN (bits v.toNat 31 31)).wr F.OWL_WDOG_TIMEOUT (bits v.toNat 15 0) := ⟨_, rfl⟩
  have hdef : s.wdogWrite v.toNat = if v.getLsbD 30 then { t with owl := { t.owl with barked := false } } else t := by
    rw [ht]
    unfold State.wdogWrite
    rw [bit_eq_testBit]
    rfl
  have hframe : t = { s with regs := t.regs } := by rw [ht]; rfl
  have hregs : (s.wdogWrite v.toNat).regs = t.regs := by
    rw [hdef]
    split <;> rfl
  refine ⟨?_, ?_, ?_, OnlyWrites.of_regs ?_ hregs, ?_⟩
  · rw [hdef]
    split
    · exact congrArg (fun x : State => ({ x with owl := { x.owl with barked := false } } : State)) hframe
    · have howl : t.owl = s.owl := (congrArg State.owl hframe :)
      rw [howl]
      exact hframe
  · rw [State.on_of_regs hregs, ht, State.on_of_rd (State.rd_wr_apart _ _ _ _ _ _ (by decide)), bits_toNat_31]
    exact State.on_wrB_self s F.OWL_WDOG_EN _ 0 0 rfl
  · rw [State.rd_of_regs hregs, ht, State.rd_wr_self]
    simp [bits, Fld.width, F.OWL_WDOG_TIMEOUT]
  · rw [ht]
    exact ((OnlyWrites.refl _ s).wr F.OWL_WDOG_EN _ 0 0 (by decide)).wr F.OWL_WDOG_TIMEOUT _ 0 0 (by decide)
  · rw [hdef]
    split
    · rfl
    · exact (congrArg (fun x : State => x.owl.barked) hframe :)

section
variable {s : State} (hup : s.boot.up = true) (hfw : s.boot.fw.isSome = true) (hen : s.on F.OWL_WDOG_EN = true)
include hup hfw hen

/-- The first period without a kick. -/
theorem State.watchdog_first (hb : s.owl.barked = false) (hf : s.owl.fifo.length < 64) (ha : ∀ r ∈ s.owl.active, r.msg.src ≠ 0x740) :
    s.watchdog.owl = { s.owl with fifo := s.owl.fifo ++ [⟨0x740, 0x61, 4, 0, false, 0⟩], barked := true } ∧ s.watchdog.boot = s.boot := by
  have hoff := s.offer_accepted ⟨srcCollier, 0x61, 4, 0, false, 0⟩ hf ha
  have hsome : s.boot.fw.isNone = false := by
    cases h : s.boot.fw
    · simp [h] at hfw
    · rfl
  unfold State.watchdog
  rw [if_neg (by simp [hup, hen, hsome]), if_neg (by simp [hb]), hoff]
  exact ⟨rfl, rfl⟩

/-- The second one. -/
theorem State.watchdog_second (hb : s.owl.barked = true) : s.watchdog = (s.inReset 3 false).release := by
  have hsome : s.boot.fw.isNone = false := by
    cases h : s.boot.fw
    · simp [h] at hfw
    · rfl
  unfold State.watchdog
  rw [if_neg (by simp [hup, hen, hsome]), if_pos hb]

end

end

/-- The fields of OWL_FORCE. -/
theorem forceFields (v : BitVec 64) : bits v.toNat 63 52 = v.toNat / 2 ^ 52 ∧ bits v.toNat 51 44 = v.toNat / 2 ^ 44 % 256 ∧
    bits v.toNat 43 41 = v.toNat / 2 ^ 41 % 8 ∧ bits v.toNat 31 0 = v.toNat % 2 ^ 32 := by
  refine ⟨Nat.mod_eq_of_lt ?_, rfl, rfl, by simp [bits]⟩
  have := v.isLt
  exact Nat.div_lt_of_lt_mul (by omega)

/-- A write of OWL_FORCE with GO: the fields of the register, and then the message or the refusal. -/
theorem State.owlForce_go (s : State) (v : BitVec 64) (hgo : v.getLsbD 40 = true) : ∃ t : State, t.owl = s.owl ∧
    t.rd F.OWL_STAT_FORCE_REJ = s.rd F.OWL_STAT_FORCE_REJ ∧ s.owlForce v.toNat =
      if (s.mayForce (bits v.toNat 63 52) (bits v.toNat 51 44) && decide (bits v.toNat 43 41 ≤ 4)) = true then
        t.force (bits v.toNat 63 52) (bits v.toNat 51 44) (bits v.toNat 43 41) (bits v.toNat 31 0)
      else t.wr F.OWL_STAT_FORCE_REJ 1 := by
  refine ⟨(((s.wr F.OWL_FORCE_SOURCE (bits v.toNat 63 52)).wr F.OWL_FORCE_KIND (bits v.toNat 51 44)).wr F.OWL_FORCE_CLASS
    (bits v.toNat 43 41)).wr F.OWL_FORCE_ADDRESS (bits v.toNat 31 0), rfl, ?_, ?_⟩
  · rw [State.rd_wr_apart _ _ _ _ _ _ (by decide), State.rd_wr_apart _ _ _ _ _ _ (by decide),
      State.rd_wr_apart _ _ _ _ _ _ (by decide), State.rd_wr_apart _ _ _ _ _ _ (by decide)]
  · unfold State.owlForce
    rw [if_neg (by rw [bit_eq_testBit]; simpa [BitVec.getLsbD] using hgo)]

/-- Settles O51: a message's way through the chain, the FIFO, the status table and the log, and the watchdog's two expiries. -/
theorem owlCollectsAndReacts : Obligations.OwlCollectsAndReacts := by
  unfold Obligations.OwlCollectsAndReacts
  intro s
  simp only [exec_faultOffer, exec_owlTakeMessage, exec_reactionComplete, exec_watchdogKick, exec_watchdogExpired, exec_owlForceGo]
  refine ⟨fun h => ?_, fun m h => ?_, fun h => ?_, fun m rest hq => ⟨fun hr hn => ?_, fun i hr hk hf hl he hi => ?_, fun i hr hk hf he hi => ?_⟩,
    fun k h => ?_, fun k r h => ⟨fun hn => ?_, fun hd h5 h10 => ?_⟩, fun v => ?_, fun h => ?_, fun hup hfw hen => ⟨fun hb hf ha => ?_, fun hb => ?_⟩,
    fun v hgo => ?_⟩
  · unfold State.faultOffer
    rw [h]
  · obtain ⟨hmem, hfirst⟩ := State.offered_spec h
    have hdef := State.faultOffer_some h
    refine ⟨hmem, hfirst, fun hf ha => ⟨_, rfl, ?_⟩, fun hf => ⟨_, rfl, ?_⟩⟩
    · rw [(s.unstaged m).offer_accepted m hf ha] at hdef
      obtain ⟨hframe, hc, hk⟩ := State.accepted_effect hdef
      exact ⟨(congrArg State.owl hframe :), hc, by rw [hframe]; rfl, hk⟩
    · obtain ⟨howl, hl, hc⟩ := (s.unstaged m).offer_lost m hf hdef
      exact ⟨by rw [howl]; rfl, by rw [howl]; rfl, hl, hc⟩
  · unfold State.owlTake
    rw [h]
  · unfold State.owlTake
    rw [hq]
    simp only [takesSlot, hr, decide_true, if_true, hn]
  · obtain ⟨u, hu⟩ : ∃ u : State, u = State.status { s with owl := { s.owl with fifo := rest } } m := ⟨_, rfl⟩
    have he' : State.entryOf { s with owl := { s.owl with fifo := rest } } m.src m.kind = some i := he
    obtain ⟨hframe, hc, ha, hfo, hg⟩ := State.status_entry he' hf hu
    have hdef := State.owlTake_log hq hr hk hf
    rw [← hu] at hdef
    obtain ⟨howl, hcmd, hmem, hlog, hrd⟩ := State.logged_effect hdef
    have huowl : u.owl = { s.owl with fifo := rest } := by rw [hframe]
    refine ⟨_, ⟨m, 0, false, u.grain, true, none⟩, rfl, ?_, ?_, rfl, rfl, rfl, hg, (hrd _ _ (by decide)).trans hc,
      (hrd _ _ (by decide)).trans ha, (hrd _ _ (by decide)).trans hfo, ?_, ?_, ?_⟩
    · rw [howl, huowl]
    · rw [hlog (by rw [huowl]; exact hl), huowl]
    · rw [howl, huowl]
    · rw [hcmd, hframe]
    · rw [hmem, hframe]
  · obtain ⟨u, hu⟩ : ∃ u : State, u = State.status { s with owl := { s.owl with fifo := rest } } m := ⟨_, rfl⟩
    have he' : State.entryOf { s with owl := { s.owl with fifo := rest } } m.src m.kind = none := he
    obtain ⟨hframe, hv, hs, hkd, ha⟩ := State.status_free he' hi hu
    have hdef := State.owlTake_log hq hr hk hf
    rw [← hu] at hdef
    obtain ⟨howl, -, -, -, hrd⟩ := State.logged_effect hdef
    have huowl : u.owl = { s.owl with fifo := rest } := by rw [hframe]
    exact ⟨_, rfl, by rw [howl, huowl], (hrd _ _ (by decide)).trans hv, (hrd _ _ (by decide)).trans hs, (hrd _ _ (by decide)).trans hkd,
      (hrd _ _ (by decide)).trans ha⟩
  · unfold State.reactionDone
    rw [h]
  · unfold State.reactionDone
    rw [h]
    exact congrArg _ (if_pos (by simp [hn]))
  · exact congrArg _ (State.reactionDone_plain h hd h5 h10)
  · obtain ⟨hframe, hen, htime, hk, hb⟩ := s.wdogWrite_effect v
    exact ⟨_, rfl, hen, htime, fun h => hb.trans (if_pos h), fun h => by
      rw [hframe]
      exact congrArg (fun b => ({ s.owl with barked := b } : OwlSt)) (hb.trans (if_neg (by rw [h]; decide))), hframe, hk⟩
  · refine congrArg _ (if_pos ?_)
    rcases h with h | h | h <;> simp [h]
  · obtain ⟨howl, hboot⟩ := s.watchdog_first hup hfw hen hb hf ha
    exact ⟨_, rfl, by rw [howl], hboot, by rw [howl]⟩
  · obtain ⟨h1, h2, h3, h4, h5, -⟩ := s.inReset_release 3 false (s.watchdog_second hup hfw hen hb)
    exact ⟨_, rfl, h1, h2, h4, h3, h5⟩
  · obtain ⟨hs, hk, hc, ha⟩ := forceFields v
    obtain ⟨t, howl, hrej, hdef⟩ := s.owlForce_go v hgo
    rw [hs, hk, hc, ha] at hdef
    refine ⟨fun ⟨h1, h2, h3⟩ => ⟨_, rfl, ?_⟩, fun h => ⟨_, rfl, ?_⟩⟩
    · rw [hdef, if_pos (by rw [State.mayForce, h1, List.contains_iff_mem.mpr h2, decide_eq_true h3]; rfl)]
      refine ⟨?_, hrej⟩
      rw [← howl]
      unfold State.force
      rw [Nat.mod_mod]
    · rw [hdef, if_neg (by
        simp only [State.mayForce, Bool.and_eq_true, decide_eq_true_eq, List.contains_iff_mem]
        rintro ⟨⟨h1, h2⟩, h3⟩
        rcases h with h | h | h
        · exact absurd h1 (by rw [h]; decide)
        · exact h h2
        · omega)]
      exact ⟨howl, State.rd_wr_of_lt t F.OWL_STAT_FORCE_REJ (v := 1) 0 0 (by decide)⟩

end Sys2Proof.Machine
end

section
/-! The fuse programs, IDCODE and the debug unlock (17_security.md R449, R458, R459). -/
namespace Sys2Proof.Machine

section
variable (s : State)
theorem exec_secProgDone (q : Bool) : exec (.secProgDone q) s = .next (s.secDone q) := rfl
theorem exec_unlockChal (b : Byte) : exec (.unlockChal b) s = .next (s.challenge b) := rfl
theorem exec_unlockResp (b : List Byte) : exec (.unlockResp b) s = .next (s.unlock b) := rfl

/-- The five writes of SEC_PROG are one function, with values that fit their fields. -/
theorem exec_secProg {i : Instr} {a k v : Nat}
    (h : (∃ x, i = .secProgRollback x ∧ a = 1 ∧ k = 0 ∧ v = x.toNat) ∨ (∃ x, i = .secProgSlot x ∧ a = 2 ∧ k = x.toNat ∧ v = 0) ∨
      (∃ x, i = .secProgRevoke x ∧ a = 3 ∧ k = x.toNat ∧ v = 0) ∨
      (∃ x, i = .secProgSlotDebug x ∧ a = 4 ∧ k = x.toNat ∧ v = 0) ∨ (i = .secProgDebugLock ∧ a = 5 ∧ k = 0 ∧ v = 0)) :
    exec i s = .next (s.secProg a k v) ∧ 1 ≤ a ∧ a ≤ 5 ∧ k < 4 ∧ v < 128 := by
  rcases h with ⟨x, rfl, rfl, rfl, rfl⟩ | ⟨x, rfl, rfl, rfl, rfl⟩ | ⟨x, rfl, rfl, rfl, rfl⟩ | ⟨x, rfl, rfl, rfl, rfl⟩ | ⟨rfl, rfl, rfl, rfl⟩
  · exact ⟨rfl, by decide, by decide, by decide, x.isLt⟩
  · exact ⟨rfl, by decide, by decide, x.isLt, by decide⟩
  · exact ⟨rfl, by decide, by decide, x.isLt, by decide⟩
  · exact ⟨rfl, by decide, by decide, x.isLt, by decide⟩
  · exact ⟨rfl, by decide, by decide, by decide, by decide⟩

/-- A write of SEC_PROG keeps its operands. -/
def State.progKept (a k v : Nat) : State := ((s.wr F.SEC_PROG_ACTION a).wr F.SEC_PROG_SLOT k).wr F.SEC_PROG_VALUE v

theorem State.progKept_effect {a k v : Nat} (ha : a ≤ 5) (hk : k < 4) (hv : v < 128) :
    s.progKept a k v = { s with regs := (s.progKept a k v).regs } ∧ (s.progKept a k v).rd F.SEC_PROG_ACTION = a ∧
    (s.progKept a k v).rd F.SEC_PROG_SLOT = k ∧ (s.progKept a k v).rd F.SEC_PROG_VALUE = v ∧
    OnlyWrites [F.SEC_PROG_ACTION.key 0 0, F.SEC_PROG_SLOT.key 0 0, F.SEC_PROG_VALUE.key 0 0] s (s.progKept a k v) := by
  unfold State.progKept
  refine ⟨rfl, ?_, ?_, ?_, ?_⟩
  · rw [State.rd_wr_apart _ _ _ _ _ _ (by decide), State.rd_wr_apart _ _ _ _ _ _ (by decide)]
    exact State.rd_wr_of_lt s F.SEC_PROG_ACTION 0 0 (Nat.lt_of_le_of_lt ha (by decide))
  · rw [State.rd_wr_apart _ _ _ _ _ _ (by decide)]
    exact State.rd_wr_of_lt (s.wr F.SEC_PROG_ACTION a) F.SEC_PROG_SLOT 0 0 hk
  · exact State.rd_wr_of_lt ((s.wr F.SEC_PROG_ACTION a).wr F.SEC_PROG_SLOT k) F.SEC_PROG_VALUE 0 0 hv
  · exact (((OnlyWrites.refl _ s).wr F.SEC_PROG_ACTION a 0 0 (by decide)).wr F.SEC_PROG_SLOT k 0 0 (by decide)).wr
      F.SEC_PROG_VALUE v 0 0 (by decide)

/-- Which of the three ways a write of SEC_PROG takes. -/
theorem State.secProg_ways {a k v : Nat} (h1 : 1 ≤ a) (h5 : a ≤ 5) : s.secProg a k v =
    if (s.running || s.on F.SEC_PROG_BUSY) = true then (s.progKept a k v).wr F.SEC_PROG_STATUS 1
    else if s.fuseRefused a k v = true then (s.progKept a k v).wr F.SEC_PROG_STATUS 2
    else { (s.progKept a k v).wr F.SEC_PROG_BUSY 1 with sec := { (s.progKept a k v).sec with prog := some (a, k, v) } } := by
  unfold State.secProg
  exact if_neg (by omega)

/-- What the spec refuses of a fuse action. -/
def State.FuseRefusal (a k v : Nat) : Prop := (a = 1 ∧ (v ≤ s.fuse.rollback ∨ s.rd F.SEC_STAT_SVN < v)) ∨
  (a = 2 ∧ (s.fuse.slotValid.getLsbD k = true ∨ ofBytes (s.fuse.slotHash.getD k []) ≠ 0)) ∨
  (a = 3 ∧ s.fuse.slotValid.getLsbD k = false) ∨
  (a = 4 ∧ (s.fuse.slotValid.getLsbD k = false ∨ s.fuse.slotRevoked.getLsbD k = true))

theorem State.fuseRefused_iff {a k v : Nat} (h1 : 1 ≤ a) (h5 : a ≤ 5) : s.fuseRefused a k v = true ↔ s.FuseRefusal a k v := by
  unfold State.fuseRefused State.FuseRefusal
  interval_cases a
  · simp
  · simp only [Bool.not_eq_true', Bool.and_eq_false_iff]
    simp
  · simp
  · simp [State.slotLive]
  · simp

/-- The frame of all three ways. -/
theorem State.secProg_frame {t u : State} {a k v : Nat} (h : u = { t with regs := u.regs, sec := u.sec })
    (hs : t = { s with regs := t.regs })
    (hk : OnlyWrites [F.SEC_PROG_ACTION.key 0 0, F.SEC_PROG_SLOT.key 0 0, F.SEC_PROG_VALUE.key 0 0] s t)
    (ha : t.rd F.SEC_PROG_ACTION = a) (hslot : t.rd F.SEC_PROG_SLOT = k) (hv : t.rd F.SEC_PROG_VALUE = v)
    (hu : OnlyWrites [F.SEC_PROG_STATUS.key 0 0, F.SEC_PROG_BUSY.key 0 0] t u) :
    u.rd F.SEC_PROG_ACTION = a ∧ u.rd F.SEC_PROG_SLOT = k ∧ u.rd F.SEC_PROG_VALUE = v ∧
      u = { s with regs := u.regs, sec := u.sec } ∧
      OnlyWrites [F.SEC_PROG_ACTION.key 0 0, F.SEC_PROG_SLOT.key 0 0, F.SEC_PROG_VALUE.key 0 0,
        F.SEC_PROG_STATUS.key 0 0, F.SEC_PROG_BUSY.key 0 0] s u := by
  refine ⟨(hu _ _ _ (by decide)).trans ha, (hu _ _ _ (by decide)).trans hslot, (hu _ _ _ (by decide)).trans hv, ?_,
    (hk.mono (by decide)).trans (hu.mono (by decide))⟩
  rw [hs] at h
  exact h

end

/-- A write of SEC_PROG. -/
theorem State.secProg_effect (s : State) {a k v : Nat} (h1 : 1 ≤ a) (h5 : a ≤ 5) (hk : k < 4) (hv : v < 128) {t : State}
    (ht : t = s.secProg a k v) : (t.rd F.SEC_PROG_ACTION = a ∧ t.rd F.SEC_PROG_SLOT = k ∧ t.rd F.SEC_PROG_VALUE = v ∧
      t = { s with regs := t.regs, sec := t.sec } ∧
      OnlyWrites [F.SEC_PROG_ACTION.key 0 0, F.SEC_PROG_SLOT.key 0 0, F.SEC_PROG_VALUE.key 0 0,
        F.SEC_PROG_STATUS.key 0 0, F.SEC_PROG_BUSY.key 0 0] s t) ∧
    (s.running = true ∨ s.on F.SEC_PROG_BUSY = true → t.rd F.SEC_PROG_STATUS = 1 ∧ t.sec = s.sec ∧
      t.rd F.SEC_PROG_BUSY = s.rd F.SEC_PROG_BUSY) ∧
    (s.running = false → s.on F.SEC_PROG_BUSY = false →
      (s.FuseRefusal a k v → t.rd F.SEC_PROG_STATUS = 2 ∧ t.sec = s.sec ∧ t.rd F.SEC_PROG_BUSY = 0) ∧
      (¬s.FuseRefusal a k v → t.rd F.SEC_PROG_BUSY = 1 ∧ t.sec = { s.sec with prog := some (a, k, v) } ∧
        t.rd F.SEC_PROG_STATUS = s.rd F.SEC_PROG_STATUS)) := by
  obtain ⟨hframe, ha, hslot, hval, honly⟩ := s.progKept_effect h5 hk hv
  rw [s.secProg_ways h1 h5] at ht
  generalize s.progKept a k v = p at ht hframe ha hslot hval honly
  have hsec : p.sec = s.sec := (congrArg State.sec hframe :)
  have hbusy : p.rd F.SEC_PROG_BUSY = s.rd F.SEC_PROG_BUSY := honly _ _ _ (by decide)
  have hstat : p.rd F.SEC_PROG_STATUS = s.rd F.SEC_PROG_STATUS := honly _ _ _ (by decide)
  have hstatus {n : Nat} (hn : n < 8) : (p.wr F.SEC_PROG_STATUS n).rd F.SEC_PROG_STATUS = n ∧
      (p.wr F.SEC_PROG_STATUS n).rd F.SEC_PROG_BUSY = s.rd F.SEC_PROG_BUSY :=
    ⟨State.rd_wr_of_lt p F.SEC_PROG_STATUS 0 0 hn, (State.rd_wr_apart p n 0 0 0 0 (by decide)).trans hbusy⟩
  have honlyStatus (n : Nat) : OnlyWrites [F.SEC_PROG_STATUS.key 0 0, F.SEC_PROG_BUSY.key 0 0] p (p.wr F.SEC_PROG_STATUS n) :=
    (OnlyWrites.refl _ p).wr F.SEC_PROG_STATUS n 0 0 (by decide)
  rw [← s.fuseRefused_iff h1 h5]
  split at ht
  next hb =>
    rw [Bool.or_eq_true] at hb
    obtain ⟨hst, hbu⟩ := hstatus (n := 1) (by decide)
    refine ⟨s.secProg_frame (t := p) (by rw [ht]; rfl) hframe honly ha hslot hval (ht ▸ honlyStatus 1), fun _ => ?_, fun hr hn => ?_⟩
    · rw [ht]
      exact ⟨hst, hsec, hbu⟩
    · rcases hb with hb | hb
      · exact absurd hb (by rw [hr]; decide)
      · exact absurd hb (by rw [hn]; decide)
  next hb =>
    rw [Bool.or_eq_true] at hb
    split at ht
    next href =>
      obtain ⟨hst, hbu⟩ := hstatus (n := 2) (by decide)
      refine ⟨s.secProg_frame (t := p) (by rw [ht]; rfl) hframe honly ha hslot hval (ht ▸ honlyStatus 2), fun h => absurd h hb,
        fun _ hn => ⟨fun _ => ?_, fun h => absurd href h⟩⟩
      rw [ht]
      exact ⟨hst, hsec, hbu.trans (State.on_eq_false_iff.mp hn)⟩
    next href =>
      have honlyBusy : OnlyWrites [F.SEC_PROG_STATUS.key 0 0, F.SEC_PROG_BUSY.key 0 0] p t :=
        OnlyWrites.of_regs ((OnlyWrites.refl _ p).wr F.SEC_PROG_BUSY 1 0 0 (by decide)) (by rw [ht])
      refine ⟨s.secProg_frame (t := p) (by rw [ht]; rfl) hframe honly ha hslot hval honlyBusy, fun h => absurd h hb,
        fun _ _ => ⟨fun h => absurd h href, fun _ => ?_⟩⟩
      rw [ht, ← hsec]
      exact ⟨State.rd_wr_of_lt p F.SEC_PROG_BUSY (v := 1) 0 0 (by decide), rfl,
        (State.rd_wr_apart (f := F.SEC_PROG_BUSY) p 1 0 0 0 0 (by decide)).trans hstat⟩

section
variable {s : State} {a k v : Nat} (hp : s.sec.prog = some (a, k, v)) (hc : s.on F.CHIP_CTRL_CHECK_BUSY = false)
include hp hc

/-- The end of a fuse program. -/
theorem State.secDone_effect (q : Bool) {t : State} (ht : t = s.secDone q) : t.rd F.SEC_PROG_BUSY = 0 ∧
    t.rd F.SEC_PROG_STATUS = (if q then 0 else 3) ∧ t.sec = { s.sec with prog := none } ∧
    t.fuse = (if q then s.blow a k v else s.blowPart a k v) ∧
    t = { s with regs := t.regs, sec := t.sec, fuse := t.fuse, free := if q then s.free else s.free + 1 } := by
  obtain ⟨n, hn, hn8⟩ : ∃ n, n = (if q then 0 else 3) ∧ n < 8 := ⟨_, rfl, by cases q <;> decide⟩
  have hdef : t = { (s.wr F.SEC_PROG_BUSY 0).wr F.SEC_PROG_STATUS n with
      sec := { s.sec with prog := none }, fuse := if q then s.blow a k v else s.blowPart a k v,
      free := if q then s.free else s.free + 1 } := by
    rw [ht, hn]
    unfold State.secDone
    rw [hp]
    exact if_neg (by simp [hc])
  rw [hdef, ← hn]
  refine ⟨?_, State.rd_wr_of_lt (s.wr F.SEC_PROG_BUSY 0) F.SEC_PROG_STATUS 0 0 hn8, rfl, rfl, rfl⟩
  exact (State.rd_wr_apart (f := F.SEC_PROG_STATUS) (s.wr F.SEC_PROG_BUSY 0) n 0 0 0 0 (by decide)).trans
    (State.rd_wr_of_lt s F.SEC_PROG_BUSY (v := 0) 0 0 (by decide))

end

section
variable (s : State) (b : List Byte)

/-- Whether a response opens the scope. -/
def State.unlocks : Bool := match s.sec.chal with
  | none => false
  | some c => !s.fuse.debugLock && b.length == 96 && s.debugKey (b.take 32) && Ed.verify (b.take 32) c (b.drop 32)

/-- The state with the challenge used up. -/
def State.chalUsed : State := { s with sec := { s.sec with chal := none } }

theorem State.unlock_ways : s.unlock b = if s.unlocks b = true then
      if byteField (s.sec.chal.getD []) 40 1 = 1 ∨ byteField (s.sec.chal.getD []) 40 1 = 2 then
        (s.chalUsed.wr F.SEC_STAT_DBG_UNLOCKED 1).top F.SEC_STAT_DBG_SCOPE (byteField (s.sec.chal.getD []) 40 1)
      else s.chalUsed.wr F.SEC_STAT_DBG_UNLOCKED 1
    else { s.chalUsed.inc F.SEC_CNT_UNLOCK_FAIL with sec := { s.sec with chal := none, fails := s.sec.fails + 1 } } := rfl

/-- A response that does not unlock. -/
theorem State.unlock_fails (h : s.unlocks b = false) : (s.unlock b).sec = { s.sec with chal := none, fails := s.sec.fails + 1 } ∧
    (s.unlock b).rd F.SEC_CNT_UNLOCK_FAIL = F.SEC_CNT_UNLOCK_FAIL.plus (s.rd F.SEC_CNT_UNLOCK_FAIL) 1 ∧
    s.unlock b = { s with regs := (s.unlock b).regs, sec := (s.unlock b).sec } ∧
    OnlyWrites [F.SEC_CNT_UNLOCK_FAIL.key 0 0] s (s.unlock b) := by
  rw [s.unlock_ways, if_neg (by simp [h])]
  exact ⟨rfl, State.rd_inc s F.SEC_CNT_UNLOCK_FAIL 1 0 0, rfl,
    OnlyWrites.of_regs ((OnlyWrites.refl _ s).inc F.SEC_CNT_UNLOCK_FAIL 1 0 0 (List.mem_singleton_self _)) rfl⟩

/-- A response that unlocks. -/
theorem State.unlock_opens {ch : List Byte} (hch : s.sec.chal = some ch) (h : s.unlocks b = true) :
    (s.unlock b).sec = { s.sec with chal := none } ∧ (s.unlock b).rd F.SEC_STAT_DBG_UNLOCKED = 1 ∧
    (byteField ch 40 1 = 1 ∨ byteField ch 40 1 = 2 →
      (s.unlock b).rd F.SEC_STAT_DBG_SCOPE = max (s.rd F.SEC_STAT_DBG_SCOPE) (byteField ch 40 1) % 4) ∧
    s.unlock b = { s with regs := (s.unlock b).regs, sec := (s.unlock b).sec } ∧
    OnlyWrites [F.SEC_STAT_DBG_UNLOCKED.key 0 0, F.SEC_STAT_DBG_SCOPE.key 0 0] s (s.unlock b) := by
  have hun : (s.chalUsed.wr F.SEC_STAT_DBG_UNLOCKED 1).rd F.SEC_STAT_DBG_UNLOCKED = 1 :=
    State.rd_wr_of_lt s.chalUsed F.SEC_STAT_DBG_UNLOCKED (v := 1) 0 0 (by decide)
  have honly : OnlyWrites [F.SEC_STAT_DBG_UNLOCKED.key 0 0, F.SEC_STAT_DBG_SCOPE.key 0 0] s (s.chalUsed.wr F.SEC_STAT_DBG_UNLOCKED 1) :=
    OnlyWrites.of_regs ((OnlyWrites.refl _ s).wr F.SEC_STAT_DBG_UNLOCKED 1 0 0 (by decide)) rfl
  rw [s.unlock_ways, if_pos h, hch]
  simp only [Option.getD_some]
  split
  next hsc =>
    refine ⟨rfl, (State.rd_top_apart _ _ _ _ _ _ (by decide)).trans hun, fun _ => ?_, rfl,
      honly.wr F.SEC_STAT_DBG_SCOPE _ 0 0 (by decide)⟩
    have hrd : (s.chalUsed.wr F.SEC_STAT_DBG_UNLOCKED 1).rd F.SEC_STAT_DBG_SCOPE = s.rd F.SEC_STAT_DBG_SCOPE :=
      State.rd_wr_apart s.chalUsed 1 0 0 0 0 (by decide)
    unfold State.top
    rw [State.rd_wr_self, hrd, Nat.min_eq_left (by rcases hsc with h | h <;> rw [h] <;> decide)]
    rfl
  next hsc => exact ⟨rfl, hun, fun h => absurd h hsc, rfl, honly⟩

end

/-- Settles O60: a write of SEC_PROG in its three ways, the end of a program, and the challenge and response. -/
theorem fusesAndUnlockFollowTheirRules : Obligations.FusesAndUnlockFollowTheirRules := by
  unfold Obligations.FusesAndUnlockFollowTheirRules
  intro s
  simp only [exec_secProgDone, exec_unlockChal, exec_unlockResp]
  refine ⟨fun i a k v h => ?_, fun h q => ?_, fun a k v hp hc => ⟨?_, ?_⟩, ?_, fun h b => ?_, fun h b => ?_, fun b h => ?_,
    fun b ch hch hl hn hk hv => ?_⟩
  · obtain ⟨he, h1, h5, hk, hv⟩ := exec_secProg s h
    obtain ⟨⟨ha, hb, hc, hd, hf⟩, h2, h3⟩ := s.secProg_effect h1 h5 hk hv rfl
    exact ⟨_, he, ha, hb, hc, hd, hf, h2, h3⟩
  · unfold State.secDone
    rcases h with h | h
    · rw [h]
    · split
      · rfl
      · exact congrArg _ (if_pos h)
  · obtain ⟨h1, h2, h3, h4, h5⟩ := State.secDone_effect hp hc true rfl
    simp only [if_true] at h2 h4 h5
    refine ⟨_, rfl, h1, h2, by rw [h3], h5, fun ha => ?_, fun ha => ?_, fun ha => ?_, fun ha => ?_, fun ha => ?_⟩
    all_goals rw [h4, ha]
    · rfl
    · exact ⟨rfl, fun hk => by simp [State.blow, listSet, hk]⟩
    · rfl
    · rfl
    · rfl
  · obtain ⟨h1, h2, h3, h4, -⟩ := State.secDone_effect hp hc false rfl
    simp only [Bool.false_eq_true, if_false] at h2 h4
    refine ⟨_, rfl, h1, h2, by rw [h3], fun ha => ?_, fun ha => ?_, fun ha hv => ?_⟩
    · rw [h4]
      unfold State.blowPart
      split
      · omega
      · omega
      · rfl
    · rw [h4, ha]
      rfl
    · rw [h4, ha]
      have := Nat.mod_lt (Config.freeNat s.free) (Nat.sub_pos_of_lt hv)
      exact ⟨Nat.le_add_right _ _, show s.fuse.rollback + Config.freeNat s.free % (v - s.fuse.rollback) < v by omega⟩
  · have hid : s.idcode = s.fuse.dieRev % 16 * 2 ^ 28 + 0x4A08 * 2 ^ 12 + 0x6A5 * 2 + 1 := by simp [State.idcode, bits]
    rw [← hid]
    rfl
  · exact congrArg _ (if_pos h)
  · have hdef : s.challenge b = _ := if_neg (by omega)
    refine ⟨_, _, congrArg _ hdef, rfl, rfl, ?_, ?_, ?_, rfl⟩
    · simp [toBytes_length]
    · simp [toBytes_length]
    · simp [List.drop_append, toBytes_length, List.drop_eq_nil_of_le]
  · refine ⟨_, rfl, s.unlock_fails b ?_⟩
    unfold State.unlocks
    split
    · rfl
    next c hc =>
      rcases h with h | h | h | h | h
      · exact absurd (hc.symm.trans h) (by simp)
      · simp [h]
      · simp [h]
      · simp [h]
      · simp [h c hc]
  · refine ⟨_, rfl, s.unlock_opens b hch ?_⟩
    unfold State.unlocks
    rw [hch]
    simp [hl, hn, hk, hv]

end Sys2Proof.Machine
end

section
/-! What work on memory leaves alone: SRAM words, GDDR6 beats, their counts, reports and wakes. -/
namespace Sys2Proof.Machine

/-- The fuses, the security state, the waiting commands, the command window, the learning engine's own state and the
registers of the learning regions are as before. -/
structure MemWork (s t : State) : Prop where
  fuse : t.fuse = s.fuse
  sec : t.sec = s.sec
  pending : t.pending = s.pending
  cmd : t.cmd = s.cmd
  learn : t.learn = s.learn
  region : ∀ f : Fld, f.reg.num = Reg.num .LRN_REGION → ∀ u i, t.rd f u i = s.rd f u i

namespace MemWork

theorem refl (s : State) : MemWork s s := ⟨rfl, rfl, rfl, rfl, rfl, fun _ _ _ _ => rfl⟩

theorem trans {s t u : State} (h : MemWork s t) (h' : MemWork t u) : MemWork s u :=
  ⟨h'.fuse.trans h.fuse, h'.sec.trans h.sec, h'.pending.trans h.pending, h'.cmd.trans h.cmd, h'.learn.trans h.learn,
    fun f hf u i => (h'.region f hf u i).trans (h.region f hf u i)⟩

theorem foldl {α : Type} {f : State → α → State} (hf : ∀ s x, MemWork s (f s x)) (xs : List α) (s : State) :
    MemWork s (xs.foldl f s) := by
  induction xs generalizing s with
  | nil => exact refl s
  | cons x xs ih => exact (hf s x).trans (ih (f s x))

section
variable (s : State)

theorem wr (f : Fld) (v u i : Nat) (h : f.reg.num ≠ Reg.num .LRN_REGION) : MemWork s (s.wr f v u i) :=
  ⟨rfl, rfl, rfl, rfl, rfl, fun g hg u' i' => State.rd_wr_apart (f := f) (g := g) s v u i u' i' (by
    simp only [Fld.apart, bne_iff_ne, Bool.or_eq_true]
    exact Or.inl fun he => h (he ▸ hg))⟩

theorem inc (f : Fld) (n u i : Nat) (h : f.reg.num ≠ Reg.num .LRN_REGION) : MemWork s (s.inc f n u i) := wr s f _ u i h

theorem report (src kind cls a : Nat) : MemWork s (s.report src kind cls a) := ⟨rfl, rfl, rfl, rfl, rfl, fun _ _ _ _ => rfl⟩

theorem onCore (n : Nat) (f : CoreSt → CoreSt) : MemWork s (s.onCore n f) := ⟨rfl, rfl, rfl, rfl, rfl, fun _ _ _ _ => rfl⟩

theorem onG6 (g : Nat) (f : G6St → G6St) : MemWork s (s.onG6 g f) := ⟨rfl, rfl, rfl, rfl, rfl, fun _ _ _ _ => rfl⟩

theorem act (e c n : Nat) : MemWork s (s.act e c n) := ⟨rfl, rfl, rfl, rfl, rfl, fun _ _ _ _ => rfl⟩

theorem stage (a : Nat) (p : Packet) (w : Why) (b r : Bool) : MemWork s (s.stage a p w b r) :=
  ⟨rfl, rfl, rfl, rfl, rfl, fun _ _ _ _ => rfl⟩

theorem setBytes (a : Nat) (bs : List Byte) : MemWork s (s.setBytes a bs) := by
  induction bs generalizing s a with
  | nil => exact refl s
  | cons b bs ih =>
    have hb : MemWork s (s.setByte a b) := ⟨rfl, rfl, rfl, rfl, rfl, fun _ _ _ _ => rfl⟩
    exact hb.trans (ih (s.setByte a b) (a + 1))

theorem setWord (a : Nat) (w : Word) : MemWork s (s.setWord a w) :=
  (setBytes s a (toBytes 8 w.toNat)).trans ⟨rfl, rfl, rfl, rfl, rfl, fun _ _ _ _ => rfl⟩

/-! Core SRAM. -/

theorem sramLog (n w : Nat) : MemWork s (s.sramLog n w) := (wr s _ _ n 0 (by decide)).trans (wr _ _ _ n 0 (by decide))

theorem sramCorrected (n w : Nat) : MemWork s (s.sramCorrected n w) := by
  have h : MemWork s (((s.sramLog n w).inc F.MEM_SRAM_CNT_CORR 1 n).onCore n (fun c => { c with
      corrRun := ((s.core n).corrRun + 1) % 256, writeback := c.writeback.filter (· != w) ++ [w] })) :=
    ((sramLog s n w).trans (inc _ _ 1 n 0 (by decide))).trans (onCore ..)
  unfold State.sramCorrected
  extract_lets k s1
  split
  · exact h.trans (report ..)
  · exact h

theorem sramBad (n w : Nat) : MemWork s (s.sramBad n w) :=
  ((sramLog s n w).trans (inc _ _ 1 n 0 (by decide))).trans (report ..)

theorem sramRead (n w : Nat) : MemWork s (s.sramRead n w).2 := by
  unfold State.sramRead
  split
  · exact inc s _ 1 n 0 (by decide)
  · split
    · exact refl s
    · exact sramCorrected s n w
    · exact sramBad s n w

theorem sramWrite (n w : Nat) (v : Word) : MemWork s (s.sramWrite n w v) := by
  unfold State.sramWrite
  split
  · exact inc s _ 1 n 0 (by decide)
  · exact (setWord s _ v).trans (onCore ..)

/-! A GDDR6 group. -/

theorem g6Fail (g a : Nat) : MemWork s (s.g6Fail g a) := (wr s _ _ g 0 (by decide)).trans (report ..)

theorem g6Retire (g p a : Nat) : MemWork s (s.g6Retire g p a) := by
  unfold State.g6Retire
  split
  · exact refl s
  · split
    · exact ((((wr s _ _ _ _ (by decide)).trans (wr _ _ _ _ _ (by decide))).trans (wr _ _ _ _ _ (by decide))).trans
        (wr _ _ _ _ _ (by decide))).trans (report ..)
    · exact (((((wr s _ _ _ _ (by decide)).trans (wr _ _ _ _ _ (by decide))).trans (wr _ _ _ _ _ (by decide))).trans
        (wr _ _ _ _ _ (by decide))).trans (wr _ _ _ _ _ (by decide))).trans (report ..)
    · split
      · exact refl s
      · exact g6Fail s g a

theorem g6Pins (g a : Nat) (m : Code) : MemWork s (s.g6Pins g a m) := by
  refine foldl (fun t p => ?_) _ s
  dsimp only
  split
  · exact (onG6 ..).trans (g6Retire ..)
  · exact onG6 ..

theorem g6Log (g a type : Nat) : MemWork s (s.g6Log g a type) :=
  ((wr s _ _ _ _ (by decide)).trans (wr _ _ _ _ _ (by decide))).trans (wr _ _ _ _ _ (by decide))

theorem g6Window (g : Nat) : MemWork s (s.g6Window g) := by
  unfold State.g6Window
  split
  · exact refl s
  · exact onG6 ..

theorem g6Account (g a : Nat) : MemWork s (s.g6Account g a) := by
  have h0 : MemWork s ((s.g6Window g).onG6 g (fun x => { x with window := x.window + 1 })) := (g6Window s g).trans (onG6 ..)
  unfold State.g6Account
  extract_lets s0 k
  split
  · exact h0
  · extract_lets s1
    have h1 : MemWork s s1 :=
      (((h0.trans (g6Log s0 g a 1)).trans (inc _ _ 1 g 0 (by decide))).trans (onG6 ..)).trans (g6Pins ..)
    split
    · exact h1.trans (report ..)
    · exact h1
  · exact ((h0.trans (g6Log s0 g a 2)).trans (inc _ _ 1 g 0 (by decide))).trans (report ..)

theorem g6KeepBeat (g a : Nat) : MemWork s (s.g6KeepBeat g a) := by
  unfold State.g6KeepBeat
  extract_lets s1
  have h1 : MemWork s s1 := g6Account s g a
  split
  · exact h1
  · exact h1.trans (setWord ..)
  · exact h1.trans (inc _ _ 1 g 0 (by decide))

theorem g6WriteBurst (b : Nat) (f : Nat → Option Word) : MemWork s (s.g6WriteBurst b f) := by
  refine (act s 8 0 1 : MemWork s s.g6Active).trans (foldl (fun t k => ?_) _ _)
  split
  · exact setWord ..
  · exact g6KeepBeat ..

theorem g6Fetch (a n : Nat) : MemWork s (s.g6Fetch a n).2 := by
  unfold State.g6Fetch
  extract_lets as
  split
  · exact refl s
  · exact (foldl (fun t x => g6Account t _ x) as s).trans (act ..)

theorem g6Unread (g : Nat) (k : Packet) (tok : Bool) : MemWork s (s.g6Unread g k tok) :=
  ((foldl (fun t _ => g6Account t g _) (List.range 16) s).trans (act ..)).trans (stage ..)

theorem g6Add (g : Nat) (k : Packet) : MemWork s (s.g6Add g k) := by
  unfold State.g6Add
  dsimp only
  split
  · exact ((g6Account s g _).trans (g6WriteBurst ..)).trans (stage ..)
  · exact g6Unread ..

theorem g6Store (g : Nat) (k : Packet) : MemWork s (s.g6Store g k) := by
  unfold State.g6Store
  dsimp only
  split
  · exact (g6WriteBurst ..).trans (stage ..)
  · split
    · exact ((g6Account s g _).trans (g6WriteBurst ..)).trans (stage ..)
    · exact g6Unread ..

theorem g6Perform (g : Nat) (k : Packet) : MemWork s (s.g6Perform g k) := by
  unfold State.g6Perform
  split
  · exact stage ..
  · split
    · exact g6Store ..
    · split
      · exact g6Add ..
      · dsimp only
        split
        · exact (g6Fetch s _ _).trans (stage ..)
        · exact (g6Fetch s _ _).trans (stage ..)

theorem g6SelfRef (g : Nat) (v : Bool) : MemWork s (s.g6SelfRef g v) :=
  (wr s _ _ _ _ (by decide)).trans (wr _ _ _ _ _ (by decide))

theorem woken (d : Domain) : MemWork s (s.woken d) := by
  have hstart : MemWork s (s.wakeStart d) := by
    unfold State.wakeStart
    split
    · exact refl s
    · have hc : MemWork s (s.countWake d) := by
        cases d with
        | core n => exact inc s _ 1 0 0 (by decide)
        | engine e => exact inc s _ 1 0 0 (by decide)
        | group g => exact inc s _ 1 0 0 (by decide)
      exact hc.trans ⟨rfl, rfl, rfl, rfl, rfl, fun _ _ _ _ => rfl⟩
  have hdone (t : State) : MemWork t (t.wakeDone d) := by
    unfold State.wakeDone
    split
    · exact refl t
    · have hu : MemWork t (t.ungate d) := by
        cases d with
        | core n => exact ⟨rfl, rfl, rfl, rfl, rfl, fun _ _ _ _ => rfl⟩
        | engine e => exact wr t _ _ 0 0 (by decide)
        | group g => exact (g6SelfRef t g false).trans (onG6 _ g fun x => { x with lastUse := t.grain })
      exact hu.trans ⟨rfl, rfl, rfl, rfl, rfl, fun _ _ _ _ => rfl⟩
  unfold State.woken
  split
  · exact hstart.trans (hdone _)
  · exact refl s

theorem g6Turn (as : List Nat) : MemWork s (s.g6Turn as) := by
  refine foldl (fun t g => ?_) _ s
  dsimp only
  exact ((woken t (.group g)).trans (onG6 ..)).trans (foldl (fun u o => g6Perform u g _) _ _)

theorem g6Write (a : Nat) (ws : List Word) : MemWork s (s.g6Write a ws) := by
  unfold State.g6Write
  split
  · exact refl s
  · refine foldl (fun t j => ?_) _ s
    dsimp only
    split
    · exact refl t
    · exact (g6Turn t _).trans (g6WriteBurst ..)

theorem g6Read (a n : Nat) : MemWork s (s.g6Read a n).2 := (g6Turn s _).trans (g6Fetch ..)

/-! A snapshot's copy. -/

theorem copyWord (n w : Nat) : MemWork s (s.copyWord n w).2 := by
  unfold State.copyWord
  extract_lets x
  have hx : MemWork s x.2 := sramRead s n w
  split
  · exact hx
  · exact hx.trans ⟨rfl, rfl, rfl, rfl, rfl, fun _ _ _ _ => rfl⟩

theorem copyWords (n w a k : Nat) : MemWork s (s.copyWords n w a k) := by
  induction k generalizing s w a with
  | zero => exact refl s
  | succ k ih => exact ((copyWord s n w).trans (g6Write _ a _)).trans (ih _ (w + 1) (a + 8))

theorem copyRanges (rs : List (Nat × Nat × Nat)) : ∀ (s : State) (a : Nat) (ks : List Nat), MemWork s (s.copyRanges a rs ks) := by
  induction rs with
  | nil => exact fun s a ks => by cases ks <;> exact refl s
  | cons r rs ih =>
    intro s a ks
    cases ks with
    | nil => exact refl s
    | cons k ks => exact ((g6Write s a _).trans (copyWords ..)).trans (ih _ _ ks)

end

/-! The SRAM port of one operation. -/

theorem port_read (p : Port) (w : Nat) : MemWork p.s (p.read w).2.s := by
  unfold Port.read
  split
  · exact refl _
  · exact sramRead ..

theorem port_write (p : Port) (w : Nat) (v : Word) : MemWork p.s (p.write w v).s := sramWrite ..

theorem port_modify (p : Port) (w : Nat) (f : Word → Word) : MemWork p.s (p.modify w f).s := by
  have h := port_read p w
  unfold Port.modify
  split
  next v q hq =>
    rw [hq] at h
    exact h.trans (port_write ..)
  next q hq =>
    rw [hq] at h
    exact h

theorem port_foldl {α : Type} {f : Port → α → Port} (hf : ∀ p x, MemWork p.s (f p x).s) (xs : List α) (p : Port) :
    MemWork p.s (xs.foldl f p).s := by
  induction xs generalizing p with
  | nil => exact refl _
  | cons x xs ih => exact (hf p x).trans (ih (f p x))

theorem clearLearning (s : State) (n : Nat) (planes : Bool) : MemWork s (s.clearLearning n planes) := by
  unfold State.clearLearning
  extract_lets gs na ns ts rule p0 p1 p2 p3
  have h1 : MemWork s p1.s := by
    unfold p1
    split
    · exact port_foldl (fun p k => port_write ..) _ p0
    · exact refl s
  have h2 : MemWork p1.s p2.s := by
    refine port_foldl (fun p a => ?_) _ p1
    split
    · exact port_write ..
    · exact port_modify ..
  have h3 : MemWork p2.s p3.s := by
    refine port_foldl (fun p c => ?_) _ p2
    extract_lets q1 q2 j
    have hq1 : MemWork p.s q1.s := by
      unfold q1
      split
      · exact port_modify ..
      · exact refl _
    have hq2 : MemWork p.s q2.s := by
      unfold q2
      split
      · exact hq1.trans (port_write ..)
      · exact hq1
    split
    · exact hq2.trans (port_modify ..)
    · exact hq2
  exact (h1.trans h2).trans h3

end MemWork

end Sys2Proof.Machine
end

section
/-! LEARN_CTRL, SNAPSHOT and the end of a copy (05_on_chip_learning.md R147 to R150, 12_command_interface.md R334). -/
namespace Sys2Proof.Machine

section
variable (s : State) (c : HostCmd)
theorem exec_learnCtrlOff : exec (.learnCtrlOff c) s = .next (s.learnRow c 0) := rfl
theorem exec_learnCtrlRun : exec (.learnCtrlRun c) s = .next (s.learnRow c 1) := rfl
theorem exec_learnCtrlAccum : exec (.learnCtrlAccum c) s = .next (s.learnRow c 2) := rfl
theorem exec_learnCtrlClear : exec (.learnCtrlClear c) s = .next (s.learnRow c 3) := rfl
theorem exec_snapshot : exec (.snapshot c) s = .next (s.serve snapshotOp c (fun stamp _ t => t.snapshot c stamp)) := rfl
theorem exec_snapshotCopyDone : exec .snapshotCopyDone s = .next s.snapDone := rfl
theorem exec_snapHoldExpired : exec .snapHoldExpired s = .next s.snapExpired := rfl
end

section
variable {s : State} {c : HostCmd}

theorem State.learnRow_other {action : Nat} (h : c.par 1 1 ≠ action) (h3 : c.par 1 1 ≤ 3) : s.learnRow c action = s := if_pos ⟨h, h3⟩

theorem State.learnRow_own : s.learnRow c (c.par 1 1) = s.serve learnOp c (fun stamp _ t => t.learnCtrl (c.par 0 1) (c.par 1 1) stamp) :=
  if_neg fun h => h.1 rfl

theorem State.took_running (s : State) : s.took.running = s.running := State.took_on_apart (by decide)

/-- A standing device performs a learning command at once. -/
theorem State.actionStep_standing (h : s.running = false) (r stamp : Nat) : s.took.actionStep r stamp = none := by
  unfold State.actionStep
  rw [State.took_running, h]
  rfl

/-- The first boundary of a region from a step on lies within one epoch, at the region's phase. -/
theorem State.firstBoundary_spec (r n : Nat) (he : s.rd F.LRN_REGION_EPOCH_STEPS 0 r ≠ 0) (hn : 1 ≤ n) :
    n ≤ s.firstBoundary r n ∧ s.firstBoundary r n < n + s.rd F.LRN_REGION_EPOCH_STEPS 0 r ∧
      (s.firstBoundary r n : Int) % s.rd F.LRN_REGION_EPOCH_STEPS 0 r =
        (s.rd F.LRN_REGION_PHASE 0 r : Int) % s.rd F.LRN_REGION_EPOCH_STEPS 0 r := by
  unfold State.firstBoundary
  generalize s.rd F.LRN_REGION_EPOCH_STEPS 0 r = e at he ⊢
  generalize s.rd F.LRN_REGION_PHASE 0 r = p
  have hmax : max 1 e = e := by omega
  have hmax' : max 1 n = n := by omega
  simp only [hmax, hmax']
  have h0 : (0 : Int) ≤ ((p : Int) - n) % e := Int.emod_nonneg _ (by omega)
  have h1 : ((p : Int) - n) % e < e := Int.emod_lt_of_pos _ (by omega)
  refine ⟨by omega, by omega, ?_⟩
  rw [Nat.cast_add, Int.toNat_of_nonneg h0, Int.add_emod_emod]
  congr 1
  omega

/-- The steps of a device that has taken a command. -/
theorem State.took_firstBoundary (r n : Nat) : s.took.firstBoundary r n = s.firstBoundary r n := by
  unfold State.firstBoundary
  rw [State.took_rd_apart _ _ (by decide), State.took_rd_apart _ _ (by decide)]

/-- The step from which a command of a running model looks for its boundary. -/
def State.actsFrom (s : State) : Nat := max (s.step + 1) (s.stepOf s.grain + 2).toNat

/-- In a running model with epochs the action waits for its boundary. -/
theorem State.actionStep_running (hrun : s.running = true) (r : Nat) (he : s.rd F.LRN_REGION_EPOCH_STEPS 0 r ≠ 0)
    (hp : s.time.phase ≠ .armed) : s.took.actionStep r s.grain = some (s.firstBoundary r s.actsFrom) := by
  have hon : s.took.on F.LRN_REGION_EPOCH_STEPS 0 r = true :=
    (State.on_of_rd (State.took_rd_apart _ _ (by decide))).trans (State.on_eq_true_iff.mpr he)
  have hstep : s.took.step = s.step := State.took_rd_apart _ _ (by decide)
  have hm : max (max 0 (s.stepOf s.grain + 2)).toNat (s.step + 1) = s.actsFrom := by
    unfold State.actsFrom
    omega
  unfold State.actionStep
  rw [State.took_running, hrun, hon, if_neg (by decide)]
  simp only
  rw [show s.took.time.phase = s.time.phase from rfl, if_neg hp, State.took_stepOf, hstep, hm, State.took_firstBoundary]

/-- The answer of a command whose effect kept the reply FIFO. -/
theorem answered_cmd {u t : State} (h : Ready s c) (hu : u.cmd = s.cmd) (data : List Byte) (ht : t = u.answer c 0 data) :
    Answered s t c data ∧ t = { u with cmd := t.cmd } := by
  obtain ⟨ha, hf⟩ := answered_ok h (u := u) (by rw [hu]) (by rw [hu]) data
  rw [← ht] at ha hf
  exact ⟨ha, hf⟩

/-- A state that a standing device's command writes the region's state in. -/
theorem learnAt_once (h : Ready s c) (hop : c.op = 0x30) (hr : learnOp.reason s.took c = none) (hrun : s.running = false)
    {u : State} (hu : u = s.took.learnAction (c.par 0 1) (c.par 1 1)) (hcmd : u.cmd = s.cmd) :
    ∃ t, s.learnRow c (c.par 1 1) = t ∧ Answered s t c (toBytes 8 (2 ^ 64 - 1)) ∧ t = { u with cmd := t.cmd } := by
  have hbody : s.took.learnCtrl (c.par 0 1) (c.par 1 1) s.grain = (u, .done 0 (toBytes 8 (2 ^ 64 - 1))) := by
    unfold State.learnCtrl
    rw [State.actionStep_standing hrun, hu]
  exact ⟨_, State.learnRow_own.trans (serve_done h hop hr hbody), answered_cmd h hcmd _ rfl⟩

/-- OFF, and RUN or ACCUM of a region that is not OFF, write the region's state alone. -/
theorem learnAction_state {r a : Nat} (ha : a ≤ 2) (h : a = 0 ∨ s.rd F.LRN_REGION_STATE 0 r ≠ 0) :
    s.took.learnAction r a = s.took.wr F.LRN_REGION_STATE a 0 r := by
  have hrd : s.took.rd F.LRN_REGION_STATE 0 r = s.rd F.LRN_REGION_STATE 0 r := State.took_rd_apart _ _ (by decide)
  unfold State.learnAction
  rw [if_neg (by omega), hrd, if_neg (by omega)]

theorem learnRow_state (h : Ready s c) (hop : c.op = 0x30) (hr : learnOp.reason s.took c = none) (hrun : s.running = false)
    {a : Nat} (hc : c.par 1 1 = a) (ha : a ≤ 2) (hs : a = 0 ∨ s.rd F.LRN_REGION_STATE 0 (c.par 0 1) ≠ 0) :
    ∃ t, Host.Outcome.next (s.learnRow c a) = (.next t : Host.Outcome State Fault Refusal) ∧ t.rd F.LRN_REGION_STATE 0 (c.par 0 1) = a ∧
      Answered s t c (toBytes 8 (2 ^ 64 - 1)) ∧ t = { s with regs := t.regs, cmd := t.cmd } ∧
      OnlyWrites [F.CMD_CNT_CMDS.key 0 0, F.LRN_REGION_STATE.key 0 (c.par 0 1)] s t := by
  subst hc
  obtain ⟨u, hu⟩ : ∃ u, u = s.took.wr F.LRN_REGION_STATE (c.par 1 1) 0 (c.par 0 1) := ⟨_, rfl⟩
  obtain ⟨t, ht, hans, hf⟩ := learnAt_once h hop hr hrun (hu.trans (learnAction_state ha hs).symm) (by rw [hu]; rfl)
  have hregs : t.regs = u.regs := (congrArg State.regs hf :)
  have hframe : u = { s with regs := u.regs } := by rw [hu]; rfl
  refine ⟨t, congrArg _ ht, (State.rd_of_regs hregs ..).trans ?_, hans, ?_, OnlyWrites.of_regs ?_ hregs⟩
  · rw [hu]
    exact State.rd_wr_of_lt s.took F.LRN_REGION_STATE 0 (c.par 0 1) (lt_of_le_of_lt ha (by decide))
  · rw [← hregs] at hframe
    rw [hframe] at hf
    exact hf
  · rw [hu]
    exact (s.took_onlyWrites.mono (by simp)).wr F.LRN_REGION_STATE (c.par 1 1) 0 (c.par 0 1) (by simp)

/-- CLEAR keeps the region's state. -/
theorem learnRow_clear (h : Ready s c) (hop : c.op = 0x30) (hr : learnOp.reason s.took c = none) (hrun : s.running = false)
    (hc : c.par 1 1 = 3) : ∃ t, Host.Outcome.next (s.learnRow c 3) = (.next t : Host.Outcome State Fault Refusal) ∧
      Answered s t c (toBytes 8 (2 ^ 64 - 1)) ∧ t.rd F.LRN_REGION_STATE 0 (c.par 0 1) = s.rd F.LRN_REGION_STATE 0 (c.par 0 1) := by
  obtain ⟨u, hu⟩ : ∃ u, u = s.took.learnAction (c.par 0 1) (c.par 1 1) := ⟨_, rfl⟩
  have hw : MemWork s.took u := by
    rw [hu, hc]
    exact MemWork.foldl (fun t n => MemWork.clearLearning t n true) _ s.took
  obtain ⟨t, ht, hans, hf⟩ := learnAt_once h hop hr hrun hu hw.cmd
  rw [hc] at ht
  refine ⟨t, congrArg _ ht, hans, ?_⟩
  have hregs : t.regs = u.regs := (congrArg State.regs hf :)
  exact ((State.rd_of_regs hregs ..).trans (hw.region _ rfl 0 _)).trans (State.took_rd_apart _ _ (by decide))

/-- In a running model the action joins those that wait. -/
theorem learnRow_waits (h : Ready s c) (hop : c.op = 0x30) (hr : learnOp.reason s.took c = none) (hrun : s.running = true)
    (he : s.rd F.LRN_REGION_EPOCH_STEPS 0 (c.par 0 1) ≠ 0) (hp : s.time.phase ≠ .armed) : ∃ t n, s.learnRow c (c.par 1 1) = t ∧
      t.learn.acts = s.learn.acts ++ [⟨c.par 0 1, c.par 1 1, n⟩] ∧ s.actsFrom ≤ n ∧
      n < s.actsFrom + s.rd F.LRN_REGION_EPOCH_STEPS 0 (c.par 0 1) ∧
      (n : Int) % s.rd F.LRN_REGION_EPOCH_STEPS 0 (c.par 0 1) =
        (s.rd F.LRN_REGION_PHASE 0 (c.par 0 1) : Int) % s.rd F.LRN_REGION_EPOCH_STEPS 0 (c.par 0 1) ∧
      Answered s t c (toBytes 8 n) ∧ t = { s with regs := t.regs, cmd := t.cmd, learn := t.learn } ∧
      OnlyWrites [F.CMD_CNT_CMDS.key 0 0] s t := by
  obtain ⟨n, hn⟩ : ∃ n, n = s.firstBoundary (c.par 0 1) s.actsFrom := ⟨_, rfl⟩
  have hpos : 1 ≤ s.actsFrom := le_trans (by omega) (le_max_left _ _)
  obtain ⟨h1, h2, h3⟩ := s.firstBoundary_spec (c.par 0 1) s.actsFrom he hpos
  obtain ⟨u, hu⟩ : ∃ u : State, u = { s.took with learn := { s.took.learn with
    acts := s.took.learn.acts ++ [LearnAct.mk (c.par 0 1) (c.par 1 1) n] } } := ⟨_, rfl⟩
  have hbody : s.took.learnCtrl (c.par 0 1) (c.par 1 1) s.grain = (u, .done 0 (toBytes 8 n)) := by
    unfold State.learnCtrl
    rw [State.actionStep_running hrun _ he hp, hu, hn]
  obtain ⟨hans, hf⟩ := answered_cmd h (u := u) (by rw [hu]; rfl) (toBytes 8 n) rfl
  generalize ht : u.answer c 0 (toBytes 8 n) = t at hans hf
  have hregs : t.regs = s.took.regs := (congrArg State.regs hf).trans (by rw [hu])
  have hlearn : t.learn = u.learn := (congrArg State.learn hf :)
  have huf : u = { s with regs := u.regs, learn := u.learn } := by rw [hu]; rfl
  refine ⟨t, n, State.learnRow_own.trans ((serve_done h hop hr hbody).trans ht), ?_, hn ▸ h1, hn ▸ h2, hn ▸ h3, hans, ?_,
    s.took_onlyWrites.of_regs hregs⟩
  · rw [hlearn, hu]
    rfl
  · rw [hf, huf]

/-- A snapshot as SNAPSHOT asks for it. -/
def snapAsked (c : HostCmd) : Snap := ⟨c.par 0 1, c.par 2 2, c.par 4 2, c.par 6 1, c.par 8 8, snapRanges c, 2 ^ 64 - 1, 0, false, none⟩

/-- The snapshot shown in LRN_SNAP_STAT. -/
def State.snapShown (s : State) (r : Nat) : State := ((s.wr F.LRN_SNAP_STAT_BUSY 1).wr F.LRN_SNAP_STAT_REGION r).wr F.LRN_SNAP_STAT_WORDS 0

theorem State.snapShown_effect (s : State) (r : Nat) : (s.snapShown r).rd F.LRN_SNAP_STAT_BUSY = 1 ∧
    (s.snapShown r).rd F.LRN_SNAP_STAT_REGION = r % 2 ^ F.LRN_SNAP_STAT_REGION.width ∧ (s.snapShown r).rd F.LRN_SNAP_STAT_WORDS = 0 ∧
    s.snapShown r = { s with regs := (s.snapShown r).regs } ∧
    ∀ i, (s.snapShown r).rd F.LRN_EPOCH_EPOCH 0 i = s.rd F.LRN_EPOCH_EPOCH 0 i := by
  unfold State.snapShown
  refine ⟨?_, ?_, ?_, rfl, fun i => ?_⟩
  · rw [State.rd_wr_apart _ _ _ _ _ _ (by decide), State.rd_wr_apart _ _ _ _ _ _ (by decide)]
    exact State.rd_wr_of_lt s F.LRN_SNAP_STAT_BUSY (v := 1) 0 0 (by decide)
  · rw [State.rd_wr_apart _ _ _ _ _ _ (by decide), State.rd_wr_self]
  · rw [State.rd_wr_self]
    rfl
  · rw [State.rd_wr_apart _ _ _ _ _ _ (by decide), State.rd_wr_apart _ _ _ _ _ _ (by decide),
      State.rd_wr_apart _ _ _ _ _ _ (by decide)]

/-- The two ways of SNAPSHOT's effect. -/
theorem State.snapshot_now {stamp : Nat} (h : s.actionStep (c.par 0 1) stamp = none) :
    s.snapshot c stamp = ((s.snapShown (c.par 0 1)).capture (snapAsked c) (2 ^ 64 - 1), .later 0) := by
  unfold State.snapshot
  dsimp only
  rw [h]
  rfl

theorem State.snapshot_at {stamp n : Nat} (h : s.actionStep (c.par 0 1) stamp = some n) :
    s.snapshot c stamp = ({ s.snapShown (c.par 0 1) with learn := { (s.snapShown (c.par 0 1)).learn with
      snap := some { snapAsked c with capture := n } } }, .later 0) := by
  unfold State.snapshot
  dsimp only
  rw [h]
  rfl

/-- SNAPSHOT of a standing device. -/
theorem snapshot_once (h : Ready s c) (hop : c.op = 0x31) (hr : snapshotOp.reason s.took c = none) (hrun : s.running = false)
    {t : State} (ht : t = s.serve snapshotOp c (fun stamp _ t => t.snapshot c stamp)) : t.rd F.LRN_SNAP_STAT_BUSY = 1 ∧
      t.rd F.LRN_SNAP_STAT_REGION = c.par 0 1 % 2 ^ F.LRN_SNAP_STAT_REGION.width ∧ t.rd F.LRN_SNAP_STAT_WORDS = 0 ∧
      t.rd F.LRN_REGION_SNAP_HOLD 0 (c.par 0 1) = c.par 2 2 % 2 ^ F.LRN_REGION_SNAP_HOLD.width ∧
      t.learn.snap = some { snapAsked c with epoch := s.rd F.LRN_EPOCH_EPOCH 0 (c.par 0 1), copying := true } ∧
      Waits s t c 0x31 0 ∧ t.mem = s.mem := by
  obtain ⟨h1, h2, h3, hf, he⟩ := s.took.snapShown_effect (c.par 0 1)
  generalize hp : s.took.snapShown (c.par 0 1) = p at h1 h2 h3 hf he
  have hbody : s.took.snapshot c s.grain = (p.capture (snapAsked c) (2 ^ 64 - 1), .later 0) := by
    rw [State.snapshot_now (State.actionStep_standing hrun _ _), hp]
  rw [serve_later h hop hr hbody] at ht
  have hregs : t.regs = (p.wr F.LRN_REGION_SNAP_HOLD (c.par 2 2) 0 (c.par 0 1)).regs := by rw [ht]; rfl
  have hrd {f : Fld} (hf : f.apart F.LRN_REGION_SNAP_HOLD = true) : t.rd f = p.rd f :=
    (State.rd_of_regs hregs ..).trans (State.rd_wr_apart _ _ _ _ _ _ hf)
  have hcmd : p.cmd = s.cmd := (congrArg State.cmd hf :)
  refine ⟨(hrd (by decide)).trans h1, (hrd (by decide)).trans h2, (hrd (by decide)).trans h3, ?_, ?_, ?_, ?_⟩
  · rw [State.rd_of_regs hregs, State.rd_wr_self]
  · have hep : s.rd F.LRN_EPOCH_EPOCH 0 (c.par 0 1) = p.rd F.LRN_EPOCH_EPOCH 0 (c.par 0 1) := by
      rw [he, State.took_rd_apart _ _ (by decide)]
    rw [ht, hep]
    rfl
  · rw [ht]
    exact waits_putOff c 0x31 0 (congrArg CmdSt.deferred hcmd) (congrArg CmdSt.replies hcmd)
  · rw [ht]
    exact (congrArg State.mem hf :)

/-- SNAPSHOT of a running model with epochs. -/
theorem snapshot_waits (h : Ready s c) (hop : c.op = 0x31) (hr : snapshotOp.reason s.took c = none) (hrun : s.running = true)
    (he : s.rd F.LRN_REGION_EPOCH_STEPS 0 (c.par 0 1) ≠ 0) (hp : s.time.phase ≠ .armed) {t : State}
    (ht : t = s.serve snapshotOp c (fun stamp _ t => t.snapshot c stamp)) : t.rd F.LRN_SNAP_STAT_BUSY = 1 ∧
      t.learn.snap = some { snapAsked c with capture := s.firstBoundary (c.par 0 1) s.actsFrom } ∧
      Waits s t c 0x31 0 ∧ t.mem = s.mem := by
  obtain ⟨h1, -, -, hf, -⟩ := s.took.snapShown_effect (c.par 0 1)
  generalize hq : s.took.snapShown (c.par 0 1) = p at h1 hf
  have hbody : s.took.snapshot c s.grain = ({ p with learn := { p.learn with
      snap := some { snapAsked c with capture := s.firstBoundary (c.par 0 1) s.actsFrom } } }, .later 0) := by
    rw [State.snapshot_at (State.actionStep_running hrun _ he hp), hq]
  rw [serve_later h hop hr hbody] at ht
  have hregs : t.regs = p.regs := by rw [ht]; rfl
  have hcmd : p.cmd = s.cmd := (congrArg State.cmd hf :)
  refine ⟨(State.rd_of_regs hregs ..).trans h1, by rw [ht]; rfl, ?_, ?_⟩
  · rw [ht]
    exact waits_putOff c 0x31 0 (congrArg CmdSt.deferred hcmd) (congrArg CmdSt.replies hcmd)
  · rw [ht]
    exact (congrArg State.mem hf :)

end

/-- The reply of the one command that waits. -/
theorem finish_one {s : State} {d : Deferred} (hd : s.cmd.deferred = [d]) (hpath : d.path = .i3cSdr) (hl : s.cmd.replies.length < 4)
    (hw : s.cmd.replyWait = []) {r : Nat} {data : List Byte} (hrep : statusOf r ≠ 0 ∨ data ≠ []) {t : State}
    (ht : t = s.finish d.op r data) : t.cmd.deferred = [] ∧
      t.cmd.replies = s.cmd.replies ++ [replyBytes d.word0 (statusOf r) r data] := by
  obtain ⟨u, hu⟩ : ∃ u : State, u = { s with cmd := { s.cmd with deferred := [] } } := ⟨_, rfl⟩
  have hfind : s.cmd.deferred.find? (fun x => x.op == d.op) = some d := by simp [hd]
  have hdrop : dropFirst (fun x => x == d) s.cmd.deferred = [] := by simp [hd, dropFirst]
  have hdef : t = u.sendReply d.path d.word0 d.ack r data := by
    rw [ht]
    unfold State.finish
    rw [hfind]
    dsimp only
    rw [hdrop, ← hu]
  have hncmd : (u.noted d.word0 r).cmd = u.cmd := by rw [State.noted_frame]
  have hsend : t = { u.noted d.word0 r with cmd := CmdSt.place { u.cmd with
      replyWait := u.cmd.replyWait ++ [replyBytes d.word0 (statusOf r) r data] } } := by
    rw [hdef, ← hncmd]
    unfold State.sendReply
    extract_lets st s1 b
    rw [if_neg (fun hc => hrep.elim (fun h => h hc.1) (fun h => h hc.2.1)), hpath]
    rfl
  have hcmd : t.cmd = { u.cmd with replies := u.cmd.replies ++ [replyBytes d.word0 (statusOf r) r data], ibiReply := u.cmd.ibiReply + 1 } := by
    rw [hsend]
    exact place_one _ (by rw [hu]; exact hl) (by rw [hu]; exact hw)
  rw [hcmd, hu]
  exact ⟨rfl, rfl⟩

section
variable {s : State} {x : Snap} {d : Deferred}

/-- The registers of a snapshot that ends. -/
def State.snapClosed (s : State) (x : Snap) (whole : Bool) (n : Nat) : State :=
  (((s.wr F.LRN_REGION_SNAP_HOLD 0 0 x.region).wr F.LRN_SNAP_STAT_BUSY 0).wrB F.LRN_SNAP_STAT_INCOMPLETE (!whole)).wr
    F.LRN_SNAP_STAT_WORDS n

theorem State.snapClosed_effect (s : State) (x : Snap) (whole : Bool) (n : Nat) : (s.snapClosed x whole n).rd F.LRN_SNAP_STAT_BUSY = 0 ∧
    (s.snapClosed x whole n).rd F.LRN_SNAP_STAT_INCOMPLETE = b2n (!whole) ∧ (s.snapClosed x whole n).rd F.LRN_REGION_SNAP_HOLD 0 x.region = 0 ∧
    (s.snapClosed x whole n).rd F.LRN_SNAP_STAT_WORDS = n % 2 ^ F.LRN_SNAP_STAT_WORDS.width := by
  unfold State.snapClosed
  refine ⟨?_, ?_, ?_, State.rd_wr_self ..⟩
  · rw [State.rd_wr_apart _ _ _ _ _ _ (by decide), State.rd_wrB_apart _ _ _ _ _ _ (by decide)]
    exact State.rd_wr_of_lt _ F.LRN_SNAP_STAT_BUSY (v := 0) 0 0 (by decide)
  · rw [State.rd_wr_apart _ _ _ _ _ _ (by decide)]
    exact State.rd_wrB_self _ F.LRN_SNAP_STAT_INCOMPLETE _ rfl
  · rw [State.rd_wr_apart _ _ _ _ _ _ (by decide), State.rd_wrB_apart _ _ _ _ _ _ (by decide),
      State.rd_wr_apart _ _ _ _ _ _ (by decide)]
    exact State.rd_wr_of_lt s F.LRN_REGION_SNAP_HOLD (v := 0) 0 x.region (by decide)

/-- The answer of a snapshot's end. -/
def snapReply (x : Snap) (whole : Bool) (n : Nat) : Nat × List Byte :=
  if whole then (0, toBytes 4 n ++ toBytes 4 0 ++ toBytes 8 x.capture) else (0x0620, [])

theorem snapReply_whole (x : Snap) (n w : Nat) :
    replyBytes w (statusOf (snapReply x true n).1) (snapReply x true n).1 (snapReply x true n).2 =
      replyBytes w 0 0 (toBytes 4 n ++ toBytes 4 0 ++ toBytes 8 x.capture) := by
  have h : snapReply x true n = (0, toBytes 4 n ++ toBytes 4 0 ++ toBytes 8 x.capture) := if_pos rfl
  rw [h, show statusOf 0 = 0 from rfl]

theorem snapReply_stopped (x : Snap) (n w : Nat) :
    replyBytes w (statusOf (snapReply x false n).1) (snapReply x false n).1 (snapReply x false n).2 = replyBytes w 1 0x0620 [] := by
  have h : snapReply x false n = (0x0620, []) := if_neg (by decide)
  rw [h, show statusOf 0x0620 = 1 from rfl]

/-- A copy that no port is to send ends. -/
theorem State.snapEnd_effect (hx : x.dest < 128) (hd : s.cmd.deferred = [d]) (hop : d.op = 0x31) (hpath : d.path = .i3cSdr)
    (hl : s.cmd.replies.length < 4) (hw : s.cmd.replyWait = []) (whole : Bool) (ks : List Nat) {t : State}
    (ht : t = s.snapEnd x whole ks) : (t.rd F.LRN_SNAP_STAT_BUSY = 0 ∧ t.rd F.LRN_SNAP_STAT_INCOMPLETE = b2n (!whole) ∧
      t.rd F.LRN_REGION_SNAP_HOLD 0 x.region = 0 ∧
      t.rd F.LRN_SNAP_STAT_WORDS = min ks.sum (2 ^ 27 - 1) % 2 ^ F.LRN_SNAP_STAT_WORDS.width) ∧ t.learn.snap = none ∧
      t.cmd.deferred = [] ∧ t.cmd.replies = s.cmd.replies ++
        [replyBytes d.word0 (statusOf (snapReply x whole ks.sum).1) (snapReply x whole ks.sum).1 (snapReply x whole ks.sum).2] := by
  obtain ⟨u, hu⟩ : ∃ u, u = s.g6Write x.buf (wordsOf (snapHeader x whole ks.sum
    (crc32c (s.bytes (x.buf + 64) (rangesLen x.ranges))).toNat)) := ⟨_, rfl⟩
  have hcu : u.cmd = s.cmd := by
    rw [hu]
    exact (MemWork.g6Write s _ _).cmd
  obtain ⟨w, hwd⟩ : ∃ w : State, w = { u.snapClosed x whole (min ks.sum (2 ^ 27 - 1)) with
    learn := { u.learn with snap := none } } := ⟨_, rfl⟩
  have hcw : w.cmd = s.cmd := by rw [hwd]; exact hcu
  have hemit : ∀ r : State, r.emitSnap x ks = r := by
    intro r
    unfold State.emitSnap
    refine if_pos ?_
    have hbit : bit x.dest 7 = false := by
      have hdiv : x.dest / 2 ^ 7 = 0 := Nat.div_eq_of_lt hx
      unfold bit
      rw [hdiv]
      rfl
    rw [hbit]
    rfl
  have hdef : t = w.finish d.op (snapReply x whole ks.sum).1 (snapReply x whole ks.sum).2 := by
    rw [ht, hwd, hu, hop]
    unfold State.snapEnd
    dsimp only
    rw [hemit]
    cases whole <;> rfl
  have hrep : statusOf (snapReply x whole ks.sum).1 ≠ 0 ∨ (snapReply x whole ks.sum).2 ≠ [] := by
    cases whole
    · exact Or.inl (show statusOf 0x0620 ≠ 0 by decide)
    · refine Or.inr fun h => ?_
      have := congrArg List.length h
      simp [snapReply, toBytes_length] at this
  obtain ⟨h1, h2⟩ := finish_one (s := w) (by rw [hcw]; exact hd) hpath (by rw [hcw]; exact hl) (by rw [hcw]; exact hw) hrep hdef
  have hrd {f : Fld} {u' i : Nat} (hf : f.apartFrom replyFlds = true) : t.rd f u' i = w.rd f u' i := by
    rw [hdef]
    exact State.finish_rd _ _ _ _ _ _ hf
  obtain ⟨c1, c2, c3, c4⟩ := u.snapClosed_effect x whole (min ks.sum (2 ^ 27 - 1))
  have hregs : w.regs = (u.snapClosed x whole (min ks.sum (2 ^ 27 - 1))).regs := by rw [hwd]
  obtain ⟨regs, tx, cmd, hfr⟩ := State.finish_frame w d.op (snapReply x whole ks.sum).1 (snapReply x whole ks.sum).2
  have hlearn : t.learn = w.learn := by rw [hdef, hfr]
  refine ⟨⟨?_, ?_, ?_, ?_⟩, ?_, h1, ?_⟩
  · exact ((hrd (by decide)).trans (State.rd_of_regs hregs ..)).trans c1
  · exact ((hrd (by decide)).trans (State.rd_of_regs hregs ..)).trans c2
  · exact ((hrd (by decide)).trans (State.rd_of_regs hregs ..)).trans c3
  · exact ((hrd (by decide)).trans (State.rd_of_regs hregs ..)).trans c4
  · rw [hlearn, hwd]
  · rw [h2, hcw]

/-- A copy that its hold has stopped. -/
theorem State.snapStopped_end (s : State) (x : Snap) : ∃ (u : State) (ks : List Nat), u.cmd = s.cmd ∧ s.snapStopped x = u.snapEnd x false ks := by
  unfold State.snapStopped
  split
  next ks _ => exact ⟨s, ks, rfl, rfl⟩
  · refine ⟨_, _, ?_, rfl⟩
    exact (MemWork.copyRanges x.ranges { s with free := s.free + x.ranges.length } _ _).cmd

theorem State.snapExpired_hold (hs : s.learn.snap = some x) (h : s.rd F.LRN_REGION_SNAP_HOLD 0 x.region ≠ 0) : s.snapExpired = s := by
  unfold State.snapExpired
  rw [hs]
  exact if_neg (by simp [h])

/-- Either end of a copy whose hold has run out. -/
theorem State.snap_runOut (hs : s.learn.snap = some x) (hc : x.copying = true) (h : s.rd F.LRN_REGION_SNAP_HOLD 0 x.region = 0)
    {i : Instr} (hi : i = .snapHoldExpired ∨ i = .snapshotCopyDone) : exec i s = .next (s.snapStopped x) := by
  rcases hi with rfl | rfl
  · rw [exec_snapHoldExpired]
    unfold State.snapExpired
    rw [hs]
    exact congrArg _ (if_pos (by simp [hc, h]))
  · rw [exec_snapshotCopyDone]
    unfold State.snapDone
    rw [hs]
    exact congrArg _ ((if_neg (by simp [hc])).trans (if_pos h))

/-- The end of a copy that is whole. -/
theorem State.snapDone_whole (hs : s.learn.snap = some x) (hc : x.copying = true) (h : s.rd F.LRN_REGION_SNAP_HOLD 0 x.region ≠ 0) :
    ∃ (u : State) (ks : List Nat), ks = x.ranges.map (·.2.2) ∧ u.cmd = s.cmd ∧ s.snapDone = u.snapEnd x true ks := by
  refine ⟨_, _, rfl, (MemWork.copyRanges x.ranges s (x.buf + 64) (x.ranges.map (·.2.2))).cmd, ?_⟩
  unfold State.snapDone
  rw [hs]
  exact (if_neg (by simp [hc])).trans (if_neg h)

theorem State.snap_none (h : ∀ x, s.learn.snap = some x → x.copying = false) : s.snapDone = s ∧ s.snapExpired = s := by
  unfold State.snapDone State.snapExpired
  cases hs : s.learn.snap with
  | none => exact ⟨rfl, rfl⟩
  | some x =>
    have hc := h x hs
    exact ⟨if_pos (by simp [hc]), if_neg (by simp [hc])⟩

end

/-- Settles O59: each row with its own action, at once or at its boundary; the snapshot; and the two ends of a copy. -/
theorem learningAndSnapshotsFollowTheirBoundaries : Obligations.LearningAndSnapshotsFollowTheirBoundaries := by
  unfold Obligations.LearningAndSnapshotsFollowTheirBoundaries
  intro s c
  refine ⟨fun h h3 => congrArg _ (State.learnRow_other h h3), fun h hop hr => ⟨fun hrun => ⟨fun ha => ?_, fun ha hs => ?_, fun ha hs => ?_,
      fun ha => ?_⟩, fun hrun he hp i hi => ?_⟩, fun h hop hr => ⟨fun hrun => ?_, fun hrun he hp => ?_⟩, fun h => ?_,
    fun x d hs hc hx hd hop hpath hl hw _ => ⟨fun hh => ?_, fun hh i hi => ?_, fun hh => ?_⟩⟩
  · exact learnRow_state h hop hr hrun ha (by decide) (Or.inl rfl)
  · exact learnRow_state h hop hr hrun ha (by decide) (Or.inr hs)
  · exact learnRow_state h hop hr hrun ha (by decide) (Or.inr hs)
  · exact learnRow_clear h hop hr hrun ha
  · obtain ⟨t, n, ht, hrest⟩ := learnRow_waits h hop hr hrun he hp
    refine ⟨t, n, ?_, hrest⟩
    rcases hi with ⟨rfl, ha⟩ | ⟨rfl, ha⟩ | ⟨rfl, ha⟩ | ⟨rfl, ha⟩
    all_goals rw [ha] at ht
    · exact (exec_learnCtrlOff s c).trans (congrArg _ ht)
    · exact (exec_learnCtrlRun s c).trans (congrArg _ ht)
    · exact (exec_learnCtrlAccum s c).trans (congrArg _ ht)
    · exact (exec_learnCtrlClear s c).trans (congrArg _ ht)
  · obtain ⟨h1, h2, h3, h4, h5, h6⟩ := snapshot_once h hop hr hrun rfl
    exact ⟨_, _, exec_snapshot s c, h1, h2, h3, h4, h5, rfl, rfl, rfl, rfl, rfl, rfl, h6⟩
  · obtain ⟨h1, h2, h3⟩ := snapshot_waits h hop hr hrun he hp rfl
    have hpos : 1 ≤ s.actsFrom := le_trans (by omega) (le_max_left _ _)
    obtain ⟨hn, -, -⟩ := s.firstBoundary_spec (c.par 0 1) s.actsFrom he hpos
    exact ⟨_, _, exec_snapshot s c, h1, h2, rfl, (le_max_left _ _).trans hn, rfl, h3⟩
  · obtain ⟨h1, h2⟩ := State.snap_none h
    exact ⟨congrArg _ h1, congrArg _ h2⟩
  · obtain ⟨u, ks, hks, hcmd, hdef⟩ := State.snapDone_whole hs hc hh
    obtain ⟨⟨h1, h2, h3, h4⟩, h5, h6, h7⟩ := State.snapEnd_effect (s := u) hx (by rw [hcmd]; exact hd) hop hpath (by rw [hcmd]; exact hl)
      (by rw [hcmd]; exact hw) true ks hdef
    rw [hks] at h4 h7
    exact ⟨_, exec_snapshotCopyDone s, h1, h2, h3, h5, h6, h4, by rw [h7, hcmd, snapReply_whole]⟩
  · obtain ⟨u, ks, hcmd, hdef⟩ := s.snapStopped_end x
    obtain ⟨⟨h1, h2, -, -⟩, h5, h6, h7⟩ := State.snapEnd_effect (s := u) hx (by rw [hcmd]; exact hd) hop hpath (by rw [hcmd]; exact hl)
      (by rw [hcmd]; exact hw) false ks hdef
    exact ⟨_, State.snap_runOut hs hc hh hi, h1, h2, h5, h6, by rw [h7, hcmd, snapReply_stopped]⟩
  · exact congrArg _ (State.snapExpired_hold hs hh)

end Sys2Proof.Machine
end

section
/-! The rejoin of a standby that was away (13_redundant_pair.md R364). -/
namespace Sys2Proof.Machine

theorem exec_replayRejoin (s : State) : exec .replayRejoin s = .next s.rejoin := rfl

/-- A standby about to rejoin after a restore, with a resynchronisation due, whose PAIR_STAT.ENG_READY holds a value beyond its
eight bits, which a bare record of registers may hold. -/
def wideReady : State :=
  { State.reset with
    regs := [(F.PAIR_STAT_PHASE.key 0 0, 2), (F.PAIR_STAT_ENG_READY.key 0 0, 2 ^ 8)]
    time := { State.reset.time with phase := .opened, winClosed := 1 }
    pair := { State.reset.pair with restoring := true, resync := true } }

/-- The rejoin is due, and writes ENG_READY afresh, cut to its eight bits. -/
theorem wideReady_cut : wideReady.rd F.PAIR_STAT_PHASE = 2 ∧ wideReady.time.winClosed = wideReady.step + 1 ∧
    wideReady.pair.replay.any (wideReady.dueBy wideReady.step) = false ∧
    reached wideReady.grain (wideReady.winStart (wideReady.step + 2)) = false ∧ wideReady.rd F.PAIR_STAT_SB_STATE ≠ 4 ∧
    wideReady.rd F.PAIR_STAT_ENG_READY = 2 ^ 8 ∧ wideReady.rejoin.rd F.PAIR_STAT_ENG_READY = 0 := by decide +kernel

/-- Refutes O55: a rejoin after a restore with a resynchronisation due writes ENG_READY with its own value, cut to the field's
eight bits, so that from a state whose register record holds a wider value it does not keep it. -/
theorem not_partnersWatchEachOther : ¬ Obligations.PartnersWatchEachOther := by
  unfold Obligations.PartnersWatchEachOther
  intro h
  obtain ⟨-, -, -, -, -, -, -, -, -, -, -, -, -, -, -, hrejoin⟩ := h wideReady
  obtain ⟨hphase, hwin, hreplay, hgrain, hsb, hwide, hcut⟩ := wideReady_cut
  obtain ⟨t, ht, -, -, -, -, -, -, -, hrestored, -⟩ := hrejoin hphase rfl hwin rfl (by simp [wideReady, State.reset, TinderSt.fresh]) hreplay hgrain hsb
  rw [exec_replayRejoin] at ht
  obtain rfl := Host.Outcome.next.inj ht
  have hready := (hrestored rfl).1
  rw [hcut, show wideReady.pair.resync = true from rfl, if_pos rfl, hwide] at hready
  exact absurd hready (by decide)

end Sys2Proof.Machine
end

section
/-! The mirror blocks that a member of the pair receives (13_redundant_pair.md R354). -/
namespace Sys2Proof.Machine

theorem exec_mirrorBlockReceive (b : List Byte) (s : State) : exec (.mirrorBlockReceive b) s = .next (s.blockIn b) := rfl

/-- A mirroring member that expects block 1 and whose PAIR_CNT1.BLK_ERR holds a value beyond its 16 bits, which a bare record of
registers may hold. -/
def wideBlockErrors : State :=
  { State.reset with
    regs := (List.range 6).map (fun p => (F.CSIRX_PORT_CFG_EN.key p 0, 1)) ++
      [(F.PAIR_CFG_MIRROR_EN.key 0 0, 1), (F.PAIR_CNT1_BLK_ERR.key 0 0, 2 ^ 16)]
    pair := { State.reset.pair with bseqRx := some 1 } }

/-- Block 0 with no records, which is so far behind the expected one that no block counts as missed. -/
def emptyBlock : List Byte := List.replicate 16 0

/-- The block arrives in form, and the count of errors is left with its wide value. -/
theorem wideBlockErrors_kept : wideBlockErrors.mirroring = true ∧ wideBlockErrors.rxReady wideBlockErrors.mirrorRx = true ∧
    byteField emptyBlock 12 2 = 0 ∧ byteField emptyBlock 14 1 < 8 ∧ byteField emptyBlock 15 1 = 0 ∧
    byteField emptyBlock 8 4 = 0 ∧ wideBlockErrors.rd F.PAIR_CNT1_BLK_ERR = 2 ^ 16 ∧
    (wideBlockErrors.blockIn emptyBlock).rd F.PAIR_CNT1_BLK_ERR = 2 ^ 16 := by decide +kernel

/-- Refutes O54: a block from which no missed block is counted leaves PAIR_CNT1.BLK_ERR as it is, while the statement has it
saturate at 16 bits, so that it fails from a state whose register record holds a wider value. -/
theorem not_mirrorBlocksAreSentAndChecked : ¬ Obligations.MirrorBlocksAreSentAndChecked := by
  unfold Obligations.MirrorBlocksAreSentAndChecked
  intro h
  obtain ⟨-, -, -, -, -, -, -, -, -, -, -, hempty⟩ := h wideBlockErrors
  obtain ⟨hmirror, hrx, hcount, hflags, hlast, hseq, hwide, hkept⟩ := wideBlockErrors_kept
  obtain ⟨hgood, -⟩ := hempty hmirror hrx emptyBlock (by simp [emptyBlock]) hcount
  obtain ⟨t, ht, -, -, herr⟩ := hgood (by simp [emptyBlock]) hflags hlast
  rw [exec_mirrorBlockReceive] at ht
  obtain rfl := Host.Outcome.next.inj ht
  rw [hkept, hwide, hseq, show wideBlockErrors.pair.bseqRx = some 1 from rfl] at herr
  exact absurd herr (by decide)

end Sys2Proof.Machine
end

section
/-! The reset of one domain (12_command_interface.md R333, 15_faults.md R412). -/
namespace Sys2Proof.Machine

theorem exec_domainReset (s : State) (c : HostCmd) : exec (.domainReset c) s =
    .next (s.serve domainOp c (fun _ _ t => (t.domainReset (c.par 0 1) (c.par 2 2), .done 0 []))) := rfl

/-- A filter by the key leaves a key that reads as its default so. -/
theorem Sparse.get_filter_default {K V : Type} [DecidableEq K] (p : K → Bool) (k : K) (d : V) (m : List (K × V))
    (h : Sparse.get m k d = d) : Sparse.get (m.filter (fun e => p e.1)) k d = d := by
  by_cases hp : p k = true
  · rw [Sparse.get_filter _ (fun _ => hp), h]
  · refine Sparse.get_of_not_mem k d _ fun e he hk => hp ?_
    rw [← hk]
    exact (List.mem_filter.mp he).2

section
variable {s t : State} {rs : List Nat} {n u : Nat} {f : Fld} {k : Nat}

theorem State.dropRegs_rd_self (hf : rs.contains f.reg.num = true) : (s.dropRegs rs n).rd f n k = f.rst := by
  refine Sparse.get_of_not_mem (f.key n k) f.rst _ fun e he hk => ?_
  have hkeep := (List.mem_filter.mp he).2
  rw [hk, show (f.key n k).r = f.reg.num from rfl, show (f.key n k).u = n from rfl, hf] at hkeep
  simp at hkeep

theorem State.dropRegs_rd_ne (hu : u ≠ n) : (s.dropRegs rs n).rd f u k = s.rd f u k :=
  Sparse.get_filter _ (fun _ => by simp [Fld.key, hu]) s.regs

/-- Dropping registers leaves a register at its reset value there. -/
theorem State.dropRegs_rd_rst (h : s.rd f u k = f.rst) : (s.dropRegs rs n).rd f u k = f.rst :=
  Sparse.get_filter_default (fun key : Key => !(rs.contains key.r && key.u == n)) _ _ s.regs h

/-- Core `n` is as out of a reset: its buffers are empty and the registers of its window have their reset values. -/
def State.CoreFresh (s : State) (n : Nat) : Prop :=
  s.core n = CoreSt.fresh ∧ ∀ (f : Fld) (k : Nat), (Scope.regs .core).contains f.reg.num = true → s.rd f n k = f.rst

theorem State.resetCore_core_self : (s.resetCore n).core n = CoreSt.fresh :=
  State.core_setCore_self (s.dropRegs (Scope.regs .core) n) n CoreSt.fresh

theorem State.resetCore_core_ne (hu : u ≠ n) : (s.resetCore n).core u = s.core u :=
  State.core_setCore_ne (s.dropRegs (Scope.regs .core) n) CoreSt.fresh hu

theorem State.resetCore_coreFresh (s : State) (n : Nat) : (s.resetCore n).CoreFresh n :=
  ⟨State.resetCore_core_self, fun _ _ hf => State.dropRegs_rd_self (s := s) hf⟩

theorem State.CoreFresh.dropRegs (h : s.CoreFresh n) (rs : List Nat) (m : Nat) : (s.dropRegs rs m).CoreFresh n :=
  ⟨h.1, fun f k hf => State.dropRegs_rd_rst (h.2 f k hf)⟩

theorem State.CoreFresh.resetCore (h : s.CoreFresh n) (m : Nat) : (s.resetCore m).CoreFresh n := by
  obtain rfl | hne := eq_or_ne n m
  · exact s.resetCore_coreFresh n
  · exact ⟨(State.resetCore_core_ne hne).trans h.1, (h.dropRegs (Scope.regs .core) m).2⟩

theorem State.CoreFresh.foldl {α : Type} {g : State → α → State} (hg : ∀ s a, s.CoreFresh n → (g s a).CoreFresh n) (xs : List α) :
    ∀ s : State, s.CoreFresh n → (xs.foldl g s).CoreFresh n := by
  induction xs with
  | nil => exact fun _ h => h
  | cons x xs ih => exact fun s h => ih _ (hg s x h)

theorem State.resetCores_coreFresh (e : Nat) {j : Nat} (js : List Nat) (hj : j ∈ js) :
    ∀ s : State, (js.foldl (fun s j => s.resetCore (128 * e + j)) s).CoreFresh (128 * e + j) := by
  induction js with
  | nil => simp at hj
  | cons i js ih =>
    intro s
    obtain rfl | hin := List.mem_cons.mp hj
    · exact State.CoreFresh.foldl (fun _ _ h => h.resetCore _) js _ (s.resetCore_coreFresh _)
    · exact ih hin _

/-- Fuse values put into registers outside the cores' windows leave a fresh core fresh. -/
theorem State.CoreFresh.put (h : s.CoreFresh n) (es : List (Key × Nat))
    (hes : ∀ e ∈ es, (Scope.regs .core).contains e.1.r = false) :
    State.CoreFresh { s with regs := es.foldl (fun m e => Sparse.put Key.lt m e.1 e.2) s.regs } n := by
  refine ⟨h.1, fun f k hf => ?_⟩
  refine (Sparse.get_foldl_put_ne Key.lt _ _ _ _ fun e he hk => ?_).trans (h.2 f k hf)
  have hnot := hes e he
  rw [hk, show (f.key n k).r = f.reg.num from rfl, hf] at hnot
  exact absurd hnot (by decide)

/-- The registers of a core's window hold no fuse values that a reset computes. -/
theorem resetRegs_not_core : ∀ r ∈ [Reg.num .SPARE_DEFECT_CORE, Reg.num .SPARE_DEFECT_RTR, Reg.num .OWL_REACT, Reg.num .KILN_CAP],
    (Scope.regs .core).contains r = false := by decide +kernel

theorem State.domainReset_engine (s : State) {i j : Nat} (hj : j < 128) : (s.domainReset 1 i).CoreFresh (128 * i + j) := by
  have hcores : (s.resetEngine i).CoreFresh (128 * i + j) := State.resetCores_coreFresh i _ (List.mem_range.mpr hj) s
  have htiles := State.CoreFresh.foldl (fun s p h => h.dropRegs (Scope.regs .tile) p) (tilesOf i) _ hcores
  have hdropped := htiles.dropRegs (Scope.regs .engine) i
  exact hdropped.put _ fun e he => resetRegs_not_core _ (resetRegs_num s.fuse e (List.mem_filter.mp he).1)

/-- Between the two states neither memory nor the command unit changed. -/
def SameMemCmd (s t : State) : Prop := t.mem = s.mem ∧ t.cmd = s.cmd

theorem SameMemCmd.trans {s t u : State} (h : SameMemCmd s t) (h' : SameMemCmd t u) : SameMemCmd s u :=
  ⟨h'.1.trans h.1, h'.2.trans h.2⟩

theorem SameMemCmd.withRegs {s t : State} (h : SameMemCmd s t) (r : List (Key × Nat)) : SameMemCmd s { t with regs := r } := h

theorem SameMemCmd.foldl {α : Type} {g : State → α → State} (hg : ∀ s a, SameMemCmd s (g s a)) (xs : List α) :
    ∀ s, SameMemCmd s (xs.foldl g s) := by
  induction xs with
  | nil => exact fun _ => ⟨rfl, rfl⟩
  | cons x xs ih => exact fun s => (hg s x).trans (ih _)

theorem State.dropRegs_sameMemCmd (s : State) (rs : List Nat) (n : Nat) : SameMemCmd s (s.dropRegs rs n) := ⟨rfl, rfl⟩

theorem State.resetCore_sameMemCmd (s : State) (n : Nat) : SameMemCmd s (s.resetCore n) := ⟨rfl, rfl⟩

theorem State.resetEngine_sameMemCmd (s : State) (e : Nat) : SameMemCmd s (s.resetEngine e) := by
  unfold State.resetEngine
  exact SameMemCmd.foldl (fun t j => t.resetCore_sameMemCmd (128 * e + j)) _ s

theorem State.domainReset_sameMemCmd (s : State) (kind i : Nat) : SameMemCmd s (s.domainReset kind i) := by
  unfold State.domainReset
  split
  · exact ⟨rfl, rfl⟩
  · have htiles := SameMemCmd.foldl (fun t p => t.dropRegs_sameMemCmd (Scope.regs .tile) p) (tilesOf i) (s.resetEngine i)
    have hall := ((s.resetEngine_sameMemCmd i).trans htiles).trans (State.dropRegs_sameMemCmd _ (Scope.regs .engine) i)
    exact hall.withRegs _
  all_goals exact ⟨rfl, rfl⟩

variable {c : HostCmd}

/-- A DOMAIN_RESET that nothing refuses resets its domain and is answered. -/
theorem domainReset_answered (h : Ready s c) (ho : c.op = 0x3D) (hr : domainOp.reason s.took c = none) :
    ∃ t, exec (.domainReset c) s = .next t ∧ Answered s t c [] ∧
      t = { s.took.domainReset (c.par 0 1) (c.par 2 2) with cmd := t.cmd } := by
  obtain ⟨u, hu⟩ : ∃ u, u = s.took.domainReset (c.par 0 1) (c.par 2 2) := ⟨_, rfl⟩
  have hcmd : u.cmd = s.cmd := by rw [hu]; exact (s.took.domainReset_sameMemCmd _ _).2
  have hans := answered_cmd h hcmd [] rfl
  refine ⟨u.answer c 0 [], ?_, hans.1, hu ▸ hans.2⟩
  rw [exec_domainReset, serve_done h ho hr (u := u) (by rw [hu])]

theorem domainReset_core (h : Ready s c) (ho : c.op = 0x3D) (hr : domainOp.reason s.took c = none) (h0 : c.par 0 1 = 0) :
    ∃ t, exec (.domainReset c) s = .next t ∧
      (∀ (f : Fld) (k : Nat), (Scope.regs .core).contains f.reg.num = true → t.rd f (c.par 2 2) k = f.rst) ∧
      (∀ (f : Fld) (u k : Nat), u ≠ c.par 2 2 → t.rd f u k = s.took.rd f u k) ∧ t.core (c.par 2 2) = CoreSt.fresh ∧
      (∀ n, n ≠ c.par 2 2 → t.core n = s.core n) ∧ t.mem = s.mem ∧ t.flips = s.flips ∧ Answered s t c [] := by
  obtain ⟨t, ht, hans, hframe⟩ := domainReset_answered h ho hr
  rw [h0] at hframe
  obtain ⟨x, hx⟩ : ∃ x, x = t.cmd := ⟨_, rfl⟩
  rw [← hx] at hframe
  subst hframe
  have hfresh := s.took.resetCore_coreFresh (c.par 2 2)
  exact ⟨_, ht, hfresh.2, fun f u k hu => State.dropRegs_rd_ne (s := s.took) hu, hfresh.1,
    fun n hn => State.resetCore_core_ne (s := s.took) hn, rfl, rfl, hans⟩

theorem domainReset_others (h : Ready s c) (ho : c.op = 0x3D) (hr : domainOp.reason s.took c = none) :
    ∃ t, exec (.domainReset c) s = .next t ∧ t.mem = s.mem ∧ Answered s t c [] ∧
      (c.par 0 1 = 1 → ∀ j, j < 128 → t.core (128 * c.par 2 2 + j) = CoreSt.fresh ∧
        ∀ (f : Fld) (k : Nat), (Scope.regs .core).contains f.reg.num = true → t.rd f (128 * c.par 2 2 + j) k = f.rst) ∧
      (c.par 0 1 = 2 → t.g6g (c.par 2 2) = G6St.fresh ∧
        ∀ (f : Fld) (k : Nat), (Scope.regs .group).contains f.reg.num = true → t.rd f (c.par 2 2) k = f.rst) ∧
      (c.par 0 1 = 3 → t.rxp (c.par 2 2) = RxSt.fresh ∧
        ∀ (f : Fld) (k : Nat), (Scope.regs .rx).contains f.reg.num = true → t.rd f (c.par 2 2) k = f.rst) ∧
      (c.par 0 1 = 4 → t.txp (c.par 2 2) = TxSt.fresh ∧
        ∀ (f : Fld) (k : Nat), (Scope.regs .tx).contains f.reg.num = true → t.rd f (c.par 2 2) k = f.rst) := by
  obtain ⟨t, ht, hans, hframe⟩ := domainReset_answered h ho hr
  refine ⟨t, ht, ?_, hans, fun hk j hj => ?_, fun hk => ?_, fun hk => ?_, fun hk => ?_⟩
  · rw [hframe]
    exact (s.took.domainReset_sameMemCmd _ _).1
  all_goals rw [hk] at hframe
  · have hfresh := s.took.domainReset_engine (i := c.par 2 2) hj
    obtain ⟨u, hu⟩ : ∃ u, u = s.took.domainReset 1 (c.par 2 2) := ⟨_, rfl⟩
    rw [← hu] at hframe hfresh
    rw [hframe]
    exact hfresh
  all_goals
    rw [hframe]
    exact ⟨Sparse.get_drop_self .., fun f k hf => State.dropRegs_rd_self (s := s.took) hf⟩

end

end Sys2Proof.Machine
end

section
/-! Swaps of single cores, and the retirements that fail (14_bringup_loading_spares.md R393 to R400). -/
namespace Sys2Proof.Machine

theorem exec_spareSwap (s : State) (c : HostCmd) : exec (.spareSwap c) s =
    .next (s.serve spareOp c (fun _ _ t => t.spareSwap (c.par 0 2) (c.par 2 1))) := rfl
theorem exec_spareCopyDone (s : State) : exec .spareCopyDone s = .next s.spareDone := rfl
theorem exec_columnCopyDone (s : State) : exec .columnCopyDone s = .next s.columnDone := rfl

/-- The registers that a swap rewrites before it counts and shows itself: those of the moved tile, the maps, the defects and the
engine's own count of its spares. -/
def swapTables : List Nat :=
  coreTileRegs ++ [Reg.num .SPARE_SHADOW, Reg.num .SPARE_MAP, Reg.num .SPARE_DEFECT_CORE, Reg.num .SPARE_STAT]

/-- Register tables rebuilt from a filter and new entries of registers `rs` leave every other register. -/
theorem onlyRegs_rebuilt {rs : List Nat} (s : State) (p : Key × Nat → Bool) (es : List (Key × Nat))
    (hp : ∀ e, e.1.r ∉ rs → p e = true) (hes : ∀ e ∈ es, e.1.r ∈ rs) :
    OnlyRegs rs s { s with regs := es.foldl (fun m e => Sparse.put Key.lt m e.1 e.2) (s.regs.filter p) } := by
  refine ⟨rfl, fun f u i hf => ?_⟩
  refine (Sparse.get_foldl_put_ne Key.lt _ _ _ _ fun e he hk => hf ?_).trans (Sparse.get_filter p (fun v => hp _ hf) s.regs)
  rw [show f.reg.num = (f.key u i).r from rfl, ← hk]
  exact hes e he

theorem State.copyTile_onlyRegs {rs : List Nat} (s : State) (ks : List Nat) (a b : Nat) (h : ∀ k ∈ ks, k ∈ rs) :
    OnlyRegs rs s (s.copyTile ks a b) := by
  have hreb := onlyRegs_rebuilt (rs := rs) s (fun e => !(ks.contains e.1.r && e.1.u == b))
    ((s.regs.filter (fun e => ks.contains e.1.r && e.1.u == a)).map (fun e => ({ e.1 with u := b }, e.2)))
    (fun e he => by
      have hout : e.1.r ∉ ks := fun hk => he (h e.1.r hk)
      simp [hout]) fun e he => by
      obtain ⟨x, hx, rfl⟩ := List.mem_map.mp he
      have hk := (List.mem_filter.mp hx).2
      simp only [Bool.and_eq_true, List.contains_iff_mem] at hk
      exact h _ hk.1
  rw [List.foldl_map] at hreb
  exact hreb

theorem State.mapFlip_onlyRegs {rs : List Nat} (s : State) (e : Nat) (h : Reg.num .SPARE_MAP ∈ rs) : OnlyRegs rs s (s.mapFlip e) := by
  have hreb := onlyRegs_rebuilt (rs := rs) s (fun x => !(x.1.r == Reg.num .SPARE_MAP && x.1.u == e))
    ((s.regs.filter (fun x => x.1.r == Reg.num .SPARE_SHADOW && x.1.u == e)).map (fun x => ({ x.1 with r := Reg.num .SPARE_MAP }, x.2)))
    (fun x hx => by
      have hne : x.1.r ≠ Reg.num .SPARE_MAP := fun hr => hx (hr ▸ h)
      simp [hne]) fun x hx => by
      obtain ⟨y, -, rfl⟩ := List.mem_map.mp hx
      exact h
  rw [List.foldl_map] at hreb
  exact hreb

theorem State.moveMap_onlyRegs (s : State) (ms : List (Nat × Nat)) : OnlyRegs swapTables s (s.moveMap ms) := by
  unfold State.moveMap
  refine foldl_onlyRegs (fun t e => ?_) _ _
  refine (foldl_onlyRegs (fun t m => ?_) ms t).trans (State.mapFlip_onlyRegs _ e (by decide))
  exact (onlyRegs_wr t _ _ _ _ (by decide)).wr _ _ _ _ (by decide)

/-- The tables of a swap of core `n` to tile `b`. -/
def State.swapMoved (s : State) (n b : Nat) : State :=
  (((s.copyTile coreTileRegs (s.tileOf n) b).moveMap [(n, b)]).markDefect (s.tileOf n)).spareStat (n / 128)

theorem State.swapMoved_onlyRegs (s : State) (n b : Nat) : OnlyRegs swapTables s (s.swapMoved n b) := by
  have hcopy := s.copyTile_onlyRegs coreTileRegs (s.tileOf n) b (rs := swapTables) (fun k hk => List.mem_append_left _ hk)
  have hmap := hcopy.trans (State.moveMap_onlyRegs _ [(n, b)])
  exact ((hmap.wr _ _ _ _ (by decide)).wr _ _ _ _ (by decide)).wr _ _ _ _ (by decide)

/-- What a swap of core `n` from tile `a` to tile `b` shows and counts. -/
def State.swapShown (s : State) (n a b window : Nat) (ageing : Bool) : State :=
  let s2 := (s.wr F.CORE_STAT_FENCED 0 n).inc F.SPARE_CNT_SWAPS
  let s3 := if ageing then s2.inc F.SPARE_CNT_AGE_SWAPS else s2
  (((s3.wr F.SPARE_LAST_LOGICAL n).wr F.SPARE_LAST_OLD_TILE a).wr F.SPARE_LAST_NEW_TILE b).wr F.SPARE_LAST_WINDOW (min 65535 window)

theorem State.swapCore_eq (s : State) (n b window : Nat) (ageing : Bool) :
    s.swapCore n b window ageing = (s.swapMoved n b).swapShown n (s.tileOf n) b window ageing := rfl

section
variable {s t : State} {n a b window : Nat} {ageing : Bool}

/-- The registers in which a swap counts and shows itself. -/
def swapCounts : List Nat := [Reg.num .CORE_STAT, Reg.num .SPARE_CNT, Reg.num .SPARE_LAST]

theorem OnlyRegs.inc {rs : List Nat} {t : State} (h : OnlyRegs rs s t) (f : Fld) (hf : f.reg.num ∈ rs) : OnlyRegs rs s (t.inc f) :=
  h.wr f _ 0 0 hf

theorem State.swapShown_onlyRegs : OnlyRegs swapCounts s (s.swapShown n a b window ageing) := by
  have hcount := (onlyRegs_wr (rs := swapCounts) s F.CORE_STAT_FENCED 0 n 0 (by decide)).inc F.SPARE_CNT_SWAPS (by decide)
  have hage : OnlyRegs swapCounts s (if ageing then ((s.wr F.CORE_STAT_FENCED 0 n).inc F.SPARE_CNT_SWAPS).inc F.SPARE_CNT_AGE_SWAPS
      else (s.wr F.CORE_STAT_FENCED 0 n).inc F.SPARE_CNT_SWAPS) := by
    split
    · exact hcount.inc _ (by decide)
    · exact hcount
  exact (((hage.wr _ _ _ _ (by decide)).wr _ _ _ _ (by decide)).wr _ _ _ _ (by decide)).wr _ _ _ _ (by decide)

theorem State.swapShown_rd : (s.swapShown n a b window ageing).rd F.SPARE_LAST_LOGICAL = n % 1024 ∧
    (s.swapShown n a b window ageing).rd F.SPARE_LAST_OLD_TILE = a % 2 ^ F.SPARE_LAST_OLD_TILE.width ∧
    (s.swapShown n a b window ageing).rd F.SPARE_LAST_NEW_TILE = b % 2 ^ F.SPARE_LAST_NEW_TILE.width ∧
    (s.swapShown n a b window ageing).rd F.CORE_STAT_FENCED n = 0 ∧
    (s.swapShown n a b window ageing).rd F.SPARE_CNT_SWAPS = F.SPARE_CNT_SWAPS.plus (s.rd F.SPARE_CNT_SWAPS) 1 := by
  obtain ⟨v, hv⟩ : ∃ v, v = (s.wr F.CORE_STAT_FENCED 0 n).inc F.SPARE_CNT_SWAPS := ⟨_, rfl⟩
  have hfenced : v.rd F.CORE_STAT_FENCED n = 0 := by
    rw [hv, State.rd_inc_apart _ _ _ _ _ _ (by decide), State.rd_wr_self]
    rfl
  have hswaps : v.rd F.SPARE_CNT_SWAPS = F.SPARE_CNT_SWAPS.plus (s.rd F.SPARE_CNT_SWAPS) 1 := by
    rw [hv, State.rd_inc, State.rd_wr_apart _ _ _ _ _ _ (by decide)]
  obtain ⟨x, hx, hxf, hxs⟩ : ∃ x, x = (if ageing then v.inc F.SPARE_CNT_AGE_SWAPS else v) ∧
      x.rd F.CORE_STAT_FENCED n = v.rd F.CORE_STAT_FENCED n ∧ x.rd F.SPARE_CNT_SWAPS = v.rd F.SPARE_CNT_SWAPS := by
    refine ⟨_, rfl, ?_, ?_⟩
    · cases ageing
      · rfl
      · exact State.rd_inc_apart _ _ _ _ _ _ (by decide)
    · cases ageing
      · rfl
      · exact State.rd_inc_apart _ _ _ _ _ _ (by decide)
  have hshown : s.swapShown n a b window ageing = (((x.wr F.SPARE_LAST_LOGICAL n).wr F.SPARE_LAST_OLD_TILE a).wr
      F.SPARE_LAST_NEW_TILE b).wr F.SPARE_LAST_WINDOW (min 65535 window) := by
    rw [hx, hv]
    rfl
  have hlast {f : Fld} (u : Nat) (h1 : f.apart F.SPARE_LAST_LOGICAL = true) (h2 : f.apart F.SPARE_LAST_OLD_TILE = true)
      (h3 : f.apart F.SPARE_LAST_NEW_TILE = true) (h4 : f.apart F.SPARE_LAST_WINDOW = true) :
      (s.swapShown n a b window ageing).rd f u = x.rd f u := by
    rw [hshown, State.rd_wr_apart _ _ _ _ _ _ h4, State.rd_wr_apart _ _ _ _ _ _ h3, State.rd_wr_apart _ _ _ _ _ _ h2,
      State.rd_wr_apart _ _ _ _ _ _ h1]
  refine ⟨?_, ?_, ?_, ?_, ?_⟩
  · rw [hshown, State.rd_wr_apart _ _ _ _ _ _ (by decide), State.rd_wr_apart _ _ _ _ _ _ (by decide),
      State.rd_wr_apart _ _ _ _ _ _ (by decide), State.rd_wr_self]
    rfl
  · rw [hshown, State.rd_wr_apart _ _ _ _ _ _ (by decide), State.rd_wr_apart _ _ _ _ _ _ (by decide), State.rd_wr_self]
  · rw [hshown, State.rd_wr_apart _ _ _ _ _ _ (by decide), State.rd_wr_self]
  · rw [hlast n (by decide) (by decide) (by decide) (by decide), hxf, hfenced]
  · rw [hlast 0 (by decide) (by decide) (by decide) (by decide), hxs, hswaps]

/-- A swap of core `n` to tile `b` counts and shows itself, and changes registers only. -/
theorem State.swapCore_effect (ht : t = s.swapCore n b window ageing) : t = { s with regs := t.regs } ∧
    t.rd F.SPARE_LAST_LOGICAL = n % 1024 ∧
    t.rd F.SPARE_LAST_OLD_TILE = s.tileOf n % 2 ^ F.SPARE_LAST_OLD_TILE.width ∧
    t.rd F.SPARE_LAST_NEW_TILE = b % 2 ^ F.SPARE_LAST_NEW_TILE.width ∧ t.rd F.CORE_STAT_FENCED n = 0 ∧
    t.rd F.SPARE_CNT_SWAPS = F.SPARE_CNT_SWAPS.plus (s.rd F.SPARE_CNT_SWAPS) 1 := by
  obtain ⟨hmoved, hkeep⟩ := s.swapMoved_onlyRegs n b
  have hcount := hkeep F.SPARE_CNT_SWAPS 0 0 (by decide)
  rw [State.swapCore_eq] at ht
  obtain ⟨u, hu⟩ : ∃ u, u = s.swapMoved n b := ⟨_, rfl⟩
  rw [← hu] at ht hmoved hcount
  obtain ⟨h1, h2, h3, h4, h5⟩ := State.swapShown_rd (s := u) (n := n) (a := s.tileOf n) (b := b) (window := window) (ageing := ageing)
  have hframe := (State.swapShown_onlyRegs (s := u) (n := n) (a := s.tileOf n) (b := b) (window := window) (ageing := ageing)).1
  rw [← ht] at h1 h2 h3 h4 h5 hframe
  refine ⟨?_, h1, h2, h3, h4, by rw [h5, hcount]⟩
  rw [hframe, hmoved]

/-- A swap or retirement that cannot be carried out is counted, fences the device, and stores nothing. -/
theorem State.swapFailed_effect (s : State) (e p : Nat) :
    (s.swapFailed e p).rd F.SPARE_CNT_FAILED = F.SPARE_CNT_FAILED.plus (s.rd F.SPARE_CNT_FAILED) 1 ∧
    (s.swapFailed e p).rd F.PAIR_STAT_FENCED = 1 ∧ (s.swapFailed e p).rd F.OWL_STAT_DEV_FENCED = 1 ∧
    (s.swapFailed e p).mem = s.mem ∧ (s.swapFailed e p).time = s.time ∧ (s.swapFailed e p).spare = s.spare := by
  obtain ⟨v, hv, hcount, hmem, htime, hspare⟩ : ∃ v, v = (s.inc F.SPARE_CNT_FAILED).report (0x500 + e) 0x11 4 p ∧
      v.rd F.SPARE_CNT_FAILED = F.SPARE_CNT_FAILED.plus (s.rd F.SPARE_CNT_FAILED) 1 ∧ v.mem = s.mem ∧ v.time = s.time ∧ v.spare = s.spare :=
    ⟨_, rfl, State.rd_inc s _ 1 0 0, rfl, rfl, rfl⟩
  have hfailed : s.swapFailed e p = v.deviceFence := by rw [hv]; rfl
  have hrd (f : Fld) : v.deviceFence.rd f =
      ((((v.wr F.PAIR_STAT_FENCED 1).wr F.OWL_STAT_DEV_FENCED 1).wr F.PAIR_STAT_SB_STATE 5).wr F.ACT_STAT_LEVEL 0).rd f := rfl
  rw [hfailed]
  refine ⟨?_, ?_, ?_, hmem, htime, hspare⟩
  · rw [hrd, State.rd_wr_apart _ _ _ _ _ _ (by decide), State.rd_wr_apart _ _ _ _ _ _ (by decide),
      State.rd_wr_apart _ _ _ _ _ _ (by decide), State.rd_wr_apart _ _ _ _ _ _ (by decide), hcount]
  · rw [hrd, State.rd_wr_apart _ _ _ _ _ _ (by decide), State.rd_wr_apart _ _ _ _ _ _ (by decide),
      State.rd_wr_apart _ _ _ _ _ _ (by decide), State.rd_wr_self]
    rfl
  · rw [hrd, State.rd_wr_apart _ _ _ _ _ _ (by decide), State.rd_wr_apart _ _ _ _ _ _ (by decide), State.rd_wr_self]
    rfl

/-- The state with a swap or retirement out of the queue and no window open. -/
def State.swapGone (s : State) (rest : List Swap) : State :=
  { s with spare := { s.spare with queue := rest, window := none, forced := false } }

variable {w : Swap} {rest : List Swap}

/-- The end of a swap that neither Owl nor a command waits for, on a device that stands. -/
theorem State.swapEnd_plain {ok : Bool} (hslot : w.slot = none) (hreply : w.reply = false) (hphase : s.time.phase = .off)
    (hq : s.spare.queue = w :: rest) : s.swapEnd w ok = s.swapGone rest := by
  have hphase' : s.time.phase ≠ .swap := by rw [hphase]; decide
  have hdrop : dropFirst (fun x => x == w) (w :: rest) = rest := if_pos (beq_self_eq_true w)
  simp only [State.swapEnd, hslot, hreply, hphase', hq, hdrop, if_false, Bool.false_eq_true, State.swapGone]

theorem State.swapNow_standing (hrun : s.running = false) (hwin : s.spare.window = none) (hq : s.spare.queue = w :: rest) :
    s.swapNow = some (w, s.grain) := by
  simp [State.swapNow, hwin, hrun, hq]

theorem State.swapDone_none (h : s.swapNow = none) : s.spareDone = s ∧ s.columnDone = s := by
  unfold State.spareDone State.columnDone
  rw [h]
  exact ⟨rfl, rfl⟩

section
variable {g : Nat} (h : s.swapNow = some (w, g))
include h

theorem State.swapDone_unsettled (hw : s.swapSettled w = false) : s.spareDone = s ∧ s.columnDone = s := by
  unfold State.spareDone State.columnDone
  rw [h]
  refine ⟨if_pos (Or.inr (by simp [hw])), ?_⟩
  cases hc : w.columns with
  | nil => simp [hc]
  | cons c cs => simp [hc, hw]

theorem State.columnDone_single (hc : w.columns = []) : s.columnDone = s := by
  simp [State.columnDone, h, hc]

theorem State.spareDone_column (hc : w.columns ≠ []) : s.spareDone = s := by
  simp [State.spareDone, h, hc]

theorem State.spareDone_swapped (hc : w.columns = []) (hw : s.swapSettled w = true) (hp : s.swapPossible w = true)
    (hsource : w.source = 0) {b : Nat} (hb : s.spareFor w.core = some b) :
    s.spareDone = (s.swapCore w.core b (span s.grain g).toNat w.ageing).swapEnd w true := by
  simp [State.spareDone, State.swapSource, h, hc, hw, hp, hsource, hb]

theorem State.spareDone_failed (hc : w.columns = []) (hw : s.swapSettled w = true) (hp : s.swapPossible w = false) :
    s.spareDone = (s.swapFailed (w.core / 128) (s.tileOf w.core)).swapEnd w false := by
  simp [State.spareDone, h, hc, hw, hp]

theorem State.columnDone_failed {e : Nat × Nat} {cs : List (Nat × Nat)} (hc : w.columns = e :: cs) (hw : s.swapSettled w = true)
    (hp : s.swapPossible w = false) : s.columnDone = (s.swapFailed e.1 (engineTile e.1 e.2)).swapEnd w false := by
  simp [State.columnDone, h, hc, hw, hp]

end

/-- The end of a failed swap on a standing device, out of the queue. -/
theorem State.swapFailed_end (e p : Nat) (hslot : w.slot = none) (hreply : w.reply = false) (hphase : s.time.phase = .off)
    (hq : s.spare.queue = w :: rest) {t : State} (ht : t = (s.swapFailed e p).swapEnd w false) : t.spare.queue = rest ∧
    t.rd F.SPARE_CNT_FAILED = F.SPARE_CNT_FAILED.plus (s.rd F.SPARE_CNT_FAILED) 1 ∧ t.rd F.PAIR_STAT_FENCED = 1 ∧
    t.rd F.OWL_STAT_DEV_FENCED = 1 ∧ t.mem = s.mem := by
  obtain ⟨hcount, hfenced, howl, hmem, htime, hspare⟩ := s.swapFailed_effect e p
  obtain ⟨u, hu⟩ : ∃ u, u = s.swapFailed e p := ⟨_, rfl⟩
  rw [← hu] at hcount hfenced howl hmem htime hspare ht
  rw [State.swapEnd_plain hslot hreply (by rw [htime, hphase]) (by rw [hspare, hq])] at ht
  subst ht
  exact ⟨rfl, hcount, hfenced, howl, hmem⟩

variable {c : HostCmd}

/-- A SPARE_SWAP of a core that has a spare is marked, and its reply waits. -/
theorem spareSwap_marked (h : Ready s c) (ho : c.op = 0x3A) (hr : spareOp.reason s.took c = none)
    (hw : w = ⟨c.par 0 2, s.took.swapColumns (c.par 0 2), c.par 2 1, false, none, true⟩) (hp : s.took.swapPossible w = true) :
    ∃ t, exec (.spareSwap c) s = .next t ∧ t.spare.queue = s.spare.queue ++ [w] ∧ Waits s t c 0x3A 0 ∧
      t = { s with regs := t.regs, cmd := t.cmd, spare := t.spare } ∧ OnlyWrites [F.CMD_CNT_CMDS.key 0 0] s t := by
  have hmark : s.took.markSwap w = { s.took with spare := { s.took.spare with queue := s.took.spare.queue ++ [w] } } := by
    simp [State.markSwap, hw]
  obtain ⟨u, hu⟩ : ∃ u, u = s.took.markSwap w := ⟨_, rfl⟩
  have hbody : s.took.spareSwap (c.par 0 2) (c.par 2 1) = (u, .later 0) := by
    rw [hu]
    unfold State.spareSwap
    rw [← hw]
    exact if_pos hp
  rw [hmark] at hu
  refine ⟨u.putOff c 0x3A 0, ?_, ?_, waits_putOff c 0x3A 0 ?_ ?_, ?_, ?_⟩
  · rw [exec_spareSwap, serve_later h ho hr hbody]
    rfl
  all_goals rw [hu]
  · rfl
  · rfl
  · rfl
  · rfl
  · exact s.took_onlyWrites.of_regs rfl

/-- A SPARE_SWAP that cannot be carried out is answered so. -/
theorem spareSwap_impossible (h : Ready s c) (ho : c.op = 0x3A) (hr : spareOp.reason s.took c = none)
    (hw : w = ⟨c.par 0 2, s.took.swapColumns (c.par 0 2), c.par 2 1, false, none, true⟩) (hp : s.took.swapPossible w = false) :
    ∃ t, exec (.spareSwap c) s = .next t ∧ t.spare = s.spare ∧ t.mem = s.mem ∧
      t.cmd.replies = s.cmd.replies ++ [replyBytes c.word0 3 0x0F09 []] := by
  have hbody : s.took.spareSwap (c.par 0 2) (c.par 2 1) = (s.took, .done 0x0F09 []) := by
    unfold State.spareSwap
    rw [← hw]
    exact if_neg (by simp [hp])
  obtain ⟨hreply, hframe, -⟩ := answered_refusal (u := s.took) (r := 0x0F09) h rfl (by decide) []
  refine ⟨_, (exec_spareSwap s c).trans (congrArg _ (serve_done h ho hr hbody)), ?_, ?_, hreply⟩
  · rw [hframe]
    rfl
  · rw [hframe]
    rfl

end

/-- Settles O57: a swap is marked or refused, its copy's end moves the core or fences the device, and a domain's reset. -/
theorem swapsAndDomainResetsAct : Obligations.SwapsAndDomainResetsAct := by
  unfold Obligations.SwapsAndDomainResetsAct
  intro s c
  simp only [exec_spareCopyDone, exec_columnCopyDone]
  refine ⟨fun h ho hr => ⟨spareSwap_marked h ho hr rfl, spareSwap_impossible h ho hr rfl⟩, fun h => ?_,
    fun w rest hrun hphase hwin hq hw => ?_, fun w rest hrun hphase hwin hq hslot hreply hw => ?_, domainReset_core, domainReset_others⟩
  · exact ⟨congrArg _ (State.swapDone_none h).1, congrArg _ (State.swapDone_none h).2⟩
  · have hnow := State.swapNow_standing hrun hwin hq
    exact ⟨congrArg _ (State.swapDone_unsettled hnow hw).1, congrArg _ (State.swapDone_unsettled hnow hw).2⟩
  · have hnow := State.swapNow_standing hrun hwin hq
    refine ⟨fun hc => congrArg _ (State.columnDone_single hnow hc), fun hc => congrArg _ (State.spareDone_column hnow hc),
      fun hc hsource hp b hb => ?_, fun hc hp => ?_, fun hc hp => ?_⟩
    · obtain ⟨u, hu⟩ : ∃ u, u = s.swapCore w.core b (span s.grain s.grain).toNat w.ageing := ⟨_, rfl⟩
      obtain ⟨hframe, hlogical, hold, hnew, hfenced, hcount⟩ := State.swapCore_effect hu
      have htime := congrArg State.time hframe
      have hspare := congrArg State.spare hframe
      refine ⟨u.swapGone rest, ?_, rfl, hlogical, hold, hnew, hfenced, hcount, ?_⟩
      · rw [State.spareDone_swapped hnow hc hw hp hsource hb, ← hu, State.swapEnd_plain hslot hreply (htime ▸ hphase) (hspare ▸ hq)]
      · unfold State.swapGone
        rw [hframe]
    · obtain ⟨h1, h2, h3, h4, h5⟩ := State.swapFailed_end (w.core / 128) (s.tileOf w.core) hslot hreply hphase hq rfl
      exact ⟨_, congrArg _ (State.spareDone_failed hnow hc hw hp), h1, h2, h3, h4, h5⟩
    · obtain ⟨e, cs, hcs⟩ := List.exists_cons_of_ne_nil hc
      obtain ⟨h1, h2, h3, -, h5⟩ := State.swapFailed_end e.1 (engineTile e.1 e.2) hslot hreply hphase hq rfl
      exact ⟨_, congrArg _ (State.columnDone_failed hnow hcs hw hp), h1, h2, h3, h5⟩

end Sys2Proof.Machine
end

section
/-!
What leaves the fuses, the fuse program under way and the queue of waiting commands: the operations on the state and on a core.
One simp lemma per function of the model says that it leaves these three, so that a command's is found from its parts'.
-/
namespace Sys2Proof.Machine

/-- What no command but a fuse program and a reset of the device changes: the fuses, the fuse program under way, and the queue of
waiting commands. -/
def State.kept (s : State) : FuseSt × Option (Nat × Nat × Nat) × List Instr := (s.fuse, s.sec.prog, s.pending)

@[simp] theorem State.kept_mk
    (a1 a2 a3 a4 a5 a6 a7 a8 a9 a10 a11 a12 a13 a14 a15 a16 a17 a18 a19 a20 a21 a22 a23 a24 a25 a26) :
    (State.mk a1 a2 a3 a4 a5 a6 a7 a8 a9 a10 a11 a12 a13 a14 a15 a16 a17 a18 a19 a20 a21 a22 a23 a24 a25 a26).kept =
      (a1, a24.prog, a26) :=
  (rfl)

@[simp] theorem State.kept_eta (s : State) : (s.fuse, s.sec.prog, s.pending) = s.kept := (rfl)

@[simp] theorem State.kept_ite (c : Prop) [Decidable c] (s t : State) : (if c then s else t).kept = if c then s.kept else t.kept :=
  apply_ite State.kept c s t

@[simp] theorem foldl_kept {α : Type} {g : State → α → State} (hg : ∀ s a, (g s a).kept = s.kept) (xs : List α) :
    ∀ s, (xs.foldl g s).kept = s.kept := by
  induction xs with
  | nil => exact fun _ => rfl
  | cons x xs ih => exact fun s => (ih _).trans (hg s x)

section
variable (s : State)

@[simp] theorem State.wr_kept (f : Fld) (v u i : Nat) : (s.wr f v u i).kept = s.kept := (rfl)
@[simp] theorem State.wrB_kept (f : Fld) (b : Bool) (u i : Nat) : (s.wrB f b u i).kept = s.kept := (rfl)
@[simp] theorem State.inc_kept (f : Fld) (n u i : Nat) : (s.inc f n u i).kept = s.kept := (rfl)
@[simp] theorem State.top_kept (f : Fld) (v u i : Nat) : (s.top f v u i).kept = s.kept := (rfl)
@[simp] theorem State.setCore_kept (n : Nat) (c : CoreSt) : (s.setCore n c).kept = s.kept := (rfl)
@[simp] theorem State.onCore_kept (n : Nat) (f : CoreSt → CoreSt) : (s.onCore n f).kept = s.kept := (rfl)
@[simp] theorem State.setByte_kept (a : Nat) (v : Byte) : (s.setByte a v).kept = s.kept := (rfl)

@[simp] theorem State.setBytes_kept (bs : List Byte) : ∀ (s : State) (a : Nat), (s.setBytes a bs).kept = s.kept := by
  induction bs with
  | nil => exact fun _ _ => rfl
  | cons b bs ih => exact fun s a => (ih _ _).trans (s.setByte_kept a b)

@[simp] theorem State.setFlip_kept (a : Nat) (m : Code) : (s.setFlip a m).kept = s.kept := (rfl)
@[simp] theorem State.setWord_kept (a : Nat) (w : Word) : (s.setWord a w).kept = s.kept := by simp [State.setWord]
@[simp] theorem State.act_kept (e cls n : Nat) : (s.act e cls n).kept = s.kept := (rfl)
@[simp] theorem State.draw_kept : s.draw.2.kept = s.kept := (rfl)
@[simp] theorem State.report_kept (src kind cls addr : Nat) : (s.report src kind cls addr).kept = s.kept := (rfl)

@[simp] theorem State.stage_kept (a : Nat) (p : Packet) (why : Why) (ctl router : Bool) :
    (s.stage a p why ctl router).kept = s.kept :=
  (rfl)

@[simp] theorem State.sramLog_kept (n w : Nat) : (s.sramLog n w).kept = s.kept := (rfl)

@[simp] theorem State.sramCorrected_kept (n w : Nat) : (s.sramCorrected n w).kept = s.kept := by
  simp [State.sramCorrected]

@[simp] theorem State.sramBad_kept (n w : Nat) : (s.sramBad n w).kept = s.kept := by simp [State.sramBad]

@[simp] theorem State.sramRead_kept (n w : Nat) : (s.sramRead n w).2.kept = s.kept := by
  unfold State.sramRead
  (repeat' split) <;> simp

@[simp] theorem State.sramWrite_kept (n w : Nat) (v : Word) : (s.sramWrite n w v).kept = s.kept := by
  simp [State.sramWrite]

@[simp] theorem State.sramModify_kept (n w : Nat) (f : Word → Word) : (s.sramModify n w f).kept = s.kept := by
  grind [State.sramModify, State.sramRead_kept, State.sramWrite_kept]

@[simp] theorem State.writeBack_kept (n : Nat) : (s.writeBack n).kept = s.kept := by
  unfold State.writeBack
  (repeat' split) <;> simp

@[simp] theorem State.patrolRead_kept (n : Nat) : (s.patrolRead n).kept = s.kept := by
  unfold State.patrolRead
  dsimp only
  (repeat' split) <;> simp

/-! ### The update of a core -/

@[simp] theorem State.satHit_kept (n point group slot : Nat) : (s.satHit n point group slot).kept = s.kept := by
  simp [State.satHit]

@[simp] theorem State.satHits_kept (n point group slot k : Nat) :
    ∀ s : State, (s.satHits n point group slot k).kept = s.kept := by
  induction k with
  | zero => exact fun _ => rfl
  | succ k ih => exact fun s => (ih _).trans (s.satHit_kept n point group slot)

@[simp] theorem State.satWindow_kept (n mask : Nat) : (s.satWindow n mask).kept = s.kept := by simp [State.satWindow]
@[simp] theorem State.setSend_kept (n mode k v : Nat) : (s.setSend n mode k v).kept = s.kept := (rfl)
@[simp] theorem State.clearSend_kept (n : Nat) : (s.clearSend n).kept = s.kept := (rfl)
@[simp] theorem State.takeEdits_kept (n st : Nat) : (s.takeEdits n st).kept = s.kept := by simp [State.takeEdits]

end

end Sys2Proof.Machine
end

section
/-!
What leaves the fuses, the fuse program under way and the queue of waiting commands: a core's SRAM port, through
which the neuron update, the synapse engine and the learning pass work.
-/
namespace Sys2Proof.Machine

/-- A fold keeps what each of its steps keeps. -/
theorem foldl_keeps {α β γ : Type} {key : β → γ} {g : β → α → β} (hg : ∀ b a, key (g b a) = key b) (xs : List α) :
    ∀ b, key (xs.foldl g b) = key b := by
  induction xs with
  | nil => exact fun _ => rfl
  | cons x xs ih => exact fun b => (ih _).trans (hg b x)

@[simp] theorem foldl_port_kept {α : Type} {g : Port → α → Port} (hg : ∀ p a, (g p a).s.kept = p.s.kept) (xs : List α) (p : Port) :
    (xs.foldl g p).s.kept = p.s.kept := foldl_keeps (key := fun p : Port => p.s.kept) hg xs p

@[simp] theorem foldl_with_port_kept {α β : Type} {g : β × Port → α → β × Port} (hg : ∀ b a, (g b a).2.s.kept = b.2.s.kept) (xs : List α)
    (b : β × Port) : (xs.foldl g b).2.s.kept = b.2.s.kept := foldl_keeps (key := fun b : β × Port => b.2.s.kept) hg xs b

namespace Port
section
variable (p : Port)
@[simp] theorem start_kept (s : State) (n : Nat) : (Port.start s n).s.kept = s.kept := (rfl)
@[simp] theorem read_kept (w : Nat) : (p.read w).2.s.kept = p.s.kept := by
  unfold Port.read
  split <;> simp
@[simp] theorem write_kept (w : Nat) (v : Word) : (p.write w v).s.kept = p.s.kept := by simp [write]
@[simp] theorem modify_kept (w : Nat) (f : Word → Word) : (p.modify w f).s.kept = p.s.kept := by
  grind [modify, write_kept, read_kept]
@[simp] theorem onS_kept {f : State → State} (hf : ∀ s, (f s).kept = s.kept) : (p.onS f).s.kept = p.s.kept := hf p.s
@[simp] theorem s_kept_ite (c : Prop) [Decidable c] (p q : Port) : (if c then p else q).s.kept = if c then p.s.kept else q.s.kept :=
  apply_ite (fun p : Port => p.s.kept) c p q
@[simp] theorem postStamp_kept (st i : Nat) : (p.postStamp st i).s.kept = p.s.kept := by simp [postStamp]
@[simp] theorem scale_kept (i : Nat) : (p.scale i).2.s.kept = p.s.kept := by grind [scale, read_kept]
@[simp] theorem discarded_kept (t : Nat) : (p.discarded t).s.kept = p.s.kept := by simp [discarded]
@[simp] theorem feed_kept (w : Word) : (p.feed w).s.kept = p.s.kept := by simp [feed]
@[simp] theorem send_kept (g : Group) (i : Nat) (x : Neuron) : (p.send g i x).s.kept = p.s.kept := by
  unfold send
  split <;> simp
@[simp] theorem sendFree_kept (i : Nat) : (p.sendFree i).s.kept = p.s.kept := by
  unfold sendFree
  split <;> simp
@[simp] theorem drain_kept (g : Group) (st i lw sw : Nat) (land smd : Word) : (p.drain g st i lw sw land smd).s.kept = p.s.kept := by
  simp [drain]
@[simp] theorem drainWords_kept (g : Group) (st i : Nat) : (p.drainWords g st i).2.s.kept = p.s.kept := by
  grind [drainWords, read_kept]
@[simp] theorem retire_kept (g : Group) (st i rw acc : Nat) (u : Updated) : (p.retire g st i rw acc u).s.kept = p.s.kept := by
  unfold retire
  dsimp only
  (repeat' split) <;> simp
@[simp] theorem clearLand_kept (lw i : Nat) : (p.clearLand lw i).s.kept = p.s.kept := by simp [clearLand]
@[simp] theorem updateMember_kept (g : Group) (st i lw t : Nat) : (p.updateMember g st i lw t).s.kept = p.s.kept := by
  grind [updateMember, read_kept, sendFree_kept, scale_kept, drainWords_kept, clearLand_kept, drain_kept, retire_kept, discarded_kept]
@[simp] theorem updateSlot_kept (gs : List Group) (st i : Nat) : (p.updateSlot gs st i).s.kept = p.s.kept := by
  grind [updateSlot, read_kept, sendFree_kept, clearLand_kept, discarded_kept, updateMember_kept]
@[simp] theorem denseWeight_kept (d : RowDesc) (k : Nat) : (p.denseWeight d k).2.s.kept = p.s.kept := by simp [denseWeight]
@[simp] theorem sparseEntry_kept (d : RowDesc) (k : Nat) : (p.sparseEntry d k).2.s.kept = p.s.kept := by
  grind [sparseEntry, read_kept]
@[simp] theorem synapse_kept (d : RowDesc) (k : Nat) : (p.synapse d k).2.s.kept = p.s.kept := by
  grind [synapse, sparseEntry_kept, denseWeight_kept]
@[simp] theorem addLand_kept (b j : Nat) (v : Int) : (p.addLand b j v).s.kept = p.s.kept := by simp [addLand]
@[simp] theorem addSmd_kept (g : Group) (j k : Nat) (v : Int) : (p.addSmd g j k v).s.kept = p.s.kept := by simp [addSmd]
@[simp] theorem contribute_kept (gs : List Group) (st : Nat) (a : Int) (y : Synapse) : (p.contribute gs st a y).s.kept = p.s.kept := by
  unfold contribute
  dsimp only
  (repeat' split) <;> simp
@[simp] theorem row_kept (gs : List Group) (st : Nat) (d : RowDesc) (a : Int) : (p.row gs st d a).s.kept = p.s.kept := by
  refine foldl_port_kept (fun q k => ?_) _ _
  grind [synapse_kept, contribute_kept]
@[simp] theorem preEvent_kept (x st : Nat) (a : Int) : (p.preEvent x st a).s.kept = p.s.kept := by
  grind [preEvent, modify_kept, read_kept, write_kept, onS_kept, State.inc_kept]
@[simp] theorem noAxon_kept : p.noAxon.s.kept = p.s.kept := by simp [noAxon]
@[simp] theorem operate_kept (x st : Nat) (act : Nat → Int) : (p.operate x st act).s.kept = p.s.kept := by
  have h0 : (p.onS (fun s => s.inc F.SYN_AXON_CNT_ROWS 1 p.n)).s.kept = p.s.kept := by simp
  grind [operate, noAxon_kept, read_kept, preEvent_kept, row_kept]
@[simp] theorem partialSum_kept (st j : Nat) (v : Int) : (p.partialSum st j v).s.kept = p.s.kept := by simp [partialSum]
@[simp] theorem plasticRows_kept : p.plasticRows.2.s.kept = p.s.kept := by
  refine foldl_with_port_kept (fun acc a => ?_) _ _
  dsimp only
  (repeat' split) <;> simp
@[simp] theorem plane_kept (pl x k : Nat) : (p.plane pl x k).2.s.kept = p.s.kept := by simp [plane]
@[simp] theorem setPlane_kept (pl x k : Nat) (v : Int) : (p.setPlane pl x k v).s.kept = p.s.kept := by simp [setPlane]
@[simp] theorem gradHit_kept (gs : List Group) (j : Nat) (changed : Bool) : (p.gradHit gs j changed).s.kept = p.s.kept := by
  simp [gradHit]
@[simp] theorem preRec_kept (a b steps : Nat) : (p.preRec a b steps).2.s.kept = p.s.kept := by
  grind [preRec, read_kept]
@[simp] theorem postRec_kept (gs : List Group) (c b steps : Nat) : (p.postRec gs c b steps).2.s.kept = p.s.kept := by
  grind [postRec, read_kept, write_kept, gradHit_kept]
@[simp] theorem kernel_kept (i : Nat) : (p.kernel i).2.s.kept = p.s.kept := by simp [kernel]
@[simp] theorem counterTerms_kept (pre post : Option Nat) : (p.counterTerms pre post).2.s.kept = p.s.kept := by
  cases pre <;> cases post <;> simp [counterTerms]
@[simp] theorem pairing_kept (pre : PreRec) (post : PostRec) : (p.pairing pre post).2.s.kept = p.s.kept := by
  grind [pairing, kernel_kept, counterTerms_kept]
@[simp] theorem passSynapse_kept (gs : List Group) (x k : Nat) (pre : PreRec) (post : PostRec) :
    (p.passSynapse gs x k pre post).s.kept = p.s.kept := by
  have hpair {q : Port} {v : Option Int} (h : p.pairing pre post = (v, q)) : q.s.kept = p.s.kept := by
    rw [← p.pairing_kept pre post, h]
  have hplane {q r : Port} {pl : Nat} {v : Option Int} (h : q.plane pl x k = (v, r)) : r.s.kept = q.s.kept := by
    rw [← q.plane_kept pl x k, h]
  unfold passSynapse
  split
  next q hq => exact hpair hq
  next kx q hq =>
    split
    next => exact hpair hq
    next mf =>
      split
      next r hr => exact (hplane hr).trans (hpair hq)
      next e r hr =>
        dsimp only
        split
        · split
          next t ht => simp [hplane ht, hplane hr, hpair hq]
          next g t ht => simp [hplane ht, hplane hr, hpair hq]
        · simp [hplane hr, hpair hq]
@[simp] theorem columnOf_kept (j : Nat) : (p.columnOf j).2.s.kept = p.s.kept := by
  have hread {q : Port} {w : Nat} {v : Option Word} (h : p.read w = (v, q)) : q.s.kept = p.s.kept := by
    rw [← p.read_kept w, h]
  unfold columnOf
  dsimp only
  split
  · rfl
  · split
    next q hq => exact hread hq
    next w q hq => exact (foldl_with_port_kept (fun acc k => by simp) _ _).trans (hread hq)
@[simp] theorem passRow_kept (gs : List Group) (posts : List PostRec) (cols : Columns) (row : PlasticRow) (pre : Option PreRec) :
    (p.passRow gs posts cols row pre).s.kept = p.s.kept := by
  unfold passRow
  split
  · rfl
  · refine foldl_port_kept (fun q k => ?_) _ _
    (repeat' split) <;> simp
@[simp] theorem closePre_kept (a b : Nat) (pre : Option PreRec) : (p.closePre a b pre).s.kept = p.s.kept := by
  unfold closePre
  split <;> simp
@[simp] theorem closePost_kept (gs : List Group) (r : PostRec) : (p.closePost gs r).s.kept = p.s.kept := by
  unfold closePost
  split <;> simp
@[simp] theorem ageStamps_kept (st : Nat) : (p.ageStamps st).s.kept = p.s.kept := by simp [ageStamps]
@[simp] theorem updateTerm_kept (x k : Nat) : (p.updateTerm x k).2.s.kept = p.s.kept := by
  unfold updateTerm
  split <;> simp
@[simp] theorem rate_kept (j : Nat) : (p.rate j).2.s.kept = p.s.kept := by simp [rate]
@[simp] theorem stepped_kept (row : PlasticRow) (k : Nat) (l : BitVec 32) : (p.stepped row k l).2.1.s.kept = p.s.kept := by
  unfold stepped
  dsimp only
  split <;> simp
@[simp] theorem normSums_kept (rows : List PlasticRow) (l : BitVec 32) (init : List (Nat × Nat)) :
    (p.normSums rows l init).2.s.kept = p.s.kept := by
  refine foldl_keeps (key := fun b : List (Nat × Nat) × Port × BitVec 32 => b.2.1.s.kept) (fun b row => ?_) _ _
  refine foldl_keeps (key := fun b : List (Nat × Nat) × Port × BitVec 32 => b.2.1.s.kept) (fun b k => ?_) _ _
  grind [stepped_kept]
@[simp] theorem setWeight_kept (d : RowDesc) (k : Nat) (w : Int) : (p.setWeight d k w).s.kept = p.s.kept := by simp [setWeight]
@[simp] theorem applyOne_kept (gs : List Group) (fs : List (Nat × Nat)) (acc : Port × BitVec 32) (row : PlasticRow) (k : Nat) :
    (applyOne gs fs acc row k).1.s.kept = acc.1.s.kept := by
  have h := acc.1.stepped_kept row k acc.2
  unfold applyOne
  dsimp only
  split <;> simp_all
end
end Port

end Sys2Proof.Machine
end

section
/-!
What leaves the fuses, the fuse program under way and the queue of waiting commands: cores, packets and the event network.
-/
namespace Sys2Proof.Machine

section
variable (s : State)

/-! ### The update of a core -/

@[simp] theorem State.updateCore_kept (n st : Nat) : (s.updateCore n st).kept = s.kept := by simp [State.updateCore]

/-! ### Accumulation -/

@[simp] theorem State.accumulate_kept (n st x pay : Nat) : (s.accumulate n st x pay).kept = s.kept := by
  simp [State.accumulate]

@[simp] theorem State.cordWord_kept (n st : Nat) (c : CordWord) : (s.cordWord n st c).kept = s.kept := by
  unfold State.cordWord
  split <;> simp

/-! ### Learning -/

@[simp] theorem State.pass_kept (n st : Nat) : (s.pass n st).kept = s.kept := by
  unfold State.pass
  extract_lets gs b steps na base posts pres cols rows tagged p1 p2 p3 p4 cyc
  have hposts : posts.2.s.kept = s.kept := by simp [posts]
  have hpres : pres.2.s.kept = s.kept := by simp [pres, hposts]
  have hcols : cols.2.s.kept = s.kept := by
    simp only [cols]
    split <;> simp [hpres]
  have hp3 : p3.s.kept = s.kept := by simp [p3, p2, p1, rows, hcols]
  have hp4 : p4.s.kept = s.kept := by simp [p4, hp3]
  clear_value p4
  simp [hp4]

@[simp] theorem State.passIfDue_kept (n st : Nat) : (s.passIfDue n st).kept = s.kept := by simp [State.passIfDue]

@[simp] theorem State.applyLearning_kept (n st : Nat) : (s.applyLearning n st).kept = s.kept := by
  unfold State.applyLearning
  extract_lets gs slots normed l0 rows bank init sums fs done cleared cyc
  have hrows : rows.2.s.kept = s.kept := by simp [rows]
  have hinit : init.2.s.kept = s.kept := by simp [init, hrows]
  have hsums : sums.2.s.kept = s.kept := by
    simp only [sums]
    split <;> simp [hrows, hinit]
  have hdone : done.1.s.kept = s.kept := by
    refine (foldl_keeps (key := fun b : Port × BitVec 32 => b.1.s.kept) (fun acc row => ?_) _ _).trans hsums
    refine foldl_keeps (key := fun b : Port × BitVec 32 => b.1.s.kept) (fun acc k => ?_) _ _
    simp
  have hcleared : cleared.s.kept = s.kept := by simp [cleared, hdone]
  clear_value cleared
  simp [hcleared]

@[simp] theorem State.clearLearning_kept (n : Nat) (planes : Bool) : (s.clearLearning n planes).kept = s.kept := by
  unfold State.clearLearning
  dsimp only
  refine (foldl_port_kept (fun p c => ?_) _ _).trans ((foldl_port_kept (fun p a => ?_) _ _).trans ?_)
  · split <;> simp
  · simp
  · simp

@[simp] theorem State.learnAction_kept (r action : Nat) : (s.learnAction r action).kept = s.kept := by
  simp [State.learnAction]

@[simp] theorem State.coreEpoch_kept (n st : Nat) : (s.coreEpoch n st).kept = s.kept := by simp [State.coreEpoch]
@[simp] theorem State.coreApply_kept (n st : Nat) : (s.coreApply n st).kept = s.kept := by simp [State.coreApply]

@[simp] theorem State.coreTick_kept (n st : Nat) (frame : Bool) : (s.coreTick n st frame).kept = s.kept := by
  simp [State.coreTick]

/-! ### Packets and responses -/

@[simp] theorem State.sendAck_kept (a : Nat) (p : Packet) (tok : Bool) : (s.sendAck a p tok).kept = s.kept := (rfl)

@[simp] theorem State.sendNack_kept (a : Nat) (p : Packet) (reason : Nat) (tok : Bool) :
    (s.sendNack a p reason tok).kept = s.kept :=
  (rfl)

@[simp] theorem State.sendData_kept (a : Nat) (p : Packet) (ws : List Word) : (s.sendData a p ws).kept = s.kept :=
  (rfl)

@[simp] theorem State.unstage_kept (p : Packet) : (s.unstage p).kept = s.kept := (rfl)
@[simp] theorem State.taken_kept (a : Nat) (p : Packet) : (s.taken a p).kept = s.kept := (rfl)

/-! ### Routes -/

@[simp] theorem State.arrayLeg_kept (k : Packet) (ctl : Bool) (p q : Nat) (f : Fld) (u : Nat) :
    (s.arrayLeg k ctl p q f u).s.kept = s.kept := by
  unfold State.arrayLeg
  split <;> simp

@[simp] theorem State.route_kept (a : Nat) (k : Packet) (ctl : Bool) : (s.route a k ctl).s.kept = s.kept := by
  unfold State.route
  dsimp only
  (repeat' split) <;> simp

@[simp] theorem State.enterArray_kept (f : Flight) (g : Nat) : (s.enterArray f g).2.kept = s.kept := by
  simp [State.enterArray]

/-! ### Hops of the event network -/

@[simp] theorem State.round_kept (b : Buf) (f : Flight) : (s.round b f).kept = s.kept := (rfl)

@[simp] theorem State.countTile_kept (tile port vc l : Nat) (k : Packet) :
    (s.countTile tile port vc l k).kept = s.kept := by
  simp [State.countTile]

@[simp] theorem State.countStop_kept (b : Buf) (l : Nat) (k : Packet) : (s.countStop b l k).kept = s.kept := by
  simp [State.countStop]

@[simp] theorem State.countBuf_kept (b : Buf) (k : Packet) : (s.countBuf b k).kept = s.kept := by
  simp [State.countBuf]

@[simp] theorem State.dropAt_kept (tile port vc : Nat) : (s.dropAt tile port vc).kept = s.kept := by
  simp [State.dropAt]

@[simp] theorem State.dropArrived_kept (a : Nat) (k : Packet) : (s.dropArrived a k).kept = s.kept := by
  unfold State.dropArrived
  split <;> simp

@[simp] theorem State.deliver_kept (a : Nat) (k : Packet) (tile port vc : Nat) :
    (s.deliver a k tile port vc).kept = s.kept :=
  (rfl)

@[simp] theorem State.bcastLocal_kept (k : Packet) (mask p port vc : Nat) :
    (s.bcastLocal k mask p port vc).kept = s.kept := by
  unfold State.bcastLocal
  (repeat' split) <;> simp

@[simp] theorem State.launch_kept (f : Flight) : (s.launch f).kept = s.kept := (rfl)

@[simp] theorem State.replicate_kept (agent : Nat) (k : Packet) (mask p port : Nat) :
    (s.replicate agent k mask p port).kept = s.kept := by
  simp [State.replicate]

@[simp] theorem State.spread_kept (agent : Nat) (k : Packet) (mask p port : Nat) :
    (s.spread agent k mask p port).kept = s.kept := by
  simp [State.spread]

@[simp] theorem State.setFlight_kept (f : Flight) : (s.setFlight f).kept = s.kept := (rfl)

@[simp] theorem State.passMark_kept (occ freed : List Buf) : (s.passMark occ freed).kept = s.kept := by
  unfold State.passMark
  (repeat' split) <;> simp

@[simp] theorem State.endFlight_kept (f : Flight) : (s.endFlight f).kept = s.kept := by simp [State.endFlight]

@[simp] theorem State.sendOn_kept (f : Flight) (p q : Nat) (tail : List Buf) : (s.sendOn f p q tail).kept = s.kept :=
  (rfl)

@[simp] theorem State.eject_kept (f : Flight) (tile port vc : Nat) : (s.eject f tile port vc).kept = s.kept := by
  simp [State.eject]

@[simp] theorem State.copyHere_kept (f : Flight) (m : Nat) (b : Buf) (last : Bool) :
    (s.copyHere f m b last).kept = s.kept := by
  simp [State.copyHere]

@[simp] theorem State.moveTo_kept (f : Flight) (b : Buf) (rest : List Buf) : (s.moveTo f b rest).kept = s.kept := by
  unfold State.moveTo
  (repeat' split) <;> simp

@[simp] theorem State.arrive_kept (f : Flight) : (s.arrive f).kept = s.kept := by
  unfold State.arrive
  split <;> simp

@[simp] theorem State.linkCorrected_kept (b : Buf) : (s.linkCorrected b).kept = s.kept := by
  simp [State.linkCorrected]

@[simp] theorem State.cross_kept (f : Flight) (b : Buf) (rest : List Buf) (errs : List (BitVec 80)) :
    (s.cross f b rest errs).kept = s.kept := by
  unfold State.cross
  dsimp only
  (repeat' split) <;> simp

@[simp] theorem State.hop_kept (id : Nat) (errs : List (BitVec 80)) : (s.hop id errs).kept = s.kept := by
  unfold State.hop
  (repeat' split) <;> simp

@[simp] theorem State.linkFails_kept (b : Buf) : (s.linkFails b).kept = s.kept := by simp [State.linkFails]

@[simp] theorem State.replayFlit_kept (id : Nat) (errs : BitVec 80) : (s.replayFlit id errs).kept = s.kept := by
  unfold State.replayFlit
  (repeat' split) <;> simp

/-! ### Injection -/

@[simp] theorem State.addInflight_kept (a tag n : Nat) : (s.addInflight a tag n).kept = s.kept := (rfl)
@[simp] theorem State.subInflight_kept (a tag n : Nat) : (s.subInflight a tag n).kept = s.kept := (rfl)

@[simp] theorem State.sendToken_kept (place a : Nat) (odd : Bool) : (s.sendToken place a odd).kept = s.kept := by
  simp [State.sendToken]

@[simp] theorem State.tokenFor_kept (place : Nat) (k : Packet) : (s.tokenFor place k).kept = s.kept := by
  simp [State.tokenFor]

@[simp] theorem State.tokenArrive_kept (a : Nat) (odd : Bool) (n : Nat) : (s.tokenArrive a odd n).kept = s.kept := by
  simp [State.tokenArrive]

@[simp] theorem State.track_kept (e : Staged) (k : Packet) (n : Nat) : (s.track e k n).kept = s.kept := by
  simp [State.track]

@[simp] theorem State.injected_kept (e : Staged) (k : Packet) (n : Nat) : (s.injected e k n).kept = s.kept := by
  simp [State.injected]

@[simp] theorem State.injectDrop_kept (e : Staged) : (s.injectDrop e).kept = s.kept := by simp [State.injectDrop]

@[simp] theorem State.injectNack_kept (e : Staged) (k : Packet) : (s.injectNack e k).kept = s.kept := by
  simp [State.injectNack]

@[simp] theorem State.takeIn_kept (e : Staged) (k : Packet) (n : Nat) {r : Route} (bcast : Option Nat)
    (hr : r.s.kept = s.kept) : (s.takeIn e k n r bcast).kept = s.kept := by
  simp [State.takeIn, hr]

@[simp] theorem State.bcastRoute_kept (a : Nat) : (s.bcastRoute a).s.kept = s.kept := by
  unfold State.bcastRoute
  split <;> rfl

@[simp] theorem State.inject_kept (p : Packet) : (s.inject p).kept = s.kept := by
  unfold State.inject
  dsimp only
  (repeat' split) <;> simp

end

end Sys2Proof.Machine
end

section
/-!
What leaves the fuses, the fuse program under way and the queue of waiting commands: time, the TX ports, the
scheduled plane, GDDR6 and the queues.
-/
namespace Sys2Proof.Machine

section
variable (s : State)

/-! ### The grain counter and SYNC_IN -/

@[simp] theorem State.countGaps_kept : s.countGaps.kept = s.kept := by
  rcases s.countGaps_cases with h | ⟨n, k, h⟩
  · rw [h]
  · rw [h]
    simp

@[simp] theorem State.toGrain_kept (g : Nat) : (s.toGrain g).kept = s.kept := by
  unfold State.toGrain
  split <;> simp

@[simp] theorem State.advance_kept (g : Nat) : (s.advance g).kept = s.kept := by simp [State.advance]
@[simp] theorem State.syncFirst_kept (p : Nat) : (s.syncFirst p).kept = s.kept := (rfl)

@[simp] theorem State.syncMeasure_kept (p : Nat) : (s.syncMeasure p).kept = s.kept := by
  simp only [State.syncMeasure, State.kept_mk, State.kept_eta, State.kept_ite, ite_self, State.wr_kept, State.wrB_kept]

@[simp] theorem State.syncEdge_kept (pos : Nat) : (s.syncEdge pos).kept = s.kept := by simp [State.syncEdge]

@[simp] theorem State.syncMissing_kept : s.syncMissing.kept = s.kept := by
  simp only [State.syncMissing, State.kept_mk, State.kept_eta, State.kept_ite, ite_self, State.wr_kept, State.advance_kept]

@[simp] theorem State.syncSelected_kept (old : Nat) : (s.syncSelected old).kept = s.kept := by
  simp [State.syncSelected]

@[simp] theorem State.actLow_kept : s.actLow.kept = s.kept := (rfl)
@[simp] theorem State.runFall_kept : s.runFall.kept = s.kept := (rfl)

/-! ### TX ports -/

@[simp] theorem State.onTx_kept (p : Nat) (f : TxSt → TxSt) : (s.onTx p f).kept = s.kept := (rfl)

@[simp] theorem State.emitBlock_kept (p vc dt : Nat) (payload : List Byte) (cls : TxClass) :
    (s.emitBlock p vc dt payload cls).kept = s.kept := by
  simp [State.emitBlock]

@[simp] theorem State.txCount_kept (p : Nat) (o : TxOut) : (s.txCount p o).kept = s.kept := by
  unfold State.txCount
  split <;> simp

@[simp] theorem State.txSend_kept (p : Nat) (os : List TxOut) : (s.txSend p os).kept = s.kept := by
  unfold State.txSend
  (repeat' split) <;> simp

@[simp] theorem State.txRelay_kept (p : Nat) (r : RelayPkt) : (s.txRelay p r).kept = s.kept := by simp [State.txRelay]
@[simp] theorem State.txBlock_kept (p : Nat) (b : TxBlk) : (s.txBlock p b).kept = s.kept := by simp [State.txBlock]

@[simp] theorem State.txStart_kept (p : Nat) : (s.txStart p).kept = s.kept := by
  unfold State.txStart
  dsimp only
  (repeat' split) <;> simp

@[simp] theorem State.relayStart_kept (p : Nat) : (s.relayStart p).kept = s.kept := by
  unfold State.relayStart
  dsimp only
  (repeat' split) <;> simp

@[simp] theorem State.txFrame_kept (p : Nat) : (s.txFrame p).kept = s.kept := by simp [State.txFrame]
@[simp] theorem State.txRunFall_kept (p : Nat) : (s.txRunFall p).kept = s.kept := (rfl)
@[simp] theorem State.txQuench_kept (p : Nat) : (s.txQuench p).kept = s.kept := by simp [State.txQuench]
@[simp] theorem State.txFrames_kept : s.txFrames.kept = s.kept := by simp [State.txFrames]
@[simp] theorem State.txRunFalls_kept : s.txRunFalls.kept = s.kept := by simp [State.txRunFalls]
@[simp] theorem State.txQuenches_kept : s.txQuenches.kept = s.kept := by simp [State.txQuenches]

/-! ### Mirror state -/

@[simp] theorem State.journalPut_kept (e : JEntry) : (s.journalPut e).kept = s.kept := by simp [State.journalPut]
@[simp] theorem State.noReplay_kept : s.noReplay.kept = s.kept := (rfl)

@[simp] theorem State.overload_kept (e : Overload) (late : Nat) : (s.overload e late).kept = s.kept := by
  simp [State.overload]

@[simp] theorem State.mirrorSet_kept (b : Bool) : (s.mirrorSet b).kept = s.kept := by simp [State.mirrorSet]

@[simp] theorem State.replayUsed_kept (n : Nat) (k : Packet) : (s.replayUsed n k).kept = s.kept := by
  simp [State.replayUsed]

/-! ### Late and shed operations -/

@[simp] theorem State.shedAt_kept (n : Nat) : (s.shedAt n).kept = s.kept := (rfl)
@[simp] theorem State.lateAt_kept (n : Nat) : (s.lateAt n).kept = s.kept := (rfl)

/-! ### The scheduled plane -/

@[simp] theorem State.cordCorrected_kept (p input : Nat) : (s.cordCorrected p input).kept = s.kept := by
  simp [State.cordCorrected]

@[simp] theorem RunSt.arrive_kept (r : RunSt) (faults : List LaneFault) (w : Wire) :
    (r.arrive faults w).s.kept = r.s.kept := by
  unfold RunSt.arrive
  (repeat' split) <;> simp

@[simp] theorem RunSt.input_kept (r : RunSt) (p t l code : Nat) : (r.input p t l code).1.s.kept = r.s.kept := by
  unfold RunSt.input
  dsimp only
  (repeat' split) <;> simp

@[simp] theorem RunSt.drive_kept (r : RunSt) (p t l dir : Nat) (w : Word) (err : Bool) :
    (r.drive p t l dir w err).s.kept = r.s.kept := by
  unfold RunSt.drive
  dsimp only
  (repeat' split) <;> simp

@[simp] theorem foldl_run_kept {α : Type} {g : RunSt → α → RunSt} (hg : ∀ r a, (g r a).s.kept = r.s.kept)
    (xs : List α) (r : RunSt) : (xs.foldl g r).s.kept = r.s.kept :=
  foldl_keeps (key := fun r : RunSt => r.s.kept) hg xs r

@[simp] theorem RunSt.lane_kept (r : RunSt) (p t entry l : Nat) : (r.lane p t entry l).s.kept = r.s.kept := by
  unfold RunSt.lane
  dsimp only
  split <;> simp

@[simp] theorem RunSt.slot_kept (table : List (Nat × Nat × Nat)) (faults : List LaneFault) (r : RunSt) (t : Nat) :
    (r.slot table faults t).s.kept = r.s.kept := by
  simp [RunSt.slot]

@[simp] theorem State.cordDiscard_kept (n m : Nat) : (s.cordDiscard n m).kept = s.kept := by simp [State.cordDiscard]

@[simp] theorem State.cordTurn_kept (n : Nat) (c : CordWord) : (s.cordTurn n c).kept = s.kept := by
  simp [State.cordTurn]

@[simp] theorem Feed.take_kept (n cc : Nat) (f : Feed) (t : Nat) (w : CordWord) :
    (f.take n cc t w).s.kept = f.s.kept := by
  simp [Feed.take]

@[simp] theorem Feed.drain_kept (n cc t fuel : Nat) : ∀ f : Feed, (f.drain n cc t fuel).s.kept = f.s.kept := by
  induction fuel with
  | zero => exact fun _ => rfl
  | succ fuel ih =>
    intro f
    unfold Feed.drain
    (repeat' split) <;> simp [ih]

@[simp] theorem State.feed_kept (n : Nat) (f : Feed) (d : Nat) (x : Delivery) :
    (State.feed n f d x).s.kept = f.s.kept := by
  unfold State.feed
  dsimp only
  (repeat' split) <;> simp

@[simp] theorem foldl_feed_kept {α : Type} {g : Feed → α → Feed} (hg : ∀ f a, (g f a).s.kept = f.s.kept)
    (xs : List α) (f : Feed) : (xs.foldl g f).s.kept = f.s.kept :=
  foldl_keeps (key := fun f : Feed => f.s.kept) hg xs f

@[simp] theorem State.portCord_kept (k n : Nat) (ds : List Delivery) : (s.portCord k n ds).1.kept = s.kept := by
  simp [State.portCord]

@[simp] theorem State.cordRun_kept (faults : List LaneFault) : (s.cordRun faults).1.kept = s.kept := by
  simp [State.cordRun]

@[simp] theorem State.missCord_kept (late : List Nat) : (s.missCord late).kept = s.kept := by simp [State.missCord]

@[simp] theorem State.cordPorts_kept (k : Nat) (ds : List Delivery) : (s.cordPorts k ds).kept = s.kept := by
  refine foldl_keeps (key := fun b : State × List Nat => b.1.kept) (fun acc p => ?_) _ (s, [])
  dsimp only
  split <;> simp

@[simp] theorem State.cordBegin_kept (faults : List LaneFault) : (s.cordBegin faults).kept = s.kept := by
  simp only [State.cordBegin, State.kept_ite, State.kept_mk, State.kept_eta, State.cordPorts_kept, State.inc_kept, State.wr_kept,
    State.cordRun_kept, State.missCord_kept, ite_self, State.wrB_kept, State.advance_kept]

@[simp] theorem State.cordForced_kept : s.cordForced.kept = s.kept := by simp [State.cordForced]
@[simp] theorem State.cordBoundary_kept : s.cordBoundary.kept = s.kept := by simp [State.cordBoundary]
@[simp] theorem State.countPorts_kept (p : Nat) : (s.countPorts p).kept = s.kept := by simp [State.countPorts]
@[simp] theorem State.writeSlot_kept (p t v : Nat) : (s.writeSlot p t v).kept = s.kept := by simp [State.writeSlot]

@[simp] theorem State.loadMask_kept (p k mask : Nat) : (s.loadMask p k mask).kept = s.kept := by
  unfold State.loadMask
  split <;> simp

@[simp] theorem State.loadSlot_kept (p t v : Nat) : (s.loadSlot p t v).kept = s.kept := by simp [State.loadSlot]

/-! ### Domains that wake -/

@[simp] theorem State.onG6_kept (g : Nat) (f : G6St → G6St) : (s.onG6 g f).kept = s.kept := (rfl)
@[simp] theorem State.g6SelfRef_kept (g : Nat) (v : Bool) : (s.g6SelfRef g v).kept = s.kept := (rfl)

@[simp] theorem State.countWake_kept (x1 : Domain) : (s.countWake x1).kept = s.kept := by
  unfold State.countWake
  (repeat' split) <;> simp

@[simp] theorem State.ungate_kept (x1 : Domain) : (s.ungate x1).kept = s.kept := by
  unfold State.ungate
  (repeat' split) <;> simp

@[simp] theorem State.wakeStart_kept (d : Domain) : (s.wakeStart d).kept = s.kept := by simp [State.wakeStart]
@[simp] theorem State.wakeDone_kept (d : Domain) : (s.wakeDone d).kept = s.kept := by simp [State.wakeDone]
@[simp] theorem State.woken_kept (d : Domain) : (s.woken d).kept = s.kept := by simp [State.woken]
@[simp] theorem State.toRun_kept : s.toRun.kept = s.kept := by simp [State.toRun]

/-! ### GDDR6 groups -/

@[simp] theorem State.g6Fail_kept (g addr : Nat) : (s.g6Fail g addr).kept = s.kept := (rfl)

@[simp] theorem State.g6Retire_kept (g p addr : Nat) : (s.g6Retire g p addr).kept = s.kept := by
  unfold State.g6Retire
  (repeat' split) <;> simp

@[simp] theorem State.g6Log_kept (g a type : Nat) : (s.g6Log g a type).kept = s.kept := by simp [State.g6Log]

@[simp] theorem State.g6Pins_kept (g a : Nat) (mask : Code) : (s.g6Pins g a mask).kept = s.kept := by
  simp [State.g6Pins]

@[simp] theorem State.g6Window_kept (g : Nat) : (s.g6Window g).kept = s.kept := by simp [State.g6Window]

@[simp] theorem State.g6Account_kept (g a : Nat) : (s.g6Account g a).kept = s.kept := by
  unfold State.g6Account
  (repeat' split) <;> simp

@[simp] theorem State.g6Active_kept : s.g6Active.kept = s.kept := (rfl)

@[simp] theorem State.g6Fetch_kept (a n : Nat) : (s.g6Fetch a n).2.kept = s.kept := by
  unfold State.g6Fetch
  dsimp only
  (repeat' split) <;> simp

@[simp] theorem State.g6KeepBeat_kept (g a : Nat) : (s.g6KeepBeat g a).kept = s.kept := by
  unfold State.g6KeepBeat
  split <;> simp

@[simp] theorem State.g6WriteBurst_kept (block : Nat) (f : Nat → Option Word) :
    (s.g6WriteBurst block f).kept = s.kept := by
  refine (foldl_kept (fun t k => ?_) _ _).trans s.g6Active_kept
  split <;> simp

@[simp] theorem State.g6Unread_kept (g : Nat) (k : Packet) (tok : Bool) : (s.g6Unread g k tok).kept = s.kept := by
  simp [State.g6Unread]

@[simp] theorem State.g6Add_kept (g : Nat) (k : Packet) : (s.g6Add g k).kept = s.kept := by
  unfold State.g6Add
  dsimp only
  (repeat' split) <;> simp

@[simp] theorem State.g6Store_kept (g : Nat) (k : Packet) : (s.g6Store g k).kept = s.kept := by
  unfold State.g6Store
  dsimp only
  (repeat' split) <;> simp

@[simp] theorem State.g6Perform_kept (g : Nat) (k : Packet) : (s.g6Perform g k).kept = s.kept := by
  unfold State.g6Perform
  dsimp only
  (repeat' split) <;> simp

@[simp] theorem State.g6Turn_kept (as : List Nat) : (s.g6Turn as).kept = s.kept := by simp [State.g6Turn]
@[simp] theorem State.g6Read_kept (a n : Nat) : (s.g6Read a n).2.kept = s.kept := by simp [State.g6Read]

@[simp] theorem State.g6Write_kept (a : Nat) (ws : List Word) : (s.g6Write a ws).kept = s.kept := by
  simp [State.g6Write]

@[simp] theorem State.g6Accept_kept (g : Nat) (k : Packet) : (s.g6Accept g k).kept = s.kept := by
  simp [State.g6Accept]

@[simp] theorem State.g6Complete_kept (g : Nat) : (s.g6Complete g).kept = s.kept := by
  unfold State.g6Complete
  split <;> simp

@[simp] theorem State.onG6Head_kept (g : Nat) (f : G6Op → G6Op) : (s.onG6Head g f).kept = s.kept := (rfl)

@[simp] theorem State.g6Reissue_kept (g : Nat) (lanes : BitVec 10) : (s.g6Reissue g lanes).kept = s.kept := by
  unfold State.g6Reissue
  split <;> simp

@[simp] theorem State.g6Rewrite_kept (g : Nat) (lanes : BitVec 10) : (s.g6Rewrite g lanes).kept = s.kept := by
  unfold State.g6Rewrite
  split <;> simp

@[simp] theorem State.g6NextBank_kept (g : Nat) (hot : Bool) : (s.g6NextBank g hot).kept = s.kept := by
  simp [State.g6NextBank]

@[simp] theorem State.g6Patrol_kept (g : Nat) : (s.g6Patrol g).kept = s.kept := by simp [State.g6Patrol]
@[simp] theorem State.g6Unlock_kept (g : Nat) : (s.g6Unlock g).kept = s.kept := by simp [State.g6Unlock]
@[simp] theorem State.g6Relock_kept (g : Nat) : (s.g6Relock g).kept = s.kept := by simp [State.g6Relock]

@[simp] theorem State.g6LockTimeout_kept (g : Nat) : (s.g6LockTimeout g).kept = s.kept := by
  simp [State.g6LockTimeout]

@[simp] theorem State.g6AutoSleep_kept (g : Nat) : (s.g6AutoSleep g).kept = s.kept := by simp [State.g6AutoSleep]

/-! ### Queues -/

@[simp] theorem State.descRead_kept (q : Nat) : (s.descRead q).2.kept = s.kept := by simp [State.descRead]
@[simp] theorem State.descBack_kept (d : Desc) : (s.descBack d).kept = s.kept := by simp [State.descBack]

@[simp] theorem State.cachePut_kept (d : Desc) : (s.cachePut d).kept = s.kept := by
  unfold State.cachePut
  dsimp only
  (repeat' split) <;> simp

@[simp] theorem State.descPut_kept (d : Desc) : (s.descPut d).kept = s.kept := by
  unfold State.descPut
  split <;> simp

@[simp] theorem State.dreyRefuse_kept (k : Packet) (reason : Nat) : (s.dreyRefuse k reason).kept = s.kept := by
  simp [State.dreyRefuse]

@[simp] theorem State.advanceCommit_kept (q fuel : Nat) : ∀ s : State, (s.advanceCommit q fuel).kept = s.kept := by
  induction fuel with
  | zero => exact fun _ => rfl
  | succ fuel ih =>
    intro s
    unfold State.advanceCommit
    (repeat' split) <;> simp [ih]

@[simp] theorem State.commit_kept (q : Nat) : (s.commit q).kept = s.kept := by simp [State.commit]

theorem State.reserve_kept {s t : State} {d : Desc} {n pos seq : Nat} (h : s.reserve d n = some (pos, seq, t)) :
    t.kept = s.kept := by
  unfold State.reserve at h
  split at h
  · cases h
  · obtain ⟨-, -, rfl⟩ := by simpa using h
    simp

@[simp] theorem State.complete_kept (q pos : Nat) : (s.complete q pos).kept = s.kept := by simp [State.complete]
@[simp] theorem State.setReasm_kept (r : Reasm) : (s.setReasm r).kept = s.kept := (rfl)
@[simp] theorem State.endReasm_kept (src : Nat) : (s.endReasm src).kept = s.kept := (rfl)

@[simp] theorem State.writePart_kept (a : Nat) (k : Packet) : (s.writePart a k).kept = s.kept := by
  simp [State.writePart]

@[simp] theorem State.finishRecord_kept (q a src pos seq len : Nat) :
    (s.finishRecord q a src pos seq len).kept = s.kept := by
  simp [State.finishRecord]

@[simp] theorem State.appendFirst_kept (d : Desc) (bad : List Nat) (k : Packet) (busy : Bool) :
    (s.appendFirst d bad k busy).kept = s.kept := by
  unfold State.appendFirst
  dsimp only
  split
  · simp
  · split
    next => rfl
    next pos seq t ht => simp [State.reserve_kept ht]

@[simp] theorem State.appendNext_kept (r : Reasm) (k : Packet) : (s.appendNext r k).kept = s.kept := by
  unfold State.appendNext
  dsimp only
  (repeat' split) <;> simp

@[simp] theorem State.dreyAppend_kept (d : Desc) (bad : List Nat) (k : Packet) :
    (s.dreyAppend d bad k).kept = s.kept := by
  unfold State.dreyAppend
  (repeat' split) <;> simp

@[simp] theorem State.discardRecords_kept (q : Nat) : (s.discardRecords q).kept = s.kept := by
  simp [State.discardRecords]

@[simp] theorem State.dreyReader_kept (d : Desc) (k : Packet) : (s.dreyReader d k).kept = s.kept := by
  unfold State.dreyReader
  (repeat' split) <;> simp

@[simp] theorem State.combAdd_kept (b base : Nat) (es : List (Nat × BitVec 32)) :
    (s.combAdd b base es).kept = s.kept := by
  simp [State.combAdd]

@[simp] theorem State.dreyComb_kept (d : Desc) (k : Packet) : (s.dreyComb d k).kept = s.kept := by
  simp [State.dreyComb]

@[simp] theorem State.dreyPacket_kept (d : Desc) (bad : List Nat) (k : Packet) :
    (s.dreyPacket d bad k).kept = s.kept := by
  simp [State.dreyPacket]

@[simp] theorem State.qcmdDone_kept (reason : Nat) : (s.qcmdDone reason).kept = s.kept := (rfl)
@[simp] theorem State.setQdesc_kept (ws : List Word) : (s.setQdesc ws).kept = s.kept := by simp [State.setQdesc]

@[simp] theorem State.qcmd_kept (d : Desc) (c : Nat) : (s.qcmd d c).kept = s.kept := by
  unfold State.qcmd
  (repeat' split) <;> simp

@[simp] theorem State.dreyRun_kept (o : MissOp) (d : Desc) (bad : List Nat) : (s.dreyRun o d bad).kept = s.kept := by
  unfold State.dreyRun
  split <;> simp

@[simp] theorem State.dreyOp_kept (o : MissOp) : (s.dreyOp o).kept = s.kept := by
  unfold State.dreyOp
  dsimp only
  (repeat' split) <;> simp

@[simp] theorem State.cacheFlush_kept : s.cacheFlush.kept = s.kept := by simp [State.cacheFlush]
@[simp] theorem State.qcmdEngine_kept (c q : Nat) : (s.qcmdEngine c q).kept = s.kept := by simp [State.qcmdEngine]

@[simp] theorem State.qcmdWaiting_kept : s.qcmdWaiting.kept = s.kept := by
  unfold State.qcmdWaiting
  (repeat' split) <;> simp

@[simp] theorem State.missResolve_kept : s.missResolve.kept = s.kept := by
  unfold State.missResolve
  dsimp only
  (repeat' split) <;> simp

@[simp] theorem State.dreyPush_kept (k : Packet) : (s.dreyPush k).kept = s.kept := by simp [State.dreyPush]

@[simp] theorem State.reasmExpire_kept (src : Nat) : (s.reasmExpire src).kept = s.kept := by
  unfold State.reasmExpire
  (repeat' split) <;> simp

@[simp] theorem State.reasmFree_kept (src : Nat) : (s.reasmFree src).kept = s.kept := by
  unfold State.reasmFree
  split <;> simp

@[simp] theorem State.combFlush_kept (d : Desc) (b first : Nat) : (s.combFlush d b first).kept = s.kept := by
  unfold State.combFlush
  extract_lets n store es held drey s0 s1 len lost
  have h0 : s0.kept = s.kept := by
    simp only [s0]
    split <;> simp
  have h1 : s1.kept = s.kept := (s0.inc_kept ..).trans h0
  have hlost : lost.kept = s.kept := (s1.inc_kept ..).trans h1
  clear_value s1 lost
  split
  · exact hlost
  · split
    next => exact hlost
    next pos seq t ht => simp [State.reserve_kept ht, h1]

@[simp] theorem State.combBoundary_kept (st fr : Nat) (frame : Bool) :
    (s.combBoundary st fr frame).kept = s.kept := by
  refine foldl_kept (fun t q => ?_) _ _
  split <;> simp

@[simp] theorem State.mbxCount_kept (n reason : Nat) : (s.mbxCount n reason).kept = s.kept := (rfl)

@[simp] theorem State.mbxWrite_kept (n base size pos : Nat) (ws : List Word) :
    (s.mbxWrite n base size pos ws).kept = s.kept := by
  simp [State.mbxWrite]

@[simp] theorem State.mbxAppend_kept (n dw : Nat) (w0 w1 : Word) (k : Packet) :
    (s.mbxAppend n dw w0 w1 k).kept = s.kept := by
  simp [State.mbxAppend]

@[simp] theorem State.mbxReader_kept (n dw : Nat) (w0 w1 : Word) (k : Packet) :
    (s.mbxReader n dw w0 w1 k).1.kept = s.kept := by
  unfold State.mbxReader
  dsimp only
  (repeat' split) <;> simp

@[simp] theorem State.mbxServe_kept (n : Nat) (k : Packet) : (s.mbxServe n k).1.kept = s.kept := by
  unfold State.mbxServe
  dsimp only
  (repeat' split) <;> simp

@[simp] theorem State.mbxPush_kept (n : Nat) (k : Packet) : (s.mbxPush n k).kept = s.kept := by
  unfold State.mbxPush
  dsimp only
  (repeat' split) <;> simp

@[simp] theorem State.push_kept (k : Packet) : (s.push k).kept = s.kept := by simp [State.push]

@[simp] theorem State.mbxCmd_kept (q c : Nat) : (s.mbxCmd q c).kept = s.kept := by
  unfold State.mbxCmd
  dsimp only
  (repeat' split) <;> simp

@[simp] theorem State.qcmdWrite_kept (c : Nat) : (s.qcmdWrite c).kept = s.kept := by simp [State.qcmdWrite]

end

end Sys2Proof.Machine
end

section
/-!
What leaves the fuses, the fuse program under way and the queue of waiting commands: replies, encoders, RX
ports, power, spares, faults and the security block but for SEC_PROG.
-/
namespace Sys2Proof.Machine

section
variable (s : State)

/-! ### Commands and replies -/

@[simp] theorem State.sendReply_kept (path : CmdPath) (word0 : Nat) (ack : Bool) (reason : Nat) (data : List Byte) :
    (s.sendReply path word0 ack reason data).kept = s.kept := by
  unfold State.sendReply
  split <;> simp

@[simp] theorem State.answer_kept (c : HostCmd) (reason : Nat) (data : List Byte) :
    (s.answer c reason data).kept = s.kept := by
  simp [State.answer]

theorem State.takeCmd_kept {s t : State} {c : HostCmd} {n : Nat} {b : Bool} (h : s.takeCmd c = some (n, b, t)) :
    t.kept = s.kept := by
  unfold State.takeCmd at h
  split at h
  · cases h
  · split at h
    · split at h
      · cases h
      · split at h
        all_goals
          obtain ⟨-, -, rfl⟩ := by simpa using h
          simp
    · split at h
      · obtain ⟨-, -, rfl⟩ := by simpa using h
        rfl
      · cases h

@[simp] theorem State.wakeFor_kept (c : HostCmd) : (s.wakeFor c).kept = s.kept := by simp [State.wakeFor]

/-- A row whose effect leaves the fuses, the fuse program and the queue leaves them. -/
@[simp] theorem State.serve_kept (k : Opcode) (c : HostCmd) {body : Nat → Bool → State → State × Result}
    (hbody : ∀ n b t, (body n b t).1.kept = t.kept) : (s.serve k c body).kept = s.kept := by
  unfold State.serve
  split
  · rfl
  · split
    next => rfl
    next n b t ht =>
      have htake := State.takeCmd_kept ht
      dsimp only
      split
      · simp [htake]
      · split <;> simp [hbody, htake]

@[simp] theorem State.finish_kept (op reason : Nat) (data : List Byte) : (s.finish op reason data).kept = s.kept := by
  unfold State.finish
  split <;> simp

@[simp] theorem State.quenchFire_kept : s.quenchFire.kept = s.kept := by simp [State.quenchFire]
@[simp] theorem State.quench_kept : s.quench.kept = s.kept := by simp [State.quench]

/-! ### Encoders -/

@[simp] theorem State.setChan_kept (t : Nat) (c : ChanSt) : (s.setChan t c).kept = s.kept := (rfl)
@[simp] theorem State.tndClip_kept : s.tndClip.kept = s.kept := (rfl)
@[simp] theorem State.tndDisc_kept : s.tndDisc.kept = s.kept := (rfl)
@[simp] theorem State.holdTop_kept : s.holdTop.kept = s.kept := (rfl)

@[simp] theorem State.tndEmit_kept (c : Chan) (n late axon pay : Nat) :
    (s.tndEmit c n late axon pay).kept = s.kept := by
  simp [State.tndEmit]

@[simp] theorem State.tndEmits_kept (c : Chan) (n axon k : Nat) :
    ∀ s : State, (s.tndEmits c n axon k).kept = s.kept := by
  induction k with
  | zero => exact fun _ => rfl
  | succ k ih => exact fun s => (ih _).trans (s.tndEmit_kept c n 0 axon 1)

@[simp] theorem State.promote_kept : s.promote.kept = s.kept := (rfl)
@[simp] theorem State.tndClipIf_kept (b : Bool) : (s.tndClipIf b).kept = s.kept := by simp [State.tndClipIf]

@[simp] theorem State.encDelta_kept (c : Chan) (n : Nat) (v : Int) : (s.encDelta c n v).kept = s.kept := by
  simp [State.encDelta]

@[simp] theorem State.encGraded_kept (c : Chan) (n : Nat) (u : Int) : (s.encGraded c n u).kept = s.kept := by
  simp [State.encGraded]

@[simp] theorem State.encZero_kept (c : Chan) (n : Nat) (v : Int) : (s.encZero c n v).kept = s.kept := by
  unfold State.encZero
  dsimp only
  (repeat' split) <;> simp

@[simp] theorem State.encPhase_kept (c : Chan) (n : Nat) (v : Int) : (s.encPhase c n v).kept = s.kept := by
  unfold State.encPhase
  dsimp only
  (repeat' split) <;> simp

@[simp] theorem State.setRef_kept (e : Nat) (v : Int) : (s.setRef e v).kept = s.kept := (rfl)

@[simp] theorem State.encDiff_kept (c : Chan) (n : Nat) (v : Int) (p : Nat) : (s.encDiff c n v p).kept = s.kept := by
  simp [State.encDiff]

@[simp] theorem State.encEvent_kept (c : Chan) (n x y pol : Nat) : (s.encEvent c n x y pol).kept = s.kept := by
  simp [State.encEvent]

@[simp] theorem State.encHeld_kept (c : Chan) (n : Nat) (v : Int) : (s.encHeld c n v).kept = s.kept := by
  simp [State.encHeld]

@[simp] theorem State.encode_kept (e : Input) : (s.encode e).kept = s.kept := by
  unfold State.encode
  dsimp only
  (repeat' split) <;> simp

@[simp] theorem State.encRate_kept (c : Chan) (n : Nat) : (s.encRate c n).kept = s.kept := by simp [State.encRate]

@[simp] theorem State.encLatency_kept (c : Chan) (n : Nat) : (s.encLatency c n).kept = s.kept := by
  unfold State.encLatency
  dsimp only
  (repeat' split) <;> simp

@[simp] theorem State.encClose_kept (c : Chan) (n : Nat) : (s.encClose c n).kept = s.kept := by
  unfold State.encClose
  (repeat' split) <;> simp

@[simp] theorem State.closeChan_kept (n t : Nat) : (s.closeChan n t).kept = s.kept := by
  unfold State.closeChan
  dsimp only
  (repeat' split) <;> simp

@[simp] theorem State.runCloses_kept (n : Nat) (ts : List Nat) : ∀ s : State, (s.runCloses n ts).1.kept = s.kept := by
  induction ts with
  | nil => exact fun _ => rfl
  | cons t ts ih =>
    intro s
    unfold State.runCloses
    split
    · rfl
    · exact (ih _).trans (s.closeChan_kept n t)

@[simp] theorem State.settle_kept (k : Nat) : ∀ s : State, (s.settle k).kept = s.kept := by
  induction k with
  | zero => exact fun _ => rfl
  | succ k ih =>
    intro s
    unfold State.settle
    dsimp only
    (repeat' split) <;> simp [ih]

@[simp] theorem State.settled_kept : s.settled.kept = s.kept := by simp [State.settled]
@[simp] theorem State.closeWindow_kept : s.closeWindow.kept = s.kept := by simp [State.closeWindow]
@[simp] theorem State.inputWindowClose_kept : s.inputWindowClose.kept = s.kept := by simp [State.inputWindowClose]
@[simp] theorem State.setMeter_kept (m : Meter) : (s.setMeter m).kept = s.kept := (rfl)

@[simp] theorem State.meter_kept (e : Input) : (s.meter e).kept = s.kept := by
  unfold State.meter
  split <;> simp

@[simp] theorem State.admitInput_kept (e : Input) : (s.admitInput e).kept = s.kept := by simp [State.admitInput]
@[simp] theorem State.lateCounts_kept (e : Input) : (s.lateCounts e).kept = s.kept := by simp [State.lateCounts]

@[simp] theorem State.takeInput_kept : s.takeInput.kept = s.kept := by
  unfold State.takeInput
  dsimp only
  split
  · rfl
  · split
    · rfl
    · simp only [State.settled_kept, State.kept_ite, State.wr_kept, State.kept_mk, State.kept_eta, State.advance_kept, ite_self,
        State.tndDisc_kept, State.lateCounts_kept, State.admitInput_kept]

@[simp] theorem State.tinderInject_kept : s.tinderInject.kept = s.kept := by
  unfold State.tinderInject
  dsimp only
  (repeat' split) <;> simp

@[simp] theorem State.addInput_kept (e : Input) : (s.addInput e).kept = s.kept := (rfl)
@[simp] theorem State.addLive_kept (e : Input) : (s.addLive e).kept = s.kept := by simp [State.addLive]
@[simp] theorem State.setAligned_kept (n : Nat) : (s.setAligned n).kept = s.kept := (rfl)

@[simp] theorem State.applyAlign_kept (n : Nat) (cnts : List (Nat × Nat)) (srcs : List Nat) :
    (s.applyAlign n cnts srcs).kept = s.kept := by
  simp [State.applyAlign]

@[simp] theorem State.tryAlign_kept : s.tryAlign.kept = s.kept := by
  unfold State.tryAlign
  (repeat' split) <;> simp

@[simp] theorem State.countInput_kept (n src : Nat) : (s.countInput n src).kept = s.kept := by simp [State.countInput]

@[simp] theorem State.addStamped_kept (stamp src pre : Nat) (es : List Input) :
    (s.addStamped stamp src pre es).kept = s.kept := by
  simp [State.addStamped]

@[simp] theorem State.dinEdge_kept (d : Nat) (level : Bool) (held : Nat) :
    (s.dinEdge d level held).kept = s.kept := by
  simp [State.dinEdge]

@[simp] theorem State.chanBAt_kept (stamp tag : Nat) (value : BitVec 64) :
    (s.chanBAt stamp tag value).kept = s.kept := by
  simp [State.chanBAt]

@[simp] theorem State.chanBWrite_kept (tag : Nat) (value : BitVec 64) : (s.chanBWrite tag value).kept = s.kept := by
  simp [State.chanBWrite]

/-! ### RX ports -/

@[simp] theorem State.onRx_kept (p : Nat) (f : RxSt → RxSt) : (s.onRx p f).kept = s.kept := by simp [State.onRx]
@[simp] theorem State.onCtx_kept (c : Nat) (f : CtxSt → CtxSt) : (s.onCtx c f).kept = s.kept := (rfl)
@[simp] theorem State.relayIn_kept (r p dt wc : Nat) : (s.relayIn r p dt wc).kept = s.kept := by simp [State.relayIn]
@[simp] theorem State.frameStart_kept (p vc : Nat) : (s.frameStart p vc).kept = s.kept := by simp [State.frameStart]
@[simp] theorem State.rxGood_kept (p vc dt wc : Nat) : (s.rxGood p vc dt wc).kept = s.kept := by simp [State.rxGood]

@[simp] theorem State.rxHeader_kept (p : Nat) (ecc : EccResult) (vc dt wc : Nat) :
    (s.rxHeader p ecc vc dt wc).kept = s.kept := by
  unfold State.rxHeader
  (repeat' split) <;> simp

@[simp] theorem State.relayWhole_kept (p : Nat) (payload : List Byte) (crcOk : Bool) :
    (s.relayWhole p payload crcOk).kept = s.kept := by
  simp [State.relayWhole]

@[simp] theorem State.crcError_kept (p : Nat) : (s.crcError p).kept = s.kept := by simp [State.crcError]

@[simp] theorem State.quenchArrives_kept (c : HostCmd) : (s.quenchArrives c).kept = s.kept := by
  simp [State.quenchArrives]

@[simp] theorem State.inbandCmd_kept (p stamp : Nat) (payload : List Byte) :
    (s.inbandCmd p stamp payload).kept = s.kept := by
  simp [State.inbandCmd]

@[simp] theorem State.accept_kept (c stamp : Nat) : (s.accept c stamp).kept = s.kept := by simp [State.accept]
@[simp] theorem State.fmtErr_kept (c n : Nat) : (s.fmtErr c n).kept = s.kept := by simp [State.fmtErr]

@[simp] theorem State.takeSets_kept (c origin stamp : Nat) (k : SampleBlock) (b : List Byte) :
    (s.takeSets c origin stamp k b).1.kept = s.kept := by
  unfold State.takeSets
  dsimp only
  (repeat' split) <;> simp

@[simp] theorem State.anchorAt_kept (c origin : Nat) : (s.anchorAt c origin).kept = s.kept := (rfl)

@[simp] theorem State.sampleIn_kept (c stamp : Nat) (b : List Byte) : (s.sampleIn c stamp b).kept = s.kept := by
  unfold State.sampleIn
  split <;> simp

@[simp] theorem State.takeAnchor_kept (c origin : Nat) : (s.takeAnchor c origin).kept = s.kept := by
  refine (foldl_kept (fun t x => ?_) _ _).trans (by simp)
  split <;> simp

@[simp] theorem State.stampedIn_kept (c stamp pre : Nat) (es : List Input) :
    (s.stampedIn c stamp pre es).1.kept = s.kept := by
  unfold State.stampedIn
  split <;> simp

@[simp] theorem State.eventIn_kept (c stamp : Nat) (b : List Byte) : (s.eventIn c stamp b).kept = s.kept := by
  simp [State.eventIn]

@[simp] theorem State.lineIn_kept (c dt stamp : Nat) (b : List Byte) : (s.lineIn c dt stamp b).kept = s.kept := by
  simp [State.lineIn]

@[simp] theorem State.stageWrites_kept (agent fuel : Nat) :
    ∀ (s : State) (addr : Nat) (ws : List Word), (s.stageWrites agent addr ws fuel).kept = s.kept := by
  induction fuel with
  | zero => exact fun _ _ _ => rfl
  | succ fuel ih =>
    intro s addr ws
    unfold State.stageWrites
    split
    · rfl
    · exact (ih _ _ _).trans (State.stage_kept ..)

@[simp] theorem State.loadIn_kept (c stamp : Nat) (b : List Byte) : (s.loadIn c stamp b).kept = s.kept := by
  simp [State.loadIn]

@[simp] theorem State.ctxIn_kept (c dt stamp : Nat) (b : List Byte) : (s.ctxIn c dt stamp b).kept = s.kept := by
  unfold State.ctxIn
  split <;> simp

@[simp] theorem State.rxCut_kept (p : Nat) : (s.rxCut p).kept = s.kept := by simp [State.rxCut]

@[simp] theorem State.rxEnd_kept (p : Nat) (payload : List Byte) (crcOk : Bool) :
    (s.rxEnd p payload crcOk).kept = s.kept := by
  unfold State.rxEnd
  dsimp only
  (repeat' split) <;> simp

@[simp] theorem State.burstEnd_kept (p : Nat) (sotErr : Bool) : (s.burstEnd p sotErr).kept = s.kept := by
  simp [State.burstEnd]

@[simp] theorem State.streamLoss_kept (c : Nat) : (s.streamLoss c).kept = s.kept := by simp [State.streamLoss]

@[simp] theorem State.rxTrain_kept (p : Nat) (ok : BitVec 4) : (s.rxTrain p ok).kept = s.kept := by
  simp [State.rxTrain]

@[simp] theorem State.retrain_kept (p : Nat) (ok : BitVec 4) : (s.retrain p ok).kept = s.kept := by
  simp [State.retrain]

@[simp] theorem State.retrainFree_kept (p : Nat) : (s.retrainFree p).kept = s.kept := by simp [State.retrainFree]

/-! ### Power and temperature -/

@[simp] theorem State.deviceFence_kept : s.deviceFence.kept = s.kept := by simp [State.deviceFence]
@[simp] theorem State.hotLoop_kept (boundary : Bool) : (s.hotLoop boundary).kept = s.kept := by simp [State.hotLoop]
@[simp] theorem State.capLoop_kept (boundary : Bool) : (s.capLoop boundary).kept = s.kept := by simp [State.capLoop]

@[simp] theorem State.boostLoop_kept : s.boostLoop.kept = s.kept := by
  unfold State.boostLoop
  dsimp only
  (repeat' split) <;> simp

@[simp] theorem State.takeCorr_kept : s.takeCorr.kept = s.kept := by
  unfold State.takeCorr
  split <;> simp

@[simp] theorem State.setCap_kept (mw : Nat) : (s.setCap mw).kept = s.kept := (rfl)
@[simp] theorem State.kilnBoundary_kept (n : Nat) : (s.kilnBoundary n).kept = s.kept := by simp [State.kilnBoundary]

@[simp] theorem State.showPower_kept (engines : List Nat) (uncore : Nat) :
    (s.showPower engines uncore).kept = s.kept := by
  simp [State.showPower]

@[simp] theorem State.diverge_kept : s.diverge.kept = s.kept := by simp [State.diverge]

@[simp] theorem State.windowEnd_kept (engines : List Nat) (uncore : Nat) :
    (s.windowEnd engines uncore).kept = s.kept := by
  simp [State.windowEnd]

@[simp] theorem State.recalStart_kept : s.recalStart.kept = s.kept := by simp [State.recalStart]

@[simp] theorem State.recalDone_kept : s.recalDone.kept = s.kept := by
  unfold State.recalDone
  split <;> simp

@[simp] theorem State.droopStart_kept (e : Nat) : (s.droopStart e).kept = s.kept := by simp [State.droopStart]
@[simp] theorem State.droopEnd_kept (e us : Nat) : (s.droopEnd e us).kept = s.kept := by simp [State.droopEnd]
@[simp] theorem State.sensor_kept (i : Nat) (v : Int) : (s.sensor i v).kept = s.kept := by simp [State.sensor]
@[simp] theorem State.trip_kept (i : Nat) : (s.trip i).kept = s.kept := by simp [State.trip]

@[simp] theorem State.thermal_kept (rs : List Int) : (s.thermal rs).kept = s.kept := by
  unfold State.thermal
  dsimp only
  (repeat' split) <;> simp

@[simp] theorem State.gateCore_kept (n : Nat) : (s.gateCore n).kept = s.kept := by simp [State.gateCore]
@[simp] theorem State.wakeEngines_kept : s.wakeEngines.kept = s.kept := by simp [State.wakeEngines]
@[simp] theorem State.showFloor_kept : s.showFloor.kept = s.kept := (rfl)

/-! ### Spares -/

@[simp] theorem State.markDefect_kept (p : Nat) : (s.markDefect p).kept = s.kept := (rfl)
@[simp] theorem State.spareStat_kept (e : Nat) : (s.spareStat e).kept = s.kept := by simp [State.spareStat]
@[simp] theorem State.mapShadow_kept (e n t : Nat) : (s.mapShadow e n t).kept = s.kept := by simp [State.mapShadow]
@[simp] theorem State.mapFlip_kept (e : Nat) : (s.mapFlip e).kept = s.kept := (rfl)
@[simp] theorem State.moveMap_kept (ms : List (Nat × Nat)) : (s.moveMap ms).kept = s.kept := by simp [State.moveMap]
@[simp] theorem State.copyTile_kept (rs : List Nat) (a b : Nat) : (s.copyTile rs a b).kept = s.kept := (rfl)
@[simp] theorem State.dropRegs_kept (rs : List Nat) (u : Nat) : (s.dropRegs rs u).kept = s.kept := (rfl)
@[simp] theorem State.resetCore_kept (n : Nat) : (s.resetCore n).kept = s.kept := (rfl)

@[simp] theorem State.redirect_kept (cols : List (Nat × Nat)) (f : Flight) : (s.redirect cols f).kept = s.kept := by
  unfold State.redirect
  dsimp only
  (repeat' split) <;> simp

@[simp] theorem State.unblock_kept (f : Flight) : (s.unblock f).kept = s.kept := by
  unfold State.unblock
  (repeat' split) <;> simp

@[simp] theorem State.swapCore_kept (n b window : Nat) (ageing : Bool) :
    (s.swapCore n b window ageing).kept = s.kept := by
  simp [State.swapCore]

@[simp] theorem State.bypassColumn_kept (e c : Nat) : (s.bypassColumn e c).kept = s.kept := by
  simp [State.bypassColumn]

@[simp] theorem State.retireColumn_kept (e c : Nat) : (s.retireColumn e c).kept = s.kept := by
  unfold State.retireColumn
  extract_lets ms rows spare cols moved
  have hspare : spare.kept = s.kept := foldl_kept (fun t r => by split <;> simp) _ _
  have hmoved : moved.kept = s.kept := by simp [moved, hspare]
  clear_value moved
  simp [hmoved]

@[simp] theorem State.retireColumns_kept (cols : List (Nat × Nat)) : (s.retireColumns cols).kept = s.kept := by
  simp [State.retireColumns]

@[simp] theorem State.computeFloor_kept : s.computeFloor.kept = s.kept := (rfl)
@[simp] theorem State.markSwap_kept (w : Swap) : (s.markSwap w).kept = s.kept := by simp [State.markSwap]
@[simp] theorem State.swapFailed_kept (e p : Nat) : (s.swapFailed e p).kept = s.kept := by simp [State.swapFailed]
@[simp] theorem State.ageSwap_kept (n : Nat) : (s.ageSwap n).kept = s.kept := by simp [State.ageSwap]

@[simp] theorem State.age_kept (p : Nat) (negative : Bool) : (s.age p negative).kept = s.kept := by
  unfold State.age
  (repeat' split) <;> simp

/-! ### The fault chain -/

@[simp] theorem State.unmask_kept (m : Msg) : (s.unmask m).kept = s.kept := by simp [State.unmask]
@[simp] theorem State.lostMsg_kept (m : Msg) (f : Fld) : (s.lostMsg m f).kept = s.kept := by simp [State.lostMsg]
@[simp] theorem State.offer_kept (m : Msg) : (s.offer m).kept = s.kept := by simp [State.offer]

@[simp] theorem State.faultOffer_kept : s.faultOffer.kept = s.kept := by
  unfold State.faultOffer
  split <;> simp

@[simp] theorem State.status_kept (m : Msg) : (s.status m).kept = s.kept := by
  unfold State.status
  (repeat' split) <;> simp

@[simp] theorem State.faultPin_kept : s.faultPin.kept = s.kept := (rfl)
@[simp] theorem State.reactFail_kept (slot : Nat) : (s.reactFail slot).kept = s.kept := by simp [State.reactFail]

@[simp] theorem State.logMsg_kept (m : Msg) (code : Nat) (slot : Option Nat) :
    (s.logMsg m code slot).kept = s.kept := by
  simp [State.logMsg]

@[simp] theorem State.fenceFor_kept (slot n : Nat) : (s.fenceFor slot n).kept = s.kept := by simp [State.fenceFor]

@[simp] theorem State.reactSwap_kept (slot : Nat) (m : Msg) : (s.reactSwap slot m).kept = s.kept := by
  simp [State.reactSwap]

@[simp] theorem State.fenceEngine_kept (e : Nat) : (s.fenceEngine e).kept = s.kept := by simp [State.fenceEngine]

@[simp] theorem State.startReaction_kept (slot : Nat) (m : Msg) (code : Nat) :
    (s.startReaction slot m code).kept = s.kept := by
  unfold State.startReaction
  (repeat' split) <;> simp

@[simp] theorem State.faultEvent_kept (code : Nat) : (s.faultEvent code).kept = s.kept := by simp [State.faultEvent]

@[simp] theorem State.owlTake_kept : s.owlTake.kept = s.kept := by
  unfold State.owlTake
  (repeat' split) <;> simp

@[simp] theorem State.resetEngine_kept (e : Nat) : (s.resetEngine e).kept = s.kept := by simp [State.resetEngine]

@[simp] theorem State.reactionDone_kept (slot : Nat) : (s.reactionDone slot).kept = s.kept := by
  unfold State.reactionDone
  split <;> simp

@[simp] theorem State.force_kept (src kind cls addr : Nat) : (s.force src kind cls addr).kept = s.kept := (rfl)
@[simp] theorem State.owlForce_kept (v : Nat) : (s.owlForce v).kept = s.kept := by simp [State.owlForce]
@[simp] theorem State.wdogWrite_kept (v : Nat) : (s.wdogWrite v).kept = s.kept := by simp [State.wdogWrite]

/-! ### The security block, but for SEC_PROG -/

@[simp] theorem State.startFw_kept (img : List Byte) : (s.startFw img).kept = s.kept := by simp [State.startFw]
@[simp] theorem State.deriveId_kept : s.deriveId.kept = s.kept := by simp [State.deriveId]
@[simp] theorem State.challenge_kept (scope : Byte) : (s.challenge scope).kept = s.kept := by simp [State.challenge]
@[simp] theorem State.unlock_kept (bs : List Byte) : (s.unlock bs).kept = s.kept := by simp [State.unlock]

/-! ### Register writes with effects of their own -/

@[simp] theorem State.store_kept (p : Place) (v m : Nat) : (s.store p v m).kept = s.kept := by simp [State.store]
@[simp] theorem State.disable_kept : s.disable.kept = s.kept := (rfl)
@[simp] theorem State.checkStart_kept : s.checkStart.kept = s.kept := (rfl)
@[simp] theorem State.runWrite_kept (v : Bool) : (s.runWrite v).kept = s.kept := by simp [State.runWrite]
@[simp] theorem State.ctrlWrite_kept (v m : Nat) : (s.ctrlWrite v m).kept = s.kept := by simp [State.ctrlWrite]

@[simp] theorem State.editGroup_kept (p : Place) (v stamp : Nat) : (s.editGroup p v stamp).kept = s.kept := by
  simp [State.editGroup]

@[simp] theorem State.thermCfg_kept (v m : Nat) : (s.thermCfg v m).kept = s.kept := by simp [State.thermCfg]

@[simp] theorem State.inbandCfg_kept (p : Place) (v m : Nat) : (s.inbandCfg p v m).kept = s.kept := by
  simp [State.inbandCfg]

@[simp] theorem State.wokenAt_kept (a : Nat) : (s.wokenAt a).kept = s.kept := by simp [State.wokenAt]

end

end Sys2Proof.Machine
end

section
/-!
What leaves the fuses, the fuse program under way and the queue of waiting commands: decoders and step
boundaries.
-/
namespace Sys2Proof.Machine

section
variable (s : State)

/-! ### Decoders and actuation -/

@[simp] theorem State.setLine_kept (b line : Nat) (l : AshLine) : (s.setLine b line l).kept = s.kept := by
  simp [State.setLine]

@[simp] theorem State.ashAdd_kept (dec : Decoder) (k : Packet) : (s.ashAdd dec k).kept = s.kept := by
  simp [State.ashAdd]

@[simp] theorem State.ashLate_kept : s.ashLate.kept = s.kept := by simp [State.ashLate]
@[simp] theorem State.ashToken_kept (k : Packet) : (s.ashToken k).kept = s.kept := (rfl)

@[simp] theorem State.ashRacc_kept (k : Packet) : (s.ashRacc k).kept = s.kept := by
  unfold State.ashRacc
  (repeat' split) <;> simp

@[simp] theorem State.issueReads_kept (st : Nat) : (s.issueReads st).kept = s.kept := by simp [State.issueReads]
@[simp] theorem State.decided_kept (d frame : Nat) (v : Bool) : (s.decided d frame v).kept = s.kept := (rfl)
@[simp] theorem State.onRec_kept (d frame : Nat) (f : AshRec → AshRec) : (s.onRec d frame f).kept = s.kept := (rfl)

@[simp] theorem State.decideRead_kept (d frame : Nat) : (s.decideRead d frame).kept = s.kept := by
  unfold State.decideRead
  dsimp only
  (repeat' split) <;> simp

@[simp] theorem State.readData_kept (d frame base count stride : Nat) (ws : List Word) :
    (s.readData d frame base count stride ws).kept = s.kept := by
  simp [State.readData]

@[simp] theorem State.readFailed_kept (d frame base count : Nat) :
    (s.readFailed d frame base count).kept = s.kept := by
  unfold State.readFailed
  split <;> simp

@[simp] theorem State.readTimeout_kept : s.readTimeout.kept = s.kept := by
  unfold State.readTimeout
  split <;> simp

@[simp] theorem State.ashClose_kept (k g : Nat) (flags : CloseFlags) : (s.ashClose k g flags).kept = s.kept := by
  simp [State.ashClose]

@[simp] theorem State.emitRecord_kept (o : Outlet) (mk : Nat → List Byte) : (s.emitRecord o mk).kept = s.kept := by
  simp [State.emitRecord]

@[simp] theorem State.emitRec_kept (r : AshRec) : (s.emitRec r).kept = s.kept := by simp [State.emitRec]
@[simp] theorem State.keepRec_kept (r : AshRec) : (s.keepRec r).kept = s.kept := (rfl)

@[simp] theorem State.recordOut_kept (d : Nat) : (s.recordOut d).kept = s.kept := by
  unfold State.recordOut
  split <;> simp

@[simp] theorem State.quiesceDone_kept : s.quiesceDone.kept = s.kept := by
  unfold State.quiesceDone
  (repeat' split) <;> simp

@[simp] theorem State.meterHandoff_kept : s.meterHandoff.kept = s.kept := by
  unfold State.meterHandoff
  split <;> simp

@[simp] theorem State.drive_kept (a : Nat) (v : Bool) : (s.drive a v).kept = s.kept := by simp [State.drive]
@[simp] theorem State.noPulse_kept (a : Nat) : (s.noPulse a).kept = s.kept := (rfl)
@[simp] theorem State.permitAt_kept (level : Bool) : (s.permitAt level).kept = s.kept := (rfl)

theorem State.asserting_kept (a : Nat) (x : ActDue) : (s.asserting a x).kept = s.kept := by
  simp only [State.asserting, State.dueTaken, State.noPulse_kept, State.kept_mk, State.kept_eta, State.advance_kept]

@[simp] theorem State.actAssert_kept (a : Nat) : (s.actAssert a).kept = s.kept := by
  cases hx : s.ash.actDue.find? (fun x => x.line == a) with
  | none => simp only [State.actAssert, hx]
  | some x =>
    cases hy : s.ash.decisions.find? (fun y => y.dec == s.rd F.ACT_CFG_DEC 0 a && y.frame == x.frame) with
    | none => rw [State.actAssert_missing hx hy, State.inc_kept, State.drive_kept, State.asserting_kept]
    | some y =>
      simp only [State.actAssert_decided hx hy, State.asserted, State.pulseUntil, State.kept_ite, State.kept_mk, State.kept_eta,
        State.drive_kept, State.asserting_kept, ite_self]

@[simp] theorem State.actPulseEnd_kept (a : Nat) : (s.actPulseEnd a).kept = s.kept := by
  unfold State.actPulseEnd
  split <;> simp

@[simp] theorem State.actRecheck_kept (a : Nat) : (s.actRecheck a).kept = s.kept := by simp [State.actRecheck]

/-! ### Attestation -/

@[simp] theorem State.attestDone_kept : s.attestDone.kept = s.kept := by
  unfold State.attestDone
  split <;> simp

/-! ### Snapshot copies -/

@[simp] theorem State.copyWord_kept (n w : Nat) : (s.copyWord n w).2.kept = s.kept := by
  unfold State.copyWord
  dsimp only
  (repeat' split) <;> simp

@[simp] theorem State.copyWords_kept (n k : Nat) :
    ∀ (s : State) (w a : Nat), (s.copyWords n w a k).kept = s.kept := by
  induction k with
  | zero => exact fun _ _ _ => rfl
  | succ k ih => exact fun s w a => (ih _ _ _).trans (by simp)

@[simp] theorem State.copyRanges_kept (rs : List (Nat × Nat × Nat)) :
    ∀ (s : State) (a : Nat) (ks : List Nat), (s.copyRanges a rs ks).kept = s.kept := by
  induction rs with
  | nil => exact fun _ _ _ => rfl
  | cons r rs ih =>
    intro s a ks
    cases ks with
    | nil => rfl
    | cons k ks => exact (ih _ _ _).trans (by simp)

@[simp] theorem State.snapHalt_kept (x : Snap) : (s.snapHalt x).kept = s.kept := by simp [State.snapHalt]

/-! ### Landing of operations -/

@[simp] theorem State.judge_kept (n : Nat) (k : Packet) : (s.judge n k).2.2.kept = s.kept := by
  unfold State.judge
  (repeat' split) <;> simp

@[simp] theorem State.misplaced_kept (n : Nat) (k : Packet) (x3 : Fate) : (s.misplaced n k x3).kept = s.kept := by
  unfold State.misplaced
  split <;> simp

@[simp] theorem State.denPut_kept (n : Nat) (k : Packet) (tag : Nat) (came : Nat × Nat) :
    (s.denPut n k tag came).kept = s.kept := by
  simp [State.denPut]

@[simp] theorem State.dropPosted_kept (n : Nat) (k : Packet) : (s.dropPosted n k).kept = s.kept := by
  simp [State.dropPosted]

@[simp] theorem State.refuseFenced_kept (n : Nat) (k : Packet) (tok : Bool) :
    (s.refuseFenced n k tok).kept = s.kept := by
  simp [State.refuseFenced]

@[simp] theorem State.raccArrive_kept (n : Nat) (k : Packet) : (s.raccArrive n k).kept = s.kept := by
  unfold State.raccArrive
  dsimp only
  (repeat' split) <;> simp

theorem State.addSram_kept {s t : State} {n w : Nat} {d : Word} (h : s.addSram n w d = some t) : t.kept = s.kept := by
  have hread := s.sramRead_kept n w
  unfold State.addSram at h
  dsimp only at h
  split at h
  next v u hu =>
    obtain rfl := Option.some.inj h
    simpa [hu] using hread
  next => cases h

@[simp] theorem State.denDrop_kept (n : Nat) (o : Waiting) : (s.denDrop n o).kept = s.kept := by simp [State.denDrop]
@[simp] theorem State.synapse_kept (n : Nat) (k : Packet) : (s.synapse n k).kept = s.kept := by simp [State.synapse]

@[simp] theorem State.synTurn_kept (n : Nat) (o : Waiting) (fromDen : Bool) :
    (s.synTurn n o fromDen).kept = s.kept := by
  simp [State.synTurn]

@[simp] theorem State.synAccumulate_kept (n : Nat) : (s.synAccumulate n).kept = s.kept := by
  unfold State.synAccumulate
  dsimp only
  (repeat' split) <;> simp

/-! ### Fan-out and patrol -/

@[simp] theorem State.fanEntry_kept (n : Nat) (x : Spike) (w : Nat) : (s.fanEntry n x w).kept = s.kept := by
  grind [State.fanEntry, State.sramRead_kept, State.stage_kept]

@[simp] theorem State.fanout_kept (n : Nat) : (s.fanout n).kept = s.kept := by
  unfold State.fanout
  (repeat' split) <;> simp

@[simp] theorem State.updateDone_kept (n wait : Nat) : (s.updateDone n wait).kept = s.kept := by
  simp [State.updateDone]

@[simp] theorem State.patrol_kept (n : Nat) : (s.patrol n).kept = s.kept := by simp [State.patrol]

@[simp] theorem State.correctedBack_kept (n : Nat) : (s.correctedBack n).kept = s.kept := by
  simp [State.correctedBack]

/-! ### Step boundaries -/

@[simp] theorem State.countClose_kept (how : Close) : (s.countClose how).kept = s.kept := by simp [State.countClose]
@[simp] theorem State.engineFrame_kept (k e : Nat) : (s.engineFrame k e).kept = s.kept := by simp [State.engineFrame]
@[simp] theorem State.frameDigests_kept (k : Nat) : (s.frameDigests k).kept = s.kept := by simp [State.frameDigests]
@[simp] theorem State.digestMiss_kept (es : List Nat) : (s.digestMiss es).kept = s.kept := by simp [State.digestMiss]

@[simp] theorem State.digestMatch_kept (es : List Nat) : (s.digestMatch es).kept = s.kept := by
  simp [State.digestMatch]

@[simp] theorem State.compareFrame_kept (k : Nat) (own peer : List (BitVec 64)) :
    (s.compareFrame k own peer).kept = s.kept := by
  simp [State.compareFrame]

@[simp] theorem State.compareApply_kept (a b : ApplyDig) : (s.compareApply a b).kept = s.kept := by
  simp [State.compareApply]

@[simp] theorem State.compareAll_kept : s.compareAll.kept = s.kept := by
  refine (foldl_kept (fun t x => ?_) _ _).trans (foldl_kept (fun t x => ?_) _ _)
  · split <;> simp
  · split <;> simp

@[simp] theorem State.frameEnd_kept : s.frameEnd.kept = s.kept := by simp [State.frameEnd]

@[simp] theorem State.exchangeRoles_kept (n : Nat) : (s.exchangeRoles n).kept = s.kept := by
  unfold State.exchangeRoles
  split <;> simp

@[simp] theorem State.closeStep_kept (how : Close) : (s.closeStep how).kept = s.kept := by simp [State.closeStep]
@[simp] theorem State.countEpochs_kept (n : Nat) : (s.countEpochs n).kept = s.kept := by simp [State.countEpochs]

@[simp] theorem State.applyDigests_kept (n : Nat) (ran : Nat → Bool) : (s.applyDigests n ran).kept = s.kept := by
  simp [State.applyDigests]

@[simp] theorem State.learnActs_kept (n : Nat) : (s.learnActs n).kept = s.kept := by simp [State.learnActs]
@[simp] theorem State.capture_kept (x : Snap) (n : Nat) : (s.capture x n).kept = s.kept := (rfl)

@[simp] theorem State.snapBoundary_kept (n : Nat) : (s.snapBoundary n).kept = s.kept := by
  unfold State.snapBoundary
  split <;> simp

@[simp] theorem State.mapFlips_kept : s.mapFlips.kept = s.kept := by simp [State.mapFlips]
@[simp] theorem State.framePins_kept : s.framePins.kept = s.kept := (rfl)
@[simp] theorem State.openWindow_kept : s.openWindow.kept = s.kept := by simp [State.openWindow]

@[simp] theorem State.spikesLand_kept : s.spikesLand.kept = s.kept := by
  refine (foldl_kept (fun t x => ?_) _ _).trans (by simp)
  split <;> simp

@[simp] theorem State.tick_kept (n : Nat) : (s.tick n).kept = s.kept := by simp [State.tick]

@[simp] theorem State.stopRun_kept (last : Nat) (frame : Bool) : (s.stopRun last frame).kept = s.kept := by
  unfold State.stopRun
  dsimp only
  (repeat' split) <;> simp

@[simp] theorem State.inputsToReplay_kept : s.inputsToReplay.kept = s.kept := (rfl)
@[simp] theorem State.goAway_kept (c : Option Ckpt) (restore : Bool) : (s.goAway c restore).kept = s.kept := (rfl)
@[simp] theorem State.journalAside_kept : s.journalAside.kept = s.kept := (rfl)

@[simp] theorem State.begin_kept : s.begin.kept = s.kept := by
  simp only [State.begin, State.kept_mk, State.kept_eta, State.kept_ite, ite_self, State.quiesceDone_kept, State.stopRun_kept,
    State.goAway_kept, State.journalAside_kept, State.tick_kept, State.wr_kept]

@[simp] theorem State.boundary_kept (how : Close) : (s.boundary how).kept = s.kept := by
  unfold State.boundary
  split <;> simp

@[simp] theorem State.forceClose_kept : s.forceClose.kept = s.kept := by simp [State.forceClose]
@[simp] theorem State.stepDeadline_kept : s.stepDeadline.kept = s.kept := by simp [State.stepDeadline]
@[simp] theorem State.stepDone_kept : s.stepDone.kept = s.kept := by simp [State.stepDone]
@[simp] theorem State.budgetOut_kept : s.budgetOut.kept = s.kept := by simp [State.budgetOut]
@[simp] theorem State.hangOut_kept : s.hangOut.kept = s.kept := by simp [State.hangOut]

@[simp] theorem State.freeLimit_kept : s.freeLimit.kept = s.kept := by
  unfold State.freeLimit
  (repeat' split) <;> simp

@[simp] theorem State.edge_kept : s.edge.kept = s.kept := by
  unfold State.edge
  split <;> simp

@[simp] theorem State.begun0_kept : s.begun0.kept = s.kept := by simp [State.begun0]
@[simp] theorem State.idleEnter_kept : s.idleEnter.kept = s.kept := by simp [State.idleEnter]
@[simp] theorem State.idleExit_kept : s.idleExit.kept = s.kept := by simp [State.idleExit]

@[simp] theorem State.swapEnd_kept (w : Swap) (ok : Bool) : (s.swapEnd w ok).kept = s.kept := by
  unfold State.swapEnd
  split <;> simp

@[simp] theorem State.swapSource_kept (w : Swap) : (s.swapSource w).kept = s.kept := by simp [State.swapSource]

@[simp] theorem State.spareDone_kept : s.spareDone.kept = s.kept := by
  unfold State.spareDone
  dsimp only
  (repeat' split) <;> simp

@[simp] theorem State.columnDone_kept : s.columnDone.kept = s.kept := by
  unfold State.columnDone
  dsimp only
  (repeat' split) <;> simp

@[simp] theorem State.emitResult_kept (d : Nat) : (s.emitResult d).kept = s.kept := by simp [State.emitResult]

end

end Sys2Proof.Machine
end

section
/-!
What leaves the fuses, the fuse program under way and the queue of waiting commands: the pair, the remaining
commands, the configuration check and the boot.
-/
namespace Sys2Proof.Machine

section
variable (s : State)

/-! ### The redundant pair -/

@[simp] theorem State.sendBlock_kept (rs : List (Nat × List Byte)) : (s.sendBlock rs).kept = s.kept := by
  simp [State.sendBlock]

@[simp] theorem State.sendRecords_kept (rs : List (Nat × List Byte)) : (s.sendRecords rs).kept = s.kept := by
  simp [State.sendRecords]

@[simp] theorem State.stepBlock_kept : s.stepBlock.kept = s.kept := by simp [State.stepBlock]

@[simp] theorem State.frameBlock_kept : s.frameBlock.kept = s.kept := by
  unfold State.frameBlock
  (repeat' split) <;> simp

@[simp] theorem State.agreeBlock_kept : s.agreeBlock.kept = s.kept := by simp [State.agreeBlock]

@[simp] theorem State.backgroundBlock_kept : s.backgroundBlock.kept = s.kept := by
  unfold State.backgroundBlock
  dsimp only
  (repeat' split) <;> simp

@[simp] theorem State.beat_kept (g : Nat) : (s.beat g).kept = s.kept := by
  simp only [State.beat, State.kept_mk, State.kept_eta, State.kept_ite, ite_self, State.wr_kept, State.inc_kept]

@[simp] theorem State.takeover_kept : s.takeover.kept = s.kept := by simp [State.takeover]
@[simp] theorem State.hbChange_kept (level : Bool) : (s.hbChange level).kept = s.kept := by simp [State.hbChange]

@[simp] theorem State.hbTimeout_kept : s.hbTimeout.kept = s.kept := by
  simp only [State.hbTimeout, State.kept_mk, State.kept_eta, State.kept_ite, ite_self, State.wr_kept, State.inc_kept,
    State.advance_kept]

@[simp] theorem State.partnerLost_kept : s.partnerLost.kept = s.kept := by
  simp only [State.partnerLost, State.kept_mk, State.kept_eta, State.kept_ite, ite_self, State.wr_kept, State.inc_kept,
    State.advance_kept, State.takeover_kept, State.report_kept]

@[simp] theorem State.fenceRise_kept : s.fenceRise.kept = s.kept := by simp [State.fenceRise]
@[simp] theorem State.alignMiss_kept : s.alignMiss.kept = s.kept := (rfl)

@[simp] theorem State.alignEnd_kept (n : Nat) : (s.alignEnd n).kept = s.kept := by
  unfold State.alignEnd
  split <;> simp

@[simp] theorem State.alignExpired_kept : s.alignExpired.kept = s.kept := by
  unfold State.alignExpired
  split <;> simp

@[simp] theorem State.takeAlign_kept (n : Nat) (cnts : List (Nat × Nat)) : (s.takeAlign n cnts).kept = s.kept := by
  simp [State.takeAlign]

@[simp] theorem State.capAt_kept (c : HostCmd) (n : Nat) : (s.capAt c n).kept = s.kept := by simp [State.capAt]

@[simp] theorem State.takeEdit_kept (n : Nat) (b : List Byte) : (s.takeEdit n b).kept = s.kept := by
  simp [State.takeEdit]

@[simp] theorem State.takeCkpt_kept (c bytes crc : Nat) : (s.takeCkpt c bytes crc).kept = s.kept := by
  simp [State.takeCkpt]

@[simp] theorem State.feedJoiner_kept : s.feedJoiner.kept = s.kept := by simp [State.feedJoiner]

@[simp] theorem State.takeOverload_kept (n : Nat) (es : List Overload) : (s.takeOverload n es).kept = s.kept := by
  simp [State.takeOverload]

@[simp] theorem State.takeRecord_kept (r : Nat × List Byte) : (s.takeRecord r).kept = s.kept := by
  unfold State.takeRecord
  (repeat' split) <;> simp

@[simp] theorem State.blockIn_kept (b : List Byte) : (s.blockIn b).kept = s.kept := by
  unfold State.blockIn
  (repeat' split) <;> simp

@[simp] theorem State.restore_kept (c : Ckpt) : (s.restore c).kept = s.kept := by simp [State.restore]
@[simp] theorem State.ckptTaken_kept (c : Ckpt) : (s.ckptTaken c).kept = s.kept := (rfl)

@[simp] theorem State.replayFrom_kept (c : Nat) : (s.replayFrom c).kept = s.kept := by
  unfold State.replayFrom
  split <;> simp

@[simp] theorem State.copyDone_kept : s.copyDone.kept = s.kept := by
  unfold State.copyDone
  (repeat' split) <;> simp

@[simp] theorem State.rejoin_kept : s.rejoin.kept = s.kept := by
  simp only [State.rejoin, State.kept_mk, State.kept_eta, State.kept_ite, ite_self, State.takeover_kept, State.wr_kept,
    State.inc_kept, State.setAligned_kept, State.advance_kept]

/-! ### Remote reads, responses and CTL -/

@[simp] theorem State.readWords_kept (n m : Nat) : ∀ (s : State) (w : Nat), (s.readWords n w m).2.kept = s.kept := by
  induction m with
  | zero => exact fun _ _ => rfl
  | succ m ih =>
    intro s w
    unfold State.readWords
    extract_lets r t
    have hr : r.2.kept = s.kept := by
      simp only [r]
      split <;> simp
    have ht : t.kept = s.kept := by
      simp only [t]
      split <;> simp [hr]
    have hrest := ih t (w + 1)
    clear_value t
    split <;> simp_all

@[simp] theorem State.rrdDo_kept (n : Nat) (k : Packet) : (s.rrdDo n k).kept = s.kept := by
  grind [State.rrdDo, State.readWords_kept, State.sendData_kept, State.sendNack_kept]

@[simp] theorem State.rrdCore_kept (n : Nat) (k : Packet) : (s.rrdCore n k).kept = s.kept := by simp [State.rrdCore]

@[simp] theorem State.readServe_kept (n : Nat) : (s.readServe n).kept = s.kept := by
  unfold State.readServe
  (repeat' split) <;> simp

@[simp] theorem State.tidTake_kept (t : Tid) : (s.tidTake t).kept = s.kept := by simp [State.tidTake]

@[simp] theorem State.dataErrorAt_kept (t : Tid) (k : Packet) : (s.dataErrorAt t k).kept = s.kept := by
  simp [State.dataErrorAt]

@[simp] theorem State.responded_kept (t : Tid) (k : Packet) : (s.responded t k).kept = s.kept := by
  unfold State.responded
  split <;> simp

@[simp] theorem State.tokTake_kept (k : Packet) : (s.tokTake k).kept = s.kept := by simp [State.tokTake]

@[simp] theorem State.response_kept (k : Packet) : (s.response k).kept = s.kept := by
  unfold State.response
  split <;> simp

@[simp] theorem State.ctlDone_kept (k : Packet) {t : State} (ok : Bool) (ht : t.kept = s.kept) :
    (s.ctlDone k t ok).kept = s.kept := by
  simp [State.ctlDone, ht]

@[simp] theorem State.ctlPing_kept (k : Packet) : (s.ctlPing k).kept = s.kept := by simp [State.ctlPing]
@[simp] theorem State.ctlUnfence_kept (k : Packet) : (s.ctlUnfence k).kept = s.kept := by simp [State.ctlUnfence]
@[simp] theorem State.ctlMapSet_kept (k : Packet) : (s.ctlMapSet k).kept = s.kept := by simp [State.ctlMapSet]
@[simp] theorem State.ctlMapFlip_kept (k : Packet) : (s.ctlMapFlip k).kept = s.kept := by simp [State.ctlMapFlip]
@[simp] theorem State.ctlSeed_kept (k : Packet) : (s.ctlSeed k).kept = s.kept := by simp [State.ctlSeed]
@[simp] theorem State.ctlDrain_kept (k : Packet) : (s.ctlDrain k).kept = s.kept := by simp [State.ctlDrain]
@[simp] theorem State.drainDone_kept (n : Nat) : (s.drainDone n).kept = s.kept := by simp [State.drainDone]
@[simp] theorem State.ctlReserved_kept (k : Packet) : (s.ctlReserved k).kept = s.kept := by simp [State.ctlReserved]

/-! ### The command window -/

@[simp] theorem State.hello_kept (c : HostCmd) : (s.hello c).1.kept = s.kept := by simp [State.hello]

@[simp] theorem State.putEdit_kept (c : HostCmd) (stamp : Nat) : (s.putEdit c stamp).kept = s.kept := by
  simp [State.putEdit]

@[simp] theorem State.sourceRead_kept (a : Nat) : (s.sourceRead a).kept = s.kept := by simp [State.sourceRead]

@[simp] theorem State.readRegs_kept (k : Nat) : ∀ (s : State) (a : Nat), (s.readRegs a k).2.kept = s.kept := by
  induction k with
  | zero => exact fun _ _ => rfl
  | succ k ih =>
    intro s a
    unfold State.readRegs
    dsimp only
    (repeat' split) <;> simp [ih]

@[simp] theorem State.memRead_kept (k : Nat) : ∀ (s : State) (a : Nat), (s.memRead a k).2.kept = s.kept := by
  induction k with
  | zero => exact fun _ _ => rfl
  | succ k ih =>
    intro s a
    have hg6 := s.g6Read_kept a 1
    unfold State.memRead
    extract_lets n r
    have hr : r.2.kept = s.kept := by
      simp only [r]
      split
      · split <;> simp
      · split <;> simp_all
    clear_value r
    have hrest := ih r.2 (a + 8)
    split
    · exact hr
    · split <;> simp_all

@[simp] theorem State.reservedOpcode_kept (c : HostCmd) : (s.reservedOpcode c).kept = s.kept := by
  unfold State.reservedOpcode
  split
  · rfl
  · split
    next => rfl
    next n b t ht => simp [State.takeCmd_kept ht]

/-! ### The I3C target -/

@[simp] theorem State.busDrive_kept (bs : List Byte) : (s.busDrive bs).kept = s.kept := (rfl)

@[simp] theorem State.writeDone_kept (hdr : Bool) (b : List Byte) : (s.writeDone hdr b).kept = s.kept := by
  simp [State.writeDone]

@[simp] theorem State.privateWrite_kept (b : List Byte) (hdr parityOk : Bool) :
    (s.privateWrite b hdr parityOk).kept = s.kept := by
  simp [State.privateWrite]

@[simp] theorem State.hdrEnd_kept : s.hdrEnd.kept = s.kept := by simp [State.hdrEnd]

@[simp] theorem State.privateRead_kept (hdr whole : Bool) : (s.privateRead hdr whole).kept = s.kept := by
  unfold State.privateRead
  (repeat' split) <;> simp

@[simp] theorem State.oneEach_kept (t : State) : (s.oneEach t).kept = t.kept := by simp [State.oneEach]

@[simp] theorem State.raiseIbi_kept (acked : Bool) : (s.raiseIbi acked).kept = s.kept := by
  unfold State.raiseIbi
  (repeat' split) <;> simp

@[simp] theorem State.assign_kept (a : Nat) : (s.assign a).kept = s.kept := by simp [State.assign]
@[simp] theorem State.unassign_kept : s.unassign.kept = s.kept := (rfl)
@[simp] theorem State.getCcc_kept (bs : List Byte) : (s.getCcc bs).kept = s.kept := by simp [State.getCcc]
@[simp] theorem State.targetReset_kept : s.targetReset.kept = s.kept := by simp [State.targetReset]

/-! ### Learning commands and snapshots -/

@[simp] theorem State.learnCtrl_kept (r action stamp : Nat) : (s.learnCtrl r action stamp).1.kept = s.kept := by
  unfold State.learnCtrl
  split <;> simp

@[simp] theorem State.learnRow_kept (c : HostCmd) (action : Nat) : (s.learnRow c action).kept = s.kept := by
  simp [State.learnRow]

@[simp] theorem State.snapshot_kept (c : HostCmd) (stamp : Nat) : (s.snapshot c stamp).1.kept = s.kept := by
  unfold State.snapshot
  dsimp only
  (repeat' split) <;> simp

@[simp] theorem State.emitSnap_kept (x : Snap) (ks : List Nat) : (s.emitSnap x ks).kept = s.kept := by
  simp [State.emitSnap]

@[simp] theorem State.snapEnd_kept (x : Snap) (whole : Bool) (ks : List Nat) :
    (s.snapEnd x whole ks).kept = s.kept := by
  simp [State.snapEnd]

@[simp] theorem State.snapStopped_kept (x : Snap) : (s.snapStopped x).kept = s.kept := by
  unfold State.snapStopped
  split <;> simp

@[simp] theorem State.snapDone_kept : s.snapDone.kept = s.kept := by
  unfold State.snapDone
  split <;> simp

@[simp] theorem State.snapExpired_kept : s.snapExpired.kept = s.kept := by
  unfold State.snapExpired
  split <;> simp

/-! ### Commands with rows of their own -/

@[simp] theorem State.quiesce_kept (f : Nat) : (s.quiesce f).kept = s.kept := (rfl)

@[simp] theorem State.quenchCmd_kept (stamp : Nat) (waited : Bool) : (s.quenchCmd stamp waited).1.kept = s.kept := by
  simp [State.quenchCmd]

@[simp] theorem State.quenchLow_kept : s.quenchLow.kept = s.kept := by simp [State.quenchLow]
@[simp] theorem State.faultRead_kept (m : Nat) : (s.faultRead m).1.kept = s.kept := by simp [State.faultRead]

@[simp] theorem State.faultClear_kept (src kind : Nat) : (s.faultClear src kind).1.kept = s.kept := by
  unfold State.faultClear
  (repeat' split) <;> simp

@[simp] theorem State.faultForce_kept (c : HostCmd) : (s.faultForce c).1.kept = s.kept := by
  unfold State.faultForce
  split <;> simp

@[simp] theorem State.enterSleep_kept (v : Nat) : (s.enterSleep v).kept = s.kept := by simp [State.enterSleep]

@[simp] theorem State.powerState_kept (v : Nat) : (s.powerState v).1.kept = s.kept := by
  unfold State.powerState
  dsimp only
  (repeat' split) <;> simp

@[simp] theorem State.powerRow_kept (c : HostCmd) (v : Nat) : (s.powerRow c v).kept = s.kept := by
  simp [State.powerRow]

@[simp] theorem State.wakeComplete_kept : s.wakeComplete.kept = s.kept := by simp [State.wakeComplete]

@[simp] theorem State.mirroredSetting_kept (c : HostCmd) (stamp : Nat) :
    (s.mirroredSetting c stamp).1.kept = s.kept := by
  simp [State.mirroredSetting]

@[simp] theorem State.setRole_kept (standby : Bool) (stamp : Nat) : (s.setRole standby stamp).kept = s.kept := by
  simp [State.setRole]

@[simp] theorem State.pairRow_kept (c : HostCmd) (action : Nat) {f : Nat → State → State}
    (hf : ∀ n t, (f n t).kept = t.kept) : (s.pairRow c action f).kept = s.kept := by
  simp [State.pairRow, hf]

@[simp] theorem State.failover_kept : s.failover.1.kept = s.kept := by simp [State.failover]

@[simp] theorem State.spareSwap_kept (n source : Nat) : (s.spareSwap n source).1.kept = s.kept := by
  unfold State.spareSwap
  dsimp only
  (repeat' split) <;> simp

/-! ### Loading and firmware -/

@[simp] theorem State.loadOpen_kept (base size xfer : Nat) : (s.loadOpen base size xfer).kept = s.kept := by
  simp [State.loadOpen]

@[simp] theorem State.loadClose_kept : s.loadClose.kept = s.kept := by simp [State.loadClose]

@[simp] theorem State.g6Bytes_kept (a n : Nat) : (s.g6Bytes a n).2.kept = s.kept := by
  unfold State.g6Bytes
  (repeat' split) <;> simp

@[simp] theorem State.loadTable_kept (x : Section) : (s.loadTable x).kept = s.kept := by simp [State.loadTable]

@[simp] theorem State.loadG6_kept (x : Section) : (s.loadG6 x).1.kept = s.kept := by
  unfold State.loadG6
  dsimp only
  (repeat' split) <;> simp

@[simp] theorem State.unload_kept : s.unload.kept = s.kept := by simp [State.unload]

@[simp] theorem State.domainReset_kept (kind i : Nat) : (s.domainReset kind i).kept = s.kept := by
  unfold State.domainReset
  split <;> simp

@[simp] theorem State.fwBytes_kept (a n : Nat) : (s.fwBytes a n).2.kept = s.kept := by
  unfold State.fwBytes
  split <;> simp

@[simp] theorem State.fwVerify_kept (a n : Nat) : (s.fwVerify a n).2.kept = s.kept := by
  grind [State.fwVerify, State.fwBytes_kept]

@[simp] theorem State.fwCheck_kept (c : HostCmd) : (s.fwCheck c).1.kept = s.kept := by simp [State.fwCheck]

@[simp] theorem State.fwWrite_kept (c : HostCmd) : (s.fwWrite c).1.kept = s.kept := by
  have h := s.fwVerify_kept (c.par 0 8) (c.par 8 4)
  unfold State.fwWrite
  split <;> simp_all

@[simp] theorem State.fwRow_kept (c : HostCmd) (action : Nat) : (s.fwRow c action).kept = s.kept := by
  unfold State.fwRow
  split
  · rfl
  · refine State.serve_kept s _ c fun n b t => ?_
    split <;> simp

@[simp] theorem State.fwVerified_kept : s.fwVerified.kept = s.kept := by
  unfold State.fwVerified
  split
  next a n _ =>
    extract_lets boot s0
    have hverify := s0.fwVerify_kept a n
    have h0 : s0.kept = s.kept := by simp [s0]
    rw [h0] at hverify
    clear_value s0
    split
    next r t ht => simpa [ht] using hverify
    next img t ht =>
      have hkept : t.kept = s.kept := by simpa [ht] using hverify
      simp [hkept]
  next => rfl

@[simp] theorem State.fwWritten_kept : s.fwWritten.kept = s.kept := by
  unfold State.fwWritten
  split <;> simp

/-! ### The configuration check -/

@[simp] theorem State.examine_kept : s.examine.kept = s.kept := by simp [State.examine]
@[simp] theorem State.riseCore_kept (n : Nat) : (s.riseCore n).kept = s.kept := by simp [State.riseCore]
@[simp] theorem State.riseQuenched_kept : s.riseQuenched.kept = s.kept := by simp [State.riseQuenched]
@[simp] theorem State.riseTinder_kept : s.riseTinder.kept = s.kept := by simp [State.riseTinder]
@[simp] theorem State.risePair_kept : s.risePair.kept = s.kept := by simp [State.risePair]
@[simp] theorem State.rise_kept : s.rise.kept = s.kept := by simp [State.rise]
@[simp] theorem State.checkPass_kept : s.checkPass.kept = s.kept := by simp [State.checkPass]

@[simp] theorem State.checkFail_kept (x : Nat × Nat × Nat) : (s.checkFail x).kept = s.kept := by
  simp [State.checkFail]

@[simp] theorem State.checkDone_kept : s.checkDone.kept = s.kept := by
  unfold State.checkDone
  dsimp only
  (repeat' split) <;> simp

/-! ### Replay -/

@[simp] theorem State.replayEnd_kept : s.replayEnd.kept = s.kept := by simp [State.replayEnd]

@[simp] theorem State.replayWord_kept (a : Nat) : (s.replayWord a).2.kept = s.kept := by
  grind [State.replayWord, State.g6Read_kept]

@[simp] theorem State.replayTake_kept (a n count : Nat) : (s.replayTake a n count).kept = s.kept := by
  refine foldl_kept (fun t k => ?_) _ _
  grind [State.replayWord_kept, State.addInput_kept, State.tndDisc_kept]

@[simp] theorem State.replayRead_kept : s.replayRead.kept = s.kept := by
  have hword := s.replayWord_kept s.tinder.replayAt
  unfold State.replayRead
  dsimp only
  split
  · simp
  · split
    next t ht => simpa [ht] using hword
    next h t ht =>
      have hkept : t.kept = s.kept := by simpa [ht] using hword
      simp [hkept]

@[simp] theorem State.replayJournal_kept : s.replayJournal.kept = s.kept := by simp [State.replayJournal]

/-! ### Power-good and the boot stages -/

@[simp] theorem State.release_kept : s.release.kept = s.kept := by simp [State.release]

@[simp] theorem State.powerGood_kept (rails : BitVec 7) : (s.powerGood rails).kept = s.kept := by
  simp [State.powerGood]

@[simp] theorem State.stage1_kept (r : StageResult) : (s.stage1 r).1.kept = s.kept := by
  unfold State.stage1
  (repeat' split) <;> simp

@[simp] theorem State.stage2_kept (r : StageResult) : (s.stage2 r).1.kept = s.kept := by
  unfold State.stage2
  dsimp only
  (repeat' split) <;> simp

@[simp] theorem State.stage3_kept (r : StageResult) : (s.stage3 r).1.kept = s.kept := by simp [State.stage3]
@[simp] theorem State.stage4_kept (r : StageResult) : (s.stage4 r).1.kept = s.kept := (rfl)

theorem State.buildEngine_kept {s : State} {e : Nat} {x : State × List (Nat × Nat)} (h : s.buildEngine e = some x) :
    x.1.kept = s.kept := by
  unfold State.buildEngine at h
  dsimp only at h
  split at h
  · cases h
  · obtain ⟨y, -, rfl⟩ := Option.map_eq_some_iff.mp h
    dsimp only
    split <;> simp

theorem State.buildAll_kept {s : State} {x : State × List (Nat × Nat)} (h : s.buildAll = some x) :
    x.1.kept = s.kept := by
  suffices hall : ∀ (es : List Nat) (acc : Option (State × List (Nat × Nat))), (∀ y, acc = some y → y.1.kept = s.kept) →
      ∀ x, es.foldl (fun acc e => match acc with
        | none => none
        | some (t, ms) => (t.buildEngine e).map (fun x => (x.1, ms ++ x.2))) acc = some x → x.1.kept = s.kept from
    hall s.engines _ (fun y hy => by rw [← Option.some.inj hy]) x h
  intro es
  induction es with
  | nil => exact fun acc hacc => hacc
  | cons e es ih =>
    intro acc hacc
    refine ih _ fun y hy => ?_
    cases acc with
    | none => exact absurd hy (by simp)
    | some a =>
      obtain ⟨z, hz, rfl⟩ := Option.map_eq_some_iff.mp hy
      exact (State.buildEngine_kept hz).trans (hacc a rfl)

@[simp] theorem State.stage5_kept : s.stage5.1.kept = s.kept := by
  unfold State.stage5
  dsimp only
  split
  next => rfl
  next t ms ht => simp [State.buildAll_kept ht]

@[simp] theorem State.stage6Group_kept (r : StageResult) (board : List Byte) (g : Nat) :
    (s.stage6Group r board g).kept = s.kept := by
  simp [State.stage6Group]

@[simp] theorem State.stage6_kept (r : StageResult) : (s.stage6 r).1.kept = s.kept := by simp [State.stage6]
@[simp] theorem State.stage7_kept (r : StageResult) : (s.stage7 r).1.kept = s.kept := by simp [State.stage7]

@[simp] theorem State.stageWork_kept (k : Nat) (r : StageResult) : (s.stageWork k r).1.kept = s.kept := by
  unfold State.stageWork
  split <;> simp

@[simp] theorem State.bootReport_kept (k : Nat) (r : Report) : (s.bootReport k r).kept = s.kept := by
  simp [State.bootReport]

@[simp] theorem State.stageEnd_kept (r : StageResult) : (s.stageEnd r).kept = s.kept := by simp [State.stageEnd]
@[simp] theorem State.refBack_kept : s.refBack.kept = s.kept := by simp [State.refBack]

/-! ### An idle grain -/

@[simp] theorem State.idle_kept : s.idle.kept = s.kept := by simp [State.idle]

end

end Sys2Proof.Machine
end

section
/-!
Register writes reach SEC_PROG, so what makes them leaves the fuses and the queue, and keeps fuse programming sound (R449).
-/
namespace Sys2Proof.Machine

/-- From `s` to `t` the fuses and the queue of waiting commands stand, and sound fuse programming stays sound. -/
def State.Stands (s t : State) : Prop := t.fuse = s.fuse ∧ t.pending = s.pending ∧ (s.progSound → t.progSound)

section
variable {s t u : State}

theorem State.Stands.of_kept (h : t.kept = s.kept) : s.Stands t := by
  simp only [State.kept, Prod.mk.injEq] at h
  obtain ⟨hfuse, hprog, hpending⟩ := h
  refine ⟨hfuse, hpending, fun hs k v hp => ?_⟩
  rw [hfuse]
  exact hs k v (hprog ▸ hp)

theorem State.Stands.refl (s : State) : s.Stands s := .of_kept rfl

theorem State.Stands.trans (h : s.Stands t) (h' : t.Stands u) : s.Stands u :=
  ⟨h'.1.trans h.1, h'.2.1.trans h.2.1, fun hs => h'.2.2 (h.2.2 hs)⟩

theorem State.Stands.kept (h : s.Stands t) (hk : u.kept = t.kept) : s.Stands u := h.trans (.of_kept hk)

theorem State.Stands.after (hk : t.kept = s.kept) (h : t.Stands u) : s.Stands u := (State.Stands.of_kept hk).trans h

theorem State.Stands.ite {p : Prop} [Decidable p] (h : s.Stands t) (h' : s.Stands u) : s.Stands (if p then t else u) := by
  split
  · exact h
  · exact h'

theorem State.Stands.ite_fst {p : Prop} [Decidable p] {y z : State × Result} (h : s.Stands y.1) (h' : s.Stands z.1) :
    s.Stands (if p then y else z).1 := by
  split
  · exact h
  · exact h'

theorem State.Stands.foldl {α : Type} {g : State → α → State} (hg : ∀ (s : State) (a : α), s.Stands (g s a)) (xs : List α) :
    ∀ s : State, s.Stands (xs.foldl g s) := by
  induction xs with
  | nil => exact .refl
  | cons x xs ih => exact fun s => (hg s x).trans (ih _)

end

section
variable (s : State)

/-- A fuse program that starts is a ROLLBACK above the counter, or none. -/
theorem State.secProg_stands (action slot value : Nat) : s.Stands (s.secProg action slot value) := by
  unfold State.secProg
  extract_lets t u sec
  have ht : t.kept = s.kept := by simp [t]
  have hu : u.kept = s.kept := (t.wr_kept ..).trans ht
  obtain ⟨hfuse, hpending, -⟩ := State.Stands.of_kept hu
  split
  · exact .of_kept ht
  split
  · exact .of_kept ((t.wr_kept ..).trans ht)
  split
  · exact .of_kept ((t.wr_kept ..).trans ht)
  next hok =>
    refine ⟨hfuse, hpending, fun _ k v hp => ?_⟩
    obtain ⟨rfl, -, rfl⟩ : action = 1 ∧ slot = k ∧ value = v := by simpa using hp
    have hbelow : s.fuse.rollback < value := by
      by_contra hlow
      exact hok (by simp [State.fuseRefused, hlow])
    show u.fuse.rollback ≤ value
    rw [hfuse]
    exact hbelow.le

/-- Writes of every register but SEC_PROG leave the fuse programming. -/
theorem State.regWrite_kept {p : Place} (h : p.reg ≠ .SEC_PROG) (v m stamp : Nat) : (s.regWrite p v m stamp).kept = s.kept := by
  unfold State.regWrite
  split
  · rfl
  · split
    case h_24 hreg => exact absurd hreg h
    all_goals simp

theorem State.regWrite_stands (p : Place) (v m stamp : Nat) : s.Stands (s.regWrite p v m stamp) := by
  by_cases h : p.reg = .SEC_PROG
  · simp only [State.regWrite, h]
    split
    · exact .refl s
    · split
      · exact s.secProg_stands ..
      · exact .refl s
  · exact .of_kept (s.regWrite_kept h v m stamp)

theorem State.busWrite_stands (a v : Nat) (lo hi : Bool) (stamp : Nat) : s.Stands (s.busWrite a v lo hi stamp) := by
  have hhigh (t : State) : t.Stands (if hi then (match t.place (a + 4) with
      | some q => t.regWrite q (v / 2 ^ 32) (2 ^ 32 - 1) stamp | none => t) else t) := by
    split
    · split
      · exact t.regWrite_stands ..
      · exact .refl t
    · exact .refl t
  unfold State.busWrite
  dsimp only
  split
  next p _ =>
    split
    · exact s.regWrite_stands ..
    · refine State.Stands.trans ?_ (hhigh _)
      split
      · exact s.regWrite_stands ..
      · exact .refl s
  next => exact hhigh s

theorem State.storeWord_stands (n w : Nat) (v : Word) : s.Stands (s.storeWord n w v) := by
  unfold State.storeWord
  split
  · exact .of_kept (by simp)
  · exact s.busWrite_stands ..

theorem State.storeHalf_stands {t : State} {n w h : Nat} {v : Word} (ht : s.storeHalf n w h v = some t) : s.Stands t := by
  have hread := s.sramRead_kept n w
  unfold State.storeHalf at ht
  split at ht
  · obtain rfl := Option.some.inj ht
    exact s.busWrite_stands ..
  · split at ht
    next x u hu =>
      obtain rfl := Option.some.inj ht
      exact .of_kept (by simpa [hu] using hread)
    next => cases ht

theorem State.rwrDo_stands (n : Nat) (k : Packet) : s.Stands (s.rwrDo n k) := by
  unfold State.rwrDo
  dsimp only
  split
  · exact (State.Stands.foldl (fun t x => t.storeWord_stands ..) _ s).kept (State.sendAck_kept ..)
  · split
    next t ht => exact (s.storeHalf_stands ht).kept (by simp)
    next => exact .of_kept (by simp)

theorem State.addReg_stands (a : Nat) (d : Word) : s.Stands (s.addReg a d) := s.busWrite_stands ..

theorem State.addAt_stands (n : Nat) (k : Packet) (tok : Bool) : s.Stands (s.addAt n k tok) := by
  unfold State.addAt
  dsimp only
  split
  · exact (s.addReg_stands ..).kept (State.sendAck_kept ..)
  · split
    next t ht => exact .of_kept (by simp [State.addSram_kept ht])
    next => exact .of_kept (by simp)

theorem State.denRelease_stands (n : Nat) : s.Stands (s.denRelease n) := by
  unfold State.denRelease
  split
  · exact .refl s
  · split
    · exact .refl s
    · dsimp only
      split
      · exact .of_kept (by simp)
      · split
        · exact .of_kept (by simp)
        · exact .after (s.onCore_kept ..) (State.addAt_stands ..)

theorem State.fenceCore_stands (n : Nat) : s.Stands (s.fenceCore n) := by
  unfold State.fenceCore
  extract_lets c p t t1 t2
  have h2 : t2.kept = s.kept := by simp [t2, t1, t]
  refine .after h2 (State.Stands.foldl (fun u k => ?_) _ t2)
  split
  · exact u.rwrDo_stands n k
  · exact .of_kept (by simp)

theorem State.ctlFence_stands (k : Packet) : s.Stands (s.ctlFence k) := by
  unfold State.ctlFence State.ctlDone
  dsimp only
  split
  · exact .refl s
  · split
    · exact (s.fenceCore_stands _).kept (State.sendAck_kept ..)
    · exact .of_kept (by simp)

theorem State.rwrCore_stands (n : Nat) (k : Packet) : s.Stands (s.rwrCore n k) := by
  unfold State.rwrCore
  dsimp only
  have hdone : s.Stands ((s.taken n k).rwrDo n k) := .after (s.taken_kept n k) (State.rwrDo_stands ..)
  exact .ite (.refl s) (.ite (.of_kept (by simp)) (.ite (.of_kept (by simp)) (.ite (.of_kept (by simp))
    (.ite (.of_kept (by simp)) hdone))))

theorem State.raddCore_stands (n : Nat) (k : Packet) : s.Stands (s.raddCore n k) := by
  unfold State.raddCore
  split
  · exact .refl s
  · extract_lets t j u
    have hu : u.kept = s.kept := by simp [u, j, t]
    clear_value u
    refine .ite (.of_kept (by simp)) (.ite (.of_kept (by simp [t])) ?_)
    split
    · exact .of_kept (by simp [hu])
    · exact .of_kept (by simp [hu])
    · exact .after hu (u.addAt_stands n k true)

theorem State.agentDo_stands (a : Nat) (k : Packet) (base : Nat) : s.Stands (s.agentDo a k base) := by
  unfold State.agentDo
  split
  · split
    · exact (State.Stands.foldl (fun t x => t.busWrite_stands ..) _ s).kept (State.sendAck_kept ..)
    · exact (s.busWrite_stands ..).kept (State.sendAck_kept ..)
  · split
    · exact .of_kept (by simp)
    · exact (s.addReg_stands ..).kept (State.sendAck_kept ..)

theorem State.remote_stands (a : Nat) (k : Packet) : s.Stands (s.remote a k) := by
  unfold State.remote
  extract_lets t body
  have hdo (k : Packet) (base : Nat) : s.Stands (t.agentDo a k base) := .after (s.taken_kept a _) (t.agentDo_stands a k base)
  have hnack (r : Nat) : s.Stands (t.sendNack a k r k.counted) := .of_kept (by simp [t])
  refine .ite (.ite (s.rwrCore_stands a k) (.ite (.of_kept (by simp)) (s.raddCore_stands a k))) (.ite (.refl s) (.ite
    (.ite (.ite (hnack _) (.ite (hnack _) (.ite (hnack _) (hdo ..)))) (.of_kept (by simp))) ?_))
  split
  · exact hnack _
  · exact hdo ..

theorem State.heldApply_stands (n : Nat) : s.Stands (s.heldApply n) := by
  unfold State.heldApply
  split
  · exact .refl s
  · split
    · exact .refl s
    · exact .after (s.onCore_kept ..) (State.rwrDo_stands ..)

theorem State.memHeldRun_stands (xs : List (Nat × Nat × Word)) : ∀ s : State, s.Stands (s.memHeldRun xs).1 := by
  induction xs with
  | nil => exact .refl
  | cons x xs ih =>
    intro s
    unfold State.memHeldRun
    split
    · exact .refl s
    · exact (s.storeWord_stands ..).trans (ih _)

theorem State.memHeldApply_stands (n : Nat) : s.Stands (s.memHeldApply n) := by
  unfold State.memHeldApply
  split
  · exact .refl s
  next x xs _ =>
    split
    · exact .refl s
    · refine (State.memHeldRun_stands (x :: xs) s).kept ?_
      dsimp only
      split <;> simp

theorem State.writeReg4_stands (a v stamp : Nat) : s.Stands (s.writeReg4 a v stamp) := by
  unfold State.writeReg4
  dsimp only
  split
  · split
    · exact s.busWrite_stands ..
    · split
      · exact .after (by simp) (State.busWrite_stands ..)
      · exact .of_kept (by simp)
  · exact s.busWrite_stands ..

theorem State.writeRegs_stands (stamp : Nat) : ∀ (vs : List Nat) (s : State) (a : Nat), s.Stands (s.writeRegs a stamp vs)
  | [], s, _ => .refl s
  | [v], s, a => .after (s.wokenAt_kept a) (State.writeReg4_stands ..)
  | v :: w :: rest, s, a => by
    unfold State.writeRegs
    extract_lets s0 wide
    have h0 : s0.kept = s.kept := s.wokenAt_kept a
    clear_value wide s0
    split
    · refine State.Stands.trans ?_ (State.writeRegs_stands stamp rest _ _)
      exact .after (by simp [h0]) (State.busWrite_stands ..)
    · refine State.Stands.trans ?_ (State.writeRegs_stands stamp (w :: rest) _ _)
      exact .after h0 (State.writeReg4_stands ..)

theorem State.memWrite1_stands {t : State} {a : Nat} {v : Word} (h : s.memWrite1 a v = some t) : s.Stands t := by
  unfold State.memWrite1 at h
  dsimp only at h
  split at h
  · obtain rfl := Option.some.inj h
    exact .of_kept (by simp)
  split at h
  · obtain rfl := Option.some.inj h
    split
    · exact .after (by simp) (State.storeWord_stands ..)
    · exact .refl s
  split at h
  · cases h
  · obtain rfl := Option.some.inj h
    exact .of_kept (by simp)

theorem State.memWrite_stands (vs : List Word) : ∀ (s : State) (a : Nat), s.Stands (s.memWrite a vs).1 := by
  induction vs with
  | nil => exact fun s _ => .refl s
  | cons v vs ih =>
    intro s a
    unfold State.memWrite
    dsimp only
    split
    · exact .of_kept (by simp)
    · split
      next => exact .refl s
      next t ht => exact (s.memWrite1_stands ht).trans (ih t _)

theorem State.memWriteCmd_stands (c : HostCmd) : s.Stands (s.memWriteCmd c).1 := by
  unfold State.memWriteCmd
  dsimp only
  (repeat' split) <;> exact State.memWrite_stands ..

theorem State.editApply_stands : s.Stands s.editApply := by
  unfold State.editApply
  split
  · exact .refl s
  next e _ =>
    extract_lets c pair t y
    have ht : t.kept = s.kept := by simp [t]
    have hy : s.Stands y.1 := by
      simp only [y]
      split
      · exact .after ht (State.writeRegs_stands ..)
      split
      · exact .after ht (State.memWriteCmd_stands ..)
      · exact .of_kept ht
    clear_value y
    split
    · split
      · exact hy.kept rfl
      · exact hy
    · split
      · exact hy.kept (State.answer_kept ..)
      · exact hy
    · exact hy

/-- A row's effect under which the fuses and the queue stand. -/
theorem State.serve_stands (k : Opcode) (c : HostCmd) {body : Nat → Bool → State → State × Result}
    (hbody : ∀ (n : Nat) (b : Bool) (t : State), t.Stands (body n b t).1) : s.Stands (s.serve k c body) := by
  unfold State.serve
  split
  · exact .refl s
  · split
    next => exact .refl s
    next n b t ht =>
      have htake := State.takeCmd_kept ht
      dsimp only
      split
      · exact .of_kept (by simp [htake])
      · have hwoken : s.Stands (body n b ((t.inc F.CMD_CNT_CMDS).wakeFor c)).1 := .after (by simp [htake]) (hbody n b _)
        split
        · exact hwoken.kept (by simp)
        · exact hwoken.kept (by simp)
        · exact hwoken

theorem State.loadRegs_stands (x : Section) : s.Stands (s.loadRegs x).1 := by
  unfold State.loadRegs
  dsimp only
  split
  · exact .refl s
  · exact State.Stands.foldl (fun t v => t.busWrite_stands ..) _ s

theorem State.loadCore_stands (n : Nat) (x : Section) : s.Stands (s.loadCore n x).1 := by
  unfold State.loadCore
  split
  · exact .refl s
  split
  · exact .refl s
  · have hstore := State.Stands.foldl (g := fun (s : State) (v : Word × Nat) => s.storeWord n (x.target / 8 + v.2) v.1)
      (fun t v => t.storeWord_stands ..) (wordsOf x.data).zipIdx (s.wokenAt (n * 0x100000))
    exact (State.Stands.after (s.wokenAt_kept _) hstore).kept (State.wr_kept ..)

theorem foldl_result_stands {α β : Type} {g : State × β → α → State × β} (hg : ∀ (r : State × β) (a : α), r.1.Stands (g r a).1) (xs : List α) :
    ∀ r : State × β, r.1.Stands (xs.foldl g r).1 := by
  induction xs with
  | nil => exact fun r => .refl r.1
  | cons x xs ih => exact fun r => (hg r x).trans (ih _)

theorem loadSection_stands (r : State × Option Nat) (x : Section) : r.1.Stands (loadSection r x).1 := by
  unfold loadSection
  split
  · exact .refl r.1
  · split
    · refine foldl_result_stands (fun y n => ?_) _ (r.1, none)
      split
      · exact .refl y.1
      · exact y.1.loadCore_stands n x
    · refine foldl_result_stands (fun y n => ?_) _ (r.1, none)
      split
      · exact .refl y.1
      · exact y.1.loadCore_stands n x
    · exact .of_kept (by simp)
    · exact r.1.loadRegs_stands x
    · exact .of_kept (by simp)
    · exact .refl r.1

theorem State.loadWrite_stands (base : Nat) (img : List Byte) (cols : List (Nat × Nat)) : s.Stands (s.loadWrite base img cols).1 := by
  unfold State.loadWrite
  extract_lets xs r d t n u w us
  have hr : s.Stands r.1 := .after (by simp) (foldl_result_stands loadSection_stands (loadOrder xs) (_, none))
  have hu : u.kept = r.1.kept := by simp [u, t, foldl_kept]
  split
  · exact hr
  · exact hr.kept hu

theorem State.loadCommit_stands : s.Stands s.loadCommit.1 := by
  unfold State.loadCommit
  extract_lets base h len r
  have hr : r.2.kept = s.kept := by simp [r, h]
  clear_value r
  split
  · split
    · exact .refl s
    split
    · exact .refl s
    split
    · exact .refl s
    · dsimp only
      split
      · exact .refl s
      · exact .after hr (State.loadWrite_stands ..)
  · exact .of_kept hr

end

end Sys2Proof.Machine
end

section
/-!
Every command runs, leaves the waiting queue and only blows fuses (R332, R447, R449).
-/
namespace Sys2Proof.Machine

/-- From the fuses `f` to `g` no fuse is unblown and none is blown but those that SEC_PROG names (R447, R449). -/
def FuseSt.Below (f g : FuseSt) : Prop :=
  f.rollback ≤ g.rollback ∧ f.slotValid &&& g.slotValid = f.slotValid ∧ f.slotRevoked &&& g.slotRevoked = f.slotRevoked ∧
  f.slotDebug &&& g.slotDebug = f.slotDebug ∧ (f.debugLock = true → g.debugLock = true) ∧
  g = { f with rollback := g.rollback, slotHash := g.slotHash, slotValid := g.slotValid,
               slotRevoked := g.slotRevoked, slotDebug := g.slotDebug, debugLock := g.debugLock }

/-- From `s` to `t` the queue of waiting commands stands, and under sound programming the fuses are only blown. -/
def State.Blows (s t : State) : Prop := t.pending = s.pending ∧ (s.progSound → t.progSound ∧ s.fuse.Below t.fuse)

theorem FuseSt.Below.refl (f : FuseSt) : f.Below f :=
  ⟨le_rfl, BitVec.and_self, BitVec.and_self, BitVec.and_self, id, rfl⟩

theorem and_or_self_left {n : Nat} (a b : BitVec n) : a &&& (a ||| b) = a := by
  ext i hi
  simp only [BitVec.getElem_and, BitVec.getElem_or]
  cases a[i] <;> simp

section
variable {s t u : State}

theorem State.Blows.of_stands (h : s.Stands t) : s.Blows t := by
  obtain ⟨hfuse, hpending, hsound⟩ := h
  exact ⟨hpending, fun hs => ⟨hsound hs, by rw [hfuse]; exact .refl _⟩⟩

theorem State.Blows.of_kept (h : t.kept = s.kept) : s.Blows t := .of_stands (.of_kept h)

theorem State.Blows.kept (h : s.Blows t) (hk : u.kept = t.kept) : s.Blows u := by
  obtain ⟨hpending, hblow⟩ := h
  obtain ⟨hfuse', hpending', hsound'⟩ := State.Stands.of_kept hk
  refine ⟨hpending'.trans hpending, fun hs => ?_⟩
  obtain ⟨hsound, hbelow⟩ := hblow hs
  exact ⟨hsound' hsound, hfuse' ▸ hbelow⟩

theorem State.Blows.after (hk : t.kept = s.kept) (h : t.Blows u) : s.Blows u := by
  obtain ⟨hpending, hblow⟩ := h
  obtain ⟨hfuse', hpending', hsound'⟩ := State.Stands.of_kept hk
  refine ⟨hpending.trans hpending', fun hs => ?_⟩
  obtain ⟨hsound, hbelow⟩ := hblow (hsound' hs)
  exact ⟨hsound, hfuse' ▸ hbelow⟩

/-- Without a fuse program under way the programming is sound. -/
theorem State.progSound_of_none (h : s.sec.prog = none) : s.progSound := by
  intro k v hp
  rw [h] at hp
  cases hp

end

section
variable (s : State)

/-- A whole fuse action only blows (R449); a ROLLBACK aims at no less than the counter. -/
theorem State.blow_below {a k v : Nat} (hup : a = 1 → s.fuse.rollback ≤ v) : s.fuse.Below (s.blow a k v) := by
  unfold State.blow
  split
  · exact ⟨hup rfl, BitVec.and_self, BitVec.and_self, BitVec.and_self, id, rfl⟩
  · exact ⟨le_rfl, and_or_self_left .., BitVec.and_self, BitVec.and_self, id, rfl⟩
  · exact ⟨le_rfl, BitVec.and_self, and_or_self_left .., BitVec.and_self, id, rfl⟩
  · exact ⟨le_rfl, BitVec.and_self, BitVec.and_self, and_or_self_left .., id, rfl⟩
  · exact ⟨le_rfl, BitVec.and_self, BitVec.and_self, BitVec.and_self, fun _ => rfl, rfl⟩

/-- So does a part of one. -/
theorem State.blowPart_below (a k v : Nat) : s.fuse.Below (s.blowPart a k v) := by
  unfold State.blowPart
  split
  · exact ⟨Nat.le_add_right .., BitVec.and_self, BitVec.and_self, BitVec.and_self, id, rfl⟩
  · exact ⟨le_rfl, BitVec.and_self, BitVec.and_self, BitVec.and_self, id, rfl⟩
  · exact .refl _

theorem State.fuseCut_below : s.fuse.Below s.fuseCut := by
  unfold State.fuseCut
  split
  · exact s.blowPart_below ..
  · exact .refl _

theorem State.secDone_blows (readsBack : Bool) : s.Blows (s.secDone readsBack) := by
  unfold State.secDone
  split
  · exact .of_kept rfl
  next a k v hp =>
    split
    · exact .of_kept rfl
    · refine ⟨rfl, fun hs => ⟨State.progSound_of_none rfl, ?_⟩⟩
      show s.fuse.Below (if readsBack then s.blow a k v else s.blowPart a k v)
      split
      · exact s.blow_below fun ha => hs k v (ha ▸ hp)
      · exact s.blowPart_below ..

theorem State.inReset_blows (cause : Nat) (cold : Bool) : s.Blows (s.inReset cause cold) :=
  ⟨rfl, fun _ => ⟨State.progSound_of_none rfl, s.fuseCut_below⟩⟩

theorem State.resetLow_blows : s.Blows s.resetLow := by
  unfold State.resetLow
  split
  · exact .of_kept rfl
  · exact (s.inReset_blows 1 false).kept rfl

theorem State.railOut_blows (r : Nat) : s.Blows (s.railOut r) := by
  unfold State.railOut
  extract_lets p pins t u
  have ht : t.kept = s.kept := by
    simp only [t]
    split <;> rfl
  split
  · exact .of_kept rfl
  split
  · exact .of_kept rfl
  · exact .after ht ((t.inReset_blows 0 true).kept rfl)

theorem State.clockLoss_blows : s.Blows s.clockLoss := by
  unfold State.clockLoss
  split
  · exact .of_kept rfl
  · exact (s.inReset_blows 0 true).kept rfl

theorem State.thermalOff_blows : s.Blows s.thermalOff := by
  unfold State.thermalOff
  split
  · exact .of_kept rfl
  · exact (s.inReset_blows 4 true).kept rfl

theorem State.wakeUp_blows : s.Blows s.wakeUp := by
  unfold State.wakeUp
  extract_lets pins t u
  split
  · exact .after (t := t) rfl ((t.inReset_blows ..).kept (State.release_kept _))
  split
  · exact .of_kept rfl
  · exact .of_kept rfl

theorem State.watchdog_blows : s.Blows s.watchdog := by
  unfold State.watchdog
  extract_lets t
  split
  · exact .of_kept rfl
  split
  · exact (s.inReset_blows ..).kept (State.release_kept _)
  · exact .of_kept (s.offer_kept _)

theorem State.resetPattern_blows : s.Blows s.resetPattern := by
  unfold State.resetPattern
  extract_lets cmd t
  split
  · exact .of_kept rfl
  split
  · exact .of_kept t.targetReset_kept
  · exact .after (t := t) rfl ((t.inReset_blows ..).kept (State.release_kept _))
  · exact .of_kept rfl

end

/-- A command that ran: to a next state in which the queue stands and fuses are only blown. -/
def Ran (s : State) (o : Host.Outcome State Fault Refusal) : Prop := ∃ t, o = .next t ∧ s.Blows t

section
variable {s t u : State} {o : Host.Outcome State Fault Refusal}

theorem Ran.of_kept (t : State) (ho : o = .next t) (h : t.kept = s.kept) : Ran s o := ⟨t, ho, .of_kept h⟩

theorem Ran.of_stands (ho : o = .next t) (h : s.Stands t) : Ran s o := ⟨t, ho, .of_stands h⟩

theorem Ran.of_blows (ho : o = .next t) (h : s.Blows t) : Ran s o := ⟨t, ho, h⟩

theorem Ran.ite {p : Prop} [Decidable p] {o' : Host.Outcome State Fault Refusal} (h : Ran s o) (h' : Ran s o') :
    Ran s (if p then o else o') := by
  split
  · exact h
  · exact h'

theorem Ran.next (h : Ran s o) (ho : o = .next u) : s.Blows u := by
  obtain ⟨t, ht, hblows⟩ := h
  obtain rfl := Host.Outcome.next.inj (ht.symm.trans ho)
  exact hblows

/-- Taking a command leaves the registers. -/
theorem State.takeCmd_regs {c : HostCmd} {n : Nat} {b : Bool} (h : s.takeCmd c = some (n, b, t)) : t.regs = s.regs := by
  unfold State.takeCmd at h
  split at h
  · cases h
  · split at h
    · split at h
      · cases h
      · split at h
        all_goals
          obtain ⟨-, -, rfl⟩ := by simpa using h
          rfl
    · split at h
      · obtain ⟨-, -, rfl⟩ := by simpa using h
        rfl
      · cases h

/-- With debug scope 2 closed every vendor diagnostic opcode has a reason to be refused (R332). -/
theorem vendorOp_reason_isSome {c : HostCmd} (h : s.rd F.SEC_STAT_DBG_SCOPE ≠ 2) : (vendorOp c).reason s c ≠ none := by
  have hrefused : (vendorOp c).refused s c = [0x0A10] := if_neg h
  unfold Opcode.reason
  (repeat' split) <;> simp [hrefused, leastReason]

end

section
variable (s : State) (c : HostCmd)

theorem exec_diagnosticOpcode_ran (h : s.rd F.SEC_STAT_DBG_SCOPE ≠ 2) : Ran s (exec (.diagnosticOpcode c) s) := by
  show Ran s (execDiagnosticOpcode c s)
  unfold execDiagnosticOpcode
  split
  · exact .of_kept s rfl rfl
  split
  · exact .of_kept s rfl rfl
  next n b t ht =>
    split
    · exact .of_kept _ rfl (by simp)
    next hr =>
      refine absurd hr (vendorOp_reason_isSome ?_)
      rw [State.rd_inc_apart (f := F.CMD_CNT_CMDS) t 1 0 0 0 0 (by decide), State.rd_of_regs (State.takeCmd_regs ht)]
      exact h

/-- A diagnostic opcode that answers a next state, whatever the scope, was not its turn or was refused. -/
theorem exec_diagnosticOpcode_blows {t : State} (ht : exec (.diagnosticOpcode c) s = .next t) : s.Blows t := by
  change execDiagnosticOpcode c s = .next t at ht
  unfold execDiagnosticOpcode at ht
  split at ht
  · exact (Ran.of_kept s rfl rfl).next ht
  split at ht
  · exact (Ran.of_kept s rfl rfl).next ht
  · split at ht
    · exact (Ran.of_kept _ rfl (by simp)).next ht
    · cases ht

theorem exec_replayRecordRead_ran : Ran s (exec .replayRecordRead s) :=
  .ite (.ite (.of_kept _ rfl (by simp)) (.ite (.of_kept _ rfl (by simp)) (.of_kept _ rfl rfl))) (.of_kept _ rfl rfl)

end

/-- Every command but an open diagnostic opcode runs, the queue stands and fuses are only blown. -/
theorem exec_ran (s : State) : ∀ c : Instr, (∀ k, c ≠ .diagnosticOpcode k) → Ran s (exec c s)
  | .stepDeadline, _ | .allDone, _ | .stretchBudgetExpired, _ | .hangLimitExpired, _ | .freeLimitExpired, _
  | .syncInEdge _, _ | .syncEdgeMissing, _ | .inputWindowClose, _ | .runEnWrite _, _ | .configCheckDone, _
  | .dinDebounceExpired _ _, _ | .rxPacketHeader _ _ _ _ _, _ | .rxPacketEnd _ _ _, _ | .streamLossTimeout _, _
  | .csirxRetrain _ _, _ | .tinderTakeInput, _ | .tinderInject, _ | .meterHandoff, _ | .tndChanBWrite _ _, _
  | .packetInject _, _ | .packetHop _ _, _ | .linkReplay _ _, _ | .landingTokenArrive _ _ _, _ | .raccArrive _ _, _
  | .synAccumulate _, _ | .ashReadServe _, _ | .ackArrive _, _ | .dataArrive _, _ | .nackArrive _, _ | .ctlPing _, _
  | .ctlUnfence _, _ | .ctlMapSet _, _ | .ctlMapFlip _, _ | .ctlSeed _, _ | .ctlDrain _, _ | .ctlDrainDone _, _
  | .ctlReservedAction _, _ | .fanoutInject _, _ | .coreUpdateDone _ _, _ | .sramPatrolRead _, _
  | .sramCorrectedWriteback _, _ | .learnCtrlOff _, _ | .learnCtrlRun _, _ | .learnCtrlAccum _, _
  | .learnCtrlClear _, _ | .snapshot _, _ | .snapshotCopyDone, _ | .snapHoldExpired, _ | .ashRaccArrive _, _
  | .membraneReadTimeout, _ | .resultRecordEmit _, _ | .actAssertGrain _, _ | .actPulseEnd _, _ | .actRecheck _, _
  | .actArmWrite _, _ | .cordBegin _, _ | .cordLoadMaskWrite _ _, _ | .cordArmClear, _ | .qpushAppend _, _
  | .mailboxAppend _, _ | .qpushRelease _, _ | .qpushOpen _, _ | .qpushClose _, _ | .qcomb _, _
  | .reassemblyExpiry _, _ | .expiredEntryFree _, _ | .descriptorMissResolve, _ | .dreyQcmdRead, _ | .dreyQcmdBind, _
  | .dreyQcmdUnbind, _ | .dreyQcmdOpen, _ | .dreyQcmdClose, _ | .dreyQcmdRelease, _ | .dreyQcmdFlush, _
  | .g6OpAccept _ _, _ | .g6OpComplete _, _ | .pinWindowEnd _, _ | .g6ReadReissue _ _, _ | .g6WriteRewrite _ _, _
  | .g6Refresh _, _ | .g6PatrolScrub _, _ | .g6PllLockLoss _, _ | .g6PllLockTimeout _, _ | .g6AutoSelfRefresh _, _
  | .domainWake _, _ | .domainWakeDone _, _ | .coreSubdomainGate _, _ | .txPacketStart _, _ | .relayStart _, _
  | .i3cPrivateWrite _ _ _, _ | .i3cPrivateRead _ _, _ | .ibiRaise _, _ | .enec _, _ | .disec _, _ | .rstdaa, _
  | .entdaa _ _, _ | .setmwl _, _ | .setmrl _ _, _ | .enthdr0, _ | .rstact _, _ | .setdasa _, _ | .getmwl, _
  | .getmrl, _ | .getpid, _ | .getbcr, _ | .getdcr, _ | .getstatus, _ | .getmxds, _ | .cccUnsupported _, _
  | .hello _, _ | .ident _, _ | .attest _, _ | .regRead _, _ | .loadOpen _, _ | .loadAbort _, _ | .enable _, _
  | .disable _, _ | .quiesce _, _ | .quench _, _ | .quenchNLow, _ | .step _, _ | .faultRead _, _ | .faultClear _, _
  | .faultForce _, _ | .powerStateRun _, _ | .powerStateIdle _, _ | .powerStateSleep _, _ | .powerStateDeep _, _
  | .pairCtrlRole _, _ | .pairCtrlMirror _, _ | .pairCtrlResync _, _ | .failover _, _ | .spareSwap _, _
  | .fwUpdateVerify _, _ | .fwUpdateWrite _, _ | .fwWriteDone, _ | .domainReset _, _ | .telemetry _, _
  | .drulumReservedOpcode _, _ | .stepBlockSend, _ | .frameBlockSend, _ | .agreeBlockSend, _
  | .backgroundBlockSend, _ | .mirrorBlockReceive _, _ | .alignWaitExpired, _ | .hbInChange _, _
  | .heartbeatTimeout, _ | .partnerLostTimeout, _ | .fenceInRise, _ | .checkpointCopyDone, _ | .replayRejoin, _
  | .powerGood _, _ | .bootStageEnd _, _ | .spareCopyDone, _ | .columnCopyDone, _ | .faultOffer, _
  | .owlTakeMessage, _ | .reactionComplete _, _ | .watchdogKick _, _ | .owlForceGo _, _ | .powerWindowEnd _ _, _
  | .recalStart, _ | .recalDone, _ | .droopDetect _, _ | .droopHoldExpired _ _, _ | .ageingMeasure _ _, _
  | .thermalReport _, _ | .idleEntry, _ | .idleExit, _ | .referenceReturn, _ | .idcode, _ | .unlockChal _, _
  | .unlockResp _, _ | .hsBurstEnd _ _, _ | .g6PllRelock _, _ | .hdrExit, _ | .attestDone, _ | .fwVerifyDone, _
  | .wakeToRun, _ =>
    .of_kept _ rfl (by simp)
  | .memRead cmd, _ => .of_kept _ rfl (s.serve_kept memReadOp cmd fun _ _ t => by
      split
      all_goals
        rename_i hread
        simpa only [hread] using State.memRead_kept (cmd.par 0 2 / 8) t cmd.target)
  | .capSet cmd, _ => .of_kept _ rfl (s.serve_kept capOp cmd fun _ _ t => by split <;> simp)
  | .freqMode cmd, _ => .of_kept _ rfl (s.serve_kept freqOp cmd fun _ _ t => by split <;> simp)
  | .replayRecordRead, _ => exec_replayRecordRead_ran s
  | .cordTableBcWrite _ _, _ => .ite (.of_kept _ rfl (by simp)) (.of_kept _ rfl rfl)
  | .txPllLockLoss _, _ => .ite (.of_kept _ rfl (by simp)) (.of_kept _ rfl rfl)
  | .txPllRelock _, _ => .ite (.of_kept _ rfl (by simp)) (.of_kept _ rfl rfl)
  | .denRelease n, _ => .of_stands rfl (s.denRelease_stands n)
  | .rwrArrive a k, _ => .of_stands rfl (.ite (s.remote_stands a.toNat k) (.refl s))
  | .rrdArrive a k, _ => .of_stands rfl (.ite (s.remote_stands a.toNat k) (.refl s))
  | .raddArrive a k, _ => .of_stands rfl (.ite (s.remote_stands a.toNat k) (.refl s))
  | .heldWriteApply n, _ => .of_stands rfl (.ite (s.memHeldApply_stands n) (s.heldApply_stands n))
  | .ctlFence k, _ => .of_stands rfl (.ite (s.ctlFence_stands k) (.refl s))
  | .regWrite cmd, _ => .of_stands rfl (s.serve_stands regWriteOp cmd fun _ _ t =>
      .ite_fst (.of_kept (by simp)) (State.writeRegs_stands ..))
  | .memWrite cmd, _ => .of_stands rfl (s.serve_stands memWriteOp cmd fun _ _ t =>
      .ite_fst (.of_kept (by simp)) (t.memWriteCmd_stands cmd))
  | .loadCommit cmd, _ => .of_stands rfl (s.serve_stands loadCommitOp cmd fun _ _ t => t.loadCommit_stands)
  | .editApply, _ => .of_stands rfl s.editApply_stands
  | .registerWrite _ _ _, _ => .of_stands rfl (s.busWrite_stands ..)
  | .secProgRollback _, _ | .secProgSlot _, _ | .secProgRevoke _, _ | .secProgSlotDebug _, _ | .secProgDebugLock, _ =>
    .of_stands rfl (s.secProg_stands ..)
  | .secProgDone readsBack, _ => .of_blows rfl (s.secDone_blows readsBack)
  | .railOutOfRange r, _ => .of_blows rfl (s.railOut_blows r)
  | .resetNLow, _ => .of_blows rfl s.resetLow_blows
  | .clockLoss, _ => .of_blows rfl s.clockLoss_blows
  | .wakeRise, _ => .of_blows rfl s.wakeUp_blows
  | .thermalOff, _ => .of_blows rfl s.thermalOff_blows
  | .watchdogExpired, _ => .of_blows rfl s.watchdog_blows
  | .targetResetPattern, _ => .of_blows rfl s.resetPattern_blows
  | .diagnosticOpcode k, h => absurd rfl (h k)

theorem exec_blows {s t : State} {c : Instr} (h : exec c s = .next t) : s.Blows t := by
  by_cases hc : ∃ k, c = .diagnosticOpcode k
  · obtain ⟨k, rfl⟩ := hc
    exact exec_diagnosticOpcode_blows s k h
  · exact (exec_ran s c (not_exists.mp hc)).next h

/-- A step leaves the rest of the queue, and under sound programming only blows fuses. -/
theorem step_blows {s t : State} (h : step s = .next t) :
    t.pending = s.pending.drop 1 ∧ (s.progSound → t.progSound ∧ s.fuse.Below t.fuse) := by
  unfold step at h
  split at h
  next hq =>
    obtain rfl := Host.Outcome.next.inj h
    obtain ⟨hpending, hblow⟩ := State.Blows.of_kept s.idle_kept
    exact ⟨by rw [hpending, hq]; rfl, hblow⟩
  next c rest hq =>
    obtain ⟨hpending, hblow⟩ := exec_blows h
    exact ⟨by rw [hpending, hq]; rfl, hblow⟩

/-- Settles O47, from what each command does to the fuses, the fuse program and the queue. -/
theorem fusesOnlyBlowAndTheQueueStands : Obligations.FusesOnlyBlowAndTheQueueStands := by
  unfold Obligations.FusesOnlyBlowAndTheQueueStands
  refine ⟨fun c s hc => ?_, fun s t hs hstep => ?_⟩
  · have hran : Ran s (exec c s) := by
      by_cases hd : ∃ k, c = .diagnosticOpcode k
      · obtain ⟨k, rfl⟩ := hd
        exact exec_diagnosticOpcode_ran s k (hc.resolve_left fun h => h k rfl)
      · exact exec_ran s c (not_exists.mp hd)
    obtain ⟨t, ht, hpending, -⟩ := hran
    exact ⟨t, ht, hpending⟩
  · obtain ⟨hpending, hblow⟩ := step_blows hstep
    obtain ⟨hsound, hbelow⟩ := hblow hs
    exact ⟨hsound, hpending, hbelow⟩

end Sys2Proof.Machine
end

section
/-!
The codeword corrects two flipped bits and detects three (10_memory_system.md R269 to R271): everything is additive in the
word, α generates the field of 128 elements, and the cubes of distinct elements tell two or three flipped bits apart.
-/
namespace Sys2Proof.Machine.Ecc

/-! ### Additive functions of a word -/

theorem xor_xor_cancel_left {n : Nat} (a b : BitVec n) : a ^^^ (a ^^^ b) = b := by
  rw [← BitVec.xor_assoc, BitVec.xor_self, BitVec.zero_xor]

theorem xor_left_comm {n : Nat} (a b c : BitVec n) : a ^^^ (b ^^^ c) = b ^^^ (a ^^^ c) := by ac_rfl

/-- A term added where a bit is set: the sum of two sums has it where one of the two bits is set. -/
theorem ite_xor_xor {n : Nat} (p q : Bool) (r r' e : BitVec n) :
    (if p ^^ q then r ^^^ r' ^^^ e else r ^^^ r') = (if p then r ^^^ e else r) ^^^ (if q then r' ^^^ e else r') := by
  cases p <;> cases q
  · rfl
  · exact BitVec.xor_assoc r r' e
  · change r ^^^ r' ^^^ e = r ^^^ e ^^^ r'
    ac_rfl
  · change r ^^^ r' = r ^^^ e ^^^ (r' ^^^ e)
    rw [BitVec.xor_comm r' e, BitVec.xor_assoc, xor_xor_cancel_left]

/-- A function of a word that takes the exclusive or to the exclusive or. -/
def Additive {n m : Nat} (f : BitVec n → BitVec m) : Prop := ∀ a b, f (a ^^^ b) = f a ^^^ f b

theorem Additive.map_zero {n m : Nat} {f : BitVec n → BitVec m} (hf : Additive f) : f 0#n = 0#m := by
  have h := hf 0#n 0#n
  rwa [BitVec.xor_self, BitVec.xor_self] at h

theorem Additive.comp {n m l : Nat} {g : BitVec m → BitVec l} {f : BitVec n → BitVec m} (hg : Additive g)
    (hf : Additive f) : Additive (fun a => g (f a)) := fun a b => by
  change g (f (a ^^^ b)) = _
  rw [hf, hg]

theorem Additive.xor {n m : Nat} {f g : BitVec n → BitVec m} (hf : Additive f) (hg : Additive g) :
    Additive (fun a => f a ^^^ g a) := fun a b => by
  change f (a ^^^ b) ^^^ g (a ^^^ b) = f a ^^^ g a ^^^ (f b ^^^ g b)
  rw [hf, hg]; ac_rfl

/-- An additive function that vanishes on the words of one bit vanishes on every word whose bits from `k` up are clear. -/
theorem Additive.eq_zero_of_low {n m : Nat} {f : BitVec n → BitVec m} (hf : Additive f)
    (h : ∀ i < n, f (BitVec.twoPow n i) = 0#m) :
    ∀ k ≤ n, ∀ a : BitVec n, (∀ j, k ≤ j → a.getLsbD j = false) → f a = 0#m
  | 0, _, a, ha => by
    have : a = 0#n := BitVec.eq_of_getLsbD_eq fun j _ => by simp [ha j (Nat.zero_le j)]
    rw [this, hf.map_zero]
  | k + 1, hk, a, ha => by
    by_cases hak : a.getLsbD k
    · have hlow : f (a ^^^ BitVec.twoPow n k) = 0#m := by
        refine hf.eq_zero_of_low h k (by omega) _ fun j hj => ?_
        rw [BitVec.getLsbD_xor, BitVec.getLsbD_twoPow]
        rcases Nat.eq_or_lt_of_le hj with rfl | hj
        · simp [hak]; omega
        · simp [ha j hj]; omega
      rw [hf, h k (by omega), BitVec.xor_zero] at hlow
      exact hlow
    · refine hf.eq_zero_of_low h k (by omega) a fun j hj => ?_
      rcases Nat.eq_or_lt_of_le hj with rfl | hj
      · simpa using hak
      · exact ha j hj

/-- An additive function that vanishes on the words of one bit vanishes. -/
theorem Additive.eq_zero {n m : Nat} {f : BitVec n → BitVec m} (hf : Additive f)
    (h : ∀ i < n, f (BitVec.twoPow n i) = 0#m) (a : BitVec n) : f a = 0#m :=
  hf.eq_zero_of_low h n le_rfl a fun j hj => BitVec.getLsbD_of_ge a j hj

/-! ### The field of 128 elements -/

theorem mulA_additive : Additive mulA := fun a b => by
  unfold mulA
  rw [BitVec.getLsbD_xor, BitVec.shiftLeft_xor_distrib, ← ite_xor_xor]

/-- Shift and add over any list of bits is additive in the factor whose bits are listed and in the sum so far. -/
theorem foldl_mul_xor_left (b : BitVec 7) (ks : List Nat) : ∀ a a' r r' : BitVec 7,
    ks.foldl (fun acc k => if (a ^^^ a').getLsbD k then mulA acc ^^^ b else mulA acc) (r ^^^ r') =
      ks.foldl (fun acc k => if a.getLsbD k then mulA acc ^^^ b else mulA acc) r ^^^
        ks.foldl (fun acc k => if a'.getLsbD k then mulA acc ^^^ b else mulA acc) r' := by
  induction ks with
  | nil => exact fun _ _ _ _ => rfl
  | cons k ks ih =>
    intro a a' r r'
    simp only [List.foldl_cons]
    rw [← ih]
    congr 1
    rw [BitVec.getLsbD_xor, mulA_additive, ite_xor_xor]

theorem mul_xor_left (a a' b : BitVec 7) : mul (a ^^^ a') b = mul a b ^^^ mul a' b :=
  foldl_mul_xor_left b _ a a' 0#7 0#7

theorem foldl_mul_xor_right (a : BitVec 7) (ks : List Nat) : ∀ b b' r r' : BitVec 7,
    ks.foldl (fun acc k => if a.getLsbD k then mulA acc ^^^ (b ^^^ b') else mulA acc) (r ^^^ r') =
      ks.foldl (fun acc k => if a.getLsbD k then mulA acc ^^^ b else mulA acc) r ^^^
        ks.foldl (fun acc k => if a.getLsbD k then mulA acc ^^^ b' else mulA acc) r' := by
  induction ks with
  | nil => exact fun _ _ _ _ => rfl
  | cons k ks ih =>
    intro b b' r r'
    simp only [List.foldl_cons]
    rw [← ih]
    congr 1
    rw [mulA_additive]
    cases a.getLsbD k
    · rfl
    · change mulA r ^^^ mulA r' ^^^ (b ^^^ b') = mulA r ^^^ b ^^^ (mulA r' ^^^ b')
      ac_rfl

theorem mul_xor_right (a b b' : BitVec 7) : mul a (b ^^^ b') = mul a b ^^^ mul a b' :=
  foldl_mul_xor_right a _ b b' 0#7 0#7

/-- Multiplication by α may be done before or after: checked on the words of one bit. -/
theorem mulA_mul (a b : BitVec 7) : mul (mulA a) b = mulA (mul a b) := by
  have hb : Additive (fun a => mul a b) := fun a a' => mul_xor_left a a' b
  have h := ((hb.comp mulA_additive).xor (mulA_additive.comp hb)).eq_zero
    (by clear hb; revert b; decide +kernel) a
  exact BitVec.xor_eq_zero_iff.mp h

theorem pow_mul (k : Nat) (b : BitVec 7) : mul (pow k) b = mulA^[k] b := by
  induction k with
  | zero => revert b; decide
  | succ k ih => rw [pow, mulA_mul, ih, Function.iterate_succ_apply']

theorem pow_mul_pow (i j : Nat) : mul (pow i) (pow j) = pow (i + j) := by
  rw [pow_mul]
  induction i with
  | zero => rw [Nat.zero_add]; rfl
  | succ i ih => rw [Function.iterate_succ_apply', ih, Nat.succ_add]; rfl

/-- Every field element but 0 is a power of α. -/
theorem eq_zero_or_pow : ∀ a : BitVec 7, a = 0#7 ∨ ∃ k, k < 127 ∧ pow k = a := by decide +kernel

theorem zero_mul (b : BitVec 7) : mul 0#7 b = 0#7 :=
  Additive.map_zero (f := fun a => mul a b) fun a a' => mul_xor_left a a' b

theorem mul_zero (a : BitVec 7) : mul a 0#7 = 0#7 := Additive.map_zero (f := mul a) (mul_xor_right a)

theorem mul_comm (a b : BitVec 7) : mul a b = mul b a := by
  rcases eq_zero_or_pow a with rfl | ⟨i, -, rfl⟩
  · rw [zero_mul, mul_zero]
  · rcases eq_zero_or_pow b with rfl | ⟨j, -, rfl⟩
    · rw [zero_mul, mul_zero]
    · rw [pow_mul_pow, pow_mul_pow, Nat.add_comm]

theorem mul_assoc (a b c : BitVec 7) : mul (mul a b) c = mul a (mul b c) := by
  rcases eq_zero_or_pow a with rfl | ⟨i, -, rfl⟩
  · simp only [zero_mul]
  · rcases eq_zero_or_pow b with rfl | ⟨j, -, rfl⟩
    · simp only [zero_mul, mul_zero]
    · rw [pow_mul_pow, pow_mul, pow_mul, pow_mul, Function.iterate_add_apply]

theorem mul_left_comm (a b c : BitVec 7) : mul a (mul b c) = mul b (mul a c) := by
  rw [← mul_assoc, mul_comm a, mul_assoc]

theorem mulA_injective : Function.Injective mulA := fun a b h => by
  have hker : ∀ c : BitVec 7, mulA c = 0#7 → c = 0#7 := by decide +kernel
  exact BitVec.xor_eq_zero_iff.mp (hker _ (by rw [mulA_additive, h, BitVec.xor_self]))

theorem mul_eq_zero {a b : BitVec 7} (h : mul a b = 0#7) : a = 0#7 ∨ b = 0#7 := by
  rcases eq_zero_or_pow a with ha | ⟨i, -, rfl⟩
  · exact .inl ha
  · rw [← mul_zero (pow i), pow_mul, pow_mul] at h
    exact .inr (mulA_injective.iterate i h)

/-- In characteristic 2 a cube of a sum differs from the sum of the cubes by the product of the pairwise sums. -/
theorem cube_xor_xor (x y z : BitVec 7) :
    cube (x ^^^ y ^^^ z) = cube x ^^^ cube y ^^^ cube z ^^^ mul (x ^^^ y) (mul (y ^^^ z) (x ^^^ z)) := by
  simp only [cube, mul_xor_right, mul_comm, mul_left_comm]
  simp only [BitVec.xor_comm, xor_left_comm, BitVec.xor_assoc, xor_xor_cancel_left]

/-- Three elements of which two agree are told by their cubes. -/
theorem eq_of_cube_xor_xor {x y z : BitVec 7} (h : cube (x ^^^ y ^^^ z) = cube x ^^^ cube y ^^^ cube z) :
    x = y ∨ y = z ∨ x = z := by
  rw [cube_xor_xor] at h
  have hp : mul (x ^^^ y) (mul (y ^^^ z) (x ^^^ z)) = 0#7 := by
    rw [← xor_xor_cancel_left (cube x ^^^ cube y ^^^ cube z) (mul _ _), h, BitVec.xor_self]
  rcases mul_eq_zero hp with h | h
  · exact .inl (BitVec.xor_eq_zero_iff.mp h)
  · exact .inr ((mul_eq_zero h).imp BitVec.xor_eq_zero_iff.mp BitVec.xor_eq_zero_iff.mp)

/-- Two elements are determined by their sum, if it is not zero, and the sum of their cubes. -/
theorem pair_unique {x y u v : BitVec 7} (hxy : x ≠ y) (hs : u ^^^ v = x ^^^ y)
    (hc : cube u ^^^ cube v = cube x ^^^ cube y) : u = x ∨ u = y := by
  have hv : v = x ^^^ y ^^^ u := by rw [← hs, BitVec.xor_comm u, BitVec.xor_assoc, BitVec.xor_self, BitVec.xor_zero]
  have h : cube (x ^^^ y ^^^ u) = cube x ^^^ cube y ^^^ cube u := by
    rw [← hc, ← hv, BitVec.xor_comm (cube u), BitVec.xor_assoc, BitVec.xor_self, BitVec.xor_zero]
  rcases eq_of_cube_xor_xor h with h | h | h
  · exact absurd h hxy
  · exact .inr h.symm
  · exact .inl h.symm

/-! ### Logarithms and the search for two positions -/

theorem pow_ne_one : ∀ k < 79, pow (k + 1) ≠ 1#7 := by decide +kernel

theorem pow_injective {i j : Nat} (hi : i < 80) (hj : j < 80) (h : pow i = pow j) : i = j := by
  have key : ∀ {i j : Nat}, j < 80 → i < j → pow i ≠ pow j := fun {i j} hj hij h => by
    obtain ⟨k, rfl⟩ := Nat.exists_eq_add_of_lt hij
    have hk : mulA^[i] (pow (k + 1)) = mulA^[i] 1#7 := by
      rw [← pow_mul, ← pow_mul, pow_mul_pow, ← Nat.add_assoc, ← h]
      exact (pow_mul_pow i 0).symm
    exact pow_ne_one k (by omega) (mulA_injective.iterate i hk)
  rcases Nat.lt_trichotomy i j with hij | hij | hij
  · exact absurd h (key hj hij)
  · exact hij
  · exact absurd h.symm (key hi hij)

theorem logPos_pow {i : Nat} (hi : i < 80) : logPos (pow i) = some i := by
  rw [logPos, List.find?_range_eq_some]
  refine ⟨beq_self_eq_true _, List.mem_range.mpr hi, fun j hj => ?_⟩
  have hne : pow j ≠ pow i := fun h => by have := pow_injective (by omega) hi h; omega
  simpa using hne

theorem pow_of_logPos {a : BitVec 7} {i : Nat} (h : logPos a = some i) : pow i = a ∧ i < 80 := by
  rw [logPos, List.find?_range_eq_some] at h
  obtain ⟨hp, hi, -⟩ := h
  exact ⟨eq_of_beq hp, List.mem_range.mp hi⟩

/-- The first index at which a function of the indices answers. -/
theorem findSome?_range {β : Type} {n i : Nat} {f : Nat → Option β} {b : β} (hi : i < n) (hb : f i = some b)
    (hn : ∀ j < i, f j = none) : (List.range n).findSome? f = some b := by
  obtain ⟨k, rfl⟩ := Nat.exists_eq_add_of_lt hi
  rw [List.findSome?_eq_some_iff]
  refine ⟨List.range i, i, (List.range k).map (fun x => i + 1 + x), ?_, hb, fun x hx => hn x (List.mem_range.mp hx)⟩
  rw [Nat.add_right_comm, List.range_add, List.range_succ, List.append_assoc, List.singleton_append]

/-- The two positions are found from the sums that they give. -/
theorem pairPos_pow {i j : Nat} (hij : i < j) (hj : j < 80) :
    pairPos (pow i ^^^ pow j) (cube (pow i) ^^^ cube (pow j)) = some (i, j) := by
  have hne : pow i ≠ pow j := fun h => by have := pow_injective (by omega) hj h; omega
  refine findSome?_range (i := i) (by omega) ?_ fun k hk => ?_
  · rw [BitVec.xor_comm (pow i), BitVec.xor_assoc, BitVec.xor_self, BitVec.xor_zero, logPos_pow hj]
    exact if_pos ⟨hij, rfl⟩
  · cases hl : logPos (pow i ^^^ pow j ^^^ pow k) with
    | none => rfl
    | some l =>
      obtain ⟨hpow, -⟩ := pow_of_logPos hl
      refine if_neg fun ⟨_, hc⟩ => ?_
      have hs : pow k ^^^ pow l = pow i ^^^ pow j := by
        rw [hpow, BitVec.xor_comm (pow k), BitVec.xor_assoc, BitVec.xor_self, BitVec.xor_zero]
      rcases pair_unique hne hs hc with h | h
      · have := pow_injective (by omega) (by omega) h; omega
      · have := pow_injective (by omega) hj h; omega

/-! ### Syndromes -/

theorem sumFrom_xor (step : BitVec 7 → BitVec 7) (n : Nat) : ∀ (c c' : Code) (i : Nat) (e r r' : BitVec 7),
    sumFrom (c ^^^ c') step n i e (r ^^^ r') = sumFrom c step n i e r ^^^ sumFrom c' step n i e r' := by
  induction n with
  | zero => exact fun _ _ _ _ _ _ => rfl
  | succ n ih =>
    intro c c' i e r r'
    simp only [sumFrom]
    rw [← ih]
    congr 1
    rw [BitVec.getLsbD_xor, ite_xor_xor]

theorem s1_additive : Additive s1 := fun a b => sumFrom_xor mulA 80 a b 0 1#7 0#7 0#7

theorem s3_additive : Additive s3 := fun a b => sumFrom_xor _ 80 a b 0 1#7 0#7 0#7

theorem parityOf_xor (c c' : Code) (ks : List Nat) :
    parityOf (c ^^^ c') ks = (parityOf c ks ^^ parityOf c' ks) := by
  have key : ∀ p p' : Bool, ks.foldl (fun p k => p != (c ^^^ c').getLsbD k) (p ^^ p') =
      (ks.foldl (fun p k => p != c.getLsbD k) p ^^ ks.foldl (fun p k => p != c'.getLsbD k) p') := by
    induction ks with
    | nil => exact fun _ _ => rfl
    | cons k ks ih =>
      intro p p'
      simp only [List.foldl_cons]
      rw [← ih]
      congr 1
      rw [BitVec.getLsbD_xor]
      cases p <;> cases p' <;> cases c.getLsbD k <;> cases c'.getLsbD k <;> rfl
  exact key false false

theorem parP_xor (a b : Code) : parP (a ^^^ b) = (parP a ^^ parP b) := parityOf_xor a b _

theorem parQ_xor (a b : Code) : parQ (a ^^^ b) = (parQ a ^^ parQ b) := parityOf_xor a b _

theorem divStep_xor (r r' : BitVec 16) (b b' : Bool) :
    divStep (r ^^^ r') (b ^^ b') = divStep r b ^^^ divStep r' b' := by
  unfold divStep
  have htop : ((r.getLsbD 15 ^^ r'.getLsbD 15) != (b ^^ b')) = ((r.getLsbD 15 != b) ^^ (r'.getLsbD 15 != b')) := by
    cases r.getLsbD 15 <;> cases r'.getLsbD 15 <;> cases b <;> cases b' <;> rfl
  rw [BitVec.getLsbD_xor, BitVec.shiftLeft_xor_distrib, htop, ite_xor_xor]

theorem check_additive : Additive check := fun d d' => by
  have key : ∀ (ks : List Nat) (r r' : BitVec 16),
      ks.foldl (fun r k => divStep r ((d ^^^ d').getLsbD (63 - k))) (r ^^^ r') =
        ks.foldl (fun r k => divStep r (d.getLsbD (63 - k))) r ^^^
          ks.foldl (fun r k => divStep r (d'.getLsbD (63 - k))) r' := by
    intro ks
    induction ks with
    | nil => exact fun _ _ => rfl
    | cons k ks ih =>
      intro r r'
      simp only [List.foldl_cons]
      rw [← ih, BitVec.getLsbD_xor, divStep_xor]
  exact key _ 0#16 0#16

theorem encode_additive : Additive encode := fun d d' => by
  unfold encode
  rw [check_additive, BitVec.xor_append]

theorem s1_encode (d : Word) : s1 (encode d) = 0#7 :=
  (s1_additive.comp encode_additive).eq_zero (by decide +kernel) d

theorem s3_encode (d : Word) : s3 (encode d) = 0#7 :=
  (s3_additive.comp encode_additive).eq_zero (by decide +kernel) d

/-- An additive test that no word of one bit meets is met by no codeword. -/
theorem par_encode {par : Code → Bool} (hpar : ∀ a b, par (a ^^^ b) = (par a ^^ par b))
    (h : ∀ i < 64, BitVec.ofBool (par (encode (BitVec.twoPow 64 i))) = 0#1) (d : Word) : par (encode d) = false := by
  have hadd : Additive (fun d => BitVec.ofBool (par (encode d))) := fun a b => by
    change BitVec.ofBool (par (encode (a ^^^ b))) = _
    rw [encode_additive, hpar, BitVec.ofBool_xor_ofBool]
  have h0 := hadd.eq_zero h d
  cases hp : par (encode d) with
  | false => rfl
  | true => simp [hp] at h0

theorem parP_encode : ∀ d, parP (encode d) = false := par_encode parP_xor (by decide +kernel)

theorem parQ_encode : ∀ d, parQ (encode d) = false := par_encode parQ_xor (by decide +kernel)

theorem parP_bitAt : ∀ i < 80, parP (bitAt i) = true := by decide +kernel
theorem parQ_bitAt : ∀ i < 80, parQ (bitAt i) = (i % 2 == 1) := by decide +kernel
theorem s1_bitAt : ∀ i < 80, s1 (bitAt i) = pow i := by decide +kernel
theorem s3_bitAt : ∀ i < 80, s3 (bitAt i) = cube (pow i) := by decide +kernel

theorem data_encode (d : Word) : data (encode d) = d := BitVec.extractLsb'_append_eq_left

/-- What was added to a codeword and is added again is gone. -/
theorem data_encode_xor_xor (d : Word) (e : Code) : data (encode d ^^^ e ^^^ e) = d := by
  rw [BitVec.xor_assoc, BitVec.xor_self, BitVec.xor_zero, data_encode]

/-! ### The decoder on a codeword with flipped bits -/

section
variable (d : Word) (e : Code)

/-! The decoder sees of a codeword with the pattern `e` of flipped bits the sums of the pattern. -/

theorem parP_encode_xor : parP (encode d ^^^ e) = parP e := by rw [parP_xor, parP_encode, Bool.false_xor]
theorem parQ_encode_xor : parQ (encode d ^^^ e) = parQ e := by rw [parQ_xor, parQ_encode, Bool.false_xor]
theorem s1_encode_xor : s1 (encode d ^^^ e) = s1 e := by rw [s1_additive, s1_encode, BitVec.zero_xor]
theorem s3_encode_xor : s3 (encode d ^^^ e) = s3 e := by rw [s3_additive, s3_encode, BitVec.zero_xor]

end

theorem pow_ne_zero : ∀ i < 80, pow i ≠ 0#7 := by decide +kernel

theorem decode_encode (d : Word) : decode (encode d) = .clean d := by
  unfold decode
  rw [parP_encode, parQ_encode, s1_encode, s3_encode, data_encode]
  rfl

/-- An odd number of flipped bits whose sums are those of one position. -/
theorem decode_of_position {c : Code} {i : Nat} (hi : i < 80) (hP : parP c = true) (hQ : parQ c = (i % 2 == 1))
    (h1 : s1 c = pow i) (h3 : s3 c = cube (pow i)) : decode c = .corrected (data (c ^^^ bitAt i)) (bitAt i) := by
  have h0 : (pow i == 0#7) = false := by simpa using pow_ne_zero i hi
  unfold decode
  simp [hP, hQ, h1, h3, h0, logPos_pow hi]

/-- An even number of flipped bits whose sums are those of two positions. -/
theorem decode_of_positions {c : Code} {i j : Nat} (hij : i < j) (hj : j < 80) (hP : parP c = false)
    (hQ : parQ c = ((i + j) % 2 == 1)) (h1 : s1 c = pow i ^^^ pow j) (h3 : s3 c = cube (pow i) ^^^ cube (pow j)) :
    decode c = .corrected (data (c ^^^ bitAt i ^^^ bitAt j)) (bitAt i ^^^ bitAt j) := by
  have h0 : (pow i ^^^ pow j == 0#7) = false := by
    rw [beq_eq_false_iff_ne, Ne, BitVec.xor_eq_zero_iff]
    exact fun h => by have := pow_injective (by omega) hj h; omega
  unfold decode
  simp [hP, hQ, h1, h3, h0, pairPos_pow hij hj]

/-- An odd number of flipped bits whose sums are those of no position. -/
theorem decode_of_no_position {c : Code} (hP : parP c = true) (h : s3 c ≠ cube (s1 c)) : decode c = .bad := by
  have hc : (s3 c == cube (s1 c)) = false := by simpa using h
  unfold decode
  simp only [hP, hc]
  cases hl : logPos (s1 c) <;> simp

theorem decode_one_flip (d : Word) {i : Nat} (hi : i < 80) : decode (encode d ^^^ bitAt i) = .corrected d (bitAt i) := by
  rw [decode_of_position hi, data_encode_xor_xor]
  · rw [parP_encode_xor, parP_bitAt i hi]
  · rw [parQ_encode_xor, parQ_bitAt i hi]
  · rw [s1_encode_xor, s1_bitAt i hi]
  · rw [s3_encode_xor, s3_bitAt i hi]

theorem decode_two_flips (d : Word) {i j : Nat} (hij : i < j) (hj : j < 80) :
    decode (encode d ^^^ (bitAt i ^^^ bitAt j)) = .corrected d (bitAt i ^^^ bitAt j) := by
  have hi : i < 80 := by omega
  have hq : ((i % 2 == 1) ^^ (j % 2 == 1)) = ((i + j) % 2 == 1) := by
    rcases Nat.mod_two_eq_zero_or_one i with hi | hi <;> rcases Nat.mod_two_eq_zero_or_one j with hj | hj <;>
      simp [Nat.add_mod, hi, hj]
  rw [decode_of_positions hij hj, BitVec.xor_assoc _ (bitAt i) (bitAt j), data_encode_xor_xor]
  · rw [parP_encode_xor, parP_xor, parP_bitAt i hi, parP_bitAt j hj, Bool.xor_self]
  · rw [parQ_encode_xor, parQ_xor, parQ_bitAt i hi, parQ_bitAt j hj, hq]
  · rw [s1_encode_xor, s1_additive, s1_bitAt i hi, s1_bitAt j hj]
  · rw [s3_encode_xor, s3_additive, s3_bitAt i hi, s3_bitAt j hj]

/-- Three flipped bits give a sum whose cube is not the sum of the cubes. -/
theorem decode_three_flips (d : Word) {i j k : Nat} (hij : i < j) (hjk : j < k) (hk : k < 80) :
    decode (encode d ^^^ (bitAt i ^^^ bitAt j ^^^ bitAt k)) = .bad := by
  have hi : i < 80 := by omega
  have hj : j < 80 := by omega
  refine decode_of_no_position ?_ fun h => ?_
  · rw [parP_encode_xor, parP_xor, parP_xor, parP_bitAt i hi, parP_bitAt j hj, parP_bitAt k hk]
    rfl
  · rw [s1_encode_xor, s3_encode_xor, s1_additive, s1_additive, s3_additive, s3_additive, s1_bitAt i hi, s1_bitAt j hj,
      s1_bitAt k hk, s3_bitAt i hi, s3_bitAt j hj, s3_bitAt k hk] at h
    rcases eq_of_cube_xor_xor h.symm with h | h | h
    · have := pow_injective hi hj h; omega
    · have := pow_injective hj hk h; omega
    · have := pow_injective hi hk h; omega

end Sys2Proof.Machine.Ecc

namespace Sys2Proof.Machine

/-- Settles O45: the decoder sees the flipped bits alone, and the sums that up to three of them give. -/
theorem twoFlippedBitsAreCorrected : Obligations.TwoFlippedBitsAreCorrected := by
  unfold Obligations.TwoFlippedBitsAreCorrected
  refine fun d => ⟨Ecc.decode_encode d, fun j _ => ?_, fun _ hi => Ecc.decode_one_flip d hi,
    fun _ _ hij hj => Ecc.decode_two_flips d hij hj, fun _ _ _ hij hjk hk => Ecc.decode_three_flips d hij hjk hk⟩
  conv_rhs => rw [← Ecc.data_encode d]
  rw [Ecc.data, BitVec.getLsbD_extractLsb']
  simp; omega

end Sys2Proof.Machine
end
